-- ==== Sys2Proof/Word.lean ====
section
/-! DEFINITION. The word types of the KV3240 and the numbers by which its parts are named
(00 'Numbering and naming': 32 channels, four groups, five slices, three swarm ports). -/

namespace Sys2Proof

/-- A 32-bit word: an object, a payload word, a stamp (00 R2, 05 R163). -/
abbrev Word := BitVec 32

/-- A byte of a byte-structured image (00 R3). -/
abbrev Byte := BitVec 8

/-- A channel CH00-CH31. -/
abbrev Ch := Fin 32

/-- A group G0-G3. -/
abbrev Grp := Fin 4

/-- A slice S0-S4 of a group (04 'Slices'). -/
abbrev Slice := Fin 5

/-- A swarm port: 0 UP, 1 D1, 2 D2 (12 R388). -/
abbrev Port := Fin 3

/-- A swarm address (12 R368). -/
abbrev Addr := BitVec 12

end Sys2Proof
end

