-- ==== Sys2Proof/Syntax.lean ====
section
/-! DEFINITION. The commands of the block: one constructor of `Instr` for each row of the
opcode table, with the operands the row needs. A row that the host sends carries its message;
a row that the field, a supply, a timer or the swarm brings about carries what was measured.
A timed row asserts by arriving that its time has passed (log entry 3). -/

namespace Sys2Proof

/-- What identifies a message of the host on MB0 or MB1: mailbox, SEQ, and whether it came as BULK
(10 R314, 11 R336). -/
structure Frame where
  mb : BitVec 2
  seq : BitVec 8
  bulk : Bool
  deriving DecidableEq, Repr

/-- A whole command message, which its last frame ends: ARGS[23:0] of word 0 and the words w1 onwards
(11 R339); the row is the OPCODE. -/
structure Cmd where
  frame : Frame
  args : BitVec 24
  words : List Word
  deriving DecidableEq, Repr

/-- Why the module sends a busy word at the fall of a select (10 R322): both receive buffers hold frames, with
the core's estimate in µs, or the core writes a firmware slot line that blocks the port. -/
inductive BusyCause where
  | backlog (micros : BitVec 16)
  | slotLine (micros : BitVec 16)
  deriving DecidableEq, Repr

/-- What one millisecond of channel monitoring measures: the terminal voltage (R48), the load
current and temperatures (R100), the loop current (R76), the mains values (R75). -/
structure ChMeas where
  termv : BitVec 16
  iload : BitVec 16
  tj : BitVec 8
  dtc : BitVec 8
  iloop : BitVec 16
  phase : BitVec 16
  freq : BitVec 16
  vrms : BitVec 16
  deriving DecidableEq, Repr

/-- The 20 ms means of an analogue output (06 R193, R195): read-back in µA or mV, terminal or
across voltage in mV, whether the rail stood at its limit, whether the code had settled, whether the
read-back deviated for 100 ms, and whether the current limit acts now. -/
structure AoMeas where
  mean : Int
  millivolts : Int
  railAtLimit : Bool
  settled : Bool
  deviates : Bool
  limiting : Bool
  deriving DecidableEq, Repr

/-- What a slice measures of a held sample (04 R123, R140 to R147): the terminals in nV, of the even
channel, of the odd one of its pair, and of the terminal X that carries the excitation return of a
four-wire pair or the odd channel of a DIFF pair; the current in pA; VFx at the hold instant in µV. -/
structure ConvMeas where
  v : Int
  w : Int
  x : Int
  cur : Int
  vf : Nat
  deriving DecidableEq, Repr

/-- What a rail slot meets on one channel (06 R189): its terminal voltage in mV at the commanded
current and at 0.5 mA more. -/
structure RailLoad where
  ch : Ch
  millivolts : Int
  tone : Int
  deriving DecidableEq, Repr

/-- A received HART frame: preamble count, bytes, and the error mark of each byte (06 R211). -/
structure HartFrame where
  pre : Byte
  bytes : List Byte
  marks : List Bool
  deriving DecidableEq, Repr

/-- The class in which a group supply lies (13 R393). -/
structure SupplyClass where
  uvlo : Bool
  low : Bool
  warn : Bool
  high : Bool
  deriving DecidableEq, Repr

/-- One event record of six words (11 R358). -/
structure EvRecord where
  source : BitVec 8
  nocomb : Bool
  subject : BitVec 16
  code : BitVec 16
  raises : BitVec 16
  stamp : Word
  p0 : Word
  p1 : Word
  p2 : Word
  deriving DecidableEq, Repr

/-- The class of a result entry (05 R171); a GAP or SOURCE marker has none. -/
inductive QClass where
  | comb | mon | inj | free | marker
  deriving DecidableEq, Repr

/-- One entry of a result partition: a result or marker word, its stamp word when it has one,
and the node it comes from, 0 for the module itself (05 R170, R173). -/
structure QEntry where
  cls : QClass
  word : Word
  stamp : Option Word
  src : Addr
  deriving DecidableEq, Repr

/-- A trigger at one swarm time (12 R385). -/
structure Trigger where
  st : BitVec 64
  capture : Bool
  pulse : Bool
  snap : Bool
  mask : Word
  deriving DecidableEq, Repr

/-- A swarm traffic class (12 R368). -/
inductive SwClass where
  | control | event | stream | bulk
  deriving DecidableEq, Repr

/-- A swarm frame (12 R368). -/
structure SwFrame where
  cls : SwClass
  kind : BitVec 4
  bcast : Bool
  dst : Addr
  src : Addr
  hops : Byte
  tag : BitVec 8
  more : Bool
  payload : List Word
  deriving DecidableEq, Repr

/-- What an enumeration frame brings (12 R375, R376). To a module: the question who is there. To a node: the
order to probe one of its ports; its address, with the root's swarm time and accepted set and its path; an
address that lies behind one of its ports; the use that a port takes, or that it is refused. To the module that
asked, and on to the root: the serial number and role of the module found, its port, and the delay of the link
in 0.25 ns; or that the port leads to no module. -/
inductive EnumMsg where
  | ask
  | probe (port : Port)
  | assign (addr : Addr) (st : BitVec 64) (features : Word) (lat : BitVec 17) (hops : BitVec 12)
  | route (addr : Addr) (out : Port)
  | mark (port : Port) (use : BitVec 2)
  | refuse (port : Port)
  | found (serial : Vector Word 4) (role : BitVec 2) (farPort : Port) (delay : BitVec 16)
  | nothing
  deriving DecidableEq, Repr

/-- A recorder record without its CRC, FILL and MARK bytes (09 R286). -/
structure Record where
  index : Word
  opsec : Word
  pcycle : BitVec 24
  source : Byte
  code : BitVec 16
  subject : BitVec 16
  p0 : Word
  p1 : Word
  p2 : Word
  deriving DecidableEq, Repr

/-- A fault entry of the fault block (09 R302). -/
structure FaultEntry where
  code : Byte
  block : Nat
  opsec : Word
  pcycle : Word
  repeats : Nat
  deriving DecidableEq, Repr

/-- A copy of the fault block (09 R302): the bad blocks and the ring of fault entries. -/
structure FaultBlock where
  bad : List Nat
  faults : List FaultEntry
  deriving DecidableEq, Repr

/-- What a boot finds outside the host die (13 R409): the voltages on the straps in mV (10
R307), the offset of the clock on H_XIN in ppm (none: no clock, 01 R24), the dies that
are ready, the failed dies that train and pass their self-test (13 R407), and the slices that
fail their check again, bit 5g + k for Sk of Gg, the groups whose guard copy verifies after the
rewrite of a boot (08 R260), the supply class and VFx of a group of which the die has become ready (13 R393), and
what now reads otherwise in the ferroelectric memory: slots of the log, the copies of the control block that
fail their CRC, copies of the fault block (09 R293, R302), slots of the operating seconds and the copies of the
power-cycle count that fail (13 R422, R423). -/
structure BootInput where
  strap0 : Nat
  strap1 : Nat
  xinPpm : Option Int
  ready : BitVec 4
  trained : BitVec 4
  sliceFail : BitVec 20
  verify : BitVec 4
  slots : List (Nat × List Word)
  ctlFail : BitVec 2
  faultCopies : List (Fin 3 × FaultBlock)
  supply : Vector (SupplyClass × BitVec 16) 4
  opSlots : List (Fin 8 × List Word)
  cycleFail : BitVec 2
  deriving DecidableEq, Repr

/-- The commands: one constructor for each row of the opcode table. -/
inductive Instr where
  /-- HELLO (R348). Host reads part, firmware version, feature offer and serial number. -/
  | hello (c : Cmd)
  /-- FEAT_ACCEPT (R348). Host accepts a feature subset; the set locks, EV126 is acknowledged, credit is zeroed, and a trial image is confirmed. -/
  | featAccept (c : Cmd)
  /-- GET_OBJ (R342). Returns one object value, with generations for two-half values. -/
  | getObj (c : Cmd)
  /-- SET_OBJ (R352). Writes one object word under its access codes and refusal rules; general row for registers with no row of their own. -/
  | setObj (c : Cmd)
  /-- GET_OBJ_BLOCK (R345). Reads consecutive objects at one instant, or drains whole entries from RES_FIFO or SW_REVQ. -/
  | getObjBlock (c : Cmd)
  /-- SET_MODE (R403). Requests STANDBY, RUN or SERVICE under the mode transition table. -/
  | setMode (c : Cmd)
  /-- CH_CONFIG (R344). Writes a channel's configuration words and any implied mode or pair change in one checked step. -/
  | chConfig (c : Cmd)
  /-- OUT_WRITE (R343). Commands switched outputs off, on or on at a duty, per channel, returning the target cell. -/
  | outWrite (c : Cmd)
  /-- AO_WRITE (R187). Commands an analogue output code per channel, applied at the next AO_SET cell or within 20 µs on a free channel. -/
  | aoWrite (c : Cmd)
  /-- EVT_ACK (R359). Acknowledges delivered pending event sources and reports the pending set. -/
  | evtAck (c : Cmd)
  /-- EVT_REDELIVER (R359). EVT_ACK with REDELIVER marks every pending enabled source undelivered without acknowledging. -/
  | evtRedeliver (c : Cmd)
  /-- EVT_MASK (R360). Writes the event enable bits. -/
  | evtMask (c : Cmd)
  /-- COMB_LOAD_BEGIN (R235). Starts receiving a comb image into the inactive bank. -/
  | combLoadBegin (c : Cmd)
  /-- COMB_LOAD_DATA (R235). Appends comb image bytes at the next offset. -/
  | combLoadData (c : Cmd)
  /-- COMB_COMMIT (R236). Starts verification of the received comb image, optionally persisting it. -/
  | combCommit (c : Cmd)
  /-- COMB_VERIFY_COMPLETE (R236). Comb verification and share distribution finish; the bank becomes VALID or REJECTED and COMB_COMMIT responds. -/
  | combVerifyComplete
  /-- COMB_SWAP_ARM (R240). Arms the exchange to the verified inactive bank. -/
  | combSwapArm (c : Cmd)
  /-- COMB_SWAP_CANCEL (R240). Disarms an armed exchange. -/
  | combSwapCancel (c : Cmd)
  /-- COMB_SWAP_STOP (R240). Arms an exchange to no comb. -/
  | combSwapStop (c : Cmd)
  /-- ADC_CAL (R133). Starts a foreground calibration run on the named groups. -/
  | adcCal (c : Cmd)
  /-- ADC_CAL_SLICE_DONE (R133). One slice finishes its 3 ms foreground calibration and the run proceeds or ends, updating CONV_CAL and raising EV85. -/
  | adcCalSliceDone (g : Grp) (k : Slice) (off gain : Int) (lin : List Int)
  /-- ADC_CAL_REF_TIMEOUT (R135). A group waiting for REF_SETTLED for 100 ms abandons its run. -/
  | adcCalRefTimeout (g : Grp)
  /-- CAPTURE_ARM (R183). Arms the capture buffer, discarding previous contents. -/
  | captureArm (c : Cmd)
  /-- CAPTURE_STOP (R183). CAPTURE_ARM with its stop flag returns capture to IDLE keeping its words. -/
  | captureStop (c : Cmd)
  /-- CAPTURE_READ (R185). Returns captured words from an index. -/
  | captureRead (c : Cmd)
  /-- WAGGLE (R276). Host answers the waggle challenge with a token, checked in hardware. -/
  | waggle (c : Cmd)
  /-- TASK_CHECKIN (R280). Records a check-in for a monitored host task. -/
  | taskCheckin (c : Cmd)
  /-- SAFE_APPLY (R261). Orders the guards of named groups to apply the safe-state table. -/
  | safeApply (c : Cmd)
  /-- SAFE_RELEASE (R267). Releases guard holds on named groups, restoring commands as RESTORE selects. -/
  | safeRelease (c : Cmd)
  /-- LOG_READ (R298). Returns valid records of the log from FROM (SEL 0). -/
  | logRead (c : Cmd)
  /-- LOG_READ_SHADOW (R298). Returns records held in the SRAM shadow (SEL 1). -/
  | logReadShadow (c : Cmd)
  /-- LOG_READ_CLEAR_HISTORY (R298). Returns the clear history (SEL 2). -/
  | logReadClearHistory (c : Cmd)
  /-- LOG_READ_FAULT_BLOCK (R298). Returns the voted fault block (SEL 3). -/
  | logReadFaultBlock (c : Cmd)
  /-- LOG_CLEAR_CHALLENGE (R299). Issues a nonce and REC_NEXT for a signed log clear. -/
  | logClearChallenge (c : Cmd)
  /-- LOG_CLEAR_CHALLENGE_LAPSE (R299). A log-clear challenge lapses 60 s after issue. -/
  | logClearChallengeLapse
  /-- LOG_CLEAR (R300). Verifies the owner signature and clears the log two-phase, writing CLEARED. -/
  | logClear (c : Cmd) (tries : List Bool) (ctl : Bool)
  /-- SWARM_ENUM_START (R375). Root starts a breadth-first enumeration of the swarm. -/
  | swarmEnumStart (c : Cmd)
  /-- SWARM_ENUM_QUERY (R377). Returns swarm status, port and path objects. -/
  | swarmEnumQuery (c : Cmd)
  /-- SWARM_ROUTE (R378). Root carries one embedded command to a node or broadcasts it. -/
  | swarmRoute (c : Cmd)
  /-- SWARM_ROUTE_TIMEOUT (R379). No routed response arrives within TMO; the root answers TIMEOUT. -/
  | swarmRouteTimeout (tag : BitVec 8)
  /-- SWARM_TRIGGER (R385). Schedules capture, H_SYNC or SNAP actions at one swarm time. -/
  | swarmTrigger (c : Cmd)
  /-- ATTEST_START (R443). Takes the attestation values with a nonce and starts signing. -/
  | attestStart (c : Cmd)
  /-- ATTEST_FETCH (R443). Returns the signed attestation report, or BUSY while signing. -/
  | attestFetch (c : Cmd)
  /-- ATTEST_READY (R443). Signing of the report completes and EV114 is raised. -/
  | attestReady
  /-- FW_BEGIN (R439). Starts a firmware transfer into the slot that is not running. -/
  | fwBegin (c : Cmd)
  /-- FW_DATA (R439). Writes firmware image bytes at the next offset. -/
  | fwData (c : Cmd)
  /-- FW_VERIFY_COMPLETE (R434). Checks of a completed image finish; the slot becomes VALID or INVALID and EV112 is raised. -/
  | fwVerifyComplete
  /-- FW_ACTIVATE (R440). Activates the target slot as a trial, optionally with a signed downgrade grant. -/
  | fwActivate (c : Cmd)
  /-- ACTIVATION_RESET (R418). After the activation RSP or 10 ms, the host die sends CONTINUITY, drains the intake and resets into the new slot. -/
  | activationReset (tries : List Bool)
  /-- DEBUG_UNLOCK_CHALLENGE (R447). Issues a nonce for debug unlock or provisioning. -/
  | debugUnlockChallenge (c : Cmd)
  /-- DEBUG_CHALLENGE_LAPSE (R447). A debug or provisioning challenge lapses 60 s after issue. -/
  | debugChallengeLapse (provisioning : Bool)
  /-- DEBUG_UNLOCK (R448). Verifies the unlock, erases secrets and opens core debug. -/
  | debugUnlock (c : Cmd)
  /-- KEY_INSTALL (R430). KEY_PROVISION OP 0 installs an owner key with permissions. -/
  | keyInstall (c : Cmd)
  /-- KEY_REVOKE (R430). KEY_PROVISION OP 1 revokes an owner key. -/
  | keyRevoke (c : Cmd)
  /-- PROV_LOCK_SET (R430). KEY_PROVISION OP 2 sets PROV_LOCK. -/
  | provLockSet (c : Cmd)
  /-- CERT_INSTALL (R446). KEY_PROVISION OP 3 installs a verified device certificate. -/
  | certInstall (c : Cmd)
  /-- LATENCY_TOL (R413). Sets reaction and command tolerances and chooses a power state. -/
  | latencyTol (c : Cmd)
  /-- HART_SEND (R208). Queues a HART frame for transmission on a channel. -/
  | hartSend (c : Cmd)
  /-- HART_RECV (R211). Returns and empties the held HART frame. -/
  | hartRecv (c : Cmd)
  /-- UNKNOWN_OPCODE (R341). A delivered command whose OPCODE is not in the table is answered UNKNOWN_OPCODE. -/
  | unknownOpcode (opcode : BitVec 8) (c : Cmd)
  /-- WINRD (R329). Host reads window words from a snapshot, with the two-half shadow rule. -/
  | winrd (seq : BitVec 8) (first : BitVec 6) (count : BitVec 7)
  /-- CREDIT (R178). Host grants stream credit on CS1. -/
  | credit (grant : BitVec 24)
  /-- LOCKOUT_CLEAR (R105). Host writes 1 to CH_FAULT.LOCKOUT, taking a LOCKED_OFF channel to OFF with its command off. -/
  | lockoutClear (f : Frame) (ch : Ch) (rest : Word)
  /-- ITRIP_CLEAR (R148). Host writes 1 to ITRIP, reconnecting the AI_I sense path. -/
  | itripClear (f : Frame) (ch : Ch) (rest : Word)
  /-- MISWIRE_RETEST (R197). Host writes 1 to MISWIRE, starting a 1 ms re-test of a blocked stage. -/
  | miswireRetest (f : Frame) (ch : Ch) (rest : Word)
  /-- RELEARN (R113). Host writes 1 to RELEARN, discarding the load baseline. -/
  | relearn (f : Frame) (ch : Ch) (rest : Word)
  /-- WG_EN_ARM (R276). Writing WG_EN 1 arms the waggle, posting a challenge and starting the first period. -/
  | wgEnArm (f : Frame) (period : BitVec 14)
  /-- REFSEL_WRITE (R139). A write of REFSEL switches reference, clears FALLBACK and starts settling. -/
  | refselWrite (f : Frame) (g : Grp) (sel : BitVec 2)
  /-- AI_FILTER_WRITE (R156). A write of CH_AI_CFG or CH_AI_FILT on a free channel restarts its filter and clears VALID. -/
  | aiFilterWrite (f : Frame) (ch : Ch) (filt : Bool) (w : Word)
  /-- RCK_EN_WRITE (R310). A change of RCK_EN takes effect at the first select after its RSP. -/
  | rckEnWrite (f : Frame) (en : Bool)
  /-- WATCHDOG_PERIOD_WRITE (R284). A write of WD_HS.PERIOD or WD_WG.PERIOD, accepted in the waggle window, takes effect at the next service. -/
  | watchdogPeriodWrite (f : Frame) (waggle : Bool) (w : Word)
  /-- TASK_ENABLE (R280). Writing a TASK_CTL.EN bit starts that task's periods. -/
  | taskEnable (f : Frame) (w : Word)
  /-- CH_SAFE_WRITE (R256). A safe-state entry write is sent to the guard and acknowledged after its checksum returns. -/
  | chSafeWrite (f : Frame) (ch : Ch) (val : Bool) (w : Word)
  /-- SELECT_FALL (R322). A select falls; the module decides a busy word, sends a report frame and its chosen frame, and wakes from DOZE. -/
  | selectFall (cs1 : Bool) (busy : Option BusyCause)
  /-- SELECT_RISE (R323). A select rises; partial frames are discarded as SHORT and a cut module frame is kept for resending. -/
  | selectRise (cs1 : Bool) (words : List Word)
  /-- HOST_FRAME_REJECTED (R323). A host frame is discarded for CRC, header, busy or trailing errors and counted. -/
  | hostFrameRejected (words : List Word)
  /-- MODULE_FRAME_DELIVERED (R320). The last CRC bit of a module frame is shifted out; events are marked delivered and credit is charged. -/
  | moduleFrameDelivered
  /-- RESET_RELEASE (R409). Power-on reset or another reset is released and the boot sequence runs to STANDBY. -/
  | resetRelease (b : BootInput)
  /-- H_RSTN (R486). H_RSTn held low for 1 µs sends STOP and resets the host die. -/
  | hRstn (ns : Nat)
  /-- H_TRSTN (R450). H_TRSTn low resets the TAP to BYPASS. -/
  | hTrstn
  /-- TAP_BYPASS (R450). TAP instruction selecting the bypass register. -/
  | tapBypass
  /-- TAP_IDCODE (R450). TAP instruction selecting IDCODE. -/
  | tapIdcode
  /-- TAP_SAMPLE_PRELOAD (R450). TAP instruction capturing host-zone lands. -/
  | tapSamplePreload (lands preload : BitVec 65)
  /-- TAP_EXTEST (R450). TAP instruction driving host-zone lands while H_RSTn is low. -/
  | tapExtest (lands : BitVec 65)
  /-- TAP_CLAMP (R450). TAP instruction clamping host-zone lands while H_RSTn is low. -/
  | tapClamp (lands : BitVec 65)
  /-- TAP_HIGHZ (R450). TAP instruction floating host-zone lands while H_RSTn is low. -/
  | tapHighz (lands : BitVec 65)
  /-- VH_WARNING (R392). VH crosses the warning level falling or rising, raising EV122. -/
  | vhWarning (falling : Bool)
  /-- VH_KEEP (R264). VH reaches the KEEP threshold; KEEP order, hold-up work and POWER_LOSS record follow. -/
  | vhKeep (tries : List Bool)
  /-- HOLD_UP_END (R392). H_HOLD reaches 2.2 V and the host die stops. -/
  | holdUpEnd
  /-- XIN_CLOCK_LOST (R24). H_XIN stops or leaves its band; the reference clock switches to the internal oscillator. -/
  | xinClockLost
  /-- OPSEC_TICK (R422). An operating second passes; the count is persisted and the always-on clock trimmed. -/
  | opsecTick
  /-- FIELD_LINK_FRAME_ERROR (R14). A field-link frame fails its CRC, is counted and resent; a burst raises EV72–EV75. -/
  | fieldLinkFrameError (g : Grp)
  /-- FIELD_LINK_SILENCE (R263). A field die receives no valid frame for its silence limit; its guard takes over and it extrapolates time bases. -/
  | fieldLinkSilence (g : Grp)
  /-- FIELD_LINK_RESTORED (R250). A silent link carries valid frames again; clocks slew, relayed positions are adopted and held events are raised. -/
  | fieldLinkRestored (g : Grp)
  /-- FIELD_DIE_FAILURE (R29). The host die declares a silent or stopped field die failed; its channels are FAILED. -/
  | fieldDieFailure (g : Grp)
  /-- DIE_SUPERVISOR_TRIP (R282). A field die's supervisor finds its logic stopped and discharges its gates. -/
  | dieSupervisorTrip (g : Grp)
  /-- GUARD_GEN_MISMATCH (R282). A guard's GEN differs from the master for 1 ms and the copy is rewritten. -/
  | guardGenMismatch (g : Grp) (verifies : Bool)
  /-- GUARD_CRC_CHECK (R260). The 1 ms guard checksum check fails and the host die rewrites the copy, setting TBAD if it fails again. -/
  | guardCrcCheck (g : Grp) (verifies : Bool)
  /-- MODE_CHANGE_COMPLETE (R40). A channel mode change connects the new front end, sets ACT_MODE and clears CFG_BUSY. -/
  | modeChangeComplete (ch : Ch) (sensorOk : Bool)
  /-- TERMINAL_MONITOR_CONVERSION (R47). The spare converts a terminal voltage into CH_TERMV, setting TERM_OV when out of range. -/
  | terminalMonitorConversion (ch : Ch) (m : ChMeas)
  /-- TERMINAL_CROSSING (R55). An input terminal crosses a switch point and RAW changes, starting or abandoning a debounce run. -/
  | terminalCrossing (ch : Ch) (millivolts microamps : Int) (held : Nat)
  /-- DEBOUNCE_EXPIRED (R53). The raw level has held for DEBOUNCE; STATE changes as an accepted change. -/
  | debounceExpired (ch : Ch)
  /-- WIRE_BREAK_DECLARED (R56). DI current below 0.15 mA for the break time sets WIREBRK and BREAK. -/
  | wireBreakDeclared (ch : Ch)
  /-- WIRE_BREAK_END (R56). DI current at or above 0.25 mA for the break time clears BREAK and sets VALID. -/
  | wireBreakEnd (ch : Ch)
  /-- NAMUR_FAULT_DECLARED (R63). A NAMUR break or short holds for the fault time; flags set and STATE follows NFAULT. -/
  | namurFaultDeclared (ch : Ch) (short : Bool)
  /-- NAMUR_FAULT_END (R63). A NAMUR fault ends; VALID returns and R61 compares STATE. -/
  | namurFaultEnd (ch : Ch)
  /-- COUNT_EDGE (R67). A filtered counting edge updates count or position, with quadrature and rate checks. -/
  | countEdge (ch : Ch) (both rising : Bool) (dt : Nat)
  /-- INDEX_EDGE (R68). A rising index edge latches the position, performs IDXACT and checks spacing. -/
  | indexEdge (ch : Ch)
  /-- FREQ_GATE_EXPIRED (R66). A gate time ends and CH_CNT_FREQ is updated. -/
  | freqGateExpired (ch : Ch) (n span : Nat)
  /-- COUNT_EDGE_TIMEOUT (R66). No rising edge within four gate times sets FREQ to 0 and PER to 0xFFFF_FFFF. -/
  | countEdgeTimeout (ch : Ch)
  /-- MAINS_LOCK_ACQUIRED (R73). The mains tracker acquires lock. -/
  | mainsLockAcquired (ch : Ch) (phase freq vrms : BitVec 16)
  /-- MAINS_HOLDOVER_ENTER (R74). Input below 9 VAC or a missing crossing puts the tracker in holdover. -/
  | mainsHoldoverEnter (ch : Ch)
  /-- MAINS_LOCK_RESUMED (R74). Valid input returns within HOLD_T and lock resumes by slewing. -/
  | mainsLockResumed (ch : Ch)
  /-- MAINS_LOCK_LOST (R74). HOLD_T expires in holdover; LOCK clears and LOCKLOST sets. -/
  | mainsLockLost (ch : Ch)
  /-- LOOP_OVERLOAD (R77). Loop supply held at its limit for 100 ms turns off for 1 s. -/
  | loopOverload (ch : Ch)
  /-- LOOP_RESTART (R77). The 1 s off time of an overloaded loop supply ends and it turns on again. -/
  | loopRestart (ch : Ch)
  /-- LOOP_OPEN_DETECTED (R77). Loop current below 0.5 mA for 100 ms sets LOOP_OPEN. -/
  | loopOpenDetected (ch : Ch)
  /-- LOOP_LEAK_DETECTED (R77). Loop and partner currents differ by over 1.0 mA for 100 ms. -/
  | loopLeakDetected (ch : Ch)
  /-- LIMITER_ACTIVE (R83). Load current reaches ILIM and the channel goes to LIMIT. -/
  | limiterActive (ch : Ch)
  /-- LIMITER_RELEASED (R98). The limiter inactive for 100 µs returns the channel to ON. -/
  | limiterReleased (ch : Ch)
  /-- INRUSH_WINDOW_END (R84). An inrush window and its extensions end; limit returns to ILIM and PWM begins. -/
  | inrushWindowEnd (ch : Ch)
  /-- GOVERNOR_STEP (R86). The 1 µs group governor lowers or raises inrush limits by 50 mA. -/
  | governorStep (g : Grp) (milliamps : Nat)
  /-- GROUP_CURRENT_MEAN_UPDATE (R87). The 1 s group current mean is updated, raising EV68–EV71 above 6.0 A. -/
  | groupCurrentMeanUpdate (g : Grp) (milliamps : Nat)
  /-- PWM_PERIOD_START (R89). A PWM period begins and the applied duty is computed, with constant-power compensation. -/
  | pwmPeriodStart (ch : Ch) (millivolts : Nat)
  /-- THERMAL_TRIP_ABS (R95). Junction reaches the absolute trip; the channel switches off and trip handling runs. -/
  | thermalTripAbs (ch : Ch)
  /-- THERMAL_TRIP_DT (R96). Channel-to-case difference reaches its trip; the channel switches off. -/
  | thermalTripDt (ch : Ch)
  /-- TSENS_FAIL (R96). The absolute sensor fails plausibility; TSENS sets and the tightened trip applies. -/
  | tsensFail (ch : Ch)
  /-- RETRY_DUE (R102). A retry interval ends; the channel retries, defers or locks off. -/
  | retryDue (ch : Ch)
  /-- RETRY_COUNT_CLEAR (R103). A channel on without a trip for the clearing time clears RETRY_USED and DEFER. -/
  | retryCountClear (ch : Ch)
  /-- SHORT_GND_DETECTED (R108). Limiter active with terminal low for 100 µs sets SHORT_GND. -/
  | shortGndDetected (ch : Ch)
  /-- OVERLOAD_DETECTED (R108). Limiter active with terminal not low for 10 ms sets OVERLOAD. -/
  | overloadDetected (ch : Ch)
  /-- OPEN_LOAD_CONDITION (R108). ILOAD below the open-load threshold for OL_ON_T starts open-load classification. -/
  | openLoadCondition (ch : Ch) (milliamps : Int)
  /-- OPENLOAD_ON_TIMEOUT (R108). No off-pulse within 1 s of the open-load condition sets OPENLOAD_ON. -/
  | openloadOnTimeout (ch : Ch)
  /-- REVERSE_CURRENT_DETECTED (R108). ILOAD at −50 mA or below for 1 ms sets SHORT_VF; reaching ILIM trips. -/
  | reverseCurrentDetected (ch : Ch) (atIlim : Bool)
  /-- RB_MISMATCH_DETECTED (R108). RAW low 2 µs after an on-edge with limiter inactive locks the channel off. -/
  | rbMismatchDetected (ch : Ch)
  /-- WIRED_DETECTED (R111). Two outputs are found wired together; WIRED and PARTNER set on both. -/
  | wiredDetected (a b : Ch)
  /-- OPENLOAD_OFF_DETECTED (R109). An off DO_HS terminal between 4.0 V and VF − 2 V for 10 ms sets OPENLOAD_OFF. -/
  | openloadOffDetected (ch : Ch)
  /-- SHORT_VF_OFF_DETECTED (R109). An off terminal at VF − 2 V or above for 10 ms, or a DO_PP low side in limit for 50 µs, sets SHORT_VF. -/
  | shortVfOffDetected (ch : Ch)
  /-- IMBAL_DETECTED (R94). A parallel pair's sharing outside 35–65 % for 100 ms sets IMBAL. -/
  | imbalDetected (ch : Ch)
  /-- AUTO_DIAG_PULSE (R110). On a free channel with AUTO_DIAG the module issues its own off-pulse. -/
  | autoDiagPulse (ch : Ch)
  /-- DIAG_PULSE_END (R110). An off-pulse ends; the terminal is compared with VF − 2 V and the switch turns back on. -/
  | diagPulseEnd (ch : Ch) (high : Bool)
  /-- LEARN_BASELINE (R113). A qualifying on-period yields the load baseline and sets LEARNED. -/
  | learnBaseline (ch : Ch) (norm : BitVec 16)
  /-- LEARN_COMPARISON (R113). A 3 s on-period yields DRIFT, setting LEARN_DRIFT beyond DRIFT_PCT. -/
  | learnComparison (ch : Ch) (norm : BitVec 16)
  /-- SHED_STEP (R114). Die sensor at 150 °C for the step time sheds the next priority. -/
  | shedStep (g : Grp)
  /-- SHED_RESTORE_STEP (R115). Die below 140 °C for 5 s restores the next shed priority. -/
  | shedRestoreStep (g : Grp)
  /-- VF_WARN_FALL (R116). The 1 ms mean of VFx falls below VF_WARN, raising the group supply event. -/
  | vfWarnFall (g : Grp) (vf : BitVec 16)
  /-- VF_WARN_RISE (R116). The mean of VFx returns to 16.5 V. -/
  | vfWarnRise (g : Grp) (vf : BitVec 16)
  /-- VF_LOW_FALL (R117). VFx below VF_LOW for 100 µs freezes inrush windows and holds on commands. -/
  | vfLowFall (g : Grp) (vf : BitVec 16)
  /-- UVLO_FALL (R118). VFx below UVLO for 10 µs switches the group's outputs off and the guard remembers them. -/
  | uvloFall (g : Grp) (vf : BitVec 16)
  /-- VF_RECOVERY (R119). VFx reaches 13.5 V; frozen windows resume and the staggered switch-on sequence starts. -/
  | vfRecovery (g : Grp) (vf : BitVec 16)
  /-- STAGGER_SWITCH_ON (R119). The next channel of a recovery sequence switches on 5 ms after the previous switch-on. -/
  | staggerSwitchOn (g : Grp)
  /-- VF_HIGH_CHANGE (R393). VFx above 33.5 V or back below 32.5 V for 100 µs sets or clears HIGH. -/
  | vfHighChange (g : Grp) (high : Bool) (vf : BitVec 16)
  /-- FIELD_LOGIC_POWER_DOWN (R397). The field logic supply falls to 9.5 V; POWER_DOWN is sent and the die stops at 9.0 V. -/
  | fieldLogicPowerDown (g : Grp)
  /-- FIELD_DIE_READY (R397). A field die becomes ready and rejoins, restoring configuration and protection states. -/
  | fieldDieReady (g : Grp) (cls : SupplyClass) (vf : BitVec 16)
  /-- SPARE_ROTATION (R127). Every 4 ms the spare rotates and new coefficients take effect. -/
  | spareRotation (g : Grp) (off gain : Int)
  /-- INTERNAL_MONITOR_CONVERSION (R128). The spare converts the group's internal monitors once per 1 ms. -/
  | internalMonitorConversion (g : Grp) (vf : BitVec 16) (tdie : BitVec 16) (refUv : BitVec 24) (cj : BitVec 16)
  /-- REF_SETTLED (R137). The reference settles and REF_SETTLED sets, raising EV84. -/
  | refSettled (g : Grp)
  /-- REFIN_MONITOR_CHECK (R139). The 100 µs REFIN monitor finds it out of range and the group falls back to the internal reference. -/
  | refinMonitorCheck (g : Grp) (inRange : Bool)
  /-- CONVERSION_COMPLETE (R125). A conversion completes and feeds the channel's filter. -/
  | conversionComplete (ch : Ch) (m : ConvMeas)
  /-- AI_OPEN_DETECTED (R145). An excitation terminal at 4.5 V or above for 1 ms, or an open thermocouple, sets OPEN. -/
  | aiOpenDetected (ch : Ch)
  /-- AI_LEAD_DETECTED (R145). An RTD lead fault holds for 1 ms and sets LEAD. -/
  | aiLeadDetected (ch : Ch)
  /-- AI_I_SENSE_TRIP (R148). AI_I current beyond its trip for 10 µs opens the sense path. -/
  | aiISenseTrip (ch : Ch)
  /-- FREE_RATE_CONVERSION (R157). A free analogue channel's 1 ms slot makes a free-rate conversion. -/
  | freeRateConversion (ch : Ch)
  /-- INJECT_TIMER (R157). A TPER timer compare triggers an injected conversion after DELAY. -/
  | injectTimer (ch : Ch)
  /-- INJECT_PWM_EDGE (R158). A PWM edge of PWMCH triggers an injected conversion after DELAY. -/
  | injectPwmEdge (ch : Ch)
  /-- INJECT_HOLD (R160). DELAY expires and the injected hold is taken when slice time allows, late or dropped per R161. -/
  | injectHold (ch : Ch)
  /-- NONANALOGUE_RESULT_TICK (R166). Every 1 ms a free non-analogue channel builds a window-only result. -/
  | nonanalogueResultTick (ch : Ch)
  /-- RAIL_SLOT (R190). The converter's own cycle gives a free AO_I_SRC channel its rail slot. -/
  | railSlot (ch : Ch) (millivolts tone : Int)
  /-- RAIL_SLOT_INSERTED (R191). A scheduled AO_I_SRC channel 200 µs without a slot receives an inserted slot. -/
  | railSlotInserted (ch : Ch) (millivolts tone : Int)
  /-- AO_MEAS_UPDATE (R195). The 1 ms update of 20 ms means judges compliance, open loop and read-back deviation. -/
  | aoMeasUpdate (ch : Ch) (m : AoMeas)
  /-- AO_LIMIT_DETECTED (R195). AO_V at its current limit for 100 ms sets AO_LIMIT. -/
  | aoLimitDetected (ch : Ch)
  /-- MISWIRE_DETECTED (R197). A back-driven terminal blocks the stage and sets MISWIRE. -/
  | miswireDetected (ch : Ch)
  /-- MISWIRE_RETEST_END (R197). After 1 ms of re-test the stage resumes or stays blocked. -/
  | miswireRetestEnd (ch : Ch) (driven : Bool)
  /-- AO_THERMAL_TRIP (R198). An output stage junction at 165 °C blocks the stage. -/
  | aoThermalTrip (ch : Ch)
  /-- AO_THERMAL_RESTART (R198). The stage restarts below 140 °C after 1 s. -/
  | aoThermalRestart (ch : Ch)
  /-- HART_TRANSMIT_START (R209). Window open, no carrier and quiet time elapsed; a queued HART frame starts. -/
  | hartTransmitStart (ch : Ch)
  /-- HART_TRANSMIT_END (R209). The last stop bit is sent and the reply wait starts. -/
  | hartTransmitEnd (ch : Ch)
  /-- HART_CARRIER_CHANGE (R209). A carrier appears or ends, restarting the quiet time. -/
  | hartCarrierChange (ch : Ch) (on : Bool)
  /-- HART_FRAME_RECEIVED (R211). A received frame ends and is delivered or discarded, raising EV87. -/
  | hartFrameReceived (ch : Ch) (frame : HartFrame)
  /-- HART_REPLY_TIMEOUT (R209). No reply carrier within 28 character times; LAST reads no reply. -/
  | hartReplyTimeout (ch : Ch)
  /-- NOP (R223). Cell action 0x00 does nothing. -/
  | nop (idx : Nat)
  /-- HOLD (R123). Cell action 0x01 freezes covered track-and-hold stages. -/
  | hold (idx : Nat)
  /-- CONVERT (R123). Cell action 0x02 converts held samples. -/
  | convert (idx : Nat)
  /-- SAMPLE (R123). Cell action 0x03 holds and converts, or latches state and count. -/
  | sample (idx : Nat)
  /-- APPLY (R231). Cell action 0x04 applies pending switching commands. -/
  | apply (idx : Nat)
  /-- OUT_SET (R234). Cell action 0x05 sets covered outputs to the state in ARG. -/
  | outSet (idx : Nat)
  /-- OUT_PULSE (R223). Cell action 0x06 drives a level for a width. -/
  | outPulse (idx : Nat)
  /-- OUT_PULSE_END (R223). An output pulse ends and the channel goes to its commanded state. -/
  | outPulseEnd (ch : Ch)
  /-- DIAG (R112). Cell action 0x07 runs a diagnostic off-pulse. -/
  | diag (idx : Nat)
  /-- AO_SET (R223). Cell action 0x08 applies pending or fixed analogue codes. -/
  | aoSet (idx : Nat)
  /-- RAIL (R190). Cell action 0x09 claims the converter to charge rails. -/
  | rail (idx : Nat) (loads : List RailLoad)
  /-- HART_WIN (R210). Cell action 0x0A opens or closes HART windows. -/
  | hartWin (idx : Nat)
  /-- STAMP (R168). Cell action 0x0B enters a STAMP marker. -/
  | stamp (idx : Nat)
  /-- TRIG_OUT (R223). Cell action 0x0C triggers capture and pulses H_SYNC. -/
  | trigOut (idx : Nat)
  /-- CAL_WIN (R134). Cell action 0x0D claims or releases a slice for calibration. -/
  | calWin (idx : Nat)
  /-- INJ_RES (R160). Cell action 0x0E reserves slices for injected conversions. -/
  | injRes (idx : Nat)
  /-- EVENT (R223). Cell action 0x0F writes a COMB_MARK recorder entry. -/
  | event (idx : Nat)
  /-- COMB_PERIOD_WRAP (R217). The horizon passes a period boundary; period count and FBPER update and WRAP enters. -/
  | combPeriodWrap (micros : Word)
  /-- COMB_EXCHANGE (R241). An armed exchange takes place on every die at a wrap or its set instant. -/
  | combExchange
  /-- TB_STALL (R248). A time base stalls and STALLACT HOLD, FALLBACK or SAFE is applied. -/
  | tbStall
  /-- SAFE_ENTRY_APPLY (R258). A held channel's safe-state entry is applied at T + DELAY with switch-on spacing. -/
  | safeEntryApply (ch : Ch) (copyOk : Bool)
  /-- HOST_SILENCE_EXPIRY (R274). The host-silence timer reaches PERIOD; the table is applied and the module enters SAFE. -/
  | hostSilenceExpiry
  /-- WAGGLE_TIMEOUT (R277). No accepted waggle by the period end declares a failure. -/
  | waggleTimeout
  /-- CORE_WATCHDOG_EXPIRY (R279). The core watchdog expires; NMI, evidence latch and HOLD order follow. -/
  | coreWatchdogExpiry (pc : Word) (cause : BitVec 8)
  /-- CORE_WATCHDOG_RESET (R279). The hard timer resets the host die 2 ms after the NMI. -/
  | coreWatchdogReset (tries : List Bool)
  /-- GUARD_HOLD_EXPIRY (R279). Links not re-established within 150 ms; the guards apply their tables alone. -/
  | guardHoldExpiry
  /-- DIE_OVERTEMP (R265). A die sensor at 160 °C for 1 s raises a policy fault trigger. -/
  | dieOvertemp (g : Grp)
  /-- FOK_DELAY_EXPIRED (R273). FOK_DLY after a takeover, the die releases its part of F_OKn. -/
  | fokDelayExpired (g : Grp)
  /-- TASK_PERIOD_END (R280). A task period ends and is judged MISS, EXTRA or fine. -/
  | taskPeriodEnd (k : Fin 16)
  /-- RECORD_WRITE (R291). The write engine writes the next intake entry as a record with read-back. -/
  | recordWrite (first second : Bool)
  /-- MERGE_WINDOW_CLOSE (R295). A 1 s merge window closes and enters a REPEAT record when it counted. -/
  | mergeWindowClose (source : BitVec 8) (code subject : BitVec 16)
  /-- SWARM_CMD_RECEIVED (R378). A node receives a routed command and executes it. -/
  | swarmCmdReceived (src : Addr) (tag : BitVec 8) (bcast : Bool) (words : List Word)
  /-- SWARM_RSP_RECEIVED (R379). The root receives a routed response and answers SWARM_ROUTE. -/
  | swarmRspReceived (src : Addr) (tag : BitVec 8) (words : List Word)
  /-- SWARM_EVENT_RECEIVED (R381). The root queues node event records in SW_REVQ or refuses them. -/
  | swarmEventReceived (src : Addr) (tag : BitVec 8) (recs : List EvRecord)
  /-- SWARM_REVACK_RECEIVED (R381). A node receives acceptance or refusal of its event records. -/
  | swarmRevackReceived (src : Addr) (tag : BitVec 8) (accepted : Nat)
  /-- REMOTE_EVENT_REOFFER (R381). A node re-offers refused event records every 10 ms. -/
  | remoteEventReoffer
  /-- SWARM_RESULTS_RECEIVED (R381). Relayed results enter the root's partitions behind SOURCE markers. -/
  | swarmResultsReceived (src : Addr) (tag : BitVec 8) (stream : Bool) (entries : List QEntry)
  /-- SWARM_TRIGGER_RECEIVED (R385). A module arms a received trigger, or counts it MISSED. -/
  | swarmTriggerReceived (t : Trigger) (bcast : Bool)
  /-- SWARM_TRIGGER_FIRE (R386). At ST a module carries out the trigger's actions. -/
  | swarmTriggerFire (t : Trigger)
  /-- HEARTBEAT_SEND (R380). The root broadcasts HEARTBEAT after a service of its host-silence timer. -/
  | heartbeatSend
  /-- HEARTBEAT_RECEIVED (R380). A node's host-silence timer is served by HEARTBEAT. -/
  | heartbeatReceived (rootFeatures : Word)
  /-- ENUM_RECEIVED (R376). A node or the root handles an enumeration probe or reply, adopting address and features. -/
  | enumReceived (p : Port) (m : EnumMsg)
  /-- HEAL_RECEIVED (R382). A node receiving HEAL makes D1 upstream and forwards it. -/
  | healReceived (p : Port)
  /-- LINKSTATE_RECEIVED (R382). The root learns of a broken ring link and heals or reports. -/
  | linkstateReceived (addr : Addr) (p : Port) (up : Bool)
  /-- FOREIGN_RECEIVED (R304). A peer stores or refuses a foreign record. -/
  | foreignReceived (src : Addr) (tag : BitVec 8) (r : Record)
  /-- SWARM_FRAME_FORWARD (R373). A frame not for the module is forwarded cut-through, or discarded if unroutable. -/
  | swarmFrameForward (p : Port) (f : SwFrame)
  /-- SWARM_FRAME_DISCARD (R368). A bad swarm frame is discarded and counted, with a port event on a burst. -/
  | swarmFrameDiscard (p : Port) (seg : Option (SwClass × Addr × BitVec 8))
  /-- SWARM_SEGMENT_TIMEOUT (R369). A segmented message missing its last segment for 10 ms is discarded. -/
  | swarmSegmentTimeout (p : Port) (cls : SwClass) (src : Addr) (tag : BitVec 8)
  /-- LINK_SET_RECEIVED (R367). A LINK ordered set is received and tracked for port state. -/
  | linkSetReceived (p : Port) (content : Byte)
  /-- LINK_SET_SEND (R367). A port sends a LINK set every 100 µs. -/
  | linkSetSend (p : Port)
  /-- CREDIT_SET_RECEIVED (R371). A CREDIT ordered set returns blocks to a class. -/
  | creditSetReceived (p : Port) (cls : SwClass) (blocks : Nat)
  /-- PD_REQ_SEND (R367). A port sends PD_REQ every 1 ms. -/
  | pdReqSend (p : Port)
  /-- PD_REQ_RECEIVED (R367). A port answers PD_REQ with PD_RSP. -/
  | pdReqReceived (p : Port) (seq : Byte) (turnaround : BitVec 24)
  /-- PD_RSP_RECEIVED (R383). A PD_RSP yields a link delay measurement. -/
  | pdRspReceived (p : Port) (seq : Byte) (turnaround roundTrip : Nat)
  /-- SYNC_SEND (R367). A port leading away from the root sends SYNC every 1 ms. -/
  | syncSend (p : Port)
  /-- SYNC_RECEIVED (R383). A node corrects its swarm time from SYNC and may regain sync. -/
  | syncReceived (p : Port) (sent : BitVec 48) (sub : Nat)
  /-- SYNC_LOST (R384). No SYNC for 10 ms or an offset over 1 µs clears SYNCED. -/
  | syncLost (silent : Bool)
  /-- PORT_DOWN (R382). A port sees no character for 10 µs or no LINK for 250 µs and goes down. -/
  | portDown (p : Port)
  /-- PORT_UP (R382). A port with 1 ms of valid LINK sets comes up. -/
  | portUp (p : Port)
  /-- CREDIT_STARVATION (R372). A class waits 10 ms without credit and EV101 is raised. -/
  | creditStarvation (p : Port) (cls : SwClass)
  /-- DOZE_ENTRY (R415). With a deep state chosen and 1 ms idle, the module enters DOZE. -/
  | dozeEntry
  /-- WAKE_COMPLETE (R416). A dozing host die finishes waking and returns to RUN. -/
  | wakeComplete
  /-- POLICY_WAKE_TIMER (R416). An always-on policy wake timer expires and wakes the module. -/
  | policyWakeTimer
  /-- SERVICE_SILENCE (R404). In SERVICE, 10 s without a valid frame returns the module to STANDBY. -/
  | serviceSilence
  /-- CONTINUITY_CLOSE (R421). Links are re-established after activation and the continuity window closes. -/
  | continuityClose
  /-- CONTINUITY_EXPIRY (R420). FC_HOLD is reached before the window closes; guards apply their tables. -/
  | continuityExpiry
  /-- AUTH_LOCKOUT_END (R432). After 60 s of authorisation lockout, LOCKOUT clears. -/
  | authLockoutEnd
  /-- ENVELOPE_EXCEEDED (R482). PMOD above ENV for 1 s sets ENV_OVER and starts envelope shedding. -/
  | envelopeExceeded (pmod : BitVec 16)
  /-- ENVELOPE_SHED_STEP (R482). Each further 1 s above ENV sheds the next priority. -/
  | envelopeShedStep (pmod : BitVec 16)
  /-- ENVELOPE_RESTORE (R482). PMOD below ENV − 500 mW for 5 s restores envelope-shed channels. -/
  | envelopeRestore (pmod : BitVec 16)
  /-- HOST_DIE_OVERTEMP (R425). The host die reaches 110 °C or returns below 100 °C, raising EV125. -/
  | hostDieOvertemp (hot : Bool) (temp : BitVec 8)
  /-- SWITCH_COOLED (R97). A tripped or held switching channel's junction falls below 140 °C (or TSENS is set) and its channel-to-case difference falls below 30 K, so a held PEND command or a guard ON or VALUE entry may now switch on. -/
  | switchCooled (ch : Ch)
  /-- UVLO_RISE (R393). VFx stays above the UVLO rising threshold of 12.5 V for the filter time, which clears GRP_SUPPLY.UVLO and sets the group's VFUP bit ahead of recovery at 13.5 V. -/
  | uvloRise (g : Grp)
  /-- VFL_CHANGE (R28). VFL is lost or returns, which changes PWR_STAT.VFLOK while the field logic runs on through the diode-OR. -/
  | vflChange (present : Bool)
  /-- DEBUGGER_HALT (R283). A debugger halts the control core, which freezes the core watchdog and the task monitor while the host-silence timer and the waggle run on. -/
  | debuggerHalt
  /-- DEBUGGER_RESUME (R283). The debugger releases the control core, and the core watchdog and task monitor periods resume where they stopped. -/
  | debuggerResume
  /-- HOST_SEGMENT_RECEIVED (R317). A valid CMD or BULK segment with LAST 0 is delivered and held as part of an incomplete message of its mailbox. -/
  | hostSegmentReceived (f : Frame) (words : List Word)
  /-- SWARM_SEGMENT_RECEIVED (R369). A swarm segment with MORE set arrives and is held towards its message, which starts the 10 ms timeout for the last segment. -/
  | swarmSegmentReceived (p : Port) (cls : SwClass) (src : Addr) (tag : BitVec 8) (words : List Word)
  deriving DecidableEq, Repr

end Sys2Proof
end

