-- ==== Sys2Proof/Config.lean ====
section
/-! DEFINITION. What one implementation fixes and the values the manual leaves open. Every constant
here has no body: nothing can be proved of its value, so a statement holds for every value. -/

namespace Sys2Proof.Config

/-- SHA-384 of a byte string (14 R426 names the standard; the manual does not define it).
DESIGN CHOICE, log entry 4. -/
opaque sha384 : List Byte → List Byte

/-- ECDSA verification on brainpoolP384r1 with SHA-384: public key, digest, signature (14 R426 to
R428). DESIGN CHOICE, log entry 4. -/
opaque ecdsaOk : List Byte → List Byte → List Byte → Bool

/-- Whether a provisioned public key is a point on the curve other than infinity (14 R428).
DESIGN CHOICE, log entry 4. -/
opaque keyOnCurve : List Byte → Bool

/-- The signature the module makes with its identity key over a digest, with a fresh k drawn as the
n-th free value (14 R428, R444). DESIGN CHOICE, log entry 4. -/
opaque identitySign : Nat → List Byte → List Byte

/-- The identity public key drawn as the n-th free value (14 R449). DESIGN CHOICE, log entry 4. -/
opaque identityKey : Nat → List Byte

/-- The fused public keys: 0 firmware root, 1 certificate root, 2 service key (14 R426).
DESIGN CHOICE, log entry 4. -/
opaque fusedKey : Fin 3 → List Byte

/-- The n-th free 32-bit value: challenges and nonces of the random source (08 R276, 09 R299,
14 R447), and every value the manual leaves open. DESIGN CHOICE, log entry 5. -/
opaque freeWord : Nat → Word

/-- The n-th free truth value, where the manual allows either outcome (13 R486, 04 R150).
DESIGN CHOICE, log entry 5. -/
opaque freeBool : Nat → Bool

/-- The n-th free integer: the response of a notch before it has settled (04 R155). DESIGN CHOICE, log
entry 5. -/
opaque freeInt : Nat → Int

/-- A tap of the notch at a number of conversions per cycle, in 2^-30 (04 R155, which gives what the notch does
and not its taps). DESIGN CHOICE, log entry 121. -/
opaque notchTap : Nat → Nat → Int

/-- Which way a tie of a rounded quotient falls; the manual writes round() without saying (04 R142,
03 R89). DESIGN CHOICE, log entry 6. -/
opaque tieUp : Int → Nat → Bool

/-- Whether the supervisor context of the firmware serves the core watchdog at an instant (08 R279: which no
command tells). DESIGN CHOICE, log entry 5. -/
opaque served : Nat → Bool

/-- The temperature of the host die in °C, as its sensor measures it at a time (13 R424). DESIGN CHOICE, log entry
123. -/
opaque hostTemp : Nat → BitVec 8

/-- The dissipation in mW that the module estimates from its measured currents and voltages at a time (13 R424, 16
R481). DESIGN CHOICE, log entry 123. -/
opaque dissipation : Nat → BitVec 16

/-- How far a switch point of a channel lies from its nominal value, in mV (02 R50: within 2 % + 0.2 V, to
which the machine holds it). DESIGN CHOICE, log entry 106. -/
opaque pointError : Nat → Bool → Int

/-- The NAMUR switch points of a channel in µA, rising and falling (02 R62: within bands to which the machine
holds them). DESIGN CHOICE, log entry 106. -/
opaque namurPoint : Nat → Bool → Int

end Sys2Proof.Config
end

