-- ==== Sys2Proof/Machine/Bits.lean ====
section
/-! DEFINITION. Bit fields, saturating counters, byte packing and checksums: the helpers with which
the objects and images of the manual are read and built. -/

namespace Sys2Proof.Machine

/-- Bits hi to lo of a word, as a number. -/
def fld (w : Word) (hi lo : Nat) : Nat := (w.toNat >>> lo) % 2 ^ (hi + 1 - lo)

/-- Bit i of a word. -/
def bit (w : Word) (i : Nat) : Bool := w.getLsbD i

/-- Word k of a command (w1 is 0). -/
def wAt (ws : List Word) (k : Nat) : Word := (ws[k]?).getD 0

/-- The word whose fields are given by value and lowest bit. -/
def pk (l : List (Nat × Nat)) : Word :=
  BitVec.ofNat 32 (l.foldl (fun a p => a ||| (p.1 <<< p.2)) 0)

/-- The word with bit i alone. -/
def bitW (i : Nat) : Word := BitVec.ofNat 32 (1 <<< i)

/-- w with bit i set to b. -/
def putBit (w : Word) (i : Nat) (b : Bool) : Word := if b then w ||| bitW i else w &&& ~~~bitW i

/-- The bits of new under the mask, the bits of old elsewhere. -/
def mix (old new mask : Word) : Word := (old &&& ~~~mask) ||| (new &&& mask)

/-- A counter that stops at its maximum. -/
def satInc {n : Nat} (x : BitVec n) : BitVec n := if x = BitVec.allOnes n then x else x + 1

/-- A counter that stops at its maximum, by k. -/
def satAdd {n : Nat} (x : BitVec n) (k : Nat) : BitVec n :=
  if x.toNat + k < 2 ^ n then x + BitVec.ofNat n k else BitVec.allOnes n

/-- Byte k of a word, byte 0 in bits 7:0 (00 R3, 11 R338). -/
def byteOf (w : Word) (k : Nat) : Byte := (w >>> (8 * k)).setWidth 8

/-- The four bytes of a word (11 R338). -/
def wordBytes (w : Word) : List Byte := [byteOf w 0, byteOf w 1, byteOf w 2, byteOf w 3]

/-- The bytes packed in words (11 R338). -/
def wordsBytes (ws : List Word) : List Byte := ws.flatMap wordBytes

/-- The number whose little-endian bytes are given (00 R3). -/
def leNat : List Byte → Nat
  | [] => 0
  | b :: bs => b.toNat + 256 * leNat bs

/-- The n little-endian bytes of a number. -/
def natLe : Nat → Nat → List Byte
  | 0, _ => []
  | n + 1, v => BitVec.ofNat 8 v :: natLe n (v / 256)

/-- Bytes packed four to a word, the last word padded with zero bytes (11 R338); `fuel` is at least
the number of bytes. -/
def packFuel : Nat → List Byte → List Word
  | 0, _ => []
  | _ + 1, [] => []
  | k + 1, b :: bs => BitVec.ofNat 32 (leNat ((b :: bs).take 4)) :: packFuel k ((b :: bs).drop 4)

/-- Bytes packed four to a word (11 R338). -/
def packBytes (bs : List Byte) : List Word := packFuel bs.length bs

/-- Part of an image: n bytes from offset a. -/
def slice (bs : List Byte) (a n : Nat) : List Byte := (bs.drop a).take n

/-- The little-endian number in n bytes from offset a. -/
def leAt (bs : List Byte) (a n : Nat) : Nat := leNat (slice bs a n)

/-- One step of CRC-32C, reflected polynomial 0x82F6_3B78 (10 R316). -/
def crc32cBit (c : Word) : Word := if c.getLsbD 0 then (c >>> 1) ^^^ 0x82F63B78#32 else c >>> 1

def crc32cByte (c : Word) (b : Byte) : Word :=
  crc32cBit (crc32cBit (crc32cBit (crc32cBit (crc32cBit (crc32cBit (crc32cBit (crc32cBit
    (c ^^^ b.setWidth 32))))))))

/-- CRC-32C: initial value and final XOR 0xFFFF_FFFF (08 R276, 10 R316). -/
def crc32c (bs : List Byte) : Word := (bs.foldl crc32cByte 0xFFFFFFFF#32) ^^^ 0xFFFFFFFF#32

/-- One step of the CRC-16 of 09 R287, polynomial 0x1021. -/
def crc16Bit (c : BitVec 16) : BitVec 16 := if c.getLsbD 15 then (c <<< 1) ^^^ 0x1021#16 else c <<< 1

def crc16Byte (c : BitVec 16) (b : Byte) : BitVec 16 :=
  crc16Bit (crc16Bit (crc16Bit (crc16Bit (crc16Bit (crc16Bit (crc16Bit (crc16Bit
    (c ^^^ (b.setWidth 16 <<< 8)))))))))

/-- CRC-16 of 09 R287: initial value 0xFFFF, no final XOR. -/
def crc16 (bs : List Byte) : BitVec 16 := bs.foldl crc16Byte 0xFFFF#16

/-- A number kept between two bounds. -/
def clampInt (lo hi x : Int) : Int := if x < lo then lo else if hi < x then hi else x

/-- a / b rounded to the nearest integer; `tie` says whether a half goes up (log entry 6). -/
def roundDiv (tie : Bool) (a : Int) (b : Nat) : Int :=
  if b = 0 then 0
  else
    let r := a % b
    if 2 * r < b then a / b
    else if (b : Int) < 2 * r then a / b + 1
    else if tie then a / b + 1 else a / b

/-- A slot of the operating seconds (13 R422): the count, its complement, the CRC-16 of both, and 0xFF. -/
def opSlot (n : Word) : List Word :=
  [n, ~~~n, pk [((crc16 (wordsBytes [n, ~~~n])).toNat, 0), (0xFFFF, 16)], 0xFFFFFFFF#32]

end Sys2Proof.Machine
end

