-- ==== Sys2Proof/Machine/State.lean ====
section
/-! DEFINITION. The state of the block: every register, queue, counter, mode and pin that the
manual gives it, as plain data, and the queue of waiting commands. The inventory's '## State'
lists each with its rule. -/

namespace Sys2Proof.Machine

/-! ### Names -/

/-- The mode codes of a channel (02 R32). -/
inductive ChMode where
  | off | di | diNamur | count | doHs | doPp | aiV | aiI | aiRes | aiTc
  | aoISrc | aoISnk | aoV | loopPwr | mainsSense
  deriving DecidableEq, Repr

/-- The pair functions of CH_MODE.PAIRFN (02 R34). -/
inductive PairFn where
  | none | quad | rtd3 | rtd4 | diff | parallel
  deriving DecidableEq, Repr

/-- The protection states of a switching channel (03 R98). -/
inductive PState where
  | off | inrush | on | limit | tripWait | lockedOff | pend | uvloOff | shed | guard | failed
  deriving DecidableEq, Repr

/-- The eight major modes (11 R340, 13 R401). -/
inductive Mode where
  | reset | boot | standby | run | doze | safe | service | keep
  deriving DecidableEq, Repr

/-- The power states (13 R413). -/
inductive DState where
  | d0 | d1 | d2 | d3
  deriving DecidableEq, Repr

/-- The reset sources (13 R406). -/
inductive ResetSrc where
  | powerOn | hRstn | coreWd | activation
  deriving DecidableEq, Repr

/-- The status codes of a response (11 R341). -/
inductive Status where
  | ok | busy | badCrc | badLength | unknownOpcode | wrongState | notNegotiated | denied
  | range | conflict | nvmFault | timeout | late
  deriving DecidableEq, Repr

/-- The load state of the inactive comb bank (07 R235). -/
inductive LState where
  | empty | receiving | verifying | valid | rejected
  deriving DecidableEq, Repr

/-- COMB_STAT.TBCOND (07 R242). -/
inductive TbCond where
  | normal | stalled | fallback | reversed
  deriving DecidableEq, Repr

/-- The state of a firmware slot (14 R435). -/
inductive SlotState where
  | empty | receiving | verifying | valid | invalid
  deriving DecidableEq, Repr

/-- CAP_STAT.STATE (05 R182). -/
inductive CapState where
  | idle | armed | triggered | done
  deriving DecidableEq, Repr

/-- Where a HART transaction stands (06 R209). -/
inductive HartPhase where
  | idle | queued | sending | waiting
  deriving DecidableEq, Repr

/-- The port's receive states (10 R323). -/
inductive RxState where
  | idle | hunt | body | check | tail | drop
  deriving DecidableEq, Repr

/-- The TAP instructions (14 R450). -/
inductive TapInstr where
  | bypass | idcode | samplePreload | extest | clamp | highz
  deriving DecidableEq, Repr

/-! ### Channels -/

/-- The configuration of a channel: the RW fields of its objects (02 R34, R51, R52, R65, R75;
03 R80, R85, R101, R107, R113; 04 R143, R152, R158, R159; 06 R206; 08 R252, R253). -/
structure ChCfg where
  mode : ChMode
  pairFn : PairFn
  loopMate : BitVec 2
  inCfg : Word
  inThr : Word
  cntCfg : Word
  holdT : BitVec 8
  outCfg : Word
  outLim : Word
  outDiag : Word
  outPol : Word
  driftPct : BitVec 6
  aiCfg : Word
  aiFilt : Word
  aiTrig : Word
  aiTime : Word
  hart : Word
  safe : Word
  safeVal : Word
  deriving DecidableEq, Repr

/-- Digital input (02 R35, R53 to R63): comparator level, debounced level, STATE, VALID, the last
accepted level, not inverted, BREAK, SHORT, whether the current lies in the on or off class, the stamp of
the raw edge that began the present run with its no-comb mark, the instants of the short pulses of the last
1 ms (R69), and the change-of-state objects of R59. -/
structure ChIn where
  raw : Bool
  deb : Bool
  state : Bool
  valid : Bool
  lastValid : Option Bool
  brk : Bool
  short : Bool
  inClass : Bool
  run : Option (Word × Bool)
  shorts : List Nat
  cosCount : Word
  cosStamp : Word
  deriving DecidableEq, Repr

/-- Counting (02 R65 to R70): CH_CNT_VAL, CH_CNT_FREQ, CH_CNT_PER, the rising edges seen since the
measurement began (up to 2; on a pair the direction of the first count of the gate), the position at the
previous index, the position at the last gate. -/
structure ChCnt where
  val : Word
  freq : Word
  per : Word
  edges : Nat
  lastIdx : Option Word
  gateVal : Word
  deriving DecidableEq, Repr

/-- Mains tracker (02 R75); `acc` is the part of the next count of PHASE that has run, in units of
50 ns × 0.01 Hz × 2^9. -/
structure ChMains where
  lock : Bool
  holdover : Bool
  phase : BitVec 16
  acc : Nat
  freq : BitVec 16
  vrms : BitVec 16
  deriving DecidableEq, Repr

/-- Loop supply (02 R76, R77): ON, LIMIT, off for overload, remembered on while off (13 R395), and
the current. -/
structure ChLoop where
  on : Bool
  limit : Bool
  ovlOff : Bool
  want : Bool
  iloop : BitVec 16
  deriving DecidableEq, Repr

/-- Switched output (03 R98 to R113): protection state, command and its duty, applied duty,
PARTNER, RETRY_USED, DEFER, the instant the retry is due, the measurements of R100, whether the
conditions of R97 hold, the inrush limit in force and whether its window is frozen, an OUT_PULSE
in progress (its level), a diagnostic off-pulse in progress, an unclassified open-load condition,
the DO_PP low side held off, the constant-power duty at 1 in report only, shed for the die, shed
for the envelope, a retry held for the supply (R102), a turn to come in the recovery sequence (R119), load learning, whether the command on was the
host's last (01 R18), a policy's switch-on waiting for the APPLY cell of a scheduled channel (01 R17), and
the member's own current in a pair (R94). -/
structure ChOut where
  ps : PState
  cmdOn : Bool
  hostOn : Bool
  polOn : Bool
  own : BitVec 16
  cmdDuty : BitVec 14
  duty : BitVec 14
  partner : BitVec 5
  retryUsed : BitVec 4
  defer : BitVec 3
  due : Nat
  iload : BitVec 16
  tj : BitVec 8
  dtc : BitVec 8
  cool : Bool
  inrMa : Nat
  frozen : Bool
  pulse : Option Bool
  diag : Bool
  olCond : Bool
  lowOff : Bool
  cpSat : Bool
  shedDie : Bool
  shedEnv : Bool
  heldRetry : Bool
  turn : Bool
  learned : Bool
  drift : BitVec 8
  base : BitVec 16
  deriving DecidableEq, Repr

/-- The decimator of CH_AI_FILT (04 R153): conversions in the present output, outputs since the
restart (up to 3), three integrators and three comb delays, and how many conversions ago the last one
with OVR and with OVV came (R150). -/
structure Filt where
  n : Nat
  outs : Nat
  i1 : Int
  i2 : Int
  i3 : Int
  c1 : Int
  c2 : Int
  c3 : Int
  ovr : Option Nat
  ovv : Option Nat
  deriving DecidableEq, Repr

/-- A conversion asked for (04 R122, 05 R169): its class, its stamp, and the cell job it belongs
to. -/
structure ConvReq where
  cls : QClass
  stamp : Word
  job : Option Nat
  deriving DecidableEq, Repr

/-- Analogue input: a held sample, the conversion that waits for a slice and the one in progress on a
slice (R122), whether that one's result is discarded when it ends, the stamp of a waiting injection, the
filter, the AI_I sense path open, the last OVV, the instants and values of the last conversions, the last one
first (R155), the last DATA (R184). -/
structure ChAi where
  held : Bool
  req : Option ConvReq
  busy : Option ConvReq
  void : Bool
  inj : Option Word
  filt : Filt
  senseOpen : Bool
  ovv : Bool
  hist : List (Nat × Int)
  prev : Option (BitVec 24)
  deriving DecidableEq, Repr

/-- Analogue output (06 R189 to R199): CH_AO_STATE, its rail in mV and the instant of its last slot,
CH_AO_MEAS, the two blocking causes, the stage blocked by a guard OFF entry (R202), a re-test running, a
code held until VFx recovers, the output down below UVLO, and the settled codes, the last one
first, with the terminal voltage in mV and the current in µA measured at each (R193). -/
structure ChAo where
  code : BitVec 16
  rail : Nat
  railAt : Nat
  off : Bool
  settled : List (BitVec 16 × Int × Int)
  compl : Bool
  miswire : Bool
  therm : Bool
  retest : Bool
  inserted : BitVec 6
  readback : BitVec 16
  rloop : BitVec 16
  heldCode : Option (BitVec 16)
  down : Bool
  deriving DecidableEq, Repr

/-- HART (06 R206 to R211). -/
structure ChHart where
  txBusy : Bool
  carrier : Bool
  hclip : Bool
  last : BitVec 3
  rxCount : BitVec 8
  errCount : BitVec 8
  tx : List Byte
  phase : HartPhase
  winOpen : Bool
  closing : Bool
  rx : Option HartFrame
  deriving DecidableEq, Repr

/-- What the guard holds for a channel (08 R257 to R259): held, entry applied, frozen by a HOLD
order, tripped during the hold, switched off by a fall below UVLO during it, the instant T, and the held
command stored at T. -/
structure ChGuard where
  held : Bool
  uvlo : Bool
  t : Nat
  applied : Bool
  frozen : Bool
  tripped : Bool
  cmdOn : Bool
  cmdDuty : BitVec 14
  code : BitVec 16
  loopOn : Bool
  deriving DecidableEq, Repr

/-- A command pending at the field die for the next covering cell (07 R231): on or off with its
duty, an analogue code, its target, and whether SAFE_RELEASE restored it (08 R268). -/
structure PendCmd where
  on : Bool
  duty : BitVec 14
  code : BitVec 16
  restored : Bool
  deriving DecidableEq, Repr

/-- One channel. `window` is the word of its last result, none before the first (05 R180). -/
structure Channel where
  cfg : ChCfg
  actMode : ChMode
  cfgBusy : Bool
  inp : ChIn
  cnt : ChCnt
  mains : ChMains
  loop : ChLoop
  out : ChOut
  ai : ChAi
  ao : ChAo
  hart : ChHart
  guard : ChGuard
  pend : Option PendCmd
  fault : Word
  termv : BitVec 16
  tvValid : Bool
  noop : BitVec 16
  override : BitVec 16
  overridden : Bool
  window : Option Word
  lastEv93 : Option Nat
  deriving DecidableEq, Repr

/-! ### Groups -/

/-- A monitor conversion of a group (04 R128, R130): of a terminal (02 R47), or of the internal monitors. -/
inductive MonJob where
  | terminal (ch : Ch) (m : ChMeas)
  | internal (vf tdie : BitVec 16) (refUv : BitVec 24) (cj : BitVec 16)
  deriving DecidableEq, Repr

/-- Conversion engine of a group (04 R132 to R147). Coefficients are offset in 1/1000 LSB and gain
in parts per 10^9, and a linearity table, per slice (R128, R133). `working` counts the working conversions
of the turn, `calLeft` the conversions of the calibration source that slices in service have still to make after
a turn of fewer than 256 and `calBusy` the end of the one in progress (R128); `overlap` is the instant of a
rotation whose incoming slice has not left (R127), `monWait` the monitor conversions that wait for slice time
and `monBusy` the one in progress with its end (R130); `released` is the slice out of
service for calibration, until `winEnd` (R134), `calWait` the channels whose injections the present slice's
calibration waits for (R135), `injTimes` the instants of the injections begun in the last 100 µs (R160). -/
structure GrpConv where
  refSettled : Bool
  refFault : Bool
  fallback : Bool
  refSel : BitVec 2
  spare : BitVec 3
  inserv : BitVec 5
  faulty : BitVec 5
  calRo : Bool
  residual : BitVec 5
  turns : BitVec 16
  injLate : BitVec 16
  injDrop : BitVec 16
  lastEv86 : Option Nat
  calState : BitVec 2
  calOutcome : BitVec 2
  calDone : BitVec 5
  calRuns : BitVec 16
  calFault : Bool
  released : Option Slice
  winEnd : Nat
  calWait : Word
  working : Nat
  calLeft : Nat
  calBusy : Option Nat
  overlap : Option Nat
  monWait : List MonJob
  monBusy : Option (Nat × MonJob)
  injTimes : List Nat
  coefLin : Vector (List Int) 5
  coefOff : Vector Int 5
  coefGain : Vector Int 5
  cjValid : Bool
  cjt : BitVec 16
  overrun : BitVec 16
  deriving DecidableEq, Repr

/-- Supply and temperature of a group (13 R398, R357 VFUP; 03 R87, R114, R119).
`shedLevel` is the next priority to shed, `lastOn` the instant of the last switch-on (R119), `above` that VFx
is at or above 13.5 V (R98), `dark` that it has not come back there since it fell below UVLO (13 R396). -/
structure GrpSup where
  uvlo : Bool
  low : Bool
  warn : Bool
  high : Bool
  ready : Bool
  vfup : Bool
  vf : BitVec 16
  uvlos : BitVec 8
  lows : BitVec 8
  warns : BitVec 8
  tdie : BitVec 16
  meanOver : Bool
  recovering : Bool
  shedLevel : Option Nat
  lastOn : Option Nat
  above : Bool
  dark : Bool
  deriving DecidableEq, Repr

/-- An event raised on a field die while its link is silent (02 R61). -/
structure HeldEvent where
  source : Fin 128
  subject : BitVec 16
  code : BitVec 16
  nocomb : Bool
  stamp : Word
  p0 : Word
  p1 : Word
  p2 : Word
  deriving DecidableEq, Repr

/-- A COMB-class entry kept on a field die through field continuity (13 R419): the window word latched
with it, the lateness of its cell when it came late (05 R168), and a number, rising in time, that the
results of one cell share (R170). -/
structure DieEntry where
  entry : QEntry
  window : Word
  late : Option Nat
  cell : Nat
  deriving DecidableEq, Repr

/-- Field link of a group (01 R12, R14, R29; 07 R250; 13 R419): silent, the die's logic stopped, failed,
the error counter, the instants of recent errors, extrapolating and at what rate in units per second, the
events and COMB-class entries held, and the words of each partition discarded meanwhile. -/
structure GrpLink where
  silent : Bool
  stopped : Bool
  failed : Bool
  rate : Int
  errs : Word
  errTimes : List Nat
  extrap : Bool
  events : List HeldEvent
  entries : List DieEntry
  discPoll : Nat
  discStrm : Nat
  deriving DecidableEq, Repr

/-- Guard of a group (08 R256 to R266): holds channels, bad copy, the copy of the eight entries
(CH_SAFE, CH_SAFE_VAL), its generation, its part of F_OKn, whether its hold came from a stall, and
the silence limit the last order set (0 none: KEEP). -/
structure GrpGuard where
  held : Bool
  tbad : Bool
  copy : Vector (Word × Word) 8
  gen : BitVec 16
  fok : Bool
  stallHold : Bool
  limitMicros : Nat
  deriving DecidableEq, Repr

/-- A cell of a die's share that H has reached and that has not started (07 R217, R226): its extended
position, its index, its due instant in units of 50 ns, and whether H passed it in a jump (R249, R250). -/
structure DueCell where
  pos : Nat
  idx : Nat
  due : Nat
  passed : Bool
  deriving DecidableEq, Repr

/-- A claim that still runs (07 R222, R226): the unit, how much of it, and its end in field ticks. -/
structure Claim where
  unit : Nat
  qty : Nat
  fin : Nat
  deriving DecidableEq, Repr

/-- Comb position of a die (07 R217, R226, R250): extended position E and horizon H, the part of the next
unit that an extrapolation has run, the cells due, the start of the last cell in field ticks, and the
claims that run. -/
structure DiePos where
  e : Int
  h : Nat
  frac : Int
  due : List DueCell
  last : Option Nat
  occ : List Claim
  deriving DecidableEq, Repr

/-- A die's position before any comb (07 R217). -/
def DiePos.reset : DiePos where
  e := 0
  h := 0
  frac := 0
  due := []
  last := none
  occ := []

/-- One group. -/
structure Group where
  conv : GrpConv
  sup : GrpSup
  link : GrpLink
  guard : GrpGuard
  pos : DiePos
  deriving DecidableEq, Repr

/-! ### Comb -/

/-- The header of a comb image (07 R220). -/
structure CombHdr where
  ncells : Nat
  tb : BitVec 2
  signed : Bool
  live : Bool
  period : Nat
  prescale : Nat
  tbsrc : BitVec 8
  stallact : BitVec 8
  stallT : Nat
  jitter : Nat
  rateMax : Nat
  tbOffset : Nat
  sched : Word
  injres : List Nat
  budget : List (Nat × Nat × Nat × Nat)
  combId : Word
  keyid : BitVec 8
  digest : List Byte
  deriving DecidableEq, Repr

/-- A cell (07 R221, R222). -/
structure Cell where
  pos : Nat
  skip : Bool
  lead : BitVec 2
  action : BitVec 8
  group : BitVec 4
  mask : Word
  arg : Word
  qty : Nat
  scale : BitVec 2
  count : Nat
  deriving DecidableEq, Repr

/-- A comb image decoded. -/
structure Comb where
  hdr : CombHdr
  cells : List Cell
  deriving DecidableEq, Repr

/-- A cell whose results have not all arrived (05 R170): its number, its extended position and index, the
dies that it covers and that have not run it yet, its lateness, the channels still awaited, the entries
gathered. -/
structure CellJob where
  id : Nat
  pos : Nat
  idx : Nat
  dies : BitVec 4
  late : Option Nat
  wait : Word
  got : List (Nat × DieEntry)
  deriving DecidableEq, Repr

/-- The comb (07 R235 to R249, R242). `banks` are the images of bank 0 and 1, `active` the comb of
the active bank, `next` the verified comb of the inactive one, `store` the two halves of the comb
store and `mark` the half with the ACTIVE mark; `armed` is the armed exchange (some false: STOP),
`verdict` the outcome of a verification under way (status, REASON, INDEX). `wrapDue` tells that the
horizon has passed a period wrap since the exchange was armed (R240). `moves` are the latest counts of the time
base with their instants (COMB_RATE, R242), `tb3Base` what E exceeds floor(ST / PRESCALE) by on TB3 and `tb3Lag`
the part of an offset that a resumed TB3 has still to make up, in 1/1000 of a unit (R249), `subTicks`
the part of a unit that TB0 or an emulated position has run, `emul` the emulated E of FALLBACK (R248), `revd`
that reverse motion was declared in the present stall (R249), `lateSeen` the late cells counted that some die
has still to run, by extended position and index (R227). -/
structure CombState where
  bank0 : List Byte
  bank1 : List Byte
  actBank : Bool
  active : Option Comb
  next : Option Comb
  lstate : LState
  reason : BitVec 4
  index : BitVec 13
  rxLen : Nat
  persist : Bool
  store0 : Option (List Byte)
  store1 : Option (List Byte)
  mark : Option Bool
  armed : Option Bool
  wrapDue : Bool
  started : Bool
  firstRun : Bool
  cond : TbCond
  stallAt : Int
  safeHeld : Bool
  overspd : Bool
  late : BitVec 16
  skipped : BitVec 16
  stalls : BitVec 8
  reversals : BitVec 8
  applyConf : BitVec 16
  moves : List (Nat × Int)
  tb3Base : Int
  tb3Lag : Nat
  emul : Int
  revd : Bool
  fbper : Word
  cgen : BitVec 8
  subTicks : Nat
  lastEv89 : Option Nat
  lateSeen : List (Nat × Nat)
  jobs : List CellJob
  nextJob : Nat
  verdict : Option (Status × BitVec 4 × BitVec 13)
  deriving DecidableEq, Repr

/-! ### Results and capture -/

/-- The capture buffer (05 R182 to R185): its words, the words still to store, the CAPTRIG index. -/
structure Capture where
  cfg : Word
  mask : Word
  level : Word
  state : CapState
  wrapped : Bool
  words : List Word
  toGo : Nat
  tidx : BitVec 17
  tstamp : Word
  deriving DecidableEq, Repr

/-- The result queue and its objects (05 R171 to R178, R151). A partition is its entries, oldest
first, the words discarded since its last GAP, whether EV80 is armed, and the owner of its last
entry. -/
structure Partition where
  entries : List QEntry
  lost : BitVec 16
  gap : Nat
  wmArmed : Bool
  lastSrc : Addr
  deriving DecidableEq, Repr

/-- The results objects, the two partitions, the last frequency that a tracking notch followed, in
0.01 Hz (04 R155), and the capture buffer. -/
structure Results where
  cfg : Word
  routeLo : Word
  routeHi : Word
  stampSel : Word
  policy : Word
  wmPoll : Word
  wmStrm : Word
  poll : Partition
  strm : Partition
  bp : Bool
  bpCount : Word
  bpRun : Nat
  lastEv81 : Option Nat
  ovr : Word
  trackFreq : BitVec 16
  credit : BitVec 24
  cap : Capture
  deriving DecidableEq, Repr

/-! ### Events and recorder -/

/-- One event source (11 R359). -/
structure EvState where
  pending : Bool
  undel : Bool
  raises : BitVec 16
  subject : BitVec 16
  code : BitVec 16
  nocomb : Bool
  stamp : Word
  p0 : Word
  p1 : Word
  p2 : Word
  ord : Nat
  deriving DecidableEq, Repr

/-- The event controller (11 R358 to R360). -/
structure Events where
  src : Vector EvState 128
  en : BitVec 128
  clock : Nat
  seq : BitVec 8
  deriving DecidableEq, Repr

/-- An entry of the intake (09 R286, R291): a record without its INDEX. -/
structure Intake where
  opsec : Word
  pcycle : BitVec 24
  source : Byte
  code : BitVec 16
  subject : BitVec 16
  p0 : Word
  p1 : Word
  p2 : Word
  deriving DecidableEq, Repr

/-- An open merge window (09 R295). -/
structure MergeWin where
  source : Byte
  code : BitVec 16
  subject : BitVec 16
  count : Nat
  lastOpsec : Word
  opened : Nat
  deriving DecidableEq, Repr

/-- An entry of the clear history (09 R301). -/
structure ClearEntry where
  seq : Word
  opsec : Word
  pcycle : BitVec 24
  keyid : Byte
  cleared : Word
  prevBase : Word
  newBase : Word
  nonceLo : Word
  nonceHi : Word
  deriving DecidableEq, Repr

/-- A copy of the control block (09 R293): its generation, REC_BASE, the head hint, the clear state, and
whether its CRC verifies. -/
structure ControlCopy where
  gen : Nat
  base : Word
  hint : Nat
  clearSeq : Word
  clearKey : Byte
  refused : Word
  good : Bool
  deriving DecidableEq, Repr

/-- The event recorder (09 R286 to R305). `slots` holds the eight words of each slot that was written, in
slot order; `slot` is the next slot to try, `written` the slots written since the last clear, `sinceHint`
the records since the head hint, `ctl0` and `ctl1` the copies of the control block, `bad` and `faults` the
fault block as its vote gave it, `copies` its three copies, `challenge` the open clear challenge, issued at
`challengeAt`. -/
structure Recorder where
  slots : List (Nat × List Word)
  shadow : List (List Word)
  intake : List Intake
  merges : List MergeWin
  next : Word
  base : Word
  refused : Word
  lost : Word
  merged : Word
  clearSeq : Word
  clearKey : BitVec 8
  peer : Word
  peerRef : BitVec 16
  srcSel : BitVec 128
  full : Bool
  near : Bool
  failed : Bool
  slot : Nat
  written : Nat
  sinceHint : Nat
  ctl0 : ControlCopy
  ctl1 : ControlCopy
  bad : List Nat
  clears : List ClearEntry
  faults : List FaultEntry
  copies : Vector FaultBlock 3
  challenge : Option (List Word × Word)
  challengeAt : Nat
  dropped : Nat
  dropFirst : Word
  dropLast : Word
  lastEv108 : Option Nat
  stopped : Bool
  deriving DecidableEq, Repr

/-! ### Host port -/

/-- A response or window frame waiting to go (10 R318): its mailbox, SEQ, whether BULK, its words,
and the CRC word of the command that produced it; `counts` is false for the BUSY answer of R335. -/
structure Rsp where
  mb : BitVec 2
  seq : BitVec 8
  bulk : Bool
  words : List Word
  crc : Word
  counts : Bool
  deriving DecidableEq, Repr

/-- Who sent a command: the host port, or a node over the swarm (11 R346). -/
inductive Sender where
  | host
  | swarm (addr : Addr)
  deriving DecidableEq, Repr

/-- An outstanding command (11 R335): `crc` is the CRC word of its frame (R337), `key` names what it waits for,
`answered` that its response is
built, `bcast` that it came as a swarm broadcast, which is never answered (12 R379). -/
structure Outst where
  sender : Sender
  frame : Frame
  crc : Word
  opcode : Byte
  key : Nat
  answered : Bool
  bcast : Bool
  deriving DecidableEq, Repr

/-- A frame the module sends in the present exchange (10 R317 to R320): of a response, the segment that
begins at a word. -/
inductive TxItem where
  | report (flags : BitVec 7) (count : BitVec 16)
  | busy (micros : BitVec 16)
  | winrsp (seq : BitVec 8) (words : List Word)
  | rsp (r : Rsp) (first : Nat)
  | evt (seq : BitVec 8) (recs : List EvRecord)
  | strm (seq : BitVec 8) (entries : List QEntry)
  deriving DecidableEq, Repr

/-- A message of the host of which segments are held (10 R317). -/
structure HeldSeg where
  frame : Frame
  words : List Word
  deriving DecidableEq, Repr

/-- What a receive buffer holds that the control core has not taken (10 R322): a command by its OPCODE, or a
segment. -/
inductive RxFrame where
  | cmd (op : Byte) (c : Cmd)
  | seg (f : Frame) (words : List Word)
  deriving DecidableEq, Repr

/-- The counters of HP_STAT, HP_ERR0-2 and MB_CNT (10 R326, R327, 11 R355). -/
structure PortCounters where
  busyWords : BitVec 16
  crc : BitVec 16
  short : BitVec 16
  hdr : BitVec 16
  trail : BitVec 16
  busy : BitVec 16
  seg : BitVec 8
  selcol : BitVec 8
  wrongState : BitVec 16
  notNeg : BitVec 8
  dup : BitVec 8
  deriving DecidableEq, Repr

/-- The host port (10 R306 to R333, 11 R334 to R337): `csLow` are the selects that are low, CS0 in bit 0, `sel` the
one that is not ignored (CS1 when true), `busy` that a busy word is in force in the exchange, `rxWords` the words
of the frame that comes in, `trailed` that TRAIL was counted in the exchange, `bufs` the two receive buffers,
`lostMsgs` the discarded messages whose last segment has not come, `heardAt` when a host frame last served the
host-silence timer, `rckNext` the RCK_EN that the next select brings into force (R310), `tx` the module frames of
the exchange, `again` the report, EVT or STRM frames to send again and on which select, `rsp` the responses
waiting, `sent0` and `sent1` the words of the first response of a mailbox that are delivered, `kept0` and `kept1`
the kept responses, `sentAt` when one left last, `shadow` and `stShadow` the two-half shadows of R332 and R333. -/
structure HostPort where
  rckEn : Bool
  rckAct : Bool
  rckNext : Option Bool
  mode3 : Bool
  strap0 : BitVec 2
  strap1 : BitVec 2
  strapBad : Bool
  cnt : PortCounters
  repFlags : BitVec 7
  repCount : BitVec 16
  csLow : BitVec 2
  sel : Option Bool
  busy : Bool
  rx : RxState
  rxWords : List Word
  trailed : Bool
  bufs : List RxFrame
  lostMsgs : List Frame
  heardAt : Nat
  tx : List TxItem
  again : List (Bool × TxItem)
  strmSeq : BitVec 8
  rsp : List Rsp
  sent0 : Nat
  sent1 : Nat
  winRsp : Option (BitVec 8 × List Word)
  evtTurn : Bool
  outst : List Outst
  kept0 : List Rsp
  kept1 : Option Rsp
  segs : List HeldSeg
  sentAt : Nat
  shadow : Option Word
  lgen : BitVec 8
  stShadow : Option Word
  stLgen : BitVec 8
  stGen : BitVec 8
  deriving DecidableEq, Repr

/-! ### Safe state, watchdogs -/

/-- Watchdogs and task monitor (08 R274, R275, R279 to R281). `hsSet` and `wgSet`
are periods written and not yet in force (R284), with the service they still wait for; `svcOpsec` and `svcStamp` are
the latches of the last service of the core watchdog, `nmi` is the instant of
a core-watchdog expiry that the boot has not followed, `taskStart` where each task's present period began. -/
structure Watchdogs where
  hsPeriod : BitVec 20
  hsSet : Option (BitVec 20)
  hsExpiries : BitVec 8
  hsLast : Nat
  wgEn : Bool
  wgPeriod : BitVec 14
  wgSet : Option (BitVec 14)
  wgChal : Word
  wgCount : Word
  wgSecret : Word
  wgLastFail : BitVec 3
  wgFails : BitVec 8
  wgRefused : BitVec 8
  wgStart : Nat
  coreExpiries : BitVec 16
  corePeriod : BitVec 16
  evid0 : Word
  evid1 : Word
  evid2 : Word
  evidCause : BitVec 8
  evalid : Bool
  svcOpsec : Word
  svcStamp : Word
  nmi : Option Nat
  taskStrict : Bool
  taskEn : BitVec 16
  taskExtra : BitVec 16
  taskMiss : BitVec 16
  taskCfg : Vector (BitVec 16) 16
  checkins : Vector Nat 16
  taskStart : Vector Nat 16
  deriving DecidableEq, Repr

/-- SAFE_CFG, the cause and generation of SAFE_STAT, an internal fault since the reset (08 R272), and
whether SAFE_RELEASE waits for a WAGGLE (R267), and SAFE_STAT.SAFE, which a core-watchdog or activation
reset keeps (R266). -/
structure SafeState where
  cfg : Word
  safe : Bool
  cause : BitVec 4
  gen : BitVec 16
  intFault : Bool
  waggleOwed : Bool
  deriving DecidableEq, Repr

/-! ### Swarm -/

/-- A swarm port (12 R367, R371, R388): STATE, USE, ERRS, DELAY, the credit per class, frames
waiting for credit with the port in whose input buffer they stand (none: the module's own), instants of recent
discards, and the sequence of its last PD_REQ. -/
structure SwPort where
  state : BitVec 3
  use : BitVec 2
  errs : BitVec 8
  delay : BitVec 16
  credit : Vector Nat 4
  waiting : List (Option Port × SwFrame)
  errTimes : List Nat
  pdSeq : Byte
  deriving DecidableEq, Repr

/-- An ordered set or frame that a port has sent (12 R367, R368): the port's output. -/
inductive SwOut where
  | link (content : Byte)
  | credit (cls : SwClass) (blocks : Nat)
  | pdReq (seq : Byte)
  | pdRsp (seq : Byte) (turnaround : BitVec 24)
  | sync (time : BitVec 48)
  | frame (f : SwFrame)
  deriving DecidableEq, Repr

/-- A swarm message of which segments are held (12 R369). -/
structure SwSeg where
  port : Port
  cls : SwClass
  src : Addr
  tag : BitVec 8
  words : List Word
  opened : Nat
  deriving DecidableEq, Repr

/-- A link of the walk (12 R375): the node found and its port, the module and port it hangs from, its path
latency. -/
structure SwLink where
  node : Addr
  nodePort : Port
  parent : Addr
  port : Port
  lat : BitVec 17
  deriving DecidableEq, Repr

/-- A command answered once its frame has left (12 R379, R385): its key, the kind and TAG of the frame. -/
structure Leaving where
  key : Nat
  kind : BitVec 4
  tag : BitVec 8
  deriving DecidableEq, Repr

/-- The swarm link (12 R362 to R389). `slew` and `frac` are the offset still to slew and the phase of ST,
in 1/1000 of a unit of 50 ns, `lostAt` when SYNCED cleared last; `links`, `serials`, `ringEnds` and `broken` are what the root knows of the wiring: the
links of the walk, the modules it found, the ends of the ring's standby link, the one nearer the root first, the
ends reported down; `walk` are the ports that the walk has still to probe, the one probed now first, and `skip`
the ends of links recorded as closures (12 R375); `lostMsgs` are the messages a segment of which was discarded
and whose last has not come (R369), `foreign` the FOREIGN frames not answered with the instants of their sending
(09 R304); `offer` are
the event records sent to the root and not confirmed; `kept` are the kept responses to routed commands
(12 R378); `waits` are the routed commands in flight with the instants at which they time out (12 R379). -/
structure Swarm where
  syncEn : Bool
  healRo : Bool
  addrv : Bool
  addr : Addr
  ring : BitVec 2
  synced : Bool
  enumBusy : Bool
  nodes : BitVec 12
  hops : BitVec 12
  ports : Vector SwPort 3
  lat : BitVec 17
  budget : BitVec 17
  maxLat : BitVec 17
  refused : BitVec 16
  losses : BitVec 8
  lostAt : Nat
  offset : BitVec 24
  goodSyncs : Nat
  lastSync : Nat
  slew : Int
  frac : Int
  st : BitVec 64
  trigs : List Trigger
  missed : BitVec 16
  revq : List (Addr × EvRecord)
  holds : BitVec 8
  lastEv103 : Option Nat
  offer : List EvRecord
  routes : List (Addr × Port)
  links : List SwLink
  serials : List (Addr × Vector Word 4)
  walk : List (Addr × Port)
  skip : List (Addr × Port)
  ringEnds : Option ((Addr × Port) × (Addr × Port))
  broken : List (Addr × Port)
  leaving : List Leaving
  waits : List (BitVec 8 × Nat)
  rootFeatures : Word
  heartbeatDue : Bool
  lastHeartbeat : Option Nat
  segs : List SwSeg
  lostMsgs : List (SwClass × Addr × BitVec 8)
  foreign : List (BitVec 8 × Nat)
  out : List (Port × SwOut)
  syncPulses : Nat
  tag : BitVec 8
  kept : List (Addr × Rsp)
  deriving DecidableEq, Repr

/-! ### Power, security -/

/-- A copy of the power-cycle count in the ferroelectric memory, with its generation (13 R423). -/
structure CycleCopy where
  count : Word
  gen : Word
  good : Bool
  deriving DecidableEq, Repr

/-- Modes, power and counters (13 R402 to R424, 16 R481): `window` is the start of a continuity window, `cut`
the length of one that ended while the host die was down and that the boot reports, `expired` that FC_HOLD ended
it (13 R420), `opSlots` the eight slots of the operating seconds (R422), `halted` a debugger's halt (08 R283) and
`haltedAt` when it began. -/
structure Power where
  mode : Mode
  prev : Mode
  changes : BitVec 8
  cause : BitVec 8
  dstate : DState
  neg : Bool
  waking : Bool
  rtol : Word
  ctol : Word
  cfg : Word
  env : BitVec 16
  envShed : Bool
  envOver : Bool
  envLevel : Option Nat
  vhPresent : Bool
  vhWarn : Bool
  vflOk : Bool
  hholdOk : Bool
  xact : Bool
  htemp : BitVec 8
  pmod : BitVec 16
  opsec : Word
  opSlots : Vector (List Word) 8
  pcycle : Word
  cycle0 : CycleCopy
  cycle1 : CycleCopy
  last : BitVec 8
  hrst : BitVec 8
  act : BitVec 8
  resetSrc : Option ResetSrc
  hrstLow : Bool
  window : Option Nat
  cut : Option Word
  expired : Bool
  stored : Option (Vector ChCfg 32)
  strap0Stored : BitVec 2
  strap1Stored : BitVec 2
  halted : Bool
  haltedAt : Nat
  deriving DecidableEq, Repr

/-- A firmware slot (14 R435, R440, R451): state, image bytes, the length of the transfer, VERSION
and SVN of a VALID image, and the downgrade grant (digest, COUNTER). -/
structure Slot where
  state : SlotState
  image : List Byte
  len : Nat
  version : Word
  svn : BitVec 8
  grant : Option (List Byte × BitVec 7)
  deriving DecidableEq, Repr

/-- An owner key (14 R429). -/
structure Owner where
  key : List Byte
  perm : BitVec 4
  deriving DecidableEq, Repr

/-- Identity, update, attestation and debug (14 R426 to R451, 11 R353). -/
structure Security where
  serial : Vector Word 4
  offer : Word
  acc : Word
  fwver : Word
  runB : Bool
  activeB : Bool
  slotA : Slot
  slotB : Slot
  trial : Bool
  tried : Bool
  rxBytes : BitVec 20
  activating : Bool
  counter : BitVec 7
  owners : Vector (Option Owner) 4
  provLock : Bool
  authFail : BitVec 8
  consec : Nat
  lockout : Bool
  lockedAt : Word
  chalDebug : Option (List Word)
  chalProv : Option (List Word)
  debugAt : Nat
  provAt : Nat
  dbgOpen : Bool
  dbgEver : Bool
  dbgOpens : BitVec 8
  recovery : Bool
  certGen : BitVec 8
  idPub : List Byte
  cert : Option (List Byte)
  attest : Option (List Byte)
  attestReady : Bool
  pendingEvents : List (Fin 128 × BitVec 16 × BitVec 16)
  deriving DecidableEq, Repr

/-- The TAP (14 R450): the instruction, the captured lands, the preloaded values, and whether it drives
or floats the lands. -/
structure Tap where
  instr : TapInstr
  bsr : BitVec 65
  preload : BitVec 65
  drives : Bool
  floats : Bool
  deriving DecidableEq, Repr

/-! ### The state -/

/-- The whole block. `time` counts units of 50 ns; `free` counts the free values taken (the model's
own field); `pending` is the queue of waiting commands, first in first out. -/
structure State where
  time : Nat
  free : Nat
  ch : Vector Channel 32
  grp : Vector Group 4
  comb : CombState
  res : Results
  ev : Events
  rcd : Recorder
  port : HostPort
  wd : Watchdogs
  safe : SafeState
  sw : Swarm
  pw : Power
  sec : Security
  tap : Tap
  pending : List Instr
  deriving DecidableEq, Repr

/-- The reasons a command could stop the machine. No meaning raises one: the manual gives every row
of the table an effect (the inventory's '## Faults'). A safe reason if it were raised. -/
inductive Fault where
  | none
  deriving DecidableEq, Repr

/-- The refusals. `notModelled` stands for a row that has no meaning yet; no row is in that case.
Refusing is safe. -/
inductive Refusal where
  | notModelled (mnemonic : String)
  deriving DecidableEq, Repr

/-! ### Reset -/

/-- Configuration of a channel at reset (the Reset columns of 02, 03, 04, 06, 08). -/
def ChCfg.reset : ChCfg where
  mode := .off
  pairFn := .none
  loopMate := 0
  inCfg := 0x0200000A#32
  inThr := 0x00960032#32
  cntCfg := 0x00600128#32
  holdT := 0x14
  outCfg := 0x085190F0#32
  outLim := 0x06400032#32
  outDiag := 0x0114640A#32
  outPol := 0x203190E0#32
  driftPct := 10
  aiCfg := 0
  aiFilt := 1
  aiTrig := 0
  aiTime := 0x3E8
  hart := 0x00280000#32
  safe := 0
  safeVal := 0

def ChIn.reset : ChIn where
  raw := false
  deb := false
  state := false
  valid := false
  lastValid := none
  brk := false
  short := false
  inClass := false
  run := none
  shorts := []
  cosCount := 0
  cosStamp := 0

def ChCnt.reset : ChCnt where
  val := 0
  freq := 0
  per := 0
  edges := 0
  lastIdx := none
  gateVal := 0

def ChMains.reset : ChMains where
  lock := false
  holdover := false
  phase := 0
  acc := 0
  freq := 0
  vrms := 0

def ChLoop.reset : ChLoop where
  on := false
  limit := false
  ovlOff := false
  want := false
  iloop := 0

def ChOut.reset : ChOut where
  ps := .off
  cmdOn := false
  hostOn := false
  polOn := false
  own := 0
  cmdDuty := 0
  duty := 0
  partner := 0
  retryUsed := 0
  defer := 0
  due := 0
  iload := 0
  tj := 0
  dtc := 0
  cool := true
  inrMa := 0
  frozen := false
  pulse := none
  diag := false
  olCond := false
  lowOff := false
  cpSat := false
  shedDie := false
  shedEnv := false
  heldRetry := false
  turn := false
  learned := false
  drift := 0
  base := 0

def Filt.reset : Filt where
  n := 0
  outs := 0
  i1 := 0
  i2 := 0
  i3 := 0
  c1 := 0
  c2 := 0
  c3 := 0
  ovr := none
  ovv := none

def ChAi.reset : ChAi where
  held := false
  req := none
  busy := none
  void := false
  inj := none
  filt := .reset
  senseOpen := false
  ovv := false
  hist := []
  prev := none

def ChAo.reset : ChAo where
  code := 0
  rail := 0
  railAt := 0
  off := false
  settled := []
  compl := false
  miswire := false
  therm := false
  retest := false
  inserted := 0
  readback := 0
  rloop := 0xFFFF
  heldCode := none
  down := false

def ChHart.reset : ChHart where
  txBusy := false
  carrier := false
  hclip := false
  last := 0
  rxCount := 0
  errCount := 0
  tx := []
  phase := .idle
  winOpen := false
  closing := false
  rx := none

def ChGuard.reset : ChGuard where
  held := false
  uvlo := false
  t := 0
  applied := false
  frozen := false
  tripped := false
  cmdOn := false
  cmdDuty := 0
  code := 0
  loopOn := false

/-- A channel at reset: mode OFF, every object at its reset value, no result yet for the window
word (05 R180). -/
def Channel.reset : Channel where
  cfg := .reset
  actMode := .off
  cfgBusy := false
  inp := .reset
  cnt := .reset
  mains := .reset
  loop := .reset
  out := .reset
  ai := .reset
  ao := .reset
  hart := .reset
  guard := .reset
  pend := none
  fault := 0
  termv := 0
  tvValid := false
  noop := 0
  override := 0
  overridden := false
  window := none
  lastEv93 := none

def GrpConv.reset : GrpConv where
  refSettled := false
  refFault := false
  fallback := false
  refSel := 0
  spare := 0
  inserv := 0b11110
  faulty := 0
  calRo := false
  residual := 0
  turns := 0
  injLate := 0
  injDrop := 0
  lastEv86 := none
  calState := 0
  calOutcome := 0
  calDone := 0
  calRuns := 0
  calFault := false
  released := none
  winEnd := 0
  calWait := 0
  working := 0
  calLeft := 0
  calBusy := none
  overlap := none
  monWait := []
  monBusy := none
  injTimes := []
  coefLin := Vector.replicate 5 []
  coefOff := Vector.replicate 5 0
  coefGain := Vector.replicate 5 0
  cjValid := false
  cjt := 0
  overrun := 0

def GrpSup.reset : GrpSup where
  uvlo := false
  low := false
  warn := false
  high := false
  ready := false
  vfup := false
  vf := 0
  uvlos := 0
  lows := 0
  warns := 0
  tdie := 0
  meanOver := false
  recovering := false
  shedLevel := none
  lastOn := none
  above := false
  dark := false

def GrpLink.reset : GrpLink where
  silent := false
  stopped := false
  failed := false
  rate := 0
  errs := 0
  errTimes := []
  extrap := false
  events := []
  entries := []
  discPoll := 0
  discStrm := 0

def GrpGuard.reset : GrpGuard where
  held := false
  tbad := false
  copy := Vector.replicate 8 (0, 0)
  gen := 0
  fok := false
  stallHold := false
  limitMicros := 50

def Group.reset : Group where
  conv := .reset
  sup := .reset
  link := .reset
  guard := .reset
  pos := .reset

def CombState.reset : CombState where
  bank0 := []
  bank1 := []
  actBank := false
  active := none
  next := none
  lstate := .empty
  reason := 0
  index := 0
  rxLen := 0
  persist := false
  store0 := none
  store1 := none
  mark := none
  armed := none
  wrapDue := false
  started := false
  firstRun := true
  cond := .normal
  stallAt := 0
  safeHeld := false
  overspd := false
  late := 0
  skipped := 0
  stalls := 0
  reversals := 0
  applyConf := 0
  moves := []
  tb3Base := 0
  tb3Lag := 0
  emul := 0
  revd := false
  fbper := 0xFFFFFFFF#32
  cgen := 0
  subTicks := 0
  lastEv89 := none
  lateSeen := []
  jobs := []
  nextJob := 0
  verdict := none

def Capture.reset : Capture where
  cfg := 0x1FF
  mask := 0
  level := 0
  state := .idle
  wrapped := false
  words := []
  toGo := 0
  tidx := 0
  tstamp := 0

def Partition.reset : Partition where
  entries := []
  lost := 0
  gap := 0
  wmArmed := true
  lastSrc := 0

def Results.reset : Results where
  cfg := 0x00080000#32
  routeLo := 0
  routeHi := 0
  stampSel := 0
  policy := 0
  wmPoll := 0x06000200#32
  wmStrm := 0x06000200#32
  poll := .reset
  strm := .reset
  bp := false
  bpCount := 0
  bpRun := 0
  lastEv81 := none
  ovr := 0
  trackFreq := 5000
  credit := 0
  cap := .reset

def EvState.reset : EvState where
  pending := false
  undel := false
  raises := 0
  subject := 0
  code := 0
  nocomb := false
  stamp := 0
  p0 := 0
  p1 := 0
  p2 := 0
  ord := 0

/-- The offered features of a standalone module (11 R349): all but feature 4. -/
def featOfferReset : Word := 0x0000FFEF#32

/-- ID_FWVER of the shipped image, 1.0.0 in slot A (log entry 1). -/
def fwverReset : Word := 0x01000000#32

/-- The event controller at reset: EV126 alone enabled and pending (11 R360, R348). -/
def Events.reset : Events where
  src := (Vector.replicate 128 EvState.reset).set 126
    { EvState.reset with
      pending := true, undel := true, raises := 1, code := 1, nocomb := true,
      p0 := featOfferReset, p1 := fwverReset }
  en := 1#128 <<< 126
  clock := 1
  seq := 0

/-- A control block that was never written (log entry 113). -/
def ControlCopy.reset : ControlCopy where
  gen := 0
  base := 0
  hint := 0
  clearSeq := 0
  clearKey := 0xFF
  refused := 0
  good := true

def Recorder.reset : Recorder where
  slots := []
  shadow := []
  intake := []
  merges := []
  next := 0
  base := 0
  refused := 0
  lost := 0
  merged := 0
  clearSeq := 0
  clearKey := 0xFF
  peer := 0
  peerRef := 0
  srcSel := BitVec.allOnes 128
  full := false
  near := false
  failed := false
  slot := 0
  written := 0
  sinceHint := 0
  ctl0 := .reset
  ctl1 := .reset
  bad := []
  clears := []
  faults := []
  copies := Vector.replicate 3 { bad := [], faults := [] }
  challenge := none
  challengeAt := 0
  dropped := 0
  dropFirst := 0
  dropLast := 0
  lastEv108 := none
  stopped := false

def HostPort.reset : HostPort where
  rckEn := false
  rckAct := false
  rckNext := none
  mode3 := false
  strap0 := 0
  strap1 := 0
  strapBad := false
  cnt := { busyWords := 0, crc := 0, short := 0, hdr := 0, trail := 0, busy := 0, seg := 0,
           selcol := 0, wrongState := 0, notNeg := 0, dup := 0 }
  repFlags := 0
  repCount := 0
  csLow := 0
  sel := none
  busy := false
  rx := .idle
  rxWords := []
  trailed := false
  bufs := []
  lostMsgs := []
  heardAt := 0
  tx := []
  again := []
  strmSeq := 0
  rsp := []
  sent0 := 0
  sent1 := 0
  winRsp := none
  evtTurn := false
  outst := []
  kept0 := []
  kept1 := none
  segs := []
  sentAt := 0
  shadow := none
  lgen := 0
  stShadow := none
  stLgen := 0
  stGen := 0

def Watchdogs.reset : Watchdogs where
  hsPeriod := 0x02710
  hsSet := none
  hsExpiries := 0
  hsLast := 0
  wgEn := false
  wgPeriod := 0x3E8
  wgSet := none
  wgChal := 0
  wgCount := 0
  wgSecret := 0
  wgLastFail := 0
  wgFails := 0
  wgRefused := 0
  wgStart := 0
  coreExpiries := 0
  corePeriod := 0x000A
  evid0 := 0
  evid1 := 0
  evid2 := 0
  evidCause := 0
  evalid := false
  svcOpsec := 0
  svcStamp := 0
  nmi := none
  taskStrict := false
  taskEn := 0
  taskExtra := 0
  taskMiss := 0
  taskCfg := Vector.replicate 16 0x3E8
  checkins := Vector.replicate 16 0
  taskStart := Vector.replicate 16 0

def SafeState.reset : SafeState where
  cfg := 0xE0000000#32
  safe := false
  cause := 0
  gen := 0
  intFault := false
  waggleOwed := false

def SwPort.reset : SwPort where
  state := 0
  use := 0
  errs := 0
  delay := 0
  credit := Vector.replicate 4 0
  waiting := []
  errTimes := []
  pdSeq := 0

def Swarm.reset : Swarm where
  syncEn := false
  healRo := false
  addrv := false
  addr := 0
  ring := 0
  synced := false
  enumBusy := false
  nodes := 0
  hops := 0
  ports := Vector.replicate 3 .reset
  lat := 0
  budget := 0
  maxLat := 0
  refused := 0
  losses := 0
  lostAt := 0
  offset := 0
  goodSyncs := 0
  lastSync := 0
  slew := 0
  frac := 0
  st := 0
  trigs := []
  missed := 0
  revq := []
  holds := 0
  lastEv103 := none
  offer := []
  routes := []
  links := []
  serials := []
  walk := []
  skip := []
  ringEnds := none
  broken := []
  leaving := []
  waits := []
  rootFeatures := 0
  heartbeatDue := false
  lastHeartbeat := none
  segs := []
  lostMsgs := []
  foreign := []
  out := []
  syncPulses := 0
  tag := 0
  kept := []

/-- Power at reset: STANDBY entered from BOOT (11 R354, 13 R424); kept values as shipped
(log entry 1). -/
def Power.reset : Power where
  mode := .standby
  prev := .boot
  changes := 0
  cause := 0
  dstate := .d0
  neg := false
  waking := false
  rtol := 0
  ctol := 0
  cfg := 0x64
  env := 0x2328
  envShed := false
  envOver := false
  envLevel := none
  vhPresent := true
  vhWarn := false
  vflOk := false
  hholdOk := false
  xact := false
  htemp := 0
  pmod := 0
  opsec := 0
  opSlots := (Vector.replicate 8 (List.replicate 4 0xFFFFFFFF#32)).set 0 (opSlot 0)
  pcycle := 0
  cycle0 := { count := 0, gen := 0, good := true }
  cycle1 := { count := 0, gen := 0, good := false }
  last := 1
  hrst := 0
  act := 0
  resetSrc := none
  hrstLow := false
  window := none
  cut := none
  expired := false
  stored := none
  strap0Stored := 0
  strap1Stored := 0
  halted := false
  haltedAt := 0

/-- Security at reset: the shipped image VALID in slot A, slot B EMPTY, no owner keys
(log entry 1). -/
def Security.reset : Security where
  serial := Vector.replicate 4 0
  offer := featOfferReset
  acc := 0
  fwver := fwverReset
  runB := false
  activeB := false
  slotA := { state := .valid, image := [], len := 0, version := fwverReset, svn := 0, grant := none }
  slotB := { state := .empty, image := [], len := 0, version := 0, svn := 0, grant := none }
  trial := false
  tried := false
  rxBytes := 0
  activating := false
  counter := 0
  owners := Vector.replicate 4 none
  provLock := false
  authFail := 0
  consec := 0
  lockout := false
  lockedAt := 0
  chalDebug := none
  chalProv := none
  debugAt := 0
  provAt := 0
  dbgOpen := false
  dbgEver := false
  dbgOpens := 0
  recovery := false
  certGen := 0
  idPub := []
  cert := none
  attest := none
  attestReady := false
  pendingEvents := []

def Tap.reset : Tap where
  instr := .bypass
  bsr := 0
  preload := 0
  drives := false
  floats := false

/-- The machine right after reset: every object at the value of its Reset column, nothing
waiting. -/
def State.reset : State where
  time := 0
  free := 0
  ch := Vector.replicate 32 .reset
  grp := Vector.replicate 4 .reset
  comb := .reset
  res := .reset
  ev := .reset
  rcd := .reset
  port := .reset
  wd := .reset
  safe := .reset
  sw := .reset
  pw := .reset
  sec := .reset
  tap := .reset
  pending := []

end Sys2Proof.Machine
end

