-- ==== Sys2Proof/Machine/Words.lean ====
section
/-! DEFINITION. Channels, groups and pairs of the state, and the words that the channel, group,
comb, safe-state, recorder and mode objects read. -/

namespace Sys2Proof.Machine

/-- What a command answers. -/
abbrev Out := Host.Outcome State Fault Refusal

/-! ### Names and numbers -/

def allCh : List Ch :=
  [0, 1, 2, 3, 4, 5, 6, 7, 8, 9, 10, 11, 12, 13, 14, 15] ++
  [16, 17, 18, 19, 20, 21, 22, 23, 24, 25, 26, 27, 28, 29, 30, 31]

def allGrp : List Grp := [0, 1, 2, 3]

def allSlices : List Slice := [0, 1, 2, 3, 4]

def allPorts : List Port := [0, 1, 2]

/-- The group of a channel: G0 serves CH00-CH07, and so on (01). -/
def grpOf (n : Ch) : Grp := ⟨n.val / 8, by have := n.isLt; omega⟩

/-- The channels of a group. -/
def chOf (g : Grp) : List Ch := allCh.filter (fun n => grpOf n = g)

/-- The even channel of the even/odd pair of n (02 R42). -/
def evenOf (n : Ch) : Ch := ⟨n.val - n.val % 2, by have := n.isLt; omega⟩

/-- The other channel of the even/odd pair of n. -/
def mateOf (n : Ch) : Ch :=
  if h : n.val % 2 = 0 then ⟨n.val + 1, by have := n.isLt; omega⟩
  else ⟨n.val - 1, by have := n.isLt; omega⟩

/-- The channel or group of a number known to be small. -/
def chNo (k : Nat) : Ch := ⟨k % 32, Nat.mod_lt _ (by decide)⟩

def grpNo (k : Nat) : Grp := ⟨k % 4, Nat.mod_lt _ (by decide)⟩

def srcNo (k : Nat) : Fin 128 := ⟨k % 128, Nat.mod_lt _ (by decide)⟩

/-- The mode codes of R32. -/
def ChMode.code : ChMode → Nat
  | .off => 0 | .di => 1 | .diNamur => 2 | .count => 3 | .doHs => 4 | .doPp => 5 | .aiV => 6
  | .aiI => 7 | .aiRes => 8 | .aiTc => 9 | .aoISrc => 10 | .aoISnk => 11 | .aoV => 12
  | .loopPwr => 13 | .mainsSense => 14

def ChMode.ofCode : Nat → Option ChMode
  | 0 => some .off | 1 => some .di | 2 => some .diNamur | 3 => some .count | 4 => some .doHs
  | 5 => some .doPp | 6 => some .aiV | 7 => some .aiI | 8 => some .aiRes | 9 => some .aiTc
  | 10 => some .aoISrc | 11 => some .aoISnk | 12 => some .aoV | 13 => some .loopPwr
  | 14 => some .mainsSense | _ => none

/-- The codes of PAIRFN (02 R34). -/
def PairFn.code : PairFn → Nat
  | .none => 0 | .quad => 1 | .rtd3 => 2 | .rtd4 => 3 | .diff => 4 | .parallel => 5

def PairFn.ofCode : Nat → Option PairFn
  | 0 => some .none | 1 => some .quad | 2 => some .rtd3 | 3 => some .rtd4 | 4 => some .diff
  | 5 => some .parallel | _ => Option.none

/-- The state codes of R98. -/
def PState.code : PState → Nat
  | .off => 0 | .inrush => 1 | .on => 2 | .limit => 3 | .tripWait => 4 | .lockedOff => 5
  | .pend => 6 | .uvloOff => 7 | .shed => 8 | .guard => 9 | .failed => 10

/-- The mode codes of R340. -/
def Mode.code : Mode → Nat
  | .reset => 0 | .boot => 1 | .standby => 2 | .run => 3 | .doze => 4 | .safe => 5
  | .service => 6 | .keep => 7

def DState.code : DState → Nat
  | .d0 => 0 | .d1 => 1 | .d2 => 2 | .d3 => 3

/-- The status codes of R341. -/
def Status.code : Status → Nat
  | .ok => 0 | .busy => 1 | .badCrc => 2 | .badLength => 3 | .unknownOpcode => 4 | .wrongState => 5
  | .notNegotiated => 6 | .denied => 7 | .range => 8 | .conflict => 9 | .nvmFault => 10
  | .timeout => 11 | .late => 12

def LState.code : LState → Nat
  | .empty => 0 | .receiving => 1 | .verifying => 2 | .valid => 3 | .rejected => 4

def TbCond.code : TbCond → Nat
  | .normal => 0 | .stalled => 1 | .fallback => 2 | .reversed => 3

def SlotState.code : SlotState → Nat
  | .empty => 0 | .receiving => 1 | .verifying => 2 | .valid => 3 | .invalid => 4

def CapState.code : CapState → Nat
  | .idle => 0 | .armed => 1 | .triggered => 2 | .done => 3

/-- The codes of PWR_RESET.LAST (13 R406). -/
def ResetSrc.code : ResetSrc → Nat
  | .powerOn => 1 | .hRstn => 2 | .coreWd => 3 | .activation => 4

/-! ### Classes of modes -/

/-- DO_HS and DO_PP. -/
def ChMode.isSwitch : ChMode → Bool
  | .doHs | .doPp => true
  | _ => false

/-- The analogue input modes. -/
def ChMode.isAi : ChMode → Bool
  | .aiV | .aiI | .aiRes | .aiTc => true
  | _ => false

/-- The analogue output modes. -/
def ChMode.isAo : ChMode → Bool
  | .aoISrc | .aoISnk | .aoV => true
  | _ => false

/-- The analogue modes of R166. -/
def ChMode.isAnalogue (m : ChMode) : Bool := m.isAi || m.isAo

/-- The non-analogue modes of R166. -/
def ChMode.isNonAnalogue : ChMode → Bool
  | .di | .diNamur | .count | .doHs | .doPp | .loopPwr | .mainsSense => true
  | _ => false

/-- DI, DI_NAMUR and COUNT. -/
def ChMode.isDigital : ChMode → Bool
  | .di | .diNamur | .count => true
  | _ => false

/-- The modes that the guard takes (08 R257): an output mode or LOOP_PWR. -/
def ChMode.isGuarded (m : ChMode) : Bool := m.isSwitch || m.isAo || m == .loopPwr

/-- The on-states of R98. -/
def PState.isOn : PState → Bool
  | .inrush | .on | .limit => true
  | _ => false

/-! ### Access -/

def State.chan (s : State) (n : Ch) : Channel := s.ch[n.val]

def State.setCh (s : State) (n : Ch) (c : Channel) : State := { s with ch := s.ch.set n.val c }

def State.modCh (s : State) (n : Ch) (f : Channel → Channel) : State := s.setCh n (f (s.chan n))

def State.group (s : State) (g : Grp) : Group := s.grp[g.val]

def State.setGrp (s : State) (g : Grp) (x : Group) : State := { s with grp := s.grp.set g.val x }

def State.modGrp (s : State) (g : Grp) (f : Group → Group) : State := s.setGrp g (f (s.group g))

def State.modOut (s : State) (n : Ch) (f : ChOut → ChOut) : State :=
  s.modCh n fun c => { c with out := f c.out }

def State.modIn (s : State) (n : Ch) (f : ChIn → ChIn) : State :=
  s.modCh n fun c => { c with inp := f c.inp }

def State.modAi (s : State) (n : Ch) (f : ChAi → ChAi) : State :=
  s.modCh n fun c => { c with ai := f c.ai }

def State.modAo (s : State) (n : Ch) (f : ChAo → ChAo) : State :=
  s.modCh n fun c => { c with ao := f c.ao }

def State.modHart (s : State) (n : Ch) (f : ChHart → ChHart) : State :=
  s.modCh n fun c => { c with hart := f c.hart }

def State.modGuard (s : State) (n : Ch) (f : ChGuard → ChGuard) : State :=
  s.modCh n fun c => { c with guard := f c.guard }

def State.modSup (s : State) (g : Grp) (f : GrpSup → GrpSup) : State :=
  s.modGrp g fun x => { x with sup := f x.sup }

def State.modLink (s : State) (g : Grp) (f : GrpLink → GrpLink) : State :=
  s.modGrp g fun x => { x with link := f x.link }

def State.modConv (s : State) (g : Grp) (f : GrpConv → GrpConv) : State :=
  s.modGrp g fun x => { x with conv := f x.conv }

/-- Do f for each of a list, in order. -/
def State.each {α : Type} (s : State) (l : List α) (f : State → α → State) : State := l.foldl f s

/-! ### Channels, pairs and groups -/

/-- The pair function in force on the pair of n (02 R42, R43). -/
def State.pairOf (s : State) (n : Ch) : PairFn := (s.chan (evenOf n)).cfg.pairFn

/-- Whether n is the odd member of a declared pair. -/
def State.isOdd (s : State) (n : Ch) : Bool := n.val % 2 == 1 && s.pairOf n != .none

/-- The channel that carries the configuration, results and events of n (02 R43). -/
def State.leadOf (s : State) (n : Ch) : Ch := if s.isOdd n then evenOf n else n

/-- The configuration words that n reads (02 R43). -/
def State.cfgOf (s : State) (n : Ch) : ChCfg := (s.chan (s.leadOf n)).cfg

/-- The mode in force of n. -/
def State.modeOf (s : State) (n : Ch) : ChMode := (s.chan n).actMode

/-- Whether the field die of n has failed (01 R29). -/
def State.failedCh (s : State) (n : Ch) : Bool := (s.group (grpOf n)).link.failed

/-- Whether the active comb schedules n (07 R230). -/
def State.scheduled (s : State) (n : Ch) : Bool :=
  match s.comb.active with
  | some c => bit c.hdr.sched n.val
  | none => false

/-- Whether an armed exchange brings in a comb that schedules n (02 R39, 07 R241). -/
def State.armedSchedules (s : State) (n : Ch) : Bool :=
  match s.comb.armed, s.comb.next with
  | some true, some c => bit c.hdr.sched n.val
  | _, _ => false

/-- The comb runs in these modes, and during field continuity (07 R243). -/
def State.combMode (s : State) : Bool :=
  s.pw.window.isSome ||
  match s.pw.mode with
  | .run | .doze | .safe | .keep => true
  | _ => false

/-- A comb is active and started. -/
def State.combLive (s : State) : Bool := s.comb.active.isSome && s.comb.started && s.combMode

/-- Cells run: the comb runs and its time base is not stalled or reversed (R217, R247, R248). -/
def State.cellsRun (s : State) : Bool :=
  s.combLive && (s.comb.cond == .normal || s.comb.cond == .fallback)

/-- Scheduled now: the comb that schedules the channel runs; every channel is free in STANDBY and
SERVICE (13 R401). -/
def State.schedNow (s : State) (n : Ch) : Bool := s.scheduled n && s.combMode

/-- Whether a field die works: ready, not failed, its logic running (13 R397, 01 R28, R29). -/
def State.dieUp (s : State) (g : Grp) : Bool :=
  let x := s.group g
  x.sup.ready && !x.link.failed && !x.link.stopped

/-- The protection state as R98 and R99 show it: FAILED and LOCKED_OFF stand above GUARD (08 R257), and
so does the UVLO_OFF that a fall below UVLO during the hold brings (08 R259). -/
def State.pstateOf (s : State) (n : Ch) : PState :=
  let c := s.chan n
  if s.failedCh n then .failed
  else if c.out.ps == .lockedOff then .lockedOff
  else if c.guard.held then
    if c.guard.uvlo && c.out.ps == .uvloOff then .uvloOff else .guard
  else c.out.ps

/-- A blocked analogue output stage (06 R197, R198). -/
def ChAo.blocked (a : ChAo) : Bool := a.miswire || a.therm

/-- Protected for R15 and R233: in TRIP_WAIT, LOCKED_OFF, UVLO_OFF, PEND or SHED, or with a blocked
analogue output stage. -/
def State.protected (s : State) (n : Ch) : Bool :=
  match s.pstateOf n with
  | .tripWait | .lockedOff | .uvloOff | .pend | .shed => true
  | _ => (s.chan n).ao.blocked

/-- The host die runs its firmware: not in reset, not unpowered, and past the reset of an activation
under field continuity (13 R402, R418). -/
def State.hostUp (s : State) : Bool :=
  s.pw.resetSrc.isNone && s.pw.mode != .reset && s.pw.mode != .keep

/-- Whether a source resets the whole host die with the swarm ports (13 R406): power-on and H_RSTn. -/
def ResetSrc.isFull : ResetSrc → Bool
  | .powerOn | .hRstn => true
  | _ => false

/-- Whether H_SDO, H_RCK, H_SYNC, H_TDO and the swarm transmit pairs are high-impedance and H_IRQn is released
(08 R270): while VH is absent, and during power-on reset and H_RSTn. -/
def State.landsFloat (s : State) : Bool :=
  s.pw.mode == .keep || !s.pw.vhPresent ||
  (s.pw.mode == .reset && match s.pw.resetSrc with
    | some src => src.isFull
    | none => true)

/-- The host port is in service: the host die is up and past its boot (10 R322, 13 R409). -/
def State.portOpen (s : State) : Bool := s.hostUp && s.pw.mode != .boot

/-- Whether H_SDO is driven (10 R306, R322). -/
def State.sdoDriven (s : State) : Bool := s.port.csLow != 0 && s.portOpen

/-- Whether H_RCK is driven (10 R306, R310). -/
def State.rckDriven (s : State) : Bool := s.sdoDriven && s.port.rckAct

/-- Whether H_SYNC is driven (12 R387). -/
def State.syncDriven (s : State) : Bool := s.sw.syncEn && !s.landsFloat

/-- Whether feature k is accepted (11 R348, R349). -/
def State.feat (s : State) (k : Nat) : Bool := bit s.sec.acc k

/-- The counting objects of a newly configured channel (02 R66, R70): CH_CNT_PER reads 0xFFFF_FFFF in
SINGLE until its first full period. -/
def freshCnt (m : ChMode) (cntCfg : Word) : ChCnt :=
  { ChCnt.reset with per := if m == .count && fld cntCfg 27 24 == 0 then 0xFFFFFFFF#32 else 0 }

/-! ### Stamps -/

/-- The group whose horizon the windows report: the lowest-numbered that has not failed (07 R218). -/
def State.posGrp (s : State) : Grp :=
  match allGrp.find? (fun g => !(s.group g).link.failed) with
  | some g => g
  | none => 0

/-- The horizon reported (07 R217). -/
def State.horizon (s : State) : Nat := (s.group s.posGrp).pos.h

/-- A stamp word from a horizon and a period (02 R59). -/
def stampOf (h period : Nat) : Word := pk [(h / period % 256, 24), (h % period % 2 ^ 24, 0)]

/-- The stamp of this instant (02 R59, R60): comb position, or TB0 units of 50 ns with no comb. DESIGN CHOICE
(log entry 116): where the horizons of the dies differ, every stamp takes the one that COMB_POS reports. -/
def State.stampNow (s : State) : Word :=
  match s.comb.active with
  | some c => stampOf s.horizon c.hdr.period
  | none => BitVec.ofNat 32 s.time

/-- The period count, 32 bits (07 R217, R218). -/
def State.pcount (s : State) : Word :=
  match s.comb.active with
  | some c => BitVec.ofNat 32 (s.horizon / c.hdr.period)
  | none => BitVec.ofNat 32 (s.time / 2 ^ 24)

/-- The comb position, 24 bits. -/
def State.posNow (s : State) : Nat := s.stampNow.toNat % 2 ^ 24

/-! ### Channel words -/

/-- CH_MODE (02 R34); a mode that needs a feature that is not accepted reads as the reset value (11
R350). -/
def State.chModeW (s : State) (n : Ch) : Word :=
  let c := s.chan n
  if (c.cfg.mode == .diNamur && !s.feat 13) || (c.cfg.mode == .aiTc && !s.feat 15) then 0 else
  pk [((s.pairOf n).code, 12), (c.cfg.loopMate.toNat, 10),
      (if c.cfgBusy then 0 else c.actMode.code, 4), (c.cfg.mode.code, 0)]

/-- CH_STATUS (02 R35). -/
def State.chStatusW (s : State) (n : Ch) : Word :=
  let c := s.chan n
  pk [((s.failedCh n).toNat, 31), (c.guard.held.toNat, 30), ((c.out.ps == .lockedOff).toNat, 29),
      ((s.protected n || c.ai.senseOpen).toNat, 28), (c.cfgBusy.toNat, 27),
      ((s.schedNow n).toNat, 26), (c.overridden.toNat, 25),
      ((c.inp.valid && !(s.group (grpOf n)).link.silent).toNat, 24),
      (c.inp.raw.toNat, 7), (c.inp.state.toNat, 6), (c.inp.brk.toNat, 5), (c.inp.short.toNat, 4),
      (c.mains.lock.toNat, 3), (c.mains.holdover.toNat, 2), (c.loop.limit.toNat, 1)]

/-- CH_STATCNT (02 R36). -/
def State.chStatCntW (s : State) (n : Ch) : Word :=
  pk [((s.chan n).noop.toNat, 16), ((s.chan n).override.toNat, 0)]

/-- CH_TERMV (02 R48). -/
def State.chTermvW (s : State) (n : Ch) : Word :=
  pk [((s.chan n).tvValid.toNat, 16), ((s.chan n).termv.toNat, 0)]

/-- CH_OUT_STATE (03 R99). -/
def State.chOutStateW (s : State) (n : Ch) : Word :=
  let o := (s.chan n).out
  let p := s.pstateOf n
  pk [(p.code, 28), (o.cmdOn.toNat, 27),
      ((p == .pend || p == .uvloOff || p == .shed).toNat, 26), (o.partner.toNat, 21),
      (o.retryUsed.toNat, 17), (o.defer.toNat, 14), (o.duty.toNat, 0)]

/-- CH_OUT_MEAS (03 R100). -/
def State.chOutMeasW (s : State) (n : Ch) : Word :=
  let o := (s.chan n).out
  pk [(o.iload.toNat, 16), (o.tj.toNat, 8), (o.dtc.toNat, 0)]

/-- CH_OUT_LEARN (03 R113): 0 without feature 10. -/
def State.chOutLearnW (s : State) (n : Ch) : Word :=
  let o := (s.chan n).out
  if s.feat 10 then
    pk [(o.learned.toNat, 31), ((s.cfgOf n).driftPct.toNat, 24), (o.drift.toNat, 16),
        (o.base.toNat, 0)]
  else 0

/-- CH_MAINS and CH_MAINS_MEAS (02 R75). -/
def State.chMainsW (s : State) (n : Ch) : Word :=
  let m := (s.chan n).mains
  pk [(m.lock.toNat, 31), (m.holdover.toNat, 30), ((s.cfgOf n).holdT.toNat, 16), (m.phase.toNat, 0)]

def State.chMainsMeasW (s : State) (n : Ch) : Word :=
  pk [((s.chan n).mains.freq.toNat, 16), ((s.chan n).mains.vrms.toNat, 0)]

/-- CH_LOOP (02 R76). -/
def State.chLoopW (s : State) (n : Ch) : Word :=
  pk [((s.chan n).loop.on.toNat, 31), ((s.chan n).loop.iloop.toNat, 0)]

/-- The frequency on which a tracking notch centres (04 R155): the lowest-numbered MAINS_SENSE channel
locked or in holdover, else the last tracked. -/
def State.trackNow (s : State) : BitVec 16 :=
  match allCh.find? fun n => s.modeOf n == .mainsSense && ((s.chan n).mains.lock || (s.chan n).mains.holdover)
  with
  | some n => (s.chan n).mains.freq
  | none => s.res.trackFreq

/-- A cycle of the notch frequency in units of 50 ns (04 R155). -/
def State.notchCycle (s : State) (c : ChCfg) : Nat :=
  match fld c.aiFilt 29 28 with
  | 1 => 400000
  | 2 => 333333
  | _ => 2000000000 / max 1 s.trackNow.toNat

/-- The conversions of a channel in the last cycle of its notch frequency (04 R155). -/
def State.cycleConvs (s : State) (n : Ch) : Nat :=
  ((s.chan n).ai.hist.filter fun x => decide (s.time < x.1 + s.notchCycle (s.cfgOf n))).length

/-- NBYP (04 R155): a notch is set and fewer than eight conversions came in its last cycle. -/
def State.nbyp (s : State) (n : Ch) : Bool :=
  fld (s.cfgOf n).aiFilt 29 28 != 0 && decide (s.cycleConvs (s.leadOf n) < 8)

/-- CH_AI_FILT with NBYP (04 R152). -/
def State.chAiFiltW (s : State) (n : Ch) : Word := putBit (s.cfgOf n).aiFilt 26 (s.nbyp n)

/-- A rail voltage in 0.2 V (06 R192). -/
def railCode (mv : Nat) : Nat := min 255 (roundDiv (Config.tieUp mv 200) mv 200).toNat

/-- CH_AO_STATE (06 R192). -/
def State.chAoStateW (s : State) (n : Ch) : Word :=
  let a := (s.chan n).ao
  pk [(if (s.chan n).actMode == .aoISrc then railCode a.rail else 0, 24), (a.compl.toNat, 23),
      ((a.miswire || a.therm).toNat, 22), (a.inserted.toNat, 16), (a.code.toNat, 0)]

/-- CH_AO_MEAS (06 R193). -/
def State.chAoMeasW (s : State) (n : Ch) : Word :=
  pk [((s.chan n).ao.readback.toNat, 16), ((s.chan n).ao.rloop.toNat, 0)]

/-- CH_HART (06 R206): its reset value without feature 1 (11 R348). -/
def State.chHartW (s : State) (n : Ch) : Word :=
  let h := (s.chan n).hart
  if s.feat 1 then
    (s.cfgOf n).hart ||| pk [(h.txBusy.toNat, 28), (h.carrier.toNat, 27), (h.hclip.toNat, 26),
      (h.last.toNat, 16), (h.rxCount.toNat, 8), (h.errCount.toNat, 0)]
  else ChCfg.reset.hart

/-! ### Comb words -/

/-- The bank that COMB_STAT shows (07 R242): 0 until a comb has become active, whatever half the boot
found marked. -/
def CombState.shownBank (c : CombState) : Bool := c.actBank && !(c.active.isNone && c.firstRun)

/-- The instant before the last k units of TB1, newest move first (07 R242). -/
def lastUnits : Nat → List (Nat × Int) → Option Nat
  | _, [] => none
  | k, m :: ms => if k < m.2.natAbs then some m.1 else lastUnits (k - m.2.natAbs) ms

/-- The rate of TB1 in units per second (07 R242): the counts of the longer of the last 10 ms and the
last 16 units, truncated. -/
def rateOf (now : Nat) (moves : List (Nat × Int)) : Int :=
  let first := (moves.getLast?.map (·.1)).getD now
  let span := max 200000 (now - (lastUnits 16 moves).getD first)
  let d := ((moves.filter fun m => decide (now < m.1 + span)).map (·.2)).sum
  (d * 20000000).tdiv span

/-- The rate of the time base of the active comb (07 R242); 0 with none running. -/
def State.rateNow (s : State) : Int :=
  match s.comb.active with
  | none => 0
  | some c =>
    if !s.combLive then 0
    else if c.hdr.tb = 0 then (20000000 / max 1 c.hdr.prescale : Nat)
    else rateOf s.time s.comb.moves

/-- COMB_RATE (07 R242). -/
def State.combRateW (s : State) : Word := BitVec.ofInt 32 s.rateNow

/-- COMB_STAT (07 R242). -/
def State.combStatW (s : State) : Word :=
  let c := s.comb
  let extrap := allGrp.any fun g => (s.group g).link.extrap
  match c.active with
  | none => pk [(c.shownBank.toNat, 30), (c.armed.isSome.toNat, 29), (c.safeHeld.toNat, 23)]
  | some a =>
    pk [((s.combLive && c.cond != .stalled).toNat, 31), (c.shownBank.toNat, 30),
        (c.armed.isSome.toNat, 29), (c.overspd.toNat, 28), (a.hdr.tb.toNat, 26),
        (c.cond.code, 24), (c.safeHeld.toNat, 23), (a.hdr.signed.toNat, 22), (extrap.toNat, 21),
        (a.hdr.ncells, 0)]

/-- COMB_LOAD (07 R242). -/
def State.combLoadW (s : State) : Word :=
  pk [(s.comb.lstate.code, 28), (s.comb.reason.toNat, 24), (s.comb.index.toNat, 0)]

/-- COMB_CNT (07 R242). -/
def State.combCntW (s : State) : Word := pk [(s.comb.late.toNat, 16), (s.comb.skipped.toNat, 0)]

/-- COMB_EVCNT (07 R242). -/
def State.combEvcntW (s : State) : Word :=
  pk [(s.comb.stalls.toNat, 24), (s.comb.reversals.toNat, 16), (s.comb.applyConf.toNat, 0)]

/-- COMB_ID (07 R242). -/
def State.combIdW (s : State) : Word :=
  match s.comb.active with
  | some a => a.hdr.combId
  | none => 0

/-! ### Safe state and watchdog words -/

/-- The bits of a property of the groups, bit g for Gg. -/
def grpBits (f : Grp → Bool) : Nat :=
  (f 0).toNat + 2 * (f 1).toNat + 4 * (f 2).toNat + 8 * (f 3).toNat

/-- F_OKn sinks while every die holds its part (08 R273). -/
def State.fok (s : State) : Bool := allGrp.all fun g => (s.group g).guard.fok

/-- SAFE_STAT (08 R266). -/
def State.safeStatW (s : State) : Word :=
  pk [(s.safe.safe.toNat, 31), (s.safe.cause.toNat, 27),
      (grpBits fun g => (s.group g).guard.held, 23), (grpBits fun g => (s.group g).guard.tbad, 19),
      (s.fok.toNat, 18), (s.safe.gen.toNat, 0)]

/-- A fatal fault of R272. -/
def State.fatal (s : State) : Bool :=
  s.safe.intFault || allGrp.any fun g => (s.group g).link.failed || (s.group g).guard.tbad

/-- H_OK is released only in RUN or DOZE with no fatal fault (08 R272), and never through a reset of the
host die (08 R270). -/
def State.hok (s : State) : Bool :=
  (s.pw.mode == .run || s.pw.mode == .doze) && s.pw.resetSrc.isNone && !s.fatal

/-- WD_HS (08 R274): PERIOD reads the value written. -/
def State.wdHsW (s : State) : Word :=
  pk [(s.wd.hsExpiries.toNat, 24), ((s.wd.hsSet.getD s.wd.hsPeriod).toNat, 0)]

/-- WD_WG (08 R275). -/
def State.wdWgW (s : State) : Word :=
  pk [(s.wd.wgEn.toNat, 31), ((s.wd.wgSet.getD s.wd.wgPeriod).toNat, 0)]

/-- WD_WG_STAT (08 R275). -/
def State.wdWgStatW (s : State) : Word :=
  pk [(s.wd.wgLastFail.toNat, 29), (s.wd.wgFails.toNat, 8), (s.wd.wgRefused.toNat, 0)]

/-- TASK_STAT (08 R281). -/
def State.taskStatW (s : State) : Word := pk [(s.wd.taskExtra.toNat, 16), (s.wd.taskMiss.toNat, 0)]

/-! ### Result, conversion and group words -/

/-- Words that an entry takes. -/
def qsize (e : QEntry) : Nat := if e.stamp.isSome then 2 else 1

/-- The fill of a partition in words (05 R175); its GAP word stays reserved. -/
def Partition.fill (p : Partition) : Nat := (p.entries.map qsize).sum

/-- RES_QSTAT (05 R175). -/
def State.qstatW (s : State) : Word :=
  pk [(s.res.bp.toNat, 31), (s.res.strm.fill % 4096, 16), (s.res.poll.fill % 4096, 0)]

/-- RES_LOST (05 R175). -/
def State.resLostW (s : State) : Word := pk [(s.res.strm.lost.toNat, 16), (s.res.poll.lost.toNat, 0)]

/-- CAP_STAT (05 R182). -/
def State.capStatW (s : State) : Word :=
  pk [(s.res.cap.state.code, 30), (s.res.cap.wrapped.toNat, 29), (s.res.cap.words.length, 0)]

/-- CONV_REF, CONV_SLICE, CONV_CAL, CONV_INJCNT, CONV_CJ of a group (04 R132 to R161). -/
def State.convRefW (s : State) (g : Grp) : Word :=
  let c := (s.group g).conv
  pk [(c.refSettled.toNat, 31), (c.refFault.toNat, 30), (c.fallback.toNat, 29), (c.refSel.toNat, 0)]

def State.convSliceW (s : State) (g : Grp) : Word :=
  let c := (s.group g).conv
  pk [(c.spare.toNat, 29), (c.inserv.toNat, 24), (c.faulty.toNat, 19), (c.calRo.toNat, 18),
      (c.turns.toNat, 0)]

def State.convCalW (s : State) (g : Grp) : Word :=
  let c := (s.group g).conv
  pk [(c.calState.toNat, 30), (c.calOutcome.toNat, 28), (c.calDone.toNat, 23), (c.calRuns.toNat, 0)]

def State.convInjCntW (s : State) (g : Grp) : Word :=
  pk [((s.group g).conv.injLate.toNat, 16), ((s.group g).conv.injDrop.toNat, 0)]

def State.convCjW (s : State) (g : Grp) : Word :=
  pk [((s.group g).conv.cjValid.toNat, 16), ((s.group g).conv.cjt.toNat, 0)]

/-- Slices in service on a group (04 R121). -/
def GrpConv.slots (c : GrpConv) : Nat := (allSlices.filter fun k => c.inserv.getLsbD k.val).length

/-- Conversions of monitors and of the calibration source in progress on slices in service (04 R128, R130). -/
def State.sideBusy (s : State) (g : Grp) : Nat :=
  (s.group g).conv.monBusy.isSome.toNat + (s.group g).conv.calBusy.isSome.toNat

/-- Conversions in progress on a group (04 R122). -/
def State.busyCount (s : State) (g : Grp) : Nat :=
  ((chOf g).filter fun n => (s.chan n).ai.busy.isSome).length + s.sideBusy g

/-- The injection reserve in force (04 R160): the header's, or 400 with no active comb. -/
def State.injReserve (s : State) (g : Grp) : Nat :=
  match s.comb.active with
  | some c => (c.hdr.injres[g.val]?).getD 0
  | none => 400

/-- GRP_SUPPLY, GRP_CNT (13 R398). -/
def State.grpSupplyW (s : State) (g : Grp) : Word :=
  let u := (s.group g).sup
  pk [(u.uvlo.toNat, 31), (u.low.toNat, 30), (u.warn.toNat, 29), (u.ready.toNat, 28),
      (u.high.toNat, 27), (u.vf.toNat, 0)]

def State.grpCntW (s : State) (g : Grp) : Word :=
  let u := (s.group g).sup
  pk [(u.uvlos.toNat, 24), (u.lows.toNat, 16), (u.warns.toNat, 8)]

/-! ### Recorder, mode and power words -/

/-- The number of bad blocks is the length of the list (09 R302, R303). -/
def State.recHealth (s : State) : Nat :=
  if s.rcd.failed || 64 < s.rcd.bad.length then 2 else if s.rcd.bad.isEmpty then 0 else 1

/-- Peer recording is in force (09 R304). -/
def State.peering (s : State) : Bool :=
  s.feat 9 && bit s.rcd.peer 30 && s.recHealth == 2 && !bit s.rcd.peer 31

/-- REC_STAT (09 R305). -/
def State.recStatW (s : State) : Word :=
  pk [(s.rcd.full.toNat, 31), (s.rcd.near.toNat, 30), (s.recHealth, 28), (s.peering.toNat, 27),
      (s.rcd.bad.length, 0)]

/-- MODE_STAT (11 R354). -/
def State.modeStatW (s : State) : Word :=
  pk [(s.pw.mode.code, 29), (s.pw.prev.code, 26), (s.pw.dstate.code, 24), (s.pw.neg.toNat, 23),
      (s.pw.changes.toNat, 8), (s.pw.cause.toNat, 0)]

/-- PWR_STAT (13 R424). -/
def State.pwrStatW (s : State) : Word :=
  pk [(s.pw.vhWarn.toNat, 31), (s.pw.vflOk.toNat, 30), (s.pw.hholdOk.toNat, 29),
      (s.pw.xact.toNat, 28), (s.pw.htemp.toNat, 16), (s.pw.pmod.toNat, 0)]

/-- HP_STAT (10 R326). -/
def State.hpStatW (s : State) : Word :=
  pk [(s.port.strap0.toNat, 30), (s.port.strap1.toNat, 28), (s.port.rckAct.toNat, 27),
      (s.port.strapBad.toNat, 26), (s.port.cnt.busyWords.toNat, 0)]

end Sys2Proof.Machine
end

