-- ==== Sys2Proof/Machine/Ops.lean ====
section
/-! DEFINITION. The operations that many commands share: free values, the recorder's intake, raising
an event, channel faults, counters. -/

namespace Sys2Proof.Machine

/-! ### Time and free values -/

/-- Units of 50 ns in a microsecond and in a millisecond (log entry 2). -/
def micro : Nat := 20

def milli : Nat := 20000

/-- Whether an event limited to once per d units may be raised again (R246, R233, R161, R173). -/
def State.spaced (s : State) (last : Option Nat) (d : Nat) : Bool :=
  match last with
  | some t => decide (t + d ≤ s.time)
  | none => true

/-- The next free word (log entry 5). -/
def State.freeWord (s : State) : Word := Config.freeWord s.free

/-- The next free truth value (log entry 5). -/
def State.freeBool (s : State) : Bool := Config.freeBool s.free

/-- The next free integer (log entry 5). -/
def State.freeInt (s : State) : Int := Config.freeInt s.free

/-- Advance to the next free value. -/
def State.tookFree (s : State) : State := { s with free := s.free + 1 }

/-! ### Recorder intake -/

/-- The sources that are always recorded (09 R290). -/
def alwaysRecorded (src : Nat) : Bool := [76, 77, 79, 107, 113, 115, 116].contains src

/-- The sources that are never raised (11 R360). -/
def neverRaised (src : Nat) : Bool := [94, 95, 109, 110, 111, 117, 118, 119].contains src

/-- Whether the recorder takes raisings of a source (09 R290). -/
def State.recorded (s : State) (src : Nat) : Bool := alwaysRecorded src || s.rcd.srcSel.getLsbD src

/-- PCYCLE as records carry it (09 R286, 13 R423). -/
def State.pcycle24 (s : State) : BitVec 24 := BitVec.ofNat 24 (min s.pw.pcycle.toNat 0xFFFFFF)

/-- An intake entry of this instant. -/
def State.intakeOf (s : State) (source : Byte) (code subject : BitVec 16) (p0 p1 p2 : Word) : Intake :=
  { opsec := s.pw.opsec, pcycle := s.pcycle24, source, code, subject, p0, p1, p2 }

/-- An entry arrives at the intake FIFO (09 R296): 255 places, one kept for a LOST record; at a
full FIFO it is dropped and counted. After POWER_LOSS nothing is accepted (R294). -/
def Recorder.put (r : Recorder) (e : Intake) : Recorder :=
  if r.stopped then r
  else if r.intake.length < 255 then { r with intake := r.intake ++ [e] }
  else { r with
    lost := r.lost + 1
    dropped := r.dropped + 1
    dropFirst := if r.dropped = 0 then e.opsec else r.dropFirst
    dropLast := e.opsec }

/-- Whether a merge window covers the triple of an entry. -/
def MergeWin.covers (m : MergeWin) (e : Intake) : Bool :=
  m.source == e.source && m.code == e.code && m.subject == e.subject

/-- The REPEAT record of a window (09 R288, R295). -/
def repeatEntry (s : State) (m : MergeWin) : Intake :=
  s.intakeOf 0xF2 m.code m.subject
    (pk [(m.source.toNat, 0), (m.count % 65536, 16)])
    (pk [(m.count / 65536 % 65536, 0), (m.lastOpsec.toNat % 65536, 16)])
    (pk [(m.lastOpsec.toNat / 65536, 0)])

/-- A window closes (09 R295). -/
def State.closeMerge (s : State) (m : MergeWin) : State :=
  let s1 : State := { s with rcd.merges := s.rcd.merges.erase m }
  if m.count = 0 then s1 else { s1 with rcd := s1.rcd.put (repeatEntry s1 m) }

/-- The recorder before an entry arrives: the window that covers it has closed where its second is over
(09 R295). -/
def State.mergedUntil (s : State) (e : Intake) : Recorder :=
  match s.rcd.merges.find? (·.covers e) with
  | some m => if m.opened + 1000 * milli ≤ s.time then (s.closeMerge m).rcd else s.rcd
  | none => s.rcd

/-- An entry of an event source arrives (09 R295): counted in its open window, or put and its
window opened while the table of 16 has room. -/
def Recorder.arrive (r : Recorder) (now : Nat) (e : Intake) : Recorder :=
  if r.stopped then r
  else if alwaysRecorded e.source.toNat then r.put e
  else if r.merges.any (·.covers e) then
    { r with
      merged := r.merged + 1
      merges := r.merges.map fun m =>
        if m.covers e then { m with count := m.count + 1, lastOpsec := e.opsec } else m }
  else
    let r' := r.put e
    if r.intake.length < 255 ∧ r.merges.length < 16 then
      { r' with merges := r'.merges ++
        [{ source := e.source, code := e.code, subject := e.subject, count := 0, lastOpsec := e.opsec
           opened := now }] }
    else r'

/-- A special record enters the intake (09 R288, R290). -/
def State.recordSpecial (s : State) (source : Byte) (code subject : BitVec 16) (p0 p1 p2 : Word) :
    State :=
  if s.hostUp then { s with rcd := s.rcd.put (s.intakeOf source code subject p0 p1 p2) } else s

/-- A recorder entry under an event source, without raising the event (01 R18). -/
def State.recordOnly (s : State) (src : Nat) (subject code : BitVec 16) (p0 p1 p2 : Word) : State :=
  if s.hostUp && s.recorded src then
    let e := s.intakeOf (BitVec.ofNat 8 src) code subject p0 p1 p2
    { s with rcd := (s.mergedUntil e).arrive s.time e }
  else s

/-! ### Raising an event -/

/-- The state of a source after a raising (11 R359). -/
def EvState.raised (e : EvState) (subject code : BitVec 16) (nocomb : Bool) (stamp p0 p1 p2 : Word)
    (ord : Nat) : EvState :=
  { pending := true, undel := true, raises := satInc e.raises, subject, code, nocomb, stamp,
    p0, p1, p2, ord }

/-- Raise a source at a stamp (11 R359, R360): pending and undelivered with the latest values,
recorded when REC_SRC selects it, and an enabled one wakes a dozing module (13 R416). -/
def State.raiseAt (s : State) (src : Fin 128) (subject code : BitVec 16) (p0 p1 p2 : Word)
    (stamp : Word) (nocomb : Bool) : State :=
  if !s.hostUp || neverRaised src.val then s
  else
    let s1 := s.recordOnly src.val subject code p0 p1 p2
    { s1 with
      ev := { s1.ev with
        src := s1.ev.src.set src.val
          (s1.ev.src[src.val].raised subject code nocomb stamp p0 p1 p2 s1.ev.clock)
        clock := s1.ev.clock + 1 }
      pw := { s1.pw with
        waking := s1.pw.waking || (s1.pw.mode == .doze && s1.ev.en.getLsbD src.val) } }

/-- Raise a source now, stamped by the event intake (01 'Data paths'). -/
def State.raise (s : State) (src : Fin 128) (subject code : Nat) (p0 p1 p2 : Word) : State :=
  s.raiseAt src (BitVec.ofNat 16 subject) (BitVec.ofNat 16 code) p0 p1 p2 s.stampNow
    s.comb.active.isNone

/-- The report-only mark CODE[15] (01 R18, 11 R358). -/
def reportOnly : Nat := 0x8000

/-- Raise a source that a field die detects: held on the die while its link is silent or the host
die is down, and raised with its own stamp when the link returns (02 R61). -/
def State.fieldRaise (s : State) (g : Grp) (src : Fin 128) (subject code : Nat) (p0 p1 p2 : Word) :
    State :=
  if (s.group g).link.silent || !s.hostUp then
    s.modLink g fun l => { l with events := l.events ++
      [{ source := src, subject := BitVec.ofNat 16 subject, code := BitVec.ofNat 16 code,
         nocomb := s.comb.active.isNone, stamp := s.stampNow, p0, p1, p2 }] }
  else s.raise src subject code p0 p1 p2

/-- EV0-EV31, the channel fault event (11 R361). -/
def State.raiseFault (s : State) (n : Ch) (code : Nat) : State :=
  s.fieldRaise (grpOf n) (srcNo n.val) n.val code (s.chan n).fault (s.chStatusW n) (s.chTermvW n)

/-- Set a bit of CH_FAULT (02 R37): its 0 to 1 change raises the channel fault event, with HOLDTRIP
while the guard holds the channel (08 R259). A pair's faults are its even channel's (02 R43). -/
def State.setFault (s : State) (n : Ch) (b : Nat) : State :=
  let m := s.leadOf n
  if bit (s.chan m).fault b then s
  else
    let s1 := s.modCh m fun c => { c with fault := putBit c.fault b true }
    s1.raiseFault m (b + if (s.chan m).guard.held then 0x4000 else 0)

/-- A trip, or another protective act, is reported each time it happens (01 R15, 03 R120): its bit sets and
the channel fault event is raised even where the bit was latched. -/
def State.tripFault (s : State) (n : Ch) (b : Nat) : State :=
  let m := s.leadOf n
  let s1 := s.modCh m fun c => { c with fault := putBit c.fault b true }
  s1.raiseFault m (b + if (s.chan m).guard.held then 0x4000 else 0)

/-- A report-only decision on a channel: one recorder entry with DECISION (11 R361, 01 R18). -/
def State.recordDecision (s : State) (n : Ch) (decision : Nat) : State :=
  s.recordOnly n.val (BitVec.ofNat 16 n.val) (BitVec.ofNat 16 (reportOnly + decision * 256))
    (s.chan n).fault (s.chStatusW n) (s.chOutStateW n)

/-- The cell aimed at a channel runs as a no-op (01 R15, 02 R36). -/
def State.countNoop (s : State) (n : Ch) : State :=
  s.modCh n fun c => { c with noop := satInc c.noop }

/-- Whether a crossing of a supply is counted and tells its event: while the host die is up and in a window of field
continuity (13 R393, R419). -/
def State.seesSupply (s : State) : Bool := s.hostUp || s.pw.window.isSome

/-- EV64-EV67 (11 R361). -/
def State.raiseSupply (s : State) (g : Grp) (code : Nat) : State :=
  if !s.seesSupply then s else s.fieldRaise g (srcNo (64 + g.val)) g.val code ((s.group g).sup.vf.setWidth 32) 0 0

/-- The channels of a group that are shed, as a mask. -/
def State.shedMask (s : State) (g : Grp) : Word :=
  (chOf g).foldl (fun w n => putBit w n.val
    ((s.chan n).out.shedDie || (s.chan n).out.shedEnv)) 0

/-- EV68-EV71 (11 R361): the die temperature is signed. -/
def State.raiseThermal (s : State) (g : Grp) (code : Nat) : State :=
  s.raise (srcNo (68 + g.val)) g.val code ((s.group g).sup.tdie.signExtend 32) (s.shedMask g) 0

/-- EV72-EV75 (11 R361). -/
def State.raiseLink (s : State) (g : Grp) (code : Nat) : State :=
  s.raise (srcNo (72 + g.val)) g.val code (s.group g).link.errs s.safeStatW 0

/-- EV104-EV108 (11 R361). -/
def State.raiseRec (s : State) (src : Fin 128) : State :=
  s.raise src 0 1 s.recStatW s.rcd.next (if src.val = 108 then s.rcd.lost else s.rcd.refused)

/-- EV85 (11 R361). -/
def State.raiseCal (s : State) (g : Grp) (code : Nat) : State :=
  s.raise 85 g.val code (s.convSliceW g) (s.convCalW g) 0

/-- EV84 (11 R361, 04 R137). -/
def State.raiseRef (s : State) (g : Grp) (code : Nat) : State :=
  s.raise 84 g.val code (s.convRefW g) 0 0

/-- EV89, at most once per 10 ms (07 R245, R246). -/
def State.raiseLate (s : State) (idx code : Nat) : State :=
  if s.spaced s.comb.lastEv89 (10 * milli) then
    let s1 := s.raise 89 idx code s.combCntW s.combRateW 0
    { s1 with comb.lastEv89 := some s1.time }
  else s

/-- EV93 and APPLYCONF for a command discarded at its target cell, the event at most once per 10 ms
per channel (07 R233). -/
def State.applyConflict (s : State) (n : Ch) : State :=
  let s1 : State := { s with comb.applyConf := satInc s.comb.applyConf }
  if s1.spaced (s1.chan n).lastEv93 (10 * milli) then
    let s2 := s1.raise 93 n.val 1 s1.combEvcntW 0 0
    s2.modCh n fun c => { c with lastEv93 := some s2.time }
  else s1

/-! ### Mode changes -/

/-- Each die's part of F_OKn (08 R273): held by a healthy die whose guard copy verifies, while the module is in
RUN or DOZE or in a field-continuity window, until FOK_DLY has passed after a takeover. -/
def State.fokRefresh (s : State) : State :=
  s.each allGrp fun t g => t.modGrp g fun x =>
    let runs := t.pw.mode == .run || t.pw.mode == .doze || t.pw.window.isSome
    { x with guard := { x.guard with
      fok := runs && t.dieUp g && !x.guard.tbad && (!x.guard.held || x.guard.fok) } }

/-- The deepest power state that meets the smaller tolerance (13 R413). -/
def chosenState (rtol ctol : Word) : DState :=
  let m := min rtol.toNat ctol.toNat
  if 10000 ≤ m then .d3 else if 500 ≤ m then .d2 else if 50 ≤ m then .d1 else .d0

/-- DSTATE follows the tolerances in RUN and DOZE, unless the policy is in report only (13 R405, R413,
R415). -/
def State.settleDstate (s : State) : State :=
  { s with pw.dstate :=
      if (s.pw.mode == .run || s.pw.mode == .doze) && !bit s.pw.cfg 29 then
        chosenState s.pw.rtol s.pw.ctol
      else .d0 }

/-- Enter a mode for a cause; a change that the host can see counts and raises EV120, and PREV never reads
DOZE (13 R405). -/
def State.enterMode (s : State) (m : Mode) (cause : Nat) : State :=
  if s.pw.mode = m then s
  else
    let old := if s.pw.mode = .doze then .run else s.pw.mode
    let s1 : State := { s with
      pw.mode := m, pw.prev := old, pw.changes := s.pw.changes + 1,
      pw.cause := BitVec.ofNat 8 cause, pw.waking := false, safe.safe := m == .safe }
    let s1 := s1.settleDstate
    s1.fokRefresh.raise 120 old.code m.code s1.modeStatW s1.fokRefresh.safeStatW 0

end Sys2Proof.Machine
end

