-- ==== Sys2Proof/Machine/Results.lean ====
section
/-! DEFINITION. Result words, the two partitions of the result queue, the window words of the
latest results and the capture buffer (05). -/

namespace Sys2Proof.Machine

/-! ### Partitions -/

/-- The rank of a class (05 R171); markers without a class are never removed. -/
def qrank : QClass → Nat
  | .comb => 4 | .mon => 3 | .inj => 2 | .free => 1 | .marker => 0

/-- The policy of a class in a partition (05 R172): 0 discard oldest, 1 newest, 2 backpressure. -/
def Results.policyOf (r : Results) (strm : Bool) (c : QClass) : Nat :=
  let k := match c with
    | .comb => 6 | .mon => 4 | .inj => 2 | .free => 0 | .marker => 6
  fld r.policy (k + 1 + if strm then 8 else 0) (k + if strm then 8 else 0)

/-- The words of a partition (05 R171). -/
def Results.sizeOf (r : Results) (strm : Bool) : Nat :=
  let p := fld r.cfg 19 16 * 256
  if strm then 4096 - p else p

def Results.part (r : Results) (strm : Bool) : Partition := if strm then r.strm else r.poll

def Results.setPart (r : Results) (strm : Bool) (p : Partition) : Results :=
  if strm then { r with strm := p } else { r with poll := p }

def Results.hwm (r : Results) (strm : Bool) : Nat := fld (if strm then r.wmStrm else r.wmPoll) 27 16

def Results.lwm (r : Results) (strm : Bool) : Nat := fld (if strm then r.wmStrm else r.wmPoll) 11 0

/-- A marker word (05 R168). -/
def markerW (tag data : Nat) : Word := pk [(tag, 26), (data % 2 ^ 24, 0)]

/-- A GAP marker (05 R168): the count stops at 0x7F_FFFF. It stands among the entries of the node whose
entry it precedes. -/
def gapEntry (bp : Bool) (count : Nat) (a : Addr) : QEntry :=
  { cls := .marker, word := markerW 48 ((if bp then 0x800000 else 0) + min count 0x7FFFFF),
    stamp := none, src := a }

/-- A SOURCE marker (05 R168, R173). -/
def sourceEntry (a : Addr) : QEntry :=
  { cls := .marker, word := markerW 54 a.toNat, stamp := none, src := a }

/-- Count the discard of words (05 R173). -/
def Partition.drop (p : Partition) (words : Nat) : Partition :=
  { p with lost := satAdd p.lost words, gap := min (p.gap + words) 0x7FFFFF }

/-- Remove the oldest entries of rank at most k until the words asked for are free; what was
removed is counted. -/
def removeOldest (k : Nat) : List QEntry → Nat → List QEntry × Nat
  | [], _ => ([], 0)
  | e :: es, need =>
    if need = 0 then (e :: es, 0)
    else if e.cls != .marker && (qrank e.cls) ≤ k then
      let (es', n) := removeOldest k es (need - (qsize e))
      (es', n + (qsize e))
    else
      let (es', n) := removeOldest k es need
      (e :: es', n)

/-- Put an entry behind its SOURCE and GAP markers when it fits (05 R168, R173); one word stays
reserved for the GAP marker. `bpRun` is the finished run of pauses to report. -/
def Partition.enter (p : Partition) (e : QEntry) (bpRun : Nat) : Partition :=
  let gaps := (if p.gap = 0 then [] else [gapEntry false p.gap e.src]) ++
    (if bpRun = 0 then [] else [gapEntry true bpRun e.src])
  let src := if e.src = p.lastSrc then [] else [sourceEntry e.src]
  { p with entries := p.entries ++ src ++ gaps ++ [e], gap := 0, lastSrc := e.src }

/-- The words that an entry needs in a partition, its markers beyond the reserved word included. -/
def Partition.need (p : Partition) (e : QEntry) (bpRun : Nat) : Nat :=
  (qsize e) + 1 + (if e.src = p.lastSrc then 0 else 1) + (if bpRun = 0 then 0 else 1)

/-- Raise EV81 for a discard, at most once per 10 ms (05 R173). -/
def State.raiseOverflow (s : State) (strm : Bool) : State :=
  if s.spaced s.res.lastEv81 (10 * milli) then
    let s1 := s.raise 81 strm.toNat 1 s.qstatW s.resLostW 0
    { s1 with res.lastEv81 := some s1.time }
  else s

/-- Some class of the stream has the policy backpressure (05 R174). -/
def Results.pauses (r : Results) : Bool := r.policyOf true .inj == 2 || r.policyOf true .free == 2

/-- The pause of R174 (05): it begins at HWM while a class has the policy, ends at LWM, and does not
outlive the policy. -/
def State.settlePause (s : State) : State :=
  let fill := s.res.strm.fill
  { s with res.bp := s.res.pauses &&
      (decide (s.res.hwm true ≤ fill) || (s.res.bp && decide (s.res.lwm true < fill))) }

/-- After an entry: EV80 when the fill has risen to HWM, and the pause of R174 at HWM. -/
def State.afterPut (s : State) (strm : Bool) : State :=
  let p := s.res.part strm
  let s1 := if strm then s.settlePause else s
  if p.wmArmed && s1.res.hwm strm ≤ p.fill then
    let s2 : State := { s1 with res := s1.res.setPart strm { p with wmArmed := false } }
    s2.raise 80 strm.toNat 1 s2.qstatW s2.resLostW 0
  else s1

/-- After entries left a partition: EV80 is armed again and a pause ends at LWM (05 R174, R176). -/
def State.afterTake (s : State) (strm : Bool) : State :=
  let p := s.res.part strm
  if p.fill ≤ s.res.lwm strm then
    let s1 : State := { s with res := s.res.setPart strm { p with wmArmed := true } }
    if strm then s1.settlePause else s1
  else s

/-- An entry arrives at a partition (05 R173): it enters where there is room, or the policy of its
class decides. -/
def State.putEntry (s : State) (strm : Bool) (e : QEntry) : State :=
  let p := s.res.part strm
  let size := s.res.sizeOf strm
  let run := if strm && !s.res.bp then s.res.bpRun else 0
  let need := p.need e run
  if p.fill + need ≤ size then
    let s1 : State := { s with res := s.res.setPart strm (p.enter e run) }
    let s2 : State := if run = 0 then s1 else { s1 with res.bpRun := 0 }
    s2.afterPut strm
  else
    let removable := ((p.entries.filter fun x => x.cls != .marker && qrank x.cls ≤ (qrank e.cls)).map
      qsize).sum
    if s.res.policyOf strm e.cls = 0 ∧ p.fill + need ≤ size + removable then
      let (es, n) := removeOldest (qrank e.cls) p.entries (p.fill + need - size)
      let p1 := { p with entries := es }.drop n
      let s1 : State := { s with res := s.res.setPart strm (p1.enter e run) }
      let s2 : State := if run = 0 then s1 else { s1 with res.bpRun := 0 }
      (s2.raiseOverflow strm).afterPut strm
    else
      let s1 : State := { s with res := s.res.setPart strm (p.drop (qsize e)) }
      s1.raiseOverflow strm

/-! ### Routes -/

/-- The route of a channel (05 R171): 0 window only, 1 poll, 2 stream. -/
def Results.routeOf (r : Results) (n : Ch) : Nat :=
  if n.val < 16 then fld r.routeLo (2 * n.val + 1) (2 * n.val)
  else fld r.routeHi (2 * n.val - 31) (2 * n.val - 32)

/-- Whether at least one channel is routed to a partition (05 R168); on a declared pair the even
channel's route alone applies (R171). -/
def State.anyRouted (s : State) (strm : Bool) : Bool :=
  allCh.any fun n => !s.isOdd n && s.res.routeOf n == if strm then 2 else 1

/-- A stamped marker 49-52 enters every partition to which a channel is routed (05 R168). -/
def State.putMarkerAt (s : State) (tag data : Nat) (stamp : Word) : State :=
  let e : QEntry := { cls := .comb, word := markerW tag data, stamp := some stamp, src := 0 }
  let s1 := if s.anyRouted false then s.putEntry false e else s
  if s.anyRouted true then s1.putEntry true e else s1

def State.putMarker (s : State) (tag data : Nat) : State := s.putMarkerAt tag data s.stampNow

/-! ### Capture -/

/-- The length of the capture in words (05 R182). -/
def Capture.length (c : Capture) : Nat := (fld c.cfg 8 0 + 1) * 256

/-- RING mode (05 R182). -/
def Capture.ring (c : Capture) : Bool := fld c.cfg 31 30 == 1

/-- Append words within the length: the oldest fall out (05 R183). -/
def Capture.push (c : Capture) (ws : List Word) : Capture :=
  let all := c.words ++ ws
  let ovf := all.length - c.length
  { c with words := all.drop ovf, tidx := c.tidx - BitVec.ofNat 17 ovf }

/-- Store words as the state of the capture gives (05 R183): circular in ARMED RING, the words still
to store in TRIGGERED, nothing otherwise. -/
def Capture.store (c : Capture) (ws : List Word) : Capture :=
  match c.state with
  | .armed =>
    if c.ring then
      { c.push ws with
        tidx := 0, wrapped := c.wrapped || decide (c.length < c.words.length + ws.length) }
    else c
  | .triggered => { c.push (ws.take c.toGo) with toGo := c.toGo - ws.length }
  | _ => c

/-- End a capture whose words are stored: DONE and EV82 (05 R183). -/
def State.capFinish (s : State) : State :=
  if s.res.cap.state = .triggered ∧ s.res.cap.toGo = 0 then
    let s1 : State := { s with res.cap.state := .done }
    s1.raise 82 0 1 s1.capStatW (s1.res.cap.tidx.setWidth 32) s1.res.cap.tstamp
  else s

/-- The trigger (05 R183, R184): the CAPTRIG marker and its stamp are stored; the words of the
capture are counted from the marker, and both are stored however few remain. -/
def State.capTrigger (s : State) (stamp : Word) : State :=
  let c := s.res.cap
  if c.state = .armed then
    let togo := if c.ring then c.length - fld c.cfg 16 9 * c.length / 256 else c.length
    let c1 : Capture := { c with
      state := .triggered, toGo := togo - 2, tidx := BitVec.ofNat 17 c.words.length, tstamp := stamp }
    State.capFinish { s with res.cap := c1.push [markerW 53 (fld c.cfg 29 27), stamp] }
  else s

/-- Whether the DATA of a channel is signed (05 R164, 04 R142, 06). -/
def State.signedData (s : State) (n : Ch) : Bool :=
  let c := s.cfgOf n
  match s.modeOf n with
  | .aiV => fld c.aiCfg 23 20 == 1 || s.pairOf n == .diff
  | .aiTc | .doHs | .doPp | .aoISrc | .aoISnk | .aoV => true
  | .count => fld c.cntCfg 27 24 == 1
  | _ => false

/-- DATA as a number in its own format and sign. -/
def dataInt (signed : Bool) (d : BitVec 24) : Int := if signed then d.toInt else d.toNat

/-- A level crossing between two results (05 R184); reaching LEVEL counts as passing it (DESIGN CHOICE, log
entry 108). -/
def crossed (signed falling : Bool) (level a b : BitVec 24) : Bool :=
  let x := dataInt signed a
  let y := dataInt signed b
  let l := dataInt signed level
  if falling then decide (l < x ∧ y ≤ l) else decide (x < l ∧ l ≤ y)

/-- A result of a channel passes the capture buffer (05 R183, R184). -/
def State.capResult (s : State) (n : Ch) (w stamp : Word) : State :=
  let c := s.res.cap
  let d := w.setWidth 24
  let s1 : State :=
    if bit c.mask n.val then
      { s with res.cap := c.store (if bit c.cfg 20 then [w, stamp] else [w]) }
    else s
  let hit := fld c.cfg 29 27 == 1 && fld c.cfg 25 21 == n.val &&
    match (s.chan n).ai.prev with
    | some p => crossed (s.signedData n) (bit c.cfg 26) (c.level.setWidth 24) p d
    | none => false
  let s2 := s1.modAi n fun a => { a with prev := some d }
  (if hit then s2.capTrigger stamp else s2).capFinish

/-- An accepted change of state as a capture trigger (05 R184). -/
def State.capChange (s : State) (n : Ch) (rising : Bool) (stamp : Word) : State :=
  let c := s.res.cap
  if fld c.cfg 29 27 == 2 && fld c.cfg 25 21 == n.val && (bit c.cfg 26 != rising) then
    s.capTrigger stamp
  else s

/-! ### Results of channels -/

/-- The value that RSEL selects (02 R65, R70). -/
def State.countValue (s : State) (n : Ch) : Word :=
  match fld (s.cfgOf n).cntCfg 11 10 with
  | 1 => (s.chan n).cnt.freq
  | 2 => (s.chan n).cnt.per
  | _ => (s.chan n).cnt.val

/-- DATA of a channel in a non-analogue mode (05 R164). -/
def State.plainData (s : State) (n : Ch) : BitVec 24 :=
  let c := s.chan n
  match s.modeOf n with
  | .di | .diNamur =>
    (pk [(c.inp.valid.toNat, 2), (c.inp.raw.toNat, 1), (c.inp.state.toNat, 0)]).setWidth 24
  | .count => (s.countValue n).setWidth 24
  | .doHs | .doPp =>
    c.out.iload.signExtend 24
  | .loopPwr => c.loop.iloop.setWidth 24
  | .mainsSense =>
    (pk [(c.mains.lock.toNat, 23), (c.mains.holdover.toNat, 22), (c.mains.phase.toNat, 0)]).setWidth 24
  | _ => 0

/-- A result word (05 R163). -/
def resultW (tag : Nat) (ovr ovv : Bool) (data : BitVec 24) : Word :=
  pk [(tag, 26), (ovr.toNat, 25), (ovv.toNat, 24), (data.toNat, 0)]

/-- The word that a result of channel n brings to its window word (05 R180, 02 R70): the full value that
RSEL selects in COUNT, latched with the result. -/
def State.windowOf (s : State) (n : Ch) (w : Word) : Word :=
  if s.modeOf n == .count then s.countValue n else w

/-- The window word of the latest result (05 R180). -/
def State.setWindow (s : State) (n : Ch) (w : Word) : State := s.modCh n fun c => { c with window := some w }

/-- CONV_OVR and EV83 (04 R151). -/
def State.noteOvr (s : State) (n : Ch) : State :=
  if bit s.res.ovr n.val then s
  else
    let s1 : State := { s with res.ovr := putBit s.res.ovr n.val true }
    s1.raise 83 0 1 s1.res.ovr 0 0

/-- Entries of channel n as its route and stamp bit give (05 R171). -/
def State.routeEntry (s : State) (n : Ch) (e : QEntry) : State :=
  let e' := if bit s.res.stampSel n.val then e else { e with stamp := none }
  match s.res.routeOf n with
  | 1 => s.putEntry false e'
  | 2 => s.putEntry true e'
  | _ => s

/-- Whether results of a group reach the host die. -/
def State.linkOpen (s : State) (g : Grp) : Bool :=
  !(s.group g).link.silent && s.dieUp g && s.hostUp && s.pw.window.isNone

/-- The partitions that an entry of a route enters (05 R171). -/
def routeParts (route : Nat) : List Bool := if route = 1 then [false] else if route = 2 then [true] else []

/-- Words that a field die discards through field continuity count for the partitions that they would have
entered (13 R419, R421, 05 R168). -/
def GrpLink.discard (l : GrpLink) (parts : List Bool) (words : Nat) : GrpLink :=
  { l with
    discPoll := if parts.contains false then l.discPoll + words else l.discPoll
    discStrm := if parts.contains true then l.discStrm + words else l.discStrm }

/-- A field die keeps a COMB result through field continuity, up to 256 words with stamps, and
discards and counts every other (13 R419): `words` are those it brings to the partitions `parts`. -/
def State.keepOnDie (s : State) (g : Grp) (parts : List Bool) (words : Nat) (d : DieEntry) : State :=
  s.modLink g fun l =>
    if d.entry.cls = .comb ∧ (l.entries.map fun x => qsize x.entry).sum + qsize d.entry ≤ 256 then
      { l with entries := l.entries ++ [d] }
    else l.discard parts words

/-- The result of a channel on its die in field continuity (13 R419); its stamp counts where RES_STAMP asks for
it. -/
def State.keepResult (s : State) (n : Ch) (d : DieEntry) : State :=
  if s.dieUp (grpOf n) then
    s.keepOnDie (grpOf n) (routeParts (s.res.routeOf n))
      (if bit s.res.stampSel n.val then qsize d.entry else 1) d
  else s

/-- Whether a result of a group goes anywhere: to the host die, or through field continuity to its own. -/
def State.arrives (s : State) (g : Grp) : Bool := s.linkOpen g || s.pw.window.isSome

/-- A LATE marker (05 R168) enters one partition. -/
def State.putLate (s : State) (strm : Bool) (late : Nat) : State :=
  s.putEntry strm { cls := .comb, word := markerW 55 (min late 0xFFFFFF), stamp := none, src := 0 }

/-- The host die takes a result of channel n (05 R170, R180, 04 R151): window, capture, queue, a LATE marker
ahead of it in its partition where it has one to bring (R168). -/
def State.takeResult (s : State) (n : Ch) (d : DieEntry) : State :=
  let e := d.entry
  let s1 := s.setWindow n d.window
  let s2 := if bit e.word 25 then s1.noteOvr n else s1
  let s3 := s2.capResult n e.word (e.stamp.getD s.stampNow)
  let s4 := match d.late with
    | some k => if s3.res.routeOf n = 1 ∨ s3.res.routeOf n = 2 then
        s3.putLate (s3.res.routeOf n == 2) k else s3
    | none => s3
  s4.routeEntry n e

/-- A result of channel n is ready (05 R170): it reaches the host die; through field continuity the die keeps it
(13 R419); on a silent link it is lost. -/
def State.putResult (s : State) (n : Ch) (d : DieEntry) : State :=
  if s.linkOpen (grpOf n) then s.takeResult n d
  else if s.pw.window.isSome then s.keepResult n d
  else s

/-- A window-only result of a free non-analogue channel (05 R166): it updates the window word and nothing
else. -/
def State.putWindowOnly (s : State) (n : Ch) : State :=
  if s.linkOpen (grpOf n) then
    s.setWindow n (s.windowOf n (resultW n.val false false (s.plainData n)))
  else s

/-- The lateness of a cell stays on the first of its results in each partition (05 R168): `seen` are the
routes already marked. -/
def lateFirst (r : Results) : List Nat → List (Ch × DieEntry) → List (Ch × DieEntry)
  | _, [] => []
  | seen, (n, d) :: rest =>
    (n, if seen.contains (r.routeOf n) then { d with late := none } else d) ::
      lateFirst r (r.routeOf n :: seen) rest

/-- The results of one cell enter together, in ascending tag order (05 R170, R181). -/
def State.enterCell (s : State) (rs : List (Ch × DieEntry)) : State :=
  (lateFirst s.res [] rs).foldl (fun t r => t.takeResult r.1 r.2) s

/-- The results of one cell are complete (05 R170): in field continuity each die keeps its own under a number
they share (13 R419). -/
def State.putCell (s : State) (late : Option Nat) (rs : List (Ch × DieEntry)) : State :=
  let sorted := (allCh.flatMap fun n => rs.filter fun r => r.1 == n).map fun r =>
    (r.1, { r.2 with late := late, cell := s.comb.nextJob })
  if s.pw.window.isSome then
    sorted.foldl (fun t r => t.keepResult r.1 r.2) { s with comb.nextJob := s.comb.nextJob + 1 }
  else if s.hostUp then s.enterCell sorted
  else s

/-! ### The results of a cell -/

/-- The results of a cell that have all arrived enter together (05 R170). -/
def State.finishJobs (s : State) : State :=
  let done := s.comb.jobs.filter fun j => j.wait == 0 && j.dies == 0
  let s1 : State := { s with comb.jobs := s.comb.jobs.filter fun j => !(j.wait == 0 && j.dies == 0) }
  s1.each done fun t j => t.putCell j.late (j.got.map fun p => (chNo p.1, p.2))

/-- A conversion of a cell job brings an entry, or none (05 R170); on a silent link the entry is lost. -/
def State.jobResult (s : State) (job : Nat) (n : Ch) (e : Option DieEntry) : State :=
  let upd (j : CellJob) : CellJob :=
    if j.id = job then
      { j with
        wait := putBit j.wait n.val false
        got := j.got ++ (if s.arrives (grpOf n) then (e.map fun x => (n.val, x)).toList else []) }
    else j
  State.finishJobs { s with comb.jobs := s.comb.jobs.map upd }

/-- A conversion that was asked for is lost: the cell that awaits it awaits it no longer (05 R170). -/
def State.loseReq (s : State) (n : Ch) (r : Option ConvReq) : State :=
  match r with
  | some { cls := _, stamp := _, job := some j } => s.jobResult j n none
  | _ => s

/-- Whatever a channel holds, waits for or injects is lost, and the result of a conversion in progress, which is
not interrupted (04 R122, R138, R156, 02 R40). -/
def State.dropConv (s : State) (n : Ch) : State :=
  let a := (s.chan n).ai
  let s1 := s.modAi n fun a => { a with held := false, req := none, void := a.busy.isSome, inj := none }
  (s1.loseReq n a.req).loseReq n (if a.void then none else a.busy)

/-- A conversion engine stops or restarts (01 R28, 13 R397, R407): its conversions end. -/
def State.killConv (s : State) (n : Ch) : State :=
  (s.dropConv n).modAi n fun a => { a with busy := none, void := false }

/-- The cells of some dies that have not run bring nothing more: no cell awaits them (05 R170). -/
def State.dropShares (s : State) (gs : List Grp) : State :=
  State.finishJobs { s with comb.jobs := s.comb.jobs.map fun j =>
    { j with dies := j.dies &&& ~~~(gs.foldl (fun w g => w ||| BitVec.ofNat 4 (1 <<< g.val)) 0) } }

/-! ### Reading -/

/-- As many whole entries from the head as fit in a count of words (05 R170, R177). -/
def takeWhole : List QEntry → Nat → List QEntry
  | [], _ => []
  | e :: es, n => if (qsize e) ≤ n then e :: takeWhole es (n - (qsize e)) else []

/-- The words of entries. -/
def entryWords (es : List QEntry) : List Word :=
  es.flatMap fun e => e.word :: e.stamp.toList

/-- Whether a frame or read must open with a SOURCE marker (05 R173): its first entry belongs to another
node and is no such marker itself. -/
def Partition.leads (p : Partition) : Bool :=
  match p.entries with
  | [] => false
  | e :: _ => e.src != 0 && e.word != (sourceEntry e.src).word

/-- The whole entries that a frame or read of up to n words takes (05 R173, R177, R178): a SOURCE marker
whose entry does not fit waits with it. -/
def Partition.took (p : Partition) (n : Nat) : List QEntry :=
  let es := takeWhole p.entries (if p.leads then n - 1 else n)
  match es, p.entries with
  | [e], _ :: _ :: _ => if e.src != 0 && e.word == (sourceEntry e.src).word then [] else es
  | _, _ => es

/-- A frame or read of up to n words from a partition (05 R173, R177, R178). -/
def Partition.head (p : Partition) (n : Nat) : List QEntry :=
  match p.entries, p.took n with
  | e :: _, x :: es => if p.leads then sourceEntry e.src :: x :: es else x :: es
  | _, _ => []

/-- What remains of a partition after `head` (05 R177). -/
def Partition.rest (p : Partition) (n : Nat) : Partition :=
  { p with entries := p.entries.drop (p.took n).length }

end Sys2Proof.Machine
end

