-- ==== Sys2Proof/Machine/Outputs.lean ====
section
/-! DEFINITION. The output stages: duty and PWM, the protection states of switched outputs, analogue
codes, loop supplies, and what applying a command does to each (03, 06, 02 R76). -/

namespace Sys2Proof.Machine

/-! ### Duty -/

/-- PWM_EN (03 R80). -/
def ChCfg.pwm (c : ChCfg) : Bool := bit c.outCfg 24

/-- CP_EN with the policy set to act (03 R89). -/
def ChCfg.cpAct (c : ChCfg) : Bool := bit c.outCfg 25 && !bit c.outPol 28

/-- The constant-power duty before saturation, in 0.01 %: D_cmd x (V_REF / VF)^2 (03 R89). -/
def cpDuty (c : ChCfg) (dCmd : Nat) (vfmV : Nat) : Nat :=
  let vref := fld c.outCfg 8 0 * 100
  let a : Int := (dCmd * vref * vref : Nat)
  let b := vfmV * vfmV
  if b = 0 then 10000 else (roundDiv (Config.tieUp a b) a b).toNat

/-- The minimum-pulse rule (03 R88): an on-time shorter than 2 x VF / SLEW is applied as 0, an
off-time shorter than that as 1. -/
def minPulse (c : ChCfg) (d vfmV : Nat) : Nat :=
  let k := 100000 * fld c.outCfg 23 20
  let e := 2 * vfmV * fld c.outCfg 19 9
  if d * k < e then 0 else if (10000 - d) * k < e then 10000 else d

/-- The applied duty (03 R82, R88, R89): 1 without PWM. -/
def appliedDuty (c : ChCfg) (dCmd vfmV : Nat) : Nat :=
  if c.pwm then minPulse c (if c.cpAct then min 10000 (cpDuty c dCmd vfmV) else dCmd) vfmV
  else 10000

/-- The applied duty of an output that is on: 1 through an on-pulse of a cell (07 R223); through a hold
of the guard the constant-power policy is suspended (08 R257). -/
def onDuty (c : ChCfg) (o : ChOut) (held : Bool) (vfmV : Nat) : BitVec 14 :=
  if o.pulse = some true then 10000
  else if held then BitVec.ofNat 14 (if c.pwm then minPulse c o.cmdDuty.toNat vfmV else 10000)
  else BitVec.ofNat 14 (appliedDuty c o.cmdDuty.toNat vfmV)

/-! ### Pairs -/

/-- Change the output state of a channel, and of its mate alike on a PARALLEL pair (03 R94). -/
def State.modOutP (s : State) (n : Ch) (f : ChOut → ChOut) : State :=
  let s1 := s.modOut n f
  if s.pairOf n = .parallel then
    s1.modOut (mateOf n) fun o =>
      let p := (s1.chan n).out
      { o with ps := p.ps, cmdOn := p.cmdOn, hostOn := p.hostOn, polOn := p.polOn,
               cmdDuty := p.cmdDuty, duty := p.duty,
               due := p.due, retryUsed := p.retryUsed, defer := p.defer, inrMa := p.inrMa, frozen := p.frozen,
               lowOff := p.lowOff, pulse := p.pulse, diag := p.diag,
               shedDie := p.shedDie, shedEnv := p.shedEnv, turn := p.turn }
  else s1

/-! ### Switching -/

/-- The cooling condition of R97, as the temperatures last measured and SWITCH_COOLED give it; of both
switches of a PARALLEL pair, which work as one output (03 R94). -/
def State.cooled (s : State) (n : Ch) : Bool :=
  (s.chan n).out.cool && (s.pairOf n != .parallel || (s.chan (mateOf n)).out.cool)

/-- The group is at or above 13.5 V (03 R98, R102, R117), as its crossings and its last measured voltage
tell. -/
def State.vfReady (s : State) (g : Grp) : Bool :=
  let u := (s.group g).sup
  u.above && !u.low && !u.uvlo

/-- Ready (03 R98): the die works, the group is at or above 13.5 V and the conditions of R97 hold. -/
def State.readyOn (s : State) (n : Ch) : Bool :=
  s.vfReady (grpOf n) && s.cooled n && s.dieUp (grpOf n)

/-- A switch-on of the group starts now (03 R119, 08 R258). -/
def State.noteOn (s : State) (g : Grp) : State :=
  s.modSup g fun u => { u with lastOn := some s.time }

/-- Whether a switch-on is 5 ms clear of the group's previous one (03 R119, 08 R258, R268). -/
def State.clearOn (s : State) (g : Grp) : Bool := s.spaced (s.group g).sup.lastOn (5 * milli)

/-- Switch on at SLEW (03 R84, R98): INRUSH at a duty of 1 and at INRUSH_I while INRUSH_T is not 0,
else ON. -/
def State.switchOn (s : State) (n : Ch) : State :=
  let c := s.cfgOf n
  let inr := fld c.outLim 18 12
  let vf := (s.group (grpOf n)).sup.vf.toNat
  let s1 := s.modOutP n fun o =>
    if inr = 0 then
      { o with ps := .on, duty := onDuty c o (s.chan n).guard.held vf, polOn := false, lowOff := false,
               olCond := false, turn := false }
    else
      { o with ps := .inrush, duty := 10000, inrMa := fld c.outLim 29 20 * 10, frozen := false,
               polOn := false, lowOff := false, olCond := false, turn := false }
  s1.noteOn (grpOf n)

/-- The states that hold a channel off with its return to come: the end of a pulse still decides there
(07 R223). -/
def PState.returns : PState → Bool
  | .tripWait | .shed | .uvloOff => true
  | _ => false

/-- Switch off at SLEW into a protection state (03 R98). -/
def State.switchOff (s : State) (n : Ch) (p : PState) : State :=
  s.modOutP n fun o => { o with
    ps := p, duty := 0, heldRetry := false, polOn := false, frozen := false, olCond := false
    turn := false
    pulse := if p.returns then o.pulse else none, diag := false }

/-- The applied duty of an output that is on follows its configuration and its pulses (03 R88, R89); nothing
changes it while the guard holds the channel (08 R257). -/
def State.refreshDuty (s : State) (n : Ch) : State :=
  let c := s.cfgOf n
  let vf := (s.group (grpOf n)).sup.vf.toNat
  match (s.chan n).out.ps, (s.chan n).guard.held with
  | .on, false | .limit, false => s.modOutP n fun o => { o with duty := onDuty c o false vf }
  | _, _ => s

/-- A guard entry of ON or VALUE sets the duty of an output that is on already (01 R16, 08 R254). -/
def State.guardDuty (s : State) (n : Ch) : State :=
  let c := s.cfgOf n
  let vf := (s.group (grpOf n)).sup.vf.toNat
  match (s.chan n).out.ps with
  | .on | .limit => s.modOutP n fun o => { o with duty := onDuty c o true vf }
  | _ => s

/-- The modem stops (06 R202, R210): a close that waited for the end of a transmission takes effect. -/
def ChHart.stop (h : ChHart) : ChHart :=
  { h with phase := .idle, txBusy := false, tx := [], winOpen := h.winOpen && !h.closing, closing := false }

/-- Clear the retry and deferral counts (03 R103). -/
def State.clearRetry (s : State) (n : Ch) : State :=
  s.modOutP n fun o => { o with retryUsed := 0, defer := 0 }

/-- An off command reaches the protection states (03 R98). -/
def State.commandOff (s : State) (n : Ch) : State :=
  match (s.chan n).out.ps with
  | .lockedOff => s
  | _ =>
    let s1 := s.modOutP n fun o => { o with
      cmdOn := false, hostOn := false, cmdDuty := 0, shedDie := false, shedEnv := false }
    (s1.clearRetry n).switchOff n .off

/-- An on command at a duty reaches the protection states (03 R98): it switches on when ready, is
held in PEND when not, and is kept in the states that hold the channel off. -/
def State.commandOn (s : State) (n : Ch) (d : BitVec 14) : State :=
  let keep := s.modOutP n fun o => { o with cmdOn := true, cmdDuty := d }
  match (s.chan n).out.ps with
  | .lockedOff => s
  | .off => if s.readyOn n then keep.switchOn n else keep.modOutP n fun o => { o with ps := .pend }
  | _ => keep

/-- A switching command, on or off. -/
def State.command (s : State) (n : Ch) (on : Bool) (d : BitVec 14) : State :=
  if on then s.commandOn n d else s.commandOff n

/-- LOCKED_OFF and LOCKOUT (03 R98, R105): the command is set to off. -/
def State.lockOff (s : State) (n : Ch) : State :=
  ((s.switchOff n .lockedOff).modOutP n fun o => { o with
    cmdOn := false, hostOn := false, cmdDuty := 0 }).tripFault n 31

/-- A trip (03 R102, R104): TRIP_WAIT with the retry timer started, or LOCKED_OFF with no retry
remaining or the retry policy in report only; a channel that the guard holds stays off for the rest
of the hold (08 R259). -/
def State.trip (s : State) (n : Ch) : State :=
  let c := s.cfgOf n
  let o := (s.chan n).out
  if (s.chan n).guard.held then
    (s.switchOff n .off).modGuard n fun g => { g with tripped := true }
  else if bit c.outPol 31 then (s.recordDecision n 1).lockOff n
  else if fld c.outPol 23 20 ≤ o.retryUsed.toNat then s.lockOff n
  else (s.switchOff n .tripWait).modOutP n fun o =>
    { o with due := s.time + fld c.outPol 19 10 * 10 * milli }

/-- A policy turns a channel on (01 R17): on a scheduled channel at its next covering APPLY cell, on a
free one now. -/
def State.policyOn (s : State) (n : Ch) : State :=
  if s.schedNow n then s.modOutP n fun o => { o with polOn := true } else s.switchOn n

/-- A due retry is decided (03 R102): deferred while the trip conditions last, locked at the eighth
deferral, else counted and made. -/
def State.retryNow (s : State) (n : Ch) : State :=
  if !s.cooled n then
    if (s.chan n).out.defer = 7 then s.lockOff n
    else s.modOutP n fun o => { o with
      defer := o.defer + 1, heldRetry := false
      due := s.time + fld (s.cfgOf n).outPol 19 10 * 10 * milli }
  else
    (s.modOutP n fun o => { o with
      defer := 0, heldRetry := false, retryUsed := satInc o.retryUsed }).policyOn n

/-! ### Analogue outputs and loop supplies -/

/-- The stage takes a code (06 R187, R202): a code from 0 to non-zero is a switch-on of the group. -/
def State.setCode (s : State) (n : Ch) (k : BitVec 16) : State :=
  let s1 := s.modAo n fun a => { a with code := k, heldCode := none, down := false, off := false }
  if (s.chan n).ao.code == 0 && k != 0 then s1.noteOn (grpOf n) else s1

/-- Whether a code must wait (06 R199, R201): below UVLO, for a turn of the recovery that the output has
not had, from 0 to non-zero below VF_LOW, and at a blocked stage. -/
def State.codeWaits (s : State) (n : Ch) (k : BitVec 16) : Bool :=
  let a := (s.chan n).ao
  let u := (s.group (grpOf n)).sup
  u.uvlo || a.down || a.blocked || (u.low && a.code == 0 && k != 0) ||
    (u.recovering && a.code == 0 && a.heldCode.isSome && k != 0)

/-- Apply an output code (06 R188, R199, R201): at once, or held until it may act. -/
def State.applyCode (s : State) (n : Ch) (k : BitVec 16) : State :=
  if s.codeWaits n k then s.modAo n fun a => { a with heldCode := some k } else s.setCode n k

/-- Turn a loop supply on or off (02 R76, R77). -/
def State.setLoop (s : State) (n : Ch) (on : Bool) : State :=
  let was := (s.chan n).loop.on
  let s1 := s.modCh n fun c => { c with loop := { c.loop with
    on := on, limit := c.loop.limit && on, iloop := if on then c.loop.iloop else 0 } }
  if on && !was then s1.noteOn (grpOf n) else s1

/-- A loop supply is called for (02 R76, R77, 13 R395): it waits for recovery below VF_LOW, and for its
restart while it is off for overload. -/
def State.loopOn (s : State) (n : Ch) : State :=
  let u := (s.group (grpOf n)).sup
  if u.uvlo || u.low then s.modCh n fun c => { c with loop := { c.loop with want := true } }
  else if (s.chan n).loop.ovlOff then s
  else s.setLoop n true

/-- A loop supply is off and nothing brings it back by itself. -/
def State.loopOff (s : State) (n : Ch) : State :=
  (s.setLoop n false).modCh n fun c => { c with loop := { c.loop with want := false, ovlOff := false } }

/-- Outputs of a mode off: switched off at SLEW, 0 mA or 0 V; a pending command is
discarded (02 R40, 13 R402). -/
def State.outputsOff (s : State) (n : Ch) : State :=
  let s1 := s.modCh n fun c => { c with pend := none }
  let m := s.modeOf n
  if m.isSwitch then s1.commandOff n
  else if m.isAo then s1.modAo n fun a => { a with
      code := 0, heldCode := none, down := false, off := false }
  else s1

/-! ### Commands arriving at the field die -/

/-- A host command that is applied clears OVERRIDDEN (02 R35). -/
def State.clearOverridden (s : State) (n : Ch) : State :=
  s.modCh n fun c => { c with overridden := false }

/-- A policy off action overrides the host's command of the same channel (01 'Layers of action'). -/
def State.countOverride (s : State) (n : Ch) : State :=
  s.modCh n fun c => { c with override := satInc c.override, overridden := true }

/-- The cells of a comb that apply commands to a channel: APPLY for a switching command, AO_SET with
FIXED 0 for an analogue one (07 R231). -/
def Cell.applies (c : Cell) (n : Ch) (analogue : Bool) : Bool :=
  bit c.mask n.val &&
  if analogue then c.action == 8 && !bit c.arg 31 else c.action == 4

/-- Positions of a comb's cells that apply commands to a channel. -/
def Comb.applyPos (c : Comb) (n : Ch) (analogue : Bool) : List Nat :=
  (c.cells.filter fun x => x.applies n analogue).map (·.pos)

/-- The target cell of a command (07 R231): position and period count of the next covering cell that
has not yet started. A cell that is due on the channel's die and has not started comes first, then the
next cell above its horizon. -/
def State.targetCell (s : State) (n : Ch) (analogue : Bool) : Option (Nat × Word) :=
  match s.comb.active with
  | none => none
  | some c =>
    let p := (s.group (grpOf n)).pos
    let per := max 1 c.hdr.period
    let covers (d : DueCell) : Bool := match c.cells[d.idx]? with
      | some x => x.applies n analogue
      | none => false
    match p.due.find? covers with
    | some d => some (d.pos % per, BitVec.ofNat 32 (d.pos / per))
    | none =>
      match (c.applyPos n analogue).find? (fun q => p.h % per < q), c.applyPos n analogue with
      | some q, _ => some (q, BitVec.ofNat 32 (p.h / per))
      | none, q :: _ => some (q, BitVec.ofNat 32 (p.h / per + 1))
      | none, [] => none

/-- A command waits at the field die for its target cell, replacing an earlier one (07 R231). -/
def State.setPend (s : State) (n : Ch) (p : PendCmd) : State :=
  s.modCh n fun c => { c with pend := some p }

end Sys2Proof.Machine
end

