-- ==== Sys2Proof/Machine/Safe.lean ====
section
/-! DEFINITION. The safe-state table: takeover by the guards, applying an entry, triggers, release,
the stagger sequence of a group, policy faults (08). -/

namespace Sys2Proof.Machine

/-! ### Takeover -/

/-- The mode that decides whether the guard takes a channel: the new one during a mode change
(08 R257, R259). -/
def State.guardMode (s : State) (n : Ch) : ChMode :=
  if (s.chan n).cfgBusy then (s.chan n).cfg.mode else s.modeOf n

/-- Whether a takeover takes a channel (08 R257): an output mode or LOOP_PWR, not held already, not
FAILED, not LOCKED_OFF. -/
def State.takes (s : State) (n : Ch) : Bool :=
  (s.guardMode n).isGuarded && !(s.chan n).guard.held && !s.failedCh n &&
  (s.chan n).out.ps != .lockedOff

/-- The guard takes a channel at T (08 R257, R259, 06 R202): the command is stored, a retry,
restoration or pending command is cancelled, a HART transmission is aborted and the modem stops. A code
that waits for recovery below UVLO stays remembered. -/
def State.takeChannel (s : State) (n : Ch) : State :=
  s.modCh n fun c => { c with
    guard := { held := true, applied := false, frozen := false, tripped := false, uvlo := false,
               t := s.time,
               cmdOn := c.out.cmdOn, cmdDuty := c.out.cmdDuty,
               code := c.ao.heldCode.getD c.ao.code, loopOn := c.loop.on || c.loop.want }
    out := match c.out.ps with
      | .tripWait | .shed | .pend =>
        { c.out with ps := .off, duty := 0, shedDie := false, shedEnv := false, heldRetry := false,
                     polOn := false }
      | _ => { c.out with polOn := false }
    ao := { c.ao with heldCode := if c.ao.down then c.ao.heldCode else none }
    hart := if c.hart.phase == .sending then
        { c.hart.stop with last := 4, carrier := false }
      else { c.hart with carrier := false } }

/-- FOK_DLY (08 R265). -/
def State.fokDly (s : State) : Nat := fld s.safe.cfg 9 0

/-- Whether any group is held. -/
def State.anyHeld (s : State) : Bool := allGrp.any fun g => (s.group g).guard.held

/-! ### Entries -/

/-- The entry that the guard of n holds: CH_SAFE and CH_SAFE_VAL (08 R256); on a pair the even
channel's governs (R254). -/
def State.entryOf (s : State) (n : Ch) : Word × Word :=
  let m := s.leadOf n
  (s.group (grpOf n)).guard.copy[m.val % 8]'(Nat.mod_lt _ (by decide))

/-- RANK of the entry of n (08 R252). -/
def State.rankOf (s : State) (n : Ch) : Nat := fld (s.entryOf n).1 23 20

def State.markApplied (s : State) (n : Ch) : State :=
  s.modGuard n fun g => { g with applied := true, frozen := false }

/-- The off action of an entry in each mode (08 R254, 06 R202). -/
def State.entryOff (s : State) (n : Ch) : State :=
  let s1 :=
    match s.guardMode n with
    | .doHs | .doPp => s.commandOff n
    | .aoISrc | .aoISnk | .aoV => s.modAo n fun a => { a with
        code := 0, heldCode := none, down := false, off := true }
    | .loopPwr => s.loopOff n
    | _ => s
  s1.markApplied n

/-- The on action of an entry on a switching channel at a duty (08 R254, R259): an off channel
switches on when ready, waits in PEND when not, and stays off after a trip during the hold; one that is on
takes the duty. -/
def State.entryOn (s : State) (n : Ch) (d : BitVec 14) : State :=
  let s1 :=
    if (s.chan n).guard.tripped then s
    else (s.commandOn n d).guardDuty n
  s1.markApplied n

/-- A safe-state entry is applied (08 R254, R258). -/
def State.applyEntry (s : State) (n : Ch) : State :=
  let e := s.entryOf n
  match fld e.1 31 30, s.guardMode n with
  | 0, _ => s.entryOff n
  | 1, .loopPwr => (s.loopOn n).markApplied n
  | 1, _ => s.entryOn n 10000
  | 2, _ => s.markApplied n
  | _, .doHs => s.entryOn n (BitVec.ofNat 14 (fld e.2 13 0))
  | _, .doPp => s.entryOn n (BitVec.ofNat 14 (fld e.2 13 0))
  | _, _ => (s.applyCode n (e.2.setWidth 16)).markApplied n

/-- The guard applies OFF to every channel of its group that it holds, ignoring DELAY and RANK
(08 R260). -/
def State.allOff (s : State) (g : Grp) : State :=
  s.each ((chOf g).filter fun n => (s.chan n).guard.held) State.entryOff

/-- A copy that fails its check at an application (08 R260, R273): all OFF, TBAD, and the part of F_OKn
goes. -/
def State.badCopy (s : State) (g : Grp) : State :=
  (s.modGrp g fun x => { x with guard := { x.guard with tbad := true, fok := false } }).allOff g

/-! ### Taking over a group -/

/-- The guard of a group takes over the channels that `sel` selects, for a cause that SAFE_STAT keeps
when it is the first of the hold (08 R257, R261, R266, R273); with TBAD set the application is all OFF at once
(R260). -/
def State.takeover (s : State) (g : Grp) (cause : Nat) (sel : Ch → Bool) : State :=
  let chs := (chOf g).filter fun n => sel n && s.takes n
  let first := !s.anyHeld && s.pw.mode != .safe
  let s1 := s.each chs State.takeChannel
  let s2 : State := if first && !chs.isEmpty then { s1 with safe.cause := BitVec.ofNat 4 cause } else s1
  let s3 := s2.modGrp g fun x => { x with guard := { x.guard with
    held := x.guard.held || !chs.isEmpty
    fok := x.guard.fok && (chs.isEmpty || decide (s.fokDly ≠ 0)) } }
  if (s.group g).guard.tbad then s3.allOff g else s3

/-- Take over whole groups; the part of F_OKn goes though no channel may be taken (08 R273). -/
def State.takeGroups (s : State) (gs : List Grp) (cause : Nat) : State :=
  let first := !s.anyHeld && s.pw.mode != .safe
  let s1 := s.each gs fun t g => (t.takeover g cause fun _ => true).modGrp g fun x =>
    { x with guard := { x.guard with fok := x.guard.fok && decide (s.fokDly ≠ 0) } }
  if first && s1.anyHeld then { s1 with safe.cause := BitVec.ofNat 4 cause } else s1

/-! ### Triggers -/

/-- Every group is taken on the way to SAFE, which keeps the cause although no channel may be held
(08 R261, R266). -/
def State.takeAll (s : State) (cause : Nat) : State :=
  let t := s.takeGroups allGrp cause
  { t with safe.cause := if s.anyHeld then s.safe.cause else BitVec.ofNat 4 cause }

/-- A trigger on the normal path that takes all 32 channels (08 R261): from RUN or DOZE the module
enters SAFE; in SAFE it is recorded and nothing else changes. -/
def State.safeTrigger (s : State) (cause : Nat) : State :=
  match s.pw.mode with
  | .run | .doze => (s.takeAll cause).enterMode .safe 3
  | _ => s

/-- A policy fault (08 R265): a trigger when its SAFE_CFG bit selects it; with PF_RO a recorder entry
marked report-only. -/
def State.policyFault (s : State) (sel : Nat) (src : Nat) (subject code : Nat) (p0 p1 p2 : Word) :
    State :=
  if !bit s.safe.cfg sel then s
  else if bit s.safe.cfg 28 then
    s.recordOnly src (BitVec.ofNat 16 subject) (BitVec.ofNat 16 (reportOnly + code)) p0 p1 p2
  else s.safeTrigger 6

/-- An internal fault (08 R265, R272, 11 R361): EV127, fatal until the next reset, a policy fault
under PF_INT. -/
def State.internalFault (s : State) (code : Nat) (p0 p1 p2 : Word) : State :=
  if s.hostUp then
    let s1 := s.raise 127 0 code p0 p1 p2
    let s2 : State := { s1 with safe.intFault := true }
    s2.policyFault 29 127 0 code p0 p1 p2
  else s

/-! ### The stagger sequence -/

/-- Whether a channel waits for its turn in the group's sequence (03 R119, 06 R201, 13 R396): a channel
that the guard holds only once its entry is applied (08 R259). -/
def State.waitsTurn (s : State) (n : Ch) : Bool :=
  let c := s.chan n
  if !s.vfReady (grpOf n) || !s.dieUp (grpOf n) || (c.guard.held && (!c.guard.applied || c.guard.tripped)) then
    false
  else if (s.modeOf n).isSwitch then
    !s.isOdd n && (((c.out.ps == .uvloOff || c.out.ps == .pend) && s.readyOn n) ||
      (c.out.ps == .tripWait && c.out.heldRetry) ||
      (c.out.polOn && !s.schedNow n && !c.out.ps.isOn && s.readyOn n))
  else if (s.modeOf n).isAo then c.ao.heldCode.isSome && !c.ao.blocked
  else if s.modeOf n = .loopPwr then c.loop.want
  else false

/-- The next channel of the sequence: lowest rank, then lowest number (03 R119). -/
def State.nextTurn (s : State) (g : Grp) : Option Ch :=
  ((chOf g).filter s.waitsTurn).foldl (fun best n =>
    match best with
    | none => some n
    | some b => if s.rankOf n < s.rankOf b then some n else some b) none

/-- The channels that wait for a turn have one to come (03 R119, 08 R258). -/
def State.queueTurns (s : State) (g : Grp) : State :=
  s.modSup g fun u => { u with recovering := u.recovering || (s.nextTurn g).isSome }

/-- One switch-on of the sequence; with no channel left the sequence ends (03 R119). -/
def State.staggerStep (s : State) (g : Grp) : State :=
  match s.nextTurn g with
  | none => s.modSup g fun u => { u with recovering := false }
  | some n =>
    let s1 :=
      match s.modeOf n with
      | .doHs | .doPp =>
        if (s.chan n).out.ps == PState.tripWait && !(s.chan n).out.polOn then s.retryNow n
        else s.switchOn n
      | .loopPwr => (s.setLoop n true).modCh n fun c => { c with loop := { c.loop with want := false } }
      | _ =>
        s.setCode n (((s.chan n).ao.heldCode).getD 0)
    if (s1.nextTurn g).isNone then s1.modSup g fun u => { u with recovering := false } else s1

/-! ### Release -/

/-- The command that a channel takes at release (08 R268): the state in force, or the held command
stored at T. On a scheduled channel a restored command becomes pending for its cell; on a free one
the guard applies it, a switch-on in its turn. -/
def State.releaseChannel (s : State) (restore : Bool) (n : Ch) : State :=
  let c := s.chan n
  let g := c.guard
  let s0 := s.modGuard n fun _ => ChGuard.reset
  let m := s.guardMode n
  if m.isSwitch then
    if !restore then
      s0.modOut n fun o => if o.ps.isOn || o.ps == .uvloOff then o else
        { o with cmdOn := false, cmdDuty := 0, ps := if o.ps == .pend then .off else o.ps }
    else if s.schedNow n then
      s0.setPend n { on := g.cmdOn, duty := g.cmdDuty, code := 0, restored := true }
    else if !g.cmdOn then s0.commandOff n
    else if c.out.ps == .off then
      s0.modOutP n fun o => { o with cmdOn := true, cmdDuty := g.cmdDuty, ps := .pend }
    else s0.commandOn n g.cmdDuty
  else if m.isAo then
    if !restore then s0
    else if s.schedNow n then
      s0.setPend n { on := false, duty := 0, code := g.code, restored := true }
    else if c.ao.code == 0 && g.code != 0 then
      s0.modAo n fun a => { a with heldCode := some g.code }
    else s0.applyCode n g.code
  else if m = .loopPwr then
    if !restore then s0
    else if g.loopOn && !c.loop.on then
      s0.modCh n fun c => { c with loop := { c.loop with want := true } }
    else s0.setLoop n g.loopOn
  else s0

/-- Release the holds of a group (08 R267, R268): the first switch-on starts at the release when the
group's last one was 5 ms ago, the others follow in the sequence. -/
def State.releaseGroup (s : State) (restore : Bool) (g : Grp) : State :=
  let chs := (chOf g).filter fun n => (s.chan n).guard.held
  let s1 := s.each chs (fun t n => t.releaseChannel restore n)
  let s2 := s1.modGrp g fun x => { x with guard := { x.guard with held := false, stallHold := false } }
  let s3 := s2.queueTurns g
  let s4 := if s3.clearOn g then s3.staggerStep g else s3
  let s5 : State := if s4.anyHeld then s4 else { s4 with safe.cause := 0, comb.safeHeld := false }
  s5.fokRefresh

end Sys2Proof.Machine
end

