-- ==== Sys2Proof/Machine/CombTime.lean ====
section
/-! DEFINITION. The time base of the comb: extended position and horizon, the cells that become due,
reverse motion, stall and resumption, extrapolation, starting and exchanging combs (07 R214 to R217, R225,
R226, R239 to R250). -/

namespace Sys2Proof.Machine

/-! ### Cells and the shares of the dies -/

/-- The dies that take part in a cell (07 R221). -/
def Cell.onDie (c : Cell) (g : Grp) : Bool := c.group.getLsbD g.val

/-- The channels that a cell covers. -/
def Cell.covered (c : Cell) : List Ch := allCh.filter fun n => bit c.mask n.val

/-- The cell as the shares of some dies hold it (07 R225): the mask restricted to their channels. -/
def Cell.forDies (c : Cell) (gs : List Grp) : Cell :=
  { c with
    group := c.group &&& gs.foldl (fun w g => w ||| BitVec.ofNat 4 (1 <<< g.val)) 0
    mask := c.mask &&& gs.foldl (fun w g => w ||| (0xFF#32 <<< (8 * g.val))) 0 }

/-- The claimed duration in field ticks (07 R222). -/
def Cell.ticks (c : Cell) : Nat := c.count * 16 ^ c.scale.toNat

/-- PERIOD, never 0. -/
def Comb.per (c : Comb) : Nat := max 1 c.hdr.period

/-- 400 ns on TB1 and TB2 (07 R226), in units of 50 ns. -/
def Comb.lag (c : Comb) : Nat := if c.hdr.tb = 1 ∨ c.hdr.tb = 2 then 8 else 0

/-- The cells of a die's share with extended positions from lo to hi, in the order in which they become due
(07 R217, R225, R226). -/
def Comb.dueIn (c : Comb) (g : Grp) (lo hi due : Nat) (passed : Bool) : List DueCell :=
  let cells := (List.range c.cells.length).zip c.cells
  (List.range (hi / c.per + 1 - lo / c.per)).flatMap fun i => cells.filterMap fun x =>
    let k := lo / c.per + i
    let pos := k * c.per + x.2.pos
    if x.2.onDie g && decide (lo ≤ pos ∧ pos ≤ hi) then
      some { pos := pos, idx := x.1, due := due, passed := passed && decide (pos < hi) }
    else none

/-- H moves on to h: the cells on the way become due (07 R217, R226). -/
def Comb.reach (c : Comb) (g : Grp) (now h : Nat) (passed : Bool) (p : DiePos) : DiePos :=
  if p.h < h then { p with h := h, due := p.due ++ c.dueIn g (p.h + 1) h (now + c.lag) passed } else p

/-- The position of a die where a comb starts: the cells at the start itself are due (07 R241, R244). -/
def Comb.startAt (c : Comb) (g : Grp) (now h : Nat) (p : DiePos) : DiePos :=
  { p with e := h, h := h, frac := 0, due := c.dueIn g h h (now + c.lag) false }

/-- A TBEVT marker (05 R168). -/
def State.tbEvent (s : State) (d : Nat) : State := s.putMarker 52 d

def State.modPos (s : State) (g : Grp) (f : DiePos → DiePos) : State :=
  s.modGrp g fun x => { x with pos := f x.pos }

/-- The channel that sources TB1 or TB2 (07 R214, R220). -/
def Comb.source (c : Comb) : Ch := chNo c.hdr.tbsrc.toNat

/-- Whether n supplies the time base of the active comb. -/
def State.isSource (s : State) (n : Ch) : Bool :=
  match s.comb.active with
  | some c => (c.hdr.tb == 1 || c.hdr.tb == 2) && c.source == n
  | none => false

/-- The real position of a comb's time base now (07 R214). -/
def State.realPos (s : State) (c : Comb) : Nat :=
  let p : Int := c.hdr.period
  let x : Int :=
    if c.hdr.tb = 1 then (s.chan c.source).cnt.val.toInt + c.hdr.tbOffset
    else if c.hdr.tb = 2 then (s.chan c.source).mains.phase.toNat + c.hdr.tbOffset
    else if c.hdr.tb = 3 then s.sw.st.toNat / max c.hdr.prescale 1
    else 0
  (x % p).toNat

/-- Where a comb starts (07 R241, R244): 0 on TB0, the present position on the others. -/
def State.startPos (s : State) (c : Comb) : Nat := if c.hdr.tb = 0 then 0 else s.realPos c

/-- HART windows of scheduled channels start closed (07 R241, R244, 06 R210). -/
def State.closeWindows (s : State) (c : Comb) : State :=
  s.each allCh fun t n =>
    if bit c.hdr.sched n.val then t.modHart n fun h =>
      if h.phase == .sending then { h with closing := true } else { h with winOpen := false }
    else t

/-- The generation of the COMB_POS pair counts the changes of its high half from an earlier state
(10 R331). -/
def State.countGen (s old : State) : State :=
  if s.pcount = old.pcount then s else { s with comb.cgen := s.comb.cgen + 1 }

/-- The WRAP marker (05 R168). -/
def State.wrapMarker (s : State) : State :=
  if bit s.res.cfg 26 then s.putMarker 49 s.pcount.toNat else s

/-- Stop the comb: E, H and the period count keep their values, no cell is due, and there is no rate (07 R243 to
R245). -/
def State.stopComb (s : State) : State :=
  State.dropShares
    { s.each allGrp (fun t g => t.modPos g fun p => { p with due := [] }) with
      comb.started := false, comb.lateSeen := [], comb.moves := [], comb.overspd := false } allGrp

/-- Start the active comb at an entry to RUN or at an exchange (07 R241, R244): claims that still run keep
their resources, and conversions in progress their cells. -/
def State.startComb (s : State) : State :=
  match s.comb.active with
  | none => s
  | some c =>
    let p := s.startPos c
    let s1 := s.stopComb.each allGrp fun t g => t.modPos g (c.startAt g s.time p)
    let s2 : State := { s1 with
      comb.started := true, comb.cond := .normal, comb.subTicks := 0, comb.stallAt := 0, comb.revd := false
      comb.moves := [(s.time, 0)], comb.tb3Lag := 0
      comb.tb3Base := (p : Int) - (s.sw.st.toNat / max c.hdr.prescale 1 : Nat) }
    s2.closeWindows c

/-! ### The horizon -/

/-- The groups whose position moves with a source on a channel (07 R217, R250): its own and those to which it
is relayed; the host die follows it for a failed group, whose cells are no-ops (01 R29). A die that
extrapolates moves by itself. -/
def State.relayed (s : State) (g : Grp) : Bool :=
  let l := (s.group g).link
  match s.comb.active with
  | none => false
  | some c =>
    let src := grpOf c.source
    !l.extrap && (l.failed || g == src || (!l.silent && !(s.group src).link.silent))

/-- Whether cells become due on a die: it works, or the host die counts its no-ops (01 R29). -/
def State.hasShare (s : State) (g : Grp) : Bool := s.dieUp g || (s.group g).link.failed

/-- The last horizon before the next period boundary; the wrap itself is COMB_PERIOD_WRAP (log
entry 2). -/
def wrapLimit (h period : Nat) : Nat := (h / period + 1) * period - 1

/-- H of a die moves on to at most x, and not past the end of the period (07 R217). -/
def State.reachH (s : State) (c : Comb) (g : Grp) (x : Int) (passed : Bool) : State :=
  s.modPos g fun p =>
    let h := min x.toNat (wrapLimit p.h c.per)
    if s.hasShare g then c.reach g s.time h passed p else { p with h := max p.h h, due := [] }

/-- H follows E (07 R217). -/
def State.followE (s : State) (c : Comb) (g : Grp) (passed : Bool) : State :=
  s.reachH c g (s.group g).pos.e passed

/-- The next value at or after h whose position is p (07 R249). -/
def nextAt (h p period : Nat) : Nat := h + (p + period - h % period) % period

/-- H of a die jumps forward to the real position (07 R249): the cells passed count as passed. -/
def State.jumpTo (s : State) (c : Comb) (g : Grp) (real : Nat) : State :=
  s.modPos g fun p =>
    let h := nextAt p.h real c.per
    { (if s.hasShare g then c.reach g s.time h true p else { p with h := h, due := [] }) with e := h }

/-- Reverse motion is declared (07 R247). -/
def State.declareReverse (s : State) : State :=
  let s1 : State := { s with comb.reversals := satInc s.comb.reversals }
  (s1.tbEvent 2).raise 91 0 1 s1.combEvcntW s1.combRateW 0

/-- Whether the comb acts as HOLD in its stall: FALLBACK with no measured period on TB1 or TB2 acts so
(07 R248). -/
def State.stallHolds (s : State) (c : Comb) : Bool :=
  c.hdr.stallact == 0 ||
  (c.hdr.stallact == 1 && c.hdr.tb != 3 && s.comb.fbper == 0xFFFFFFFF#32)

/-- The horizon has moved from an earlier state (07 R240, 05 R168, 10 R331): a period wrap that it passed is
counted and marked, and an armed exchange is due at it. -/
def State.afterMove (s old : State) : State :=
  if s.pcount = old.pcount then s
  else State.wrapMarker { s.countGen old with comb.wrapDue := s.comb.armed.isSome }

/-- The time base advances again after a stall (07 R249): on TB2, and on TB1 after FALLBACK, H jumps to the
real position; on TB1 after HOLD or SAFE the cells go on from H, those that E has passed as passed; on TB3 the
time base itself goes on from H, and what it is behind the swarm time is slewed out. -/
def State.resume (s : State) : State :=
  match s.comb.active with
  | none => s
  | some c =>
    let jump := c.hdr.tb == 2 || (c.hdr.tb == 1 && s.comb.cond == .fallback)
    let s1 : State := { s with
      comb.cond := .normal, comb.revd := false
      comb.tb3Lag := if c.hdr.tb = 3 then
        s.comb.tb3Lag + 1000 * ((s.group s.posGrp).pos.e - s.horizon).toNat else 0 }
    let s2 := s1.each allGrp fun t g =>
      if c.hdr.tb = 3 then t.modPos g fun p => { p with e := min p.e p.h }
      else if !t.relayed g then t
      else if jump then t.jumpTo c g (s.realPos c)
      else t.followE c g true
    (s2.afterMove s).tbEvent 3

/-- OVERSPD follows COMB_RATE (07 R245): EV89 when it sets. -/
def State.checkRate (s : State) : State :=
  match s.comb.active with
  | none => s
  | some c =>
    let ovs := s.combLive && decide ((c.hdr.rateMax : Int) < s.rateNow)
    let s1 : State := { s with comb.overspd := ovs }
    if ovs && !s.comb.overspd then s1.raiseLate 0 3 else s1

/-- The moves that COMB_RATE needs (07 R242): the last 10 ms and the last 17 units. -/
def keepMoves (now : Nat) : Nat → List (Nat × Int) → List (Nat × Int)
  | _, [] => []
  | k, m :: ms => if k = 0 ∧ m.1 + 200000 < now then [] else m :: keepMoves now (k - m.2.natAbs) ms

/-- A move of the time base counts for COMB_RATE (07 R242, R245). -/
def State.noteMove (s : State) (d : Int) : State :=
  if d = 0 then s
  else State.checkRate { s with comb.moves := keepMoves s.time 17 ((s.time, d) :: s.comb.moves) }

/-- TB1 moves by d counts (07 R217, R242, R247, R249): its own die tells reverse motion, for the horizon of
another may stand ahead (R250). -/
def State.moveTb1 (s : State) (d : Int) : State :=
  match s.comb.active with
  | none => s
  | some c =>
    if !s.combLive then s
    else
      let old := (s.group (grpOf c.source)).pos
      let s0 := s.each allGrp fun t x =>
        if t.relayed x then t.modPos x fun p => { p with e := p.e + d } else t
      let s1 := s0.noteMove d
      let e := old.e + d
      let follow (t : State) := t.each allGrp fun t x => if t.relayed x then t.followE c x false else t
      match s.comb.cond with
      | .normal =>
        let s2 := follow s1
        if e ≤ (old.h : Int) - 4 then State.declareReverse { s2 with comb.cond := .reversed } else s2
      | .reversed =>
        if (old.h : Int) < e then (follow { s1 with comb.cond := .normal }).tbEvent 3 else s1
      | _ =>
        if s.comb.stallAt < e then s1.resume
        else if e ≤ s.comb.stallAt - 4 ∧ !s.comb.revd then
          State.declareReverse { s1 with comb.revd := true }
        else s1

/-- TB2 moves by d, the shortest way to the position that its phase gives (07 R214, R242, R247): it never runs
backwards, so a phase behind only holds cells. -/
def State.moveTb2 (s : State) (d : Int) : State :=
  match s.comb.active with
  | none => s
  | some c =>
    if s.combLive && s.comb.cond == .normal then
      (s.noteMove d).each allGrp fun t x =>
        if t.relayed x then (t.modPos x fun p => { p with e := p.e + d }).followE c x false else t
    else s

/-- TB3 moves with the swarm time (07 R214, R249): what a resumed time base is behind it, it makes up at 0.1 % of
the rate. -/
def State.moveTb3 (s : State) (c : Comb) : State :=
  let raw : Int := (s.sw.st.toNat / max c.hdr.prescale 1 : Nat) + s.comb.tb3Base
  let old := (s.group s.posGrp).pos.e + ((s.comb.tb3Lag + 999) / 1000 : Nat)
  let lag := s.comb.tb3Lag - (raw - old).toNat
  let e := raw - ((lag + 999) / 1000 : Nat)
  let s1 : State := { s with comb.tb3Lag := lag }
  (s1.noteMove (e - (s.group s.posGrp).pos.e)).each allGrp fun t g =>
    let u := t.modPos g fun p => { p with e := e }
    if s.cellsRun then u.followE c g false else u

/-- An extrapolating die moves on at the last relayed rate (07 R250). -/
def State.extrapolate (s : State) (c : Comb) (g : Grp) : State :=
  let l := (s.group g).link
  if !l.extrap then s
  else
    let s1 := s.modPos g fun p =>
      let f := p.frac + l.rate
      { p with e := p.e + f / 20000000, frac := f % 20000000 }
    s1.followE c g false

/-- The emulated position of FALLBACK on TB1 and TB2 runs on at PERIOD / FBPER units per µs (07 R248). -/
def State.emulate (s : State) (c : Comb) : State :=
  let lim := max 1 (20 * s.comb.fbper.toNat)
  let k := s.comb.subTicks + c.hdr.period
  let s1 : State := { s with comb.emul := s.comb.emul + (k / lim : Nat), comb.subTicks := k % lim }
  s1.each allGrp fun t g => if t.relayed g then t.reachH c g s1.comb.emul false else t

/-- 50 ns pass for the comb (07 R214, R248, R250; log entry 2): TB0 advances one unit per PRESCALE units of
50 ns, TB3 follows the swarm time through every stall, and FALLBACK emulates TB1 and TB2. -/
def State.combTick (s : State) : State :=
  match s.comb.active with
  | none => s
  | some c =>
    if !s.combLive then s
    else
      let pre := max c.hdr.prescale 1
      let s1 :=
        if c.hdr.tb = 0 then
          if pre ≤ s.comb.subTicks + 1 then
            let t := s.each allGrp fun t g =>
              (t.modPos g fun p => { p with e := p.e + 1 }).followE c g false
            { t with comb.subTicks := 0 }
          else { s with comb.subTicks := s.comb.subTicks + 1 }
        else if c.hdr.tb = 3 then s.moveTb3 c
        else
          let t := s.each allGrp fun t g => t.extrapolate c g
          if s.comb.cond = .fallback then t.emulate c else t
      s1.checkRate

/-! ### Stall -/

/-- The guards take the scheduled channels for a stall with STALLACT SAFE (07 R248, 08 R261). -/
def State.stallSafe (s : State) : State :=
  let s1 := s.each allGrp fun t g =>
    let u := t.takeover g 0xA fun n => t.scheduled n
    if (u.group g).guard.held && !(t.group g).guard.held then
      u.modGrp g fun x => { x with guard := { x.guard with stallHold := true } }
    else u
  { s1 with comb.safeHeld := true }

/-- A stall is declared (07 R248): the value of E counts for the return of TB1, and an emulated position
starts from it. TB0 never stalls. -/
def State.stall (s : State) : State :=
  match s.comb.active with
  | none => s
  | some c =>
    if c.hdr.tb = 0 || !s.combLive || s.comb.cond == .stalled || s.comb.cond == .fallback then s
    else
      let e := (s.group (if c.hdr.tb = 3 then s.posGrp else grpOf c.source)).pos.e
      let s1 : State := { s with
        comb.stalls := satInc s.comb.stalls
        comb.stallAt := e, comb.emul := e, comb.subTicks := 0, comb.revd := false }
      let s2 := (s1.tbEvent 1).raise 90 0 1 s1.combEvcntW s1.comb.fbper 0
      if c.hdr.stallact = 2 then State.stallSafe { s2 with comb.cond := .stalled }
      else if s2.stallHolds c then { s2 with comb.cond := .stalled }
      else State.tbEvent { s2 with comb.cond := .fallback } 4

/-! ### Exchange -/

/-- A command of the host reaches a switched output (03 R98, 02 R35): on a shed channel an on command is kept,
overridden by the policy (01 R18); else the command is applied and clears OVERRIDDEN. -/
def State.hostCommand (s : State) (n : Ch) (on : Bool) (d : BitVec 14) : State :=
  let s1 := (s.command n on d).modOutP n fun o => { o with hostOn := on && o.cmdOn }
  if on && (s.chan n).out.ps == .shed then s1.countOverride n else s1.clearOverridden n

/-- The pending command of a channel takes effect (07 R231). -/
def State.takePend (s : State) (n : Ch) (p : PendCmd) : State :=
  let s1 := s.modCh n fun c => { c with pend := none }
  if (s.modeOf n).isAo then
    (if p.restored then s1 else s1.clearOverridden n).applyCode n p.code
  else if !(s.modeOf n).isSwitch then s1
  else if p.restored then s1.command n p.on p.duty
  else s1.hostCommand n p.on p.duty

/-- A command pending at the die is applied now under the free rules (07 R230, R241). -/
def State.applyPendFree (s : State) (n : Ch) : State :=
  match (s.chan n).pend with
  | none => s
  | some p => s.takePend n p

/-- The half of the comb store that holds the image of a bank (07 R239). -/
def CombState.storeOf (c : CombState) (b : Bool) : Option (List Byte) := if b then c.store1 else c.store0

def CombState.bankOf (c : CombState) (b : Bool) : List Byte := if b then c.bank1 else c.bank0

def CombState.setBank (c : CombState) (b : Bool) (bs : List Byte) : CombState :=
  if b then { c with bank1 := bs } else { c with bank0 := bs }

/-- The ACTIVE mark follows the image that becomes active (07 R239). -/
def CombState.remark (c : CombState) : CombState :=
  { c with mark :=
      if c.active.isSome && c.storeOf c.actBank == some (c.bankOf c.actBank) then some c.actBank
      else none }

/-- Whether two combs share TB, TBSRC and PERIOD, so that FBPER is kept (07 R241, R242). -/
def sameBase : Option Comb → Option Comb → Bool
  | some a, some b => a.hdr.tb == b.hdr.tb && a.hdr.tbsrc == b.hdr.tbsrc && a.hdr.period == b.hdr.period
  | _, _ => false

/-- A channel that a comb takes under its schedule (07 R230, 04 R157): an injection or a free conversion that
waits is dropped. -/
def State.takeUnderComb (s : State) (n : Ch) : State :=
  s.modAi n fun a => { a with
    inj := none
    req := match a.req with
      | some r => if r.cls == .comb then some r else none
      | none => none }

/-- The armed exchange takes place on every die (07 R240, R241): to the verified comb, or to no comb
after STOP; a new comb in place of a stopped one starts at the next entry to RUN (R244). Actions in progress
finish; a switch-on that waits for a cell of a channel now free takes its
turn. -/
def State.exchange (s : State) : State :=
  match s.comb.armed with
  | none => s
  | some toNext =>
    let s0 := s.stopComb
    let c := s0.comb
    let new := if toNext then c.next else none
    let bank := if toNext then !c.actBank else c.actBank
    let c1 : CombState := { c with
      active := new
      actBank := bank
      next := if toNext then none else c.next
      lstate := if toNext then .empty else c.lstate
      reason := if toNext then 0 else c.reason
      index := if toNext then 0 else c.index
      armed := none, wrapDue := false
      late := 0, skipped := 0, stalls := 0, reversals := 0, applyConf := 0
      moves := []
      overspd := false
      cond := .normal
      fbper := if sameBase c.active new then c.fbper else 0xFFFFFFFF#32 }
    let s1 : State := { s0 with comb := { c1.remark with started := false } }
    let waits := s.comb.active.isSome && !s.comb.started
    let s2 := (if s1.combMode && !waits then s1.startComb else s1).countGen s
    let s3 := s2.each allCh fun t n => if t.schedNow n then t.takeUnderComb n else t.applyPendFree n
    let s4 := (s3.each allGrp State.queueTurns).putMarker 51 bank.toNat
    s4.raise 88 bank.toNat (if toNext then 1 else 2) s4.combIdW s4.combStatW 0

/-! ### Slice time -/

/-- The units of slice claims on a die: cells' own claims, and those held for injections (07 R222, R223). -/
def sliceUnit : Nat := 0

def injUnit : Nat := 3

/-- The slices that the claims of some units hold on a die now (07 R226). -/
def State.claimed (s : State) (g : Grp) (units : List Nat) : Nat :=
  (((s.group g).pos.occ.filter fun x => units.contains x.unit && decide (4 * s.time < x.fin)).map
    (·.qty)).sum

/-- A slice is released for a CAL_WIN that still claims it (04 R134). -/
def State.calWindow (s : State) (g : Grp) : Bool :=
  (s.group g).conv.released.isSome && decide (s.time < (s.group g).conv.winEnd)

/-- The slices that conversions and claims share: those in service, and the one that the claim of a CAL_WIN
has released. -/
def State.slicePool (s : State) (g : Grp) : Nat :=
  (s.group g).conv.slots + (s.calWindow g).toNat

/-- Whether the monitors of a group convert now (04 R128, R130): on the spare, or with none in slice time that
no claim covers. -/
def State.monitorReady (s : State) (g : Grp) : Bool :=
  decide ((s.group g).conv.spare.toNat < 5) ||
  (decide (s.busyCount g < (s.group g).conv.slots) && decide (s.claimed g [sliceUnit] < s.slicePool g))

/-! ### Claims -/

/-- Covered channels of a cell that are analogue. -/
def State.analogueOf (s : State) (c : Cell) : List Ch := c.covered.filter fun n => (s.modeOf n).isAnalogue

/-- Slices that a cell claims (07 R223). -/
def State.slicesOf (s : State) (c : Cell) : Nat :=
  match c.action.toNat with
  | 0x02 | 0x0E => c.qty + 1
  | 0x03 => if (s.analogueOf c).isEmpty then 0 else c.qty + 1
  | 0x0D => 1
  | _ => 0

/-- A resource of a die (07 R228): 0 slices, 1 hold bus, 2 converter, 8 + n the drivers of channel n,
40 + n its modem path; what a cell uses of it and its capacity. -/
def State.uses (s : State) (c : Cell) : List (Nat × Nat) :=
  let q := s.slicesOf c
  let slices := if q = 0 then [] else [(0, q)]
  match c.action.toNat with
  | 0x01 => [(1, 1)]
  | 0x02 | 0x03 => slices ++ [(1, 1)]
  | 0x04 | 0x05 | 0x06 | 0x07 | 0x08 => c.covered.map fun n => (8 + n.val, 1)
  | 0x09 => [(2, 1)]
  | 0x0A => c.covered.map fun n => (40 + n.val, 1)
  | 0x0D | 0x0E => slices
  | _ => []

def capacityOf (u : Nat) : Nat := if u = 0 then 4 else 1

def State.useOf (s : State) (c : Cell) (u : Nat) : Nat :=
  match (s.uses c).find? fun p => p.1 == u with
  | some p => p.2
  | none => 0

end Sys2Proof.Machine
end

