-- ==== Sys2Proof/Machine/Inputs.lean ====
section
/-! DEFINITION. Digital inputs, counting, mains phase and loop supply: what the field brings about
(02 R47 to R77, 05 R166). -/

namespace Sys2Proof.Machine

/-! ### Accepted changes -/

/-- INVERT (02 R51). -/
def ChCfg.invert (c : ChCfg) : Bool := bit c.inCfg 26

/-- Whether the classes of the terminal current gate the debounce (02 R53). -/
def State.classed (s : State) (n : Ch) : Bool :=
  s.modeOf n == .diNamur || (s.modeOf n == .di && bit (s.cfgOf n).inCfg 27)

/-- Whether the inputs of a group work (13 R395, R396): not below UVLO, nor after it until 13.5 V. -/
def State.supplied (s : State) (n : Ch) : Bool := !(s.group (grpOf n)).sup.dark

/-- Whether a stamp taken now carries the no-comb mark (02 R60). -/
def State.nocomb (s : State) : Bool := s.comb.active.isNone

/-- An accepted change of STATE (02 R58, R59, R60): count, stamp, and the event, with the mark of the instant
of the stamp, when COS_EDGE selects the edge; it is a trigger of the capture (05 R184). -/
def State.acceptChange (s : State) (n : Ch) (st : Bool) (stamp : Word) (nocomb : Bool) : State :=
  let s1 := s.modIn n fun i => { i with
    state := st, lastValid := some (st != (s.cfgOf n).invert), cosCount := i.cosCount + 1, cosStamp := stamp }
  let edges := fld (s.cfgOf n).inCfg 29 28
  let sel := (s.modeOf n == .di || s.modeOf n == .diNamur) &&
    (if st then edges == 1 || edges == 3 else edges == 2 || edges == 3)
  let s2 :=
    if sel then
      let code := if st then 1 else 2
      let c := (s1.chan n).inp.cosCount
      let g := grpOf n
      if (s.group g).link.silent || !s.hostUp then
        s1.modLink g fun l => { l with events := l.events ++
          [{ source := srcNo (32 + n.val), subject := BitVec.ofNat 16 n.val, nocomb,
             code := BitVec.ofNat 16 code, stamp, p0 := c, p1 := s1.chStatusW n, p2 := 0 }] }
      else s1.raiseAt (srcNo (32 + n.val)) (BitVec.ofNat 16 n.val) (BitVec.ofNat 16 code) c
        (s1.chStatusW n) 0 stamp nocomb
    else s1
  s2.capChange n st stamp

/-- STATE while a break or short is present (02 R56, R63): as NFAULT selects in DI_NAMUR, else the last valid
level, with INVERT applied. -/
def State.faultState (s : State) (n : Ch) : Bool :=
  let c := s.cfgOf n
  match s.modeOf n, fld c.inCfg 17 16 with
  | .diNamur, 0 => c.invert
  | .diNamur, 1 => !c.invert
  | _, _ => ((s.chan n).inp.lastValid.getD (s.chan n).inp.deb) != c.invert

/-- VALID returns (02 R61): a level that differs from the last valid one is one accepted change at this
instant; the first valid state after a mode change raises nothing (R41). -/
def State.validReturn (s : State) (n : Ch) : State :=
  let i := (s.chan n).inp
  let st := i.deb != (s.cfgOf n).invert
  let s1 := s.modIn n fun i => { i with valid := true, state := st, lastValid := some i.deb }
  match i.lastValid with
  | some old => if old == i.deb then s1 else s1.acceptChange n st s.stampNow s.nocomb
  | none => s1

/-- The debounced level takes a level (02 R53). While a break or short is present STATE keeps what R56 and R63
give it; below UVLO VALID does not return (13 R395). -/
def State.acceptLevel (s : State) (n : Ch) (level : Bool) (stamp : Word) (nocomb : Bool) : State :=
  let i := (s.chan n).inp
  let st := level != (s.cfgOf n).invert
  let s1 := s.modIn n fun i => { i with deb := level, run := none }
  if i.brk || i.short then s1
  else if !s.supplied n then s1.modIn n fun i => { i with state := st }
  else if !i.valid then s1.validReturn n
  else if st == i.state then s1
  else s1.acceptChange n st stamp nocomb

/-! ### Switch points -/

/-- The nominal switch points in mV, rising and falling (02 R49, R50, R52, R64): as DITYPE selects in DI and
COUNT, of type 3 elsewhere. -/
def State.nominalPoints (s : State) (n : Ch) : Nat × Nat :=
  let c := s.cfgOf n
  if s.modeOf n == .di || s.modeOf n == .count then
    match fld c.inCfg 25 24 with
    | 0 => (13000, 7000)
    | 3 => (fld c.inThr 24 16 * 100, fld c.inThr 8 0 * 100)
    | _ => (9500, 6500)
  else (9500, 6500)

/-- A switch point of a channel in mV: within 2 % + 0.2 V of its nominal value (02 R50; log entry 106). -/
def switchPoint (n : Ch) (rising : Bool) (nominal : Nat) : Int :=
  let tol : Int := (nominal / 50 + 200 : Nat)
  nominal + clampInt (-tol) tol (Config.pointError n.val rising)

/-- The NAMUR switch points in µA, rising and falling, with at least 150 µA between them (02 R62; log
entry 106). -/
def namurPoints (n : Ch) : Int × Int :=
  let on := clampInt 1650 2100 (Config.namurPoint n.val true)
  (on, min (clampInt 1200 1550 (Config.namurPoint n.val false)) (on - 150))

/-- The raw level that a terminal gives (02 R50, R62): between the switch points it stays as it was. -/
def State.levelOf (s : State) (n : Ch) (millivolts microamps : Int) : Bool :=
  let (x, on, off) :=
    if s.modeOf n == .diNamur then (microamps, (namurPoints n).1, (namurPoints n).2)
    else
      let p := s.nominalPoints n
      (millivolts, switchPoint n true p.1, switchPoint n false p.2)
  if on ≤ x then true else if x ≤ off then false else (s.chan n).inp.raw

/-- Whether the terminal current lies in the on or off class (02 R53): between the break and the short limits
of DI_NAMUR, above the break limit of DI. -/
def State.currentClass (s : State) (n : Ch) (microamps : Int) : Bool :=
  if s.modeOf n == .diNamur then decide (350 ≤ microamps ∧ microamps ≤ 6000)
  else decide (150 ≤ microamps)

/-- A pulse shorter than GLITCH on a counting input (02 R69): more than 16 within 1 ms set ORATE. -/
def State.noteShort (s : State) (n : Ch) : State :=
  let l := (((s.chan n).inp.shorts ++ [s.time]).filter fun t => decide (s.time < t + milli))
  let l := l.drop (l.length - 17)
  let s1 := s.modIn n fun i => { i with shorts := l }
  if 16 < l.length then s1.setFault n 3 else s1

/-- TERMINAL_CROSSING (02 R49, R50, R53, R55, R64, R69): the terminal's voltage and current now, and for how
many field ticks the level before had held. RAW changes; a run towards a new level starts at its first raw
edge, is abandoned by a return or outside the on and off classes. In COUNT the level is taken by COUNT_EDGE,
and a level that held for less than GLITCH is a short pulse. -/
def execTerminalCrossing (ch : Ch) (millivolts microamps : Int) (held : Nat) (s : State) : Out :=
  if !s.dieUp (grpOf ch) || (s.chan ch).cfgBusy then .next s
  else
    let i := (s.chan ch).inp
    let level := s.levelOf ch millivolts microamps
    let s1 := s.modIn ch fun i => { i with raw := level }
    match s.modeOf ch with
    | .di | .diNamur =>
      let cls := s.currentClass ch microamps
      let s2 := s1.modIn ch fun i => { i with inClass := cls }
      if (s.classed ch && !cls) || (level == i.deb && i.valid) then
        .next (s2.modIn ch fun i => { i with run := none })
      else
        let start := if level == i.raw then i.run.getD (s.stampNow, s.nocomb) else (s.stampNow, s.nocomb)
        if fld (s.cfgOf ch).inCfg 7 0 = 0 then .next (s2.acceptLevel ch level start.1 start.2)
        else .next (s2.modIn ch fun i => { i with run := some start })
    | .count =>
      .next (if level != i.raw && decide (held < fld (s.cfgOf ch).cntCfg 7 0) then s1.noteShort ch else s1)
    | .doHs | .doPp | .aoISrc | .aoISnk | .aoV | .loopPwr => .next s1
    | _ => .next s

/-- DEBOUNCE_EXPIRED (02 R53): the run has lasted DEBOUNCE. -/
def execDebounceExpired (ch : Ch) (s : State) : Out :=
  match s.modeOf ch, (s.chan ch).inp.run with
  | .di, some r => .next (s.acceptLevel ch (s.chan ch).inp.raw r.1 r.2)
  | .diNamur, some r => .next (s.acceptLevel ch (s.chan ch).inp.raw r.1 r.2)
  | _, _ => .next s

/-- The input loses VALID and any run is abandoned (02 R53, R56, R63). -/
def ChIn.invalid (i : ChIn) : ChIn := { i with valid := false, run := none }

/-- WIRE_BREAK_DECLARED (02 R56): suspended below UVLO (13 R395). -/
def execWireBreakDeclared (ch : Ch) (s : State) : Out :=
  if s.modeOf ch == .di && bit (s.cfgOf ch).inCfg 27 && s.supplied ch && s.dieUp (grpOf ch) then
    let s1 := s.modIn ch fun i => { i.invalid with brk := true, inClass := false }
    .next (s1.setFault ch 0)
  else .next s

/-- WIRE_BREAK_END (02 R56, R61). -/
def execWireBreakEnd (ch : Ch) (s : State) : Out :=
  if s.modeOf ch == .di && (s.chan ch).inp.brk && s.supplied ch && s.dieUp (grpOf ch) then
    .next ((s.modIn ch fun i => { i with brk := false, inClass := true }).validReturn ch)
  else .next s

/-- NAMUR_FAULT_DECLARED (02 R63): VALID clears and STATE follows NFAULT, which is no accepted
change. -/
def execNamurFaultDeclared (ch : Ch) (short : Bool) (s : State) : Out :=
  if s.modeOf ch == .diNamur && s.supplied ch && s.dieUp (grpOf ch) then
    let s1 := s.modIn ch fun i => { i.invalid with
      brk := !short, short := short, inClass := false, state := s.faultState ch }
    .next (s1.setFault ch (if short then 1 else 0))
  else .next s

/-- NAMUR_FAULT_END (02 R63, R61). -/
def execNamurFaultEnd (ch : Ch) (s : State) : Out :=
  let i := (s.chan ch).inp
  if s.modeOf ch == .diNamur && (i.brk || i.short) && s.supplied ch && s.dieUp (grpOf ch) then
    .next ((s.modIn ch fun i => { i with brk := false, short := false, inClass := true }).validReturn ch)
  else .next s

/-! ### Terminal monitor -/

/-- The cooling conditions of R97 from the measured temperatures. -/
def coolNow (tsens : Bool) (tj dtc : BitVec 8) : Bool :=
  (tsens || decide (tj.toNat < 180)) && decide (dtc.toInt < 30)

/-- The measured current of a switch (03 R94, R100): the even channel of a PARALLEL pair reports the sum.
Through an off-pulse the on-time value stays (R110). -/
def State.measureLoad (s : State) (ch : Ch) (iload : BitVec 16) : State :=
  if (s.chan ch).out.diag then s else
  let s1 := s.modOut ch fun o => { o with own := iload, iload := iload }
  if s1.pairOf ch = .parallel then
    s1.modOut (evenOf ch) fun o => { o with iload := o.own + (s1.chan (mateOf (evenOf ch))).out.own }
  else s1

/-- The tracked notch frequency follows the mains trackers (04 R155). -/
def State.retrack (s : State) : State := { s with res.trackFreq := s.trackNow }

/-- What the tracker measures in 1 ms (02 R74, R75): the amplitude always, phase and frequency in lock; in
holdover the phase runs on at the last frequency. DESIGN CHOICE (log entry 104): with neither, FREQ and PHASE
keep the last values. TB2 follows the phase. -/
def State.measureMains (s : State) (ch : Ch) (m : ChMeas) : State :=
  let old := (s.chan ch).mains
  let s1 := s.modCh ch fun c => { c with mains := { c.mains with vrms := m.vrms } }
  if old.lock && !old.holdover then
    let s2 := s1.modCh ch fun c => { c with mains := { c.mains with phase := m.phase, freq := m.freq, acc := 0 } }
    (if s.isSource ch then s2.moveTb2 (m.phase - old.phase).toInt else s2).retrack
  else s1

/-- What the 1 ms monitoring of a terminal measures (02 R47, R48, R75, R76; 03 R100). -/
def State.terminalMeasured (s : State) (ch : Ch) (m : ChMeas) : State :=
  let mode := s.modeOf ch
  let s1 := s.modCh ch fun c => { c with
    termv := m.termv
    tvValid := true
    inp := { c.inp with valid := c.inp.valid || ((mode.isSwitch || mode == .loopPwr) && s.supplied ch) }
    out := if mode.isSwitch then
        { c.out with tj := m.tj, dtc := m.dtc
                     cool := coolNow (bit (s.chan (s.leadOf ch)).fault 28) m.tj m.dtc }
      else c.out
    loop := if mode == .loopPwr then { c.loop with
        iloop := if c.loop.on then m.iloop else 0
        limit := c.loop.on && decide (27000 ≤ m.iloop.toNat) }
      else c.loop }
  let mv := m.termv.toInt * 2
  let s2 := if mv < -35000 ∨ 45000 < mv then s1.setFault ch 8 else s1
  if mode.isSwitch then s2.measureLoad ch m.iload
  else if mode == .mainsSense then s2.measureMains ch m
  else if mode == .count && s.supplied ch && !(s.chan ch).inp.valid then
    (s2.modIn ch fun i => { i with deb := i.raw }).validReturn ch
  else s2

/-- The monitors of a channel reach the host die: its die works, its link carries frames, and no mode change is in
progress. -/
def State.monitored (s : State) (ch : Ch) : Bool :=
  s.dieUp (grpOf ch) && !(s.group (grpOf ch)).link.silent && !(s.chan ch).cfgBusy

/-- A monitor conversion waits for slice time that no claim covers (04 R130), in place of an earlier one of the
same kind. -/
def State.queueMon (s : State) (g : Grp) (same : MonJob → Bool) (j : MonJob) : State :=
  s.modConv g fun c => { c with monWait := (c.monWait.filter fun x => !same x) ++ [j] }

/-- TERMINAL_MONITOR_CONVERSION (02 R47, R48; 04 R130; 03 R100, 02 R75, R76): on the spare, or with none in slice
time that no claim covers, for which it waits. -/
def execTerminalMonitorConversion (ch : Ch) (m : ChMeas) (s : State) : Out :=
  if !s.monitored ch then .next s
  else if s.monitorReady (grpOf ch) then .next (s.terminalMeasured ch m)
  else .next (s.queueMon (grpOf ch) (fun x => match x with
    | .terminal n _ => n == ch
    | _ => false) (.terminal ch m))

/-- 50 ns of a tracker in lock or holdover (02 R74): the phase runs on at the measured frequency, and TB2 with
it. -/
def State.mainsTick (s : State) (n : Ch) : State :=
  let m := (s.chan n).mains
  if s.modeOf n == .mainsSense && (m.lock || m.holdover) && s.dieUp (grpOf n) then
    let a := m.acc + m.freq.toNat * 512
    let k := a / 15625000
    let s1 := s.modCh n fun c => { c with mains := { c.mains with
      acc := a % 15625000, phase := c.mains.phase + BitVec.ofNat 16 k } }
    if k != 0 && s.isSource n then s1.moveTb2 k else s1
  else s

/-! ### Counting -/

/-- Add to the count or position; TB1 follows its pair (02 R66, R67; 07 R214). -/
def State.addCount (s : State) (n : Ch) (d : Int) : State :=
  let s1 := s.modCh n fun c => { c with cnt := { c.cnt with val := c.cnt.val + BitVec.ofInt 32 d } }
  if s.isSource n && d != 0 then s1.moveTb1 d else s1

/-- The direction of a quadrature edge (02 R67): up when A leads B; `onA` names the input that
changed, a and b are the levels after the edge. -/
def quadUp (onA a b : Bool) : Bool := if onA then a != b else a == b

/-- Whether an edge counts in QMODE (02 R67): x1 rising edges of A, x2 both edges of A, x4 every edge. -/
def quadCounts (qmode : Nat) (onA rising : Bool) : Bool :=
  match qmode with
  | 0 => onA && rising
  | 1 => onA
  | _ => true

/-- The direction of the first count of a gate on a pair, in `edges`: 1 up, 2 down (02 R67). -/
def ChCnt.noteFirst (c : ChCnt) (d : Int) : ChCnt :=
  { c with edges := if d = 0 ∨ c.edges ≠ 0 then c.edges else if 0 < d then 1 else 2 }

/-- The glitch filter takes a level on a counting input (02 R64). -/
def State.countLevel (s : State) (n : Ch) (level : Bool) : State :=
  let i := (s.chan n).inp
  let s1 := s.modIn n fun i => { i with raw := level }
  if level == i.deb && i.valid then s1 else s1.acceptLevel n level s.stampNow s.nocomb

/-- COUNT_EDGE (02 R64, R66, R67): the glitch filter takes a new level; `both` reports that both inputs of a
pair changed between two samples; `dt` is the time since the previous rising edge in field ticks. -/
def execCountEdge (ch : Ch) (both rising : Bool) (dt : Nat) (s : State) : Out :=
  if s.modeOf ch != .count || !s.dieUp (grpOf ch) then .next s
  else
    let n := s.leadOf ch
    let cfg := s.cfgOf n
    let s0 := s.countLevel ch rising
    if s.pairOf ch = .quad then
      if both then
        .next ((s0.countLevel (mateOf ch) !(s.chan (mateOf ch)).inp.deb).setFault n 2)
      else
        let onA := ch == n
        let a := (s0.chan n).inp.deb
        let b := (s0.chan (mateOf n)).inp.deb
        let up := quadUp onA a b != bit cfg.cntCfg 19
        let d : Int := if quadCounts (fld cfg.cntCfg 21 20) onA rising then (if up then 1 else -1) else 0
        .next ((s0.modCh n fun c => { c with cnt := c.cnt.noteFirst d }).addCount n d)
    else if fld cfg.cntCfg 27 24 = 0 then
      let e := fld cfg.cntCfg 23 22
      let counts := if rising then e == 1 || e == 3 else e == 2 || e == 3
      let s1 := if counts then s0.addCount n 1 else s0
      if rising then
        .next (s1.modCh n fun c => { c with cnt := { c.cnt with
          edges := min 2 (c.cnt.edges + 1)
          per := if c.cnt.edges = 0 then c.cnt.per else BitVec.ofNat 32 (min dt 0xFFFFFFFE) } })
      else .next s1
    else .next s0

/-- The pairs whose index channel is n (02 R68). -/
def State.indexedBy (s : State) (n : Ch) : List Ch :=
  (chOf (grpOf n)).filter fun p =>
    p.val % 2 == 0 && s.pairOf p == .quad && fld (s.cfgOf p).cntCfg 17 16 != 0 &&
    fld (s.cfgOf p).cntCfg 14 12 == n.val % 8

/-- One pair meets its index (02 R68): the position is latched, then the index action; IDXERR when
two indices differ by more than 2 counts. -/
def State.indexPair (s : State) (p : Ch) : State :=
  let c := (s.chan p).cnt
  let act := fld (s.cfgOf p).cntCfg 17 16
  let s1 := s.modCh p fun x => { x with cnt := { x.cnt with per := c.val, lastIdx := some c.val } }
  let err := act == 2 && match c.lastIdx with
    | some v => decide (2 < (c.val.toInt.natAbs : Int) - v.toInt.natAbs ∨
        2 < (v.toInt.natAbs : Int) - c.val.toInt.natAbs)
    | none => false
  let s2 := if err then s1.setFault p 9 else s1
  if act = 2 ∨ (act = 1 ∧ c.lastIdx = none) then
    let s3 := s2.modCh p fun x => { x with cnt := { x.cnt with val := 0, gateVal := x.cnt.gateVal - c.val } }
    match s.comb.active with
    | some cb =>
      if cb.hdr.tb == 1 && cb.source == p then
        let per : Int := cb.hdr.period
        let d := (-c.val.toInt) % per
        if d = 0 then s3 else s3.moveTb1 (if 2 * d ≤ per then d else d - per)
      else s3
    | none => s3
  else s2

/-- INDEX_EDGE (02 R68): a rising edge of an index channel. -/
def execIndexEdge (ch : Ch) (s : State) : Out :=
  if s.modeOf ch == .count && fld (s.cfgOf ch).cntCfg 27 24 == 2 && s.pairOf ch == .none &&
      s.dieUp (grpOf ch) then
    .next ((s.countLevel ch true).each (s.indexedBy ch) State.indexPair)
  else .next s

/-- The gate time in milliseconds (02 R65). -/
def gateMs (cntCfg : Word) : Nat :=
  match fld cntCfg 9 8 with
  | 0 => 1 | 1 => 10 | 2 => 100 | _ => 1000

/-- The signed count rate of a pair over a gate (02 R67): the movement from the first of its n counts to
the last over the time between them; with fewer than two counts, the movement over the gate (log entry 10). -/
def ChCnt.quadRate (c : ChCnt) (gateMs n span : Nat) : Int :=
  let moved := (c.val - c.gateVal).toInt
  if 2 ≤ n ∧ 0 < span then
    let a : Int := (moved - (if c.edges = 1 then 1 else if c.edges = 2 then -1 else 0)) * 80000000000
    roundDiv (Config.tieUp a span) a span
  else moved * (1000000 / gateMs : Nat)

/-- FREQ_GATE_EXPIRED (02 R66, R67). DESIGN CHOICE (log entry 104): the quotient is rounded to the nearest
mHz, a tie as Config.tieUp says. n rising edges, or counts of a pair, fell in the gate, the first and
the last `span` field ticks apart. -/
def execFreqGateExpired (ch : Ch) (n span : Nat) (s : State) : Out :=
  if s.modeOf ch != .count || s.isOdd ch || !s.dieUp (grpOf ch) then .next s
  else
    let c := (s.chan ch).cnt
    let f : Word :=
      if s.pairOf ch = .quad then
        BitVec.ofInt 32 (c.quadRate (gateMs (s.cfgOf ch).cntCfg) n span)
      else if 2 ≤ n ∧ 0 < span then
        let a : Int := ((n - 1) * 80000000000 : Nat)
        BitVec.ofInt 32 (roundDiv (Config.tieUp a span) a span)
      else if c.edges = 2 ∧ c.per ≠ 0xFFFFFFFF#32 ∧ c.per ≠ 0 then
        BitVec.ofInt 32 (roundDiv (Config.tieUp 80000000000 c.per.toNat) 80000000000 c.per.toNat)
      else 0
    .next (s.modCh ch fun x => { x with cnt := { x.cnt with
      freq := f, gateVal := c.val, edges := if s.pairOf ch = .quad then 0 else x.cnt.edges } })

/-- COUNT_EDGE_TIMEOUT (02 R66): no rising edge within four gate times. -/
def execCountEdgeTimeout (ch : Ch) (s : State) : Out :=
  if s.modeOf ch == .count && s.pairOf ch == .none && fld (s.cfgOf ch).cntCfg 27 24 == 0 &&
      s.dieUp (grpOf ch) then
    .next (s.modCh ch fun c => { c with cnt := { c.cnt with
      freq := 0, per := 0xFFFFFFFF#32, edges := 0 } })
  else .next s

/-! ### Mains phase -/

/-- MAINS_LOCK_ACQUIRED (02 R73). TB2 resumes when LOCK sets (07 R249), from the phase then measured. -/
def execMainsLockAcquired (ch : Ch) (phase freq vrms : BitVec 16) (s : State) : Out :=
  if s.modeOf ch == .mainsSense && !(s.chan ch).mains.lock && s.dieUp (grpOf ch) then
    let s1 := (s.retrack.modCh ch fun c => { c with
      mains := { lock := true, holdover := false, phase, freq, vrms, acc := 0 }
      inp := { c.inp with valid := s.supplied ch } }).retrack
    if !s.isSource ch || !s.combLive then .next s1
    else if s.comb.cond != .normal then .next s1.resume
    else .next (s1.moveTb2 (phase - (s.chan ch).mains.phase).toInt)
  else .next s

/-- MAINS_HOLDOVER_ENTER (02 R74). -/
def execMainsHoldoverEnter (ch : Ch) (s : State) : Out :=
  if s.modeOf ch == .mainsSense && (s.chan ch).mains.lock && s.dieUp (grpOf ch) then
    .next (s.modCh ch fun c => { c with mains := { c.mains with holdover := true } })
  else .next s

/-- MAINS_LOCK_RESUMED (02 R74). -/
def execMainsLockResumed (ch : Ch) (s : State) : Out :=
  if s.modeOf ch == .mainsSense && (s.chan ch).mains.holdover && s.dieUp (grpOf ch) then
    .next (s.modCh ch fun c => { c with mains := { c.mains with holdover := false } })
  else .next s

/-- MAINS_LOCK_LOST (02 R74): TB2 stalls when the LOCK of its source clears (07 R248). -/
def execMainsLockLost (ch : Ch) (s : State) : Out :=
  if s.modeOf ch == .mainsSense && (s.chan ch).mains.holdover && s.dieUp (grpOf ch) then
    let s1 := (s.retrack.modCh ch fun c => { c with
      mains := { c.mains with lock := false, holdover := false }
      inp := { c.inp with valid := false } }).setFault ch 4
    .next (if s.isSource ch then s1.retrack.stall else s1.retrack)
  else .next s

/-! ### Loop supply -/

/-- LOOP_OVERLOAD (02 R77): off for 1 s. -/
def execLoopOverload (ch : Ch) (s : State) : Out :=
  if s.modeOf ch == .loopPwr && (s.chan ch).loop.on && s.dieUp (grpOf ch) then
    let s1 := (s.setLoop ch false).modCh ch fun c => { c with loop := { c.loop with ovlOff := true } }
    .next (s1.setFault ch 5)
  else .next s

/-- LOOP_RESTART (02 R77). -/
def execLoopRestart (ch : Ch) (s : State) : Out :=
  if s.modeOf ch == .loopPwr && (s.chan ch).loop.ovlOff && s.dieUp (grpOf ch) then
    .next ((s.modCh ch fun c => { c with loop := { c.loop with ovlOff := false } }).loopOn ch)
  else .next s

/-- LOOP_OPEN_DETECTED (02 R77). -/
def execLoopOpenDetected (ch : Ch) (s : State) : Out :=
  if s.modeOf ch == .loopPwr && (s.chan ch).loop.on && s.dieUp (grpOf ch) then .next (s.setFault ch 6)
  else .next s

/-- LOOP_LEAK_DETECTED (02 R77): only with a LOOPMATE. -/
def execLoopLeakDetected (ch : Ch) (s : State) : Out :=
  if s.modeOf ch == .loopPwr && (s.chan ch).loop.on && (s.chan ch).cfg.loopMate != 0 &&
      s.dieUp (grpOf ch) then
    .next (s.setFault ch 7)
  else .next s

/-- NONANALOGUE_RESULT_TICK (05 R166): a window-only result of a free non-analogue channel. -/
def execNonanalogueResultTick (ch : Ch) (s : State) : Out :=
  if (s.modeOf ch).isNonAnalogue && !s.schedNow ch && !s.isOdd ch && s.supplied ch then
    .next (s.putWindowOnly ch)
  else .next s

end Sys2Proof.Machine
end

