-- ==== Sys2Proof/Machine/Protect.lean ====
section
/-! DEFINITION. Protected load switching: what the limiter, the trips, the diagnostics, the retry,
learning and shedding policies do on each event (03). -/

namespace Sys2Proof.Machine

/-- A DO_HS or DO_PP channel in an on-state outside its inrush window, on a die in service. -/
def State.steadyOn (s : State) (n : Ch) : Bool :=
  (s.modeOf n).isSwitch && s.dieUp (grpOf n) &&
  ((s.chan n).out.ps == .on || (s.chan n).out.ps == .limit)

/-- A DO_HS or DO_PP channel in an on-state. -/
def State.onState (s : State) (n : Ch) : Bool :=
  (s.modeOf n).isSwitch && s.dieUp (grpOf n) && (s.chan n).out.ps.isOn

/-- A DO_HS or DO_PP channel that is off. -/
def State.offState (s : State) (n : Ch) : Bool :=
  (s.modeOf n).isSwitch && s.dieUp (grpOf n) && !(s.chan n).out.ps.isOn

/-- LIMITER_ACTIVE (03 R83, R98). -/
def execLimiterActive (ch : Ch) (s : State) : Out :=
  if s.onState ch && (s.chan ch).out.ps == .on then
    .next (s.modOutP ch fun o => { o with ps := .limit })
  else .next s

/-- LIMITER_RELEASED (03 R98). -/
def execLimiterReleased (ch : Ch) (s : State) : Out :=
  if s.onState ch && (s.chan ch).out.ps == .limit then
    .next (s.modOutP ch fun o => { o with ps := .on })
  else .next s

/-- INRUSH_WINDOW_END (03 R84, R98): the limit returns to ILIM and PWM begins; a frozen window does
not end (R117). -/
def execInrushWindowEnd (ch : Ch) (s : State) : Out :=
  if s.onState ch && (s.chan ch).out.ps == .inrush && !(s.chan ch).out.frozen then
    let c := s.cfgOf ch
    let vf := (s.group (grpOf ch)).sup.vf.toNat
    .next (s.modOutP ch fun o => { o with
      ps := .on, inrMa := 0, duty := onDuty c o (s.chan ch).guard.held vf })
  else .next s

/-- GOVERNOR_STEP (03 R86): from 18.0 A the limits of the channels in their inrush window fall by
50 mA, not below ILIM; below 17.0 A they rise again, not above INRUSH_I. -/
def execGovernorStep (g : Grp) (milliamps : Nat) (s : State) : Out :=
  .next (s.each (chOf g) fun t n =>
    let c := t.cfgOf n
    let o := (t.chan n).out
    if !(t.onState n && o.ps == .inrush && !o.frozen) then t
    else if 18000 ≤ milliamps then
      t.modOut n fun o => { o with inrMa := max (fld c.outLim 7 0 * 10) (o.inrMa - 50) }
    else if milliamps < 17000 then
      t.modOut n fun o => { o with inrMa := min (fld c.outLim 29 20 * 10) (o.inrMa + 50) }
    else t)

/-- GROUP_CURRENT_MEAN_UPDATE (03 R87): EV68-EV71 once per episode above 6.0 A, armed again at 5.7 A. -/
def execGroupCurrentMeanUpdate (g : Grp) (milliamps : Nat) (s : State) : Out :=
  let u := (s.group g).sup
  if 6000 < milliamps then
    if u.meanOver then .next s
    else .next ((s.modSup g fun u => { u with meanOver := true }).raiseThermal g 1)
  else if milliamps ≤ 5700 then .next (s.modSup g fun u => { u with meanOver := false })
  else .next s

/-- PWM_PERIOD_START (03 R88, R89, R90): the applied duty of the period, and the report-only entries
when the constant-power duty reaches or leaves 1; through a hold of the guard only an applied entry of ON or
VALUE sets it (01 R16, 08 R254). DESIGN CHOICE (log entry 104): the episode at 1 lasts through an off-period.
DESIGN CHOICE (log entry 117): the duty that the policy would apply is taken before the minimum-pulse rule when
it is held against 1. -/
def execPwmPeriodStart (ch : Ch) (millivolts : Nat) (s : State) : Out :=
  let c := s.cfgOf ch
  let o := (s.chan ch).out
  if s.steadyOn ch && c.pwm && !(s.chan ch).guard.held then
    let s1 := s.modOutP ch fun o => { o with
      duty := onDuty c o false millivolts }
    if bit c.outCfg 25 && bit c.outPol 28 then
      let sat := decide (10000 ≤ cpDuty c o.cmdDuty.toNat millivolts)
      let s2 := s1.modOut ch fun o => { o with cpSat := sat }
      if sat && !o.cpSat then .next (s2.recordDecision ch 2)
      else if !sat && o.cpSat then .next (s2.recordDecision ch 3)
      else .next s2
    else .next s1
  else if s.steadyOn ch && c.pwm && (s.chan ch).guard.applied && fld (s.entryOf ch).1 31 30 % 2 == 1 then
    .next (s.modOutP ch fun o => { o with duty := onDuty c o true millivolts })
  else .next s

/-- A thermal trip of a switch (03 R94 to R97, R102): the hot switch must cool, the fault is reported each
time, and the output trips. -/
def State.thermalTrip (s : State) (ch : Ch) (b : Nat) : State :=
  ((s.modOut ch fun o => { o with cool := false }).tripFault ch b).trip (s.leadOf ch)

/-- THERMAL_TRIP_ABS (03 R95): the absolute path is ignored while TSENS is set (R96). -/
def execThermalTripAbs (ch : Ch) (s : State) : Out :=
  if s.onState ch && !bit (s.chan (s.leadOf ch)).fault 28 then .next (s.thermalTrip ch 30) else .next s

/-- THERMAL_TRIP_DT (03 R96). -/
def execThermalTripDt (ch : Ch) (s : State) : Out :=
  if s.onState ch then .next (s.thermalTrip ch 29) else .next s

/-- TSENS_FAIL (03 R96). -/
def execTsensFail (ch : Ch) (s : State) : Out :=
  if (s.modeOf ch).isSwitch && !s.failedCh ch then .next (s.setFault ch 28) else .next s

/-- RETRY_DUE (03 R102): the interval has run; held while the group is below 13.5 V, waiting through field
continuity (13 R419), else decided. -/
def execRetryDue (ch : Ch) (s : State) : Out :=
  let n := s.leadOf ch
  if !(s.modeOf n).isSwitch || (s.chan n).out.ps != .tripWait || !s.dieUp (grpOf n) ||
      (s.chan n).guard.held || (s.chan n).out.polOn || s.pw.window.isSome ||
      decide (s.time < (s.chan n).out.due) then
    .next s
  else if !s.vfReady (grpOf n) then
    .next (s.modOutP n fun o => { o with heldRetry := true })
  else .next (s.retryNow n)

/-- RETRY_COUNT_CLEAR (03 R103). -/
def execRetryCountClear (ch : Ch) (s : State) : Out :=
  if s.onState ch then .next (s.clearRetry (s.leadOf ch)) else .next s

/-- SHORT_GND_DETECTED (03 R108). -/
def execShortGndDetected (ch : Ch) (s : State) : Out :=
  if s.steadyOn ch then .next (s.setFault ch 27) else .next s

/-- OVERLOAD_DETECTED (03 R108). -/
def execOverloadDetected (ch : Ch) (s : State) : Out :=
  if s.steadyOn ch then .next (s.setFault ch 26) else .next s

/-- Inductive load (03 R80). -/
def ChCfg.inductive (c : ChCfg) : Bool := fld c.outCfg 27 26 == 2

/-- The on-state open-load threshold in mA (03 R108, R113): OL_ON_I, or under load learning in act half of
BASE × VF / 24 up to 100 mA where that is larger. -/
def State.openLoadMa (s : State) (n : Ch) : Nat :=
  let c := s.cfgOf n
  let o := (s.chan n).out
  let base := fld c.outDiag 6 0
  if s.feat 10 && !bit c.outPol 29 && o.learned then
    max base (min 100 (o.base.toNat * (s.group (grpOf n)).sup.vf.toNat / 48000))
  else base

/-- OPEN_LOAD_CONDITION (03 R108, R113): the current stayed below the threshold for OL_ON_T. OPENLOAD_ON at
once on an inductive load, else the next off-pulse classifies it. DESIGN CHOICE (log entry 117): the condition
lasts until that pulse, the 1 s of OPENLOAD_ON_TIMEOUT or a switching, though the current comes back. -/
def execOpenLoadCondition (ch : Ch) (milliamps : Int) (s : State) : Out :=
  if s.steadyOn ch && decide (milliamps < s.openLoadMa (s.leadOf ch)) then
    if (s.cfgOf ch).inductive then .next (s.setFault ch 25)
    else .next (s.modOutP ch fun o => { o with olCond := true })
  else .next s

/-- OPENLOAD_ON_TIMEOUT (03 R108): no off-pulse within 1 s of the condition. -/
def execOpenloadOnTimeout (ch : Ch) (s : State) : Out :=
  if s.steadyOn ch && (s.chan ch).out.olCond then
    .next ((s.modOutP ch fun o => { o with olCond := false }).setFault ch 25)
  else .next s

/-- REVERSE_CURRENT_DETECTED (03 R108): SHORT_VF, and a trip when it reaches ILIM. -/
def execReverseCurrentDetected (ch : Ch) (atIlim : Bool) (s : State) : Out :=
  if s.steadyOn ch then
    .next (if atIlim then (s.tripFault ch 23).trip (s.leadOf ch) else s.setFault ch 23)
  else .next s

/-- RB_MISMATCH_DETECTED (03 R108): suspended through an off-pulse (R110). -/
def execRbMismatchDetected (ch : Ch) (s : State) : Out :=
  if s.steadyOn ch && !(s.chan ch).out.diag then
    .next ((s.tripFault ch 18).lockOff (s.leadOf ch))
  else .next s

/-- WIRED_DETECTED (03 R108, R109, R111). -/
def execWiredDetected (a b : Ch) (s : State) : Out :=
  if (s.modeOf a).isSwitch && (s.modeOf b).isSwitch && a != b && s.dieUp (grpOf a) &&
      s.dieUp (grpOf b) then
    let s1 := (s.modOut a fun o => { o with partner := BitVec.ofNat 5 b.val }).modOut b
      fun o => { o with partner := BitVec.ofNat 5 a.val }
    .next ((s1.setFault a 22).setFault b 22)
  else .next s

/-- OPENLOAD_OFF_DETECTED (03 R109): DO_HS with its off-state source on. -/
def execOpenloadOffDetected (ch : Ch) (s : State) : Out :=
  if s.offState ch && s.modeOf ch == .doHs && bit (s.cfgOf ch).outDiag 24 then
    .next (s.setFault ch 24)
  else .next s

/-- SHORT_VF_OFF_DETECTED (03 R109): in DO_PP the low side is off until the next on command. -/
def execShortVfOffDetected (ch : Ch) (s : State) : Out :=
  if s.offState ch then
    let s1 := if s.modeOf ch == .doPp then s.modOutP ch fun o => { o with lowOff := true } else s
    .next (s1.setFault ch 23)
  else .next s

/-- IMBAL_DETECTED (03 R94). -/
def execImbalDetected (ch : Ch) (s : State) : Out :=
  if s.onState ch && s.pairOf ch == .parallel then .next (s.setFault ch 19) else .next s

/-- AUTO_DIAG_PULSE (03 R110): on a free channel with AUTO_DIAG, for an open-load condition; never on
an inductive load (R91), nor while the guard holds the channel (08 R257). -/
def execAutoDiagPulse (ch : Ch) (s : State) : Out :=
  let o := (s.chan ch).out
  if s.onState ch && o.ps == .on && o.olCond && !s.schedNow ch && bit (s.cfgOf ch).outDiag 23 &&
      !(s.cfgOf ch).inductive && !(s.chan ch).guard.held then
    .next (s.modOutP ch fun o => { o with diag := true })
  else .next s

/-- DIAG_PULSE_END (03 R108, R110): SHORT_VF for a high terminal, OPENLOAD_ON for a low one after the
open-load condition; the channel returns on. -/
def execDiagPulseEnd (ch : Ch) (high : Bool) (s : State) : Out :=
  let o := (s.chan ch).out
  if s.onState ch && o.diag then
    let s1 := s.modOutP ch fun o => { o with diag := false, olCond := false }
    if high then .next (s1.setFault ch 23)
    else if o.olCond then .next (s1.setFault ch 25)
    else .next s1
  else .next s

/-- LEARN_BASELINE (03 R113), suspended through a hold of the guard (08 R257): `norm` is the mean of ILOAD x 24 / VF over the second. -/
def execLearnBaseline (ch : Ch) (norm : BitVec 16) (s : State) : Out :=
  if s.feat 10 && s.steadyOn ch && !(s.chan (s.leadOf ch)).guard.held &&
      !(s.chan (s.leadOf ch)).out.learned then
    .next (s.modOut (s.leadOf ch) fun o => { o with base := norm, learned := true })
  else .next s

/-- DRIFT (03 R113): the deviation from BASE in per cent. DESIGN CHOICE (log entry 104): rounded to the
nearest whole per cent, a tie as Config.tieUp says, and kept within the signed 8-bit field. With a
BASE of 0 the manual states none: a free value (log entry 5). -/
def driftOf (free : Int) (norm base : BitVec 16) : Int :=
  let a := (norm.toInt - base.toInt) * 100
  let b := base.toInt
  let q := if b = 0 then free
    else if 0 < b then roundDiv (Config.tieUp a b.natAbs) a b.natAbs
    else roundDiv (Config.tieUp (-a) b.natAbs) (-a) b.natAbs
  clampInt (-128) 127 q

/-- LEARN_COMPARISON (03 R113), suspended through a hold of the guard (08 R257). DESIGN CHOICE (log entry 115):
LEARN_DRIFT is raised without the report-only mark with LEARN_RO 1 too, since R113 sets it in both cases. -/
def execLearnComparison (ch : Ch) (norm : BitVec 16) (s : State) : Out :=
  let n := s.leadOf ch
  let o := (s.chan n).out
  if s.feat 10 && s.steadyOn ch && !(s.chan n).guard.held && o.learned then
    let d := driftOf s.freeInt norm o.base
    let s0 := if o.base = 0 then s.tookFree else s
    let s1 := s0.modOut n fun o => { o with drift := BitVec.ofInt 8 d }
    .next (if (s.cfgOf n).driftPct.toNat < d.natAbs then s1.setFault n 21 else s1)
  else .next s

/-! ### Shedding -/

/-- SHED_PRI and SHED_RO (03 R101). -/
def ChCfg.shedPri (c : ChCfg) : Nat := fld c.outPol 7 5

/-- Channels of a list that shedding could take: on, below priority 7, not held by the guard. -/
def State.sheddable (s : State) (chs : List Ch) : List Ch :=
  chs.filter fun n => s.onState n && !s.isOdd n && decide ((s.cfgOf n).shedPri < 7) &&
    !(s.chan n).guard.held

/-- The lowest priority at or above a level among channels. -/
def State.lowestPri (s : State) (chs : List Ch) (level : Nat) : Option Nat :=
  chs.foldl (fun best n =>
    let p := (s.cfgOf n).shedPri
    if p < level then best
    else match best with
      | none => some p
      | some b => some (min b p)) none

/-- Shed one channel (03 R114, 13/16 R482): off and SHED under act, SHED alone under report only. -/
def State.shedChannel (s : State) (env : Bool) (n : Ch) : State :=
  if bit (s.cfgOf n).outPol 30 then s.setFault n 20
  else
    let s1 := (s.switchOff n .shed).modOutP n fun o =>
      if env then { o with shedEnv := true } else { o with shedDie := true }
    (if (s.chan n).out.hostOn then s1.countOverride n else s1).setFault n 20

/-- SHED_STEP (03 R114): feature 11. -/
def execShedStep (g : Grp) (s : State) : Out :=
  if s.feat 11 && !(s.group g).link.failed && s.pw.window.isNone then
    let cand := s.sheddable (chOf g)
    match s.lowestPri cand (((s.group g).sup.shedLevel).getD 0) with
    | none => .next s
    | some p =>
      let now := cand.filter fun n => (s.cfgOf n).shedPri == p
      let s1 := s.each now (State.shedChannel · false)
      let s2 := s1.modSup g fun u => { u with shedLevel := some (p + 1) }
      let s3 := if now.any fun n => !bit (s.cfgOf n).outPol 30 then s2.raiseThermal g 2 else s2
      .next (if now.any fun n => bit (s.cfgOf n).outPol 30 then s3.raiseThermal g (reportOnly + 2)
        else s3)
  else .next s

/-- The largest priority among channels. -/
def State.highestPri (s : State) (chs : List Ch) : Nat :=
  chs.foldl (fun b n => max b (s.cfgOf n).shedPri) 0

/-- Restore one shed channel (03 R98, R115, 01 R17): it stays in SHED until it switches on, on a scheduled
channel at its next APPLY cell, on a free one in its turn of the 5 ms sequence. -/
def State.restoreChannel (s : State) (n : Ch) : State :=
  if (s.chan n).out.ps != .shed then s else s.modOutP n fun o => { o with polOn := true }

/-- SHED_RESTORE_STEP (03 R115): the largest SHED_PRI value first. -/
def execShedRestoreStep (g : Grp) (s : State) : Out :=
  let shed := (chOf g).filter fun n => (s.chan n).out.shedDie && !s.isOdd n
  if s.pw.window.isSome || (s.group g).link.failed then .next s
  else if shed.isEmpty then .next (s.modSup g fun u => { u with shedLevel := none })
  else
    let p := s.highestPri shed
    let now := shed.filter fun n => (s.cfgOf n).shedPri == p
    let s1 := s.each now fun t n =>
      let t1 := t.modOutP n fun o => { o with shedDie := false }
      if (t1.chan n).out.shedEnv then t1 else t1.restoreChannel n
    let s2 := s1.modSup g fun u => { u with
      recovering := true, shedLevel := if p = 0 then none else some p }
    let s3 := if s2.clearOn g then s2.staggerStep g else s2
    .next (s3.raiseThermal g 3)

/-- SWITCH_COOLED (03 R97, R119, 08 R259): a command held in PEND, a channel of the recovery sequence, a
shed channel to be restored, or a guard entry of ON or VALUE, switches on when the group is ready: in PEND at
once outside a recovery, otherwise in its turn. -/
def execSwitchCooled (ch : Ch) (s : State) : Out :=
  let n := s.leadOf ch
  let g := grpOf n
  if !(s.modeOf n).isSwitch || !s.dieUp g then .next s
  else
    let s1 := s.modOut ch fun o => { o with cool := true }
    if (s.chan n).out.ps == .pend && s1.readyOn n && !(s.group g).sup.recovering &&
        !(s.chan n).guard.held && !(s.chan n).out.turn then .next (s1.switchOn n)
    else if (s1.waitsTurn n) then
      let s2 := s1.queueTurns g
      .next (if !(s.group g).sup.recovering && s2.clearOn g then s2.staggerStep g else s2)
    else .next s1

end Sys2Proof.Machine
end

