-- ==== Sys2Proof/Machine/Supply.lean ====
section
/-! DEFINITION. Field supplies and the power of the field dies: thresholds, UVLO, recovery, power-down
and rejoining (03 R116 to R119, 06 R201, 13 R391 to R397). -/

namespace Sys2Proof.Machine

def State.setVf (s : State) (g : Grp) (vf : BitVec 16) : State :=
  s.modSup g fun u => { u with vf := vf, above := decide (13500 ≤ vf.toNat) }

/-- A measured voltage: where it shows the group back at 13.5 V, the switch-ons that waited for it follow in
turn (03 R98, R102, R119). -/
def State.measureVf (s : State) (g : Grp) (vf : BitVec 16) : State :=
  let s1 := s.setVf g vf
  if s.vfReady g || !s1.vfReady g then s1
  else
    let s2 := s1.queueTurns g
    if (s2.group g).sup.recovering && s2.clearOn g then s2.staggerStep g else s2

/-- The falling crossing of VF_WARN (13 R393). -/
def State.crossWarn (s : State) (g : Grp) : State :=
  if (s.group g).sup.warn then s
  else (s.modSup g fun u => { u with warn := true, warns := if s.seesSupply then satInc u.warns else u.warns }).raiseSupply g 1

/-- The falling crossing of VF_LOW, with VF_WARN before it (13 R393): inrush windows freeze at ILIM
(03 R117). -/
def State.crossLow (s : State) (g : Grp) : State :=
  let s0 := s.crossWarn g
  if (s.group g).sup.low then s0
  else
    let s1 := s0.modSup g fun u => { u with low := true, above := false, lows := if s.seesSupply then satInc u.lows else u.lows }
    let s2 := s1.each (chOf g) fun t n =>
      if t.onState n && (t.chan n).out.ps == .inrush then
        t.modOut n fun o => { o with frozen := true, inrMa := fld (t.cfgOf n).outLim 7 0 * 10 }
      else t
    s2.raiseSupply g 3

/-- VF_WARN_FALL (03 R116, 13 R393). -/
def execVfWarnFall (g : Grp) (vf : BitVec 16) (s : State) : Out :=
  if s.dieUp g then .next ((s.measureVf g vf).crossWarn g) else .next s

/-- VF_WARN_RISE (03 R116, 13 R393). -/
def execVfWarnRise (g : Grp) (vf : BitVec 16) (s : State) : Out :=
  if s.dieUp g && (s.group g).sup.warn && !(s.group g).sup.low && !(s.group g).sup.uvlo then
    .next (((s.measureVf g vf).modSup g fun u => { u with warn := false }).raiseSupply g 2)
  else .next s

/-- VF_LOW_FALL (03 R117, 13 R393). -/
def execVfLowFall (g : Grp) (vf : BitVec 16) (s : State) : Out :=
  if s.dieUp g then .next ((s.setVf g vf).crossLow g) else .next s

/-- The outputs of a channel go off with the guard remembering the commanded state (03 R118,
06 R201, 13 R395), through a hold of the guard as UVLO_OFF (08 R259). An output at code 0 has nothing to
remember but a code that waited already. -/
def State.dropChannel (s : State) (n : Ch) : State :=
  let c := s.chan n
  let s1 := s.modIn n fun i => { i with valid := false }
  match s.modeOf n with
  | .doHs | .doPp =>
    if c.out.ps.isOn || c.out.ps == .pend then
      (s1.switchOff n .uvloOff).modGuard n fun g => { g with uvlo := g.held }
    else s1
  | .aoISrc | .aoISnk | .aoV =>
    if c.ao.code == 0 then s1
    else s1.modAo n fun a => { a with heldCode := some (a.heldCode.getD a.code), code := 0, down := true }
  | .loopPwr =>
    (s1.setLoop n false).modCh n fun x => { x with loop := { x.loop with
      want := c.loop.on || c.loop.want } }
  | _ => s1

/-- UVLO_FALL (03 R118, 13 R393, R395). -/
def execUvloFall (g : Grp) (vf : BitVec 16) (s : State) : Out :=
  if s.dieUp g && !(s.group g).sup.uvlo then
    let s1 := (s.setVf g vf).crossLow g
    let s2 := s1.modSup g fun u => { u with
      uvlo := true, dark := true, uvlos := if s.seesSupply then satInc u.uvlos else u.uvlos, vfup := false, recovering := false }
    let s3 := s2.each (chOf g) State.dropChannel
    .next (s3.raiseSupply g 4)
  else .next s

/-- UVLO_RISE (13 R393, 11 R357): the bit clears at 12.5 V; inputs and outputs wait for 13.5 V (13 R396). -/
def execUvloRise (g : Grp) (s : State) : Out :=
  if s.dieUp g then .next (s.modSup g fun u => { u with uvlo := false, vfup := true })
  else .next s

/-- The inputs of a channel at the recovery of its group (13 R395, R396, 02 R61). -/
def State.recoverChannel (s : State) (n : Ch) : State :=
  let i := (s.chan n).inp
  match s.modeOf n with
  | .di | .diNamur | .count =>
    if i.valid || i.brk || i.short || i.lastValid.isNone then s else s.validReturn n
  | .mainsSense => s.modIn n fun x => { x with valid := (s.chan n).mains.lock }
  | _ => s

/-- A channel in UVLO_OFF or PEND takes part in the recovery sequence of its group (03 R119). -/
def State.markTurn (s : State) (n : Ch) : State :=
  s.modOut n fun o => { o with turn := o.ps == .uvloOff || o.ps == .pend }

/-- Recovery at 13.5 V (03 R117, R119, 13 R396): frozen windows resume, VALID returns, the staggered
sequence starts. -/
def State.recoverGroup (s : State) (g : Grp) : State :=
  let s1 := s.modSup g fun u => { u with
    low := false, uvlo := false, dark := false, above := true, vfup := true }
  let s2 := s1.each (chOf g) fun t n =>
    let t1 := if (t.chan n).out.frozen then
        t.modOut n fun o => { o with frozen := false, inrMa := fld (t.cfgOf n).outLim 29 20 * 10 }
      else t
    (t1.recoverChannel n).markTurn n
  let s3 := s2.queueTurns g
  if s3.clearOn g then s3.staggerStep g else s3

/-- VF_RECOVERY (03 R117, R119, 13 R393, R396). -/
def execVfRecovery (g : Grp) (vf : BitVec 16) (s : State) : Out :=
  if s.dieUp g && ((s.group g).sup.low || (s.group g).sup.uvlo) then
    .next (((s.setVf g vf).raiseSupply g 5).recoverGroup g)
  else .next s

/-- STAGGER_SWITCH_ON (03 R119, 08 R258, R268): the next channel of the sequence, 5 ms after the group's
last switch-on. -/
def execStaggerSwitchOn (g : Grp) (s : State) : Out :=
  if s.dieUp g && (s.group g).sup.recovering && s.clearOn g then .next (s.staggerStep g) else .next s

/-- VF_HIGH_CHANGE (13 R393). -/
def execVfHighChange (g : Grp) (high : Bool) (vf : BitVec 16) (s : State) : Out :=
  if s.dieUp g && (s.group g).sup.high != high then
    .next (((s.measureVf g vf).modSup g fun u => { u with high := high }).raiseSupply g
      (if high then 6 else 7))
  else .next s

/-- A field die restarts its conversion engine (13 R407): slices, filters and coefficients afresh. A group
without power keeps its counters and what the host selected (log entry 105). -/
def GrpConv.restart (c : GrpConv) : GrpConv :=
  { GrpConv.reset with
    refSel := c.refSel, calRo := c.calRo, refFault := c.refFault, fallback := c.fallback, injLate := c.injLate,
    injDrop := c.injDrop, turns := c.turns, calRuns := c.calRuns, calOutcome := c.calOutcome, lastEv86 := c.lastEv86,
    overrun := c.overrun }

/-- REF_SETTLED clears (04 R137, R138): VALID clears on the analogue channels of the group. -/
def State.clearRef (s : State) (g : Grp) : State :=
  (s.modConv g fun c => { c with refSettled := false }).each (chOf g) fun t n =>
    if (t.modeOf n).isAnalogue then t.modIn n fun i => { i with valid := false } else t

/-- REF_SETTLED clears where it was set, with EV84 (04 R137). -/
def State.loseRef (s : State) (g : Grp) : State :=
  if (s.group g).conv.refSettled then (s.clearRef g).raiseRef g 2 else s.clearRef g

/-- FIELD_LOGIC_POWER_DOWN (13 R397): the die stops; the host die keeps the master of the protection
states. A comb on TB2 whose source stops has lost its lock (07 R248). With the host die absent every channel
is OFF afterwards (08 R271). -/
def execFieldLogicPowerDown (g : Grp) (s : State) : Out :=
  if !(s.group g).sup.ready then .next s
  else
    let s0 := s.loseRef g
    let s1 := s0.modGrp g fun x => { x with
      sup := { x.sup with ready := false, vfup := false, recovering := false }
      conv := { x.conv with cjValid := false }
      guard := { x.guard with fok := false } }
    if s.hostUp then
      let s2 := s1.each (chOf g) fun t n => ((t.dropChannel n).killConv n).modCh n fun c => { c with
        tvValid := false, cnt := freshCnt c.actMode c.cfg.cntCfg, pend := none, mains := ChMains.reset
        ai := { ChAi.reset with senseOpen := c.ai.senseOpen }
        hart := { c.hart.stop with carrier := false } }
      .next ((chOf g).foldl (fun t n => if s.isSource n && s.modeOf n == .mainsSense then t.stall else t) s2)
    else
      let s2 := s1.each (chOf g) fun t n => t.setCh n Channel.reset
      .next (s2.modGrp g fun x => { x with guard := { GrpGuard.reset with limitMicros := x.guard.limitMicros, tbad := x.guard.tbad } })

/-- The entries of CH_SAFE and CH_SAFE_VAL that the host die's master holds for a group (08 R256). -/
def State.masterTable (s : State) (g : Grp) : Vector (Word × Word) 8 :=
  (chOf g).foldl (fun v n =>
    v.set (n.val % 8) ((s.cfgOf n).safe, (s.cfgOf n).safeVal) (Nat.mod_lt _ (by decide)))
    (Vector.replicate 8 (0, 0))

/-- The master table is written to a group's guard (08 R256, R260, R282). -/
def State.writeGuard (s : State) (g : Grp) : State :=
  let t := s.masterTable g
  s.modGrp g fun x => { x with guard := { x.guard with copy := t, gen := s.safe.gen } }

/-- A group takes the class in which its supply lies when its die becomes ready (13 R393). -/
def GrpSup.inClass (u : GrpSup) (cls : SupplyClass) (vf : BitVec 16) : GrpSup :=
  { u with
    uvlo := cls.uvlo, low := cls.low || cls.uvlo, dark := cls.uvlo
    above := !cls.low && !cls.uvlo && decide (13500 ≤ vf.toNat)
    warn := cls.warn || cls.low || cls.uvlo, high := cls.high, vfup := !cls.uvlo, vf := vf }

/-- FIELD_DIE_READY (13 R391, R393, R397, R410): the group takes the class in which its supply lies,
without an event or a count; configuration, table and commands are sent, protection states are
restored, outputs re-energise in the sequence of R119 or under the guard. -/
def execFieldDieReady (g : Grp) (cls : SupplyClass) (vf : BitVec 16) (s : State) : Out :=
  if (s.group g).sup.ready || (s.group g).link.failed then .next s
  else
    let s1 := s.modGrp g fun x => { x with
      sup := { x.sup.inClass cls vf with ready := true }
      conv := x.conv.restart
      link := { x.link with silent := false, stopped := false, extrap := false }
      pos := { (s.group s.posGrp).pos with due := [], last := none, occ := [] } }
    if !s.hostUp then
      let s2 := s1.each (chOf g) fun t n => t.setCh n Channel.reset
      .next (s2.modGrp g fun x => { x with guard := { GrpGuard.reset with limitMicros := x.guard.limitMicros, tbad := x.guard.tbad } })
    else
      let s2 := s1.writeGuard g
      let s3 := s2.each (chOf g) fun t n =>
        let t1 := if (t.chan n).out.ps == .tripWait then
            t.modOut n fun o => { o with
              due := t.time + fld (t.cfgOf n).outPol 19 10 * 10 * milli, heldRetry := false }
          else t
        if (t1.chan n).guard.held then t1.modGuard n fun x => { x with applied := false } else t1
      let s4 := if cls.low || cls.uvlo then s3 else (s3.each (chOf g) State.markTurn).queueTurns g
      .next s4.fokRefresh

/-- VFL_CHANGE (01 R28, 13 R424): the field logic runs on through the diode-OR. -/
def execVflChange (present : Bool) (s : State) : Out :=
  .next { s with pw.vflOk := present }

end Sys2Proof.Machine
end

