-- ==== Sys2Proof/Machine/Conv.lean ====
section
/-! DEFINITION. Conversion engine: codes, filters, conversions and injections, references,
calibration of the slices (04 R121 to R161, 05 R164 to R169). -/

namespace Sys2Proof.Machine

/-! ### Codes -/

/-- The ratio form of AI_V (04 R140). -/
def ChCfg.ratio (c : ChCfg) (m : ChMode) : Bool := m == .aiV && bit c.aiCfg 28

/-- Full scale in the units of a conversion (04 R141, R142): nV in AI_V and AI_TC, pA in AI_I, nΩ in
AI_RES, 10^-15 of VF with RATIO; 10^6 for the µA and mV of an analogue output (05 R164, R166). -/
def fullScale (c : ChCfg) (m : ChMode) : Nat :=
  if c.ratio m then 1000000000000000
  else match m, fld c.aiCfg 23 20 with
    | .aiV, 2 => 30000000000
    | .aiV, _ => 10000000000
    | .aiI, _ => 24000000000
    | .aiRes, 0 => 400000000000
    | .aiRes, 1 => 4000000000000
    | .aiRes, _ => 100000000000000
    | .aiTc, _ => 80000000
    | _, _ => 1000000

/-- The signed form of R142. -/
def signedForm (c : ChCfg) (m : ChMode) : Bool := m == .aiTc || (m == .aiV && fld c.aiCfg 23 20 == 1)

/-- The code of num / den in a form of N bits (04 R142): rounded and saturated at the end of the
range. -/
def codeOf (signed : Bool) (bits : Nat) (num : Int) (den : Nat) : Int :=
  let top : Int := if signed then 2 ^ (bits - 1) - 1 else 2 ^ bits - 1
  let a := num * top
  clampInt (if signed then -top else 0) top (roundDiv (Config.tieUp a den) a den)

/-- Whether an input may, and must, set OVR (04 R150): from 0.4 % and from 0.5 % of FS beyond the
range; below the range only where R141 gives a lower value, with RATIO too. -/
def overRange (c : ChCfg) (m : ChMode) (x : Int) (permille10 : Int) : Bool :=
  let fs : Int := fullScale c m
  let lim := fs * permille10
  let low := signedForm c m || m == .aiV || m == .aiI
  if signedForm c m then decide ((fs * 1000 + lim) ≤ x * 1000 ∨ x * 1000 ≤ -(fs * 1000 + lim))
  else decide ((fs * 1000 + lim) ≤ x * 1000) || (low && decide (x * 1000 ≤ -lim))

/-- DATA of an analogue input code (05 R165). -/
def alignCode (left : Bool) (bits : Nat) (code : Int) : BitVec 24 :=
  if bits = 18 ∧ left then BitVec.ofInt 24 (code * 64) else BitVec.ofInt 24 code

/-! ### What a slice measures -/

/-- a / b to the nearest unit; with b = 0 the quotient is a free value (log entry 110). -/
def State.quotient (s : State) (a b : Int) : State × Int :=
  if b = 0 then (s.tookFree, s.freeInt)
  else
    let x := if b < 0 then -a else a
    (s, roundDiv (Config.tieUp x b.natAbs) x b.natAbs)

/-- The quantity that a conversion measures, in the units of `fullScale` (04 R140, R141, R144, R146, 05 R164):
the terminals of a DIFF or thermocouple channel are subtracted, RATIO divides by VF at the hold instant, a
resistance is V / I with the forms of RTD3 and RTD4. -/
def State.quantity (s : State) (n : Ch) (m : ConvMeas) : State × Int :=
  match s.modeOf n with
  | .aiV =>
    if s.pairOf n == .diff then (s, m.v - m.w)
    else if (s.cfgOf n).ratio .aiV then s.quotient (m.v * 1000000000000) m.vf
    else (s, m.v)
  | .aiRes =>
    let d := match s.pairOf n with
      | .rtd3 => 2 * m.w - m.v
      | .rtd4 => m.w - m.x
      | _ => m.v
    s.quotient (d * 1000000000000) m.cur
  | .aiTc => (s, m.v - m.x)
  | .aoV => (s, m.v)
  | _ => (s, m.cur)

/-- Whether a terminal voltage in nV lies from lo to hi mV. -/
def within (lo hi x : Int) : Bool := decide (lo * 1000000 ≤ x ∧ x ≤ hi * 1000000)

/-- Whether the terminals lie in their linear region (04 R141, 06 R203). -/
def State.linear (s : State) (n : Ch) (m : ConvMeas) : Bool :=
  let c := s.cfgOf n
  match s.modeOf n with
  | .aiV =>
    if fld c.aiCfg 23 20 = 2 then within (-3000) 33000 m.v
    else within (-11000) 11000 m.v && (s.pairOf n != .diff || within (-11000) 11000 m.w)
  | .aiI => within (-500) (if bit c.hart 31 then 9000 else 3000) m.v
  | .aiRes => within 0 4500 m.v
  | .aiTc => within (-1000) 5000 m.v && within (-1000) 5000 m.x
  | _ => true

/-- An excitation terminal at 4.5 V or above: the code saturates at FS with OVR (04 R145). -/
def State.resOpen (s : State) (n : Ch) (m : ConvMeas) : Bool :=
  s.modeOf n == .aiRes && decide (4500000000 ≤ m.v)

/-! ### Filters -/

/-- FTYPE and OSR (04 R152). -/
def ChCfg.ftype (c : ChCfg) : Nat := fld c.aiFilt 31 30

def ChCfg.osr (c : ChCfg) : Nat := max 1 (fld c.aiFilt 12 0)

/-- How many conversions enter one output (04 R150, R153). -/
def filterSpan (ftype osr : Nat) : Nat :=
  match ftype with
  | 1 => 3 * osr - 2
  | 2 => osr
  | _ => 1

/-- The age of the last conversion with a flag once one more has entered: forgotten past the longest
filter. -/
def ageFlag (old : Option Nat) (now : Bool) : Option Nat :=
  if now then some 0
  else match old with
    | some k => if k + 1 < 12288 then some (k + 1) else none
    | none => none

/-- Whether an output contains a conversion with a flag (04 R150). -/
def flagIn (span : Nat) : Option Nat → Bool
  | some k => decide (k < span)
  | none => false

/-- One conversion enters the filter (04 R150, R153): the filter after it, and the output when one is due
and settled, as a numerator over a denominator with the flags of the conversions in it. -/
def Filt.feed (f : Filt) (ftype osr : Nat) (x : Int) (ovr ovv : Bool) :
    Filt × Option (Int × Nat × Bool × Bool) :=
  let o := ageFlag f.ovr ovr
  let v := ageFlag f.ovv ovv
  let span := filterSpan ftype osr
  match ftype with
  | 1 =>
    let i1 := f.i1 + x
    let i2 := f.i2 + i1
    let i3 := f.i3 + i2
    if f.n + 1 < osr then ({ f with n := f.n + 1, i1, i2, i3, ovr := o, ovv := v }, none)
    else
      let d1 := i3 - f.c1
      let d2 := d1 - f.c2
      let d3 := d2 - f.c3
      let g : Filt := { n := 0, outs := min 3 (f.outs + 1), i1, i2, i3, c1 := i3, c2 := d1, c3 := d2,
                        ovr := o, ovv := v }
      (g, if f.outs < 2 then none else some (d3, osr ^ 3, flagIn span o, flagIn span v))
  | 2 =>
    let i1 := f.i1 + x
    if f.n + 1 < osr then ({ f with n := f.n + 1, i1, ovr := o, ovv := v }, none)
    else ({ f with n := 0, outs := min 3 (f.outs + 1), i1 := 0, ovr := o, ovv := v },
          some (i1, osr, flagIn span o, flagIn span v))
  | _ => ({ f with outs := min 3 (f.outs + 1), ovr := o, ovv := v }, some (x, 1, ovr, ovv))

/-- The filter of a channel restarts (04 R153, R156): VALID clears, and nothing converted under the old
settings is delivered. -/
def State.restartFilter (s : State) (n : Ch) : State :=
  ((s.dropConv n).modAi n fun a => { a with filt := Filt.reset, hist := [] }).modIn n
    fun i => { i with valid := false }

/-! ### The notch -/

/-- One in fixed point, for angles, sines and cosines. -/
def fixOne : Int := 2 ^ 40

/-- A product in fixed point. -/
def fixMul (a b : Int) : Int := a * b / fixOne

/-- Cosine and sine of an angle in fixed point, by their power series. -/
def cosSin (x : Int) : Int × Int :=
  let y := fixMul x x
  let term (k : Int) (acc : Int) : Int := fixOne - fixMul y acc / k
  (term 2 (term 12 (term 30 (term 56 (term 90 (term 132 fixOne))))),
   fixMul x (term 6 (term 20 (term 42 (term 72 (term 110 fixOne))))))

/-- The response of taps at an angle per conversion, as its real and imaginary part: `c` and `d` are the cosine
and sine of the angle. -/
def tapResponse (c d : Int) (taps : List Int) : Int × Int :=
  let r := taps.foldl (fun (x : (Int × Int) × (Int × Int)) h =>
    ((fixMul x.1.1 c - fixMul x.1.2 d, fixMul x.1.2 c + fixMul x.1.1 d),
     (x.2.1 + fixMul h x.1.1, x.2.2 + fixMul h x.1.2))) ((fixOne, 0), (0, 0))
  r.2

/-- At least 70 dB of rejection at n conversions per cycle, at the centre and at 1 % to either side (04 R155). -/
def rejects70 (n den : Nat) (taps : List Int) : Bool :=
  [(99 : Int), 100, 101].all fun r =>
    let cs := cosSin (6908435304715 * r / (100 * n))
    let h := tapResponse cs.1 cs.2 taps
    decide ((h.1 * h.1 + h.2 * h.2) * 10000000 ≤ ((den : Int) * den))

/-- The mean over one cycle, taken twice: a notch of 79 dB at 1 %, of at most two cycles. -/
def meanTaps (n : Nat) : List Int :=
  (List.range (2 * n - 1)).map fun k => (min (k + 1) (2 * n - 1 - k) : Nat)

/-- The taps of the notch at n conversions per cycle, newest first, and their sum (04 R155): they span at most
three cycles, pass a constant input and reject the centre. DESIGN CHOICE (log entry 121): which such taps is
open; those that Config offers where they reject, else the mean of `meanTaps`. -/
def notchTaps (n : Nat) : List Int × Nat :=
  let rest := (List.range (3 * n - 1)).map fun k => Config.notchTap n (k + 1)
  let own := ((2 : Int) ^ 30 - rest.sum) :: rest
  if rejects70 n (2 ^ 30) own then (own, 2 ^ 30) else (meanTaps n, n * n)

/-- The weighted sum of the last conversions, newest first; none while there are fewer than taps. -/
def weigh : List Int → List Int → Option Int
  | [], _ => some 0
  | _ :: _, [] => none
  | h :: hs, x :: xs => (weigh hs xs).map (h * x + ·)

/-- The notch acts on a conversion before the decimator (04 R155): bypassed below eight conversions per cycle.
Before it has settled its response is a free value (log entry 121). -/
def State.notch (s : State) (n : Ch) (x : Int) : State × Int :=
  if fld (s.cfgOf n).aiFilt 29 28 = 0 then (s, x)
  else
    let cycle := s.notchCycle (s.cfgOf n)
    let s1 := s.modAi n fun a => { a with
      hist := (s.time, x) :: a.hist.filter fun y => decide (s.time < y.1 + 3 * cycle) }
    let k := s1.cycleConvs n
    if k < 8 then (s1, x)
    else
      let (taps, den) := notchTaps k
      match weigh taps ((s1.chan n).ai.hist.map (·.2)) with
      | some y => (s1, roundDiv (Config.tieUp y den) y den)
      | none => (s1.tookFree, s1.freeInt)

/-! ### Slices and their queue -/

/-- Whether a channel of the analogue modes can convert: supplied, die in service, sense path
closed (13 R395, 01 R29, 04 R148). -/
def State.canConvert (s : State) (n : Ch) : Bool :=
  (s.modeOf n).isAnalogue && !s.isOdd n && s.supplied n && s.dieUp (grpOf n) && !(s.chan n).ai.senseOpen

/-- The slices in service that conversions outside the claims occupy. -/
def State.unclaimedBusy (s : State) (g : Grp) : Nat :=
  ((chOf g).filter fun n => match (s.chan n).ai.busy with
    | some r => r.cls != .comb
    | none => false).length + s.sideBusy g

/-- Whether a conversion of a class may start (04 R122, R160): a slice in service is free, for an injection
one that no claim covers, for a free-rate conversion one that is not held for injections either. -/
def State.mayStart (s : State) (g : Grp) (cls : QClass) : Bool :=
  let others := s.unclaimedBusy g
  decide (s.busyCount g < (s.group g).conv.slots) &&
  match cls with
  | .inj => decide (others + s.claimed g [sliceUnit] < s.slicePool g)
  | .free => decide (others + s.claimed g [sliceUnit, injUnit] < s.slicePool g)
  | _ => true

/-- The next conversion of a class that a slice takes (04 R122). DESIGN CHOICE (log entry 118): of several that
wait, late injections among them, the lowest channel first. -/
def State.nextReq (s : State) (g : Grp) (cls : QClass) : Option (Ch × ConvReq) :=
  if s.mayStart g cls then
    (chOf g).findSome? fun n =>
      match (s.chan n).ai.req, (s.chan n).ai.busy with
      | some r, none => if r.cls == cls then some (n, r) else none
      | _, _ => none
  else none

/-- A slice takes a conversion (04 R122): a free-rate conversion holds its channel now. -/
def State.takeReq (s : State) (n : Ch) (r : ConvReq) : State :=
  s.modAi n fun a => { a with
    req := none, held := false, void := false
    busy := some { r with stamp := if r.cls == .free then s.stampNow else r.stamp } }

/-- How long a conversion occupies its slice (04 R121): 1 µs. -/
def convTime : Nat := micro

/-- A slice takes a monitor conversion that waits, one at a time (04 R130). -/
def State.takeMon (s : State) (g : Grp) : Option State :=
  match (s.group g).conv.monWait, (s.group g).conv.monBusy with
  | j :: js, none =>
    if s.mayStart g .inj then
      some (s.modConv g fun c => { c with monWait := js, monBusy := some (s.time + convTime, j) })
    else none
  | _, _ => none

/-- A slice takes a conversion of the calibration source (04 R128), behind everything else (log entry 118). -/
def State.takeCal (s : State) (g : Grp) : Option State :=
  let c := (s.group g).conv
  if 0 < c.calLeft && c.calBusy.isNone && s.mayStart g .inj then
    some (s.modConv g fun c => { c with calLeft := c.calLeft - 1, calBusy := some (s.time + convTime) })
  else none

/-- A slice that is free takes what comes next (04 R122, R128, R130): claimed conversions, then monitors without a
spare, injections, the free rate, and the calibration source. -/
def State.dispatchOne (s : State) (g : Grp) : State :=
  match s.nextReq g .comb with
  | some x => s.takeReq x.1 x.2
  | none => (s.takeMon g).getD (match s.nextReq g .inj with
    | some x => s.takeReq x.1 x.2
    | none => match s.nextReq g .free with
      | some x => s.takeReq x.1 x.2
      | none => (s.takeCal g).getD s)

/-- The free slices of a group take the conversions that wait (04 R122). -/
def State.dispatch (s : State) (g : Grp) : State :=
  (List.range 8).foldl (fun t _ => t.dispatchOne g) s

/-- A conversion of channel n is asked for (04 R122). -/
def State.startConv (s : State) (n : Ch) (cls : QClass) (stamp : Word) (job : Option Nat) : State :=
  (s.modAi n fun a => { a with req := some { cls := cls, stamp := stamp, job := job } }).dispatch (grpOf n)

/-! ### Slices under calibration -/

/-- Healthy slices of a group. -/
def GrpConv.healthy (c : GrpConv) : Nat := (allSlices.filter fun k => !c.faulty.getLsbD k.val).length

/-- The bit of a slice in a mask of five. -/
def sliceBit (k : Nat) : BitVec 5 := BitVec.ofNat 5 (1 <<< k)

/-- INSERV: every slice that is neither faulty, nor spare, nor released (04 R121, R130, R134); in the overlap of
a rotation the incoming spare is still in service (R127). -/
def GrpConv.recount (c : GrpConv) : GrpConv :=
  { c with inserv := ~~~(c.faulty |||
      (if c.spare.toNat < 5 && c.overlap.isNone then sliceBit c.spare.toNat else 0) |||
      match c.released with
      | some k => sliceBit k.val
      | none => 0) }

/-- A slice that the foreground run has still to calibrate (04 R133). -/
def GrpConv.todo (c : GrpConv) (k : Slice) : Bool := !c.faulty.getLsbD k.val && !c.calDone.getLsbD k.val

/-- An injection that was pending when ADC_CAL was requested has still to complete (04 R135). -/
def State.calWaits (s : State) (g : Grp) : Bool :=
  (chOf g).any fun n =>
    let a := (s.chan n).ai
    let inj : Option ConvReq → Bool := fun r => match r with
      | some x => x.cls == .inj
      | none => false
    bit (s.group g).conv.calWait n.val && (a.inj.isSome || inj a.req || inj a.busy)

/-- A slice may be released: in a CAL_WIN of which 3 ms are left, or with no scheduled channel (04 R134). -/
def State.mayRelease (s : State) (g : Grp) : Bool :=
  decide (s.time + 3 * milli ≤ (s.group g).conv.winEnd) || !(chOf g).any s.schedNow

/-- The foreground run goes on (04 R133 to R135): the spare moves through the slices still to calibrate, in
order; a further one is released where that is allowed, a slice is free of conversions and three stay in
service; a released slice returns to service at the end of its window. -/
def State.calNext (s : State) (g : Grp) : State :=
  let c := (s.group g).conv
  let back := match c.released with
    | some _ => !(decide (s.time < c.winEnd) || !(chOf g).any s.schedNow)
    | none => false
  let s1 := if back then s.modConv g fun c => GrpConv.recount { c with released := none } else s
  if c.calState != 2 || s1.calWaits g then s1
  else
    let s2 := s1.modConv g fun c =>
      if 5 ≤ c.spare.toNat || c.todo ⟨c.spare.toNat % 5, Nat.mod_lt _ (by decide)⟩ then c
      else match allSlices.find? fun k => c.todo k && c.released != some k with
        | some k => GrpConv.recount { c with spare := BitVec.ofNat 3 k.val }
        | none => c
    let d := (s2.group g).conv
    if d.released.isNone && s2.mayRelease g && decide (4 ≤ d.slots) && decide (s2.busyCount g < d.slots) then
      match allSlices.find? fun k => d.todo k && k.val != d.spare.toNat with
      | some k => s2.modConv g fun c => GrpConv.recount { c with released := some k }
      | none => s2
    else s2

/-- A foreground run begins with the first healthy slice as spare, in place of the rotation (04 R133). -/
def State.beginCal (s : State) (g : Grp) : State :=
  (s.modConv g fun c =>
    let d : GrpConv := GrpConv.recount { c with calState := 2, overlap := none }
    match allSlices.find? d.todo with
    | some k => if d.spare.toNat < 5 then GrpConv.recount { d with spare := BitVec.ofNat 3 k.val } else d
    | none => d).calNext g

/-- The slices of a group are given out again (04 R122, R134). -/
def State.serveGroup (s : State) (g : Grp) : State := (s.calNext g).dispatch g

/-! ### Conversions -/

/-- The conversion of n ends with an entry, or with none: its slice is free for the next (04 R122), and an
injection that a calibration waited for is done (R135). DESIGN CHOICE (log entry 107): in the overlap of a
rotation it is the one of the incoming spare, which leaves service. -/
def State.convDone (s : State) (n : Ch) (r : ConvReq) (e : Option DieEntry) : State :=
  let g := grpOf n
  let s1 := (s.modAi n fun a => { a with busy := none, void := false }).modConv g fun c => GrpConv.recount { c with
    overlap := none
    working := c.working + 1
    calWait := if r.cls == .inj then putBit c.calWait n.val false else c.calWait }
  let s2 := match r.job, e with
    | some j, e => s1.jobResult j n e
    | none, some e => s1.putResult n e
    | none, none => s1
  s2.serveGroup g

/-- OVR of a conversion (04 R145, R150): from 0.5 % of FS beyond the range it is set, from 0.4 % it may be. -/
def State.judgeOvr (s : State) (n : Ch) (x : Int) (forced : Bool) : State × Bool :=
  let m := s.modeOf n
  let c := s.cfgOf n
  if forced || overRange c m x 5 then (s, true)
  else if overRange c m x 4 then (s.tookFree, s.freeBool)
  else (s, false)

/-- What enters the filter of a channel (04 R145, R150): the quantity measured with OVR and OVV. Past its
linear region a terminal has no defined relation to the input: a free value. -/
def State.converted (s : State) (n : Ch) (m : ConvMeas) : State × Int × Bool × Bool :=
  if !(s.modeOf n).isAi then
    let q := s.quantity n m
    (q.1, q.2, false, false)
  else if s.resOpen n m then (s, fullScale (s.cfgOf n) .aiRes, true, !s.linear n m)
  else if s.linear n m then
    let q := s.quantity n m
    let o := q.1.judgeOvr n q.2 false
    (o.1, q.2, o.2, false)
  else (s.tookFree, s.freeInt, true, true)

/-- DATA of a filter output num / den (04 R142, R154, 05 R164, R165). -/
def State.outputData (s : State) (n : Ch) (num : Int) (den : Nat) : BitVec 24 :=
  let m := s.modeOf n
  let c := s.cfgOf n
  let d := den * fullScale c m
  if m.isAi then
    let bits := if c.osr = 1 then 18 else 24
    alignCode (fld s.res.cfg 31 30 == 1) bits (codeOf (signedForm c m) bits num d)
  else BitVec.ofInt 24 (clampInt (-8388608) 8388607 (roundDiv (Config.tieUp num d) num d))

/-- CONVERSION_COMPLETE (04 R125, R138, R142, R150, R153; 05 R163 to R169): the conversion in progress on a
channel ends with what its slice measured. -/
def execConversionComplete (ch : Ch) (m : ConvMeas) (s : State) : Out :=
  match (s.chan ch).ai.busy with
  | none => .next s
  | some r =>
    if (s.chan ch).ai.void then .next (s.convDone ch { r with job := none } none)
    else if !s.canConvert ch || !(s.group (grpOf ch)).conv.refSettled then .next (s.convDone ch r none)
    else
      let c := s.cfgOf ch
      let (s1, x, ovr, ovv) := s.converted ch m
      let s2 := if ovv && !(s1.chan ch).ai.ovv then s1.setFault ch 30 else s1
      let s3 := s2.modAi ch fun a => { a with ovv := ovv }
      let (s4, y) := s3.notch ch x
      let (f, out) := (s4.chan ch).ai.filt.feed c.ftype c.osr y ovr ovv
      let s5 := s4.modAi ch fun a => { a with filt := f }
      match out with
      | none => .next (s5.convDone ch r none)
      | some (num, den, o, v) =>
        let w := resultW ch.val o v (s5.outputData ch num den)
        let s6 := s5.modIn ch fun i => { i with valid := true }
        .next (s6.convDone ch r (some
          { entry := { cls := r.cls, word := w, stamp := some r.stamp, src := 0 }, window := w, late := none, cell := 0 }))

/-- Whether backpressure pauses a class on channel n (05 R174): routed to the stream, policy
backpressure, pause in force, and not in a capture that is armed or triggered. -/
def State.paused (s : State) (n : Ch) (c : QClass) : Bool :=
  s.res.bp && s.res.routeOf n == 2 && s.res.policyOf true c == 2 &&
  !(bit s.res.cap.mask n.val && (s.res.cap.state == .armed || s.res.cap.state == .triggered))

/-- A paused conversion is counted (05 R174). -/
def State.countPause (s : State) : State :=
  { s with res.bpCount := s.res.bpCount + 1, res.bpRun := s.res.bpRun + 1 }

/-- Whether a conversion is an injection. -/
def isInj : Option ConvReq → Bool
  | some r => r.cls == .inj
  | none => false

/-- FREE_RATE_CONVERSION (04 R122, R157): it waits for slice time that claims and injections leave. -/
def execFreeRateConversion (ch : Ch) (s : State) : Out :=
  if s.canConvert ch && !s.schedNow ch && fld (s.cfgOf ch).aiTrig 31 30 == 0 &&
      (s.chan ch).ai.req.isNone && (s.chan ch).ai.busy.isNone then
    if s.paused ch .free then .next s.countPause
    else .next (s.startConv ch .free s.stampNow none)
  else .next s

/-- An injection trigger of a channel (04 R161, 05 R174): an injection that still waits is dropped and
counted. DESIGN CHOICE (log entry 118): one still within its DELAY counts as waiting. -/
def State.inject (s : State) (n : Ch) : State :=
  if s.paused n .inj then s.countPause
  else
    let a := (s.chan n).ai
    let s1 := if a.inj.isSome || isInj a.req then
        s.modConv (grpOf n) fun c => { c with injDrop := satInc c.injDrop }
      else s
    s1.modAi n fun a => { a with
      inj := some s.stampNow, req := if isInj a.req then none else a.req }

/-- INJECT_TIMER (04 R157). -/
def execInjectTimer (ch : Ch) (s : State) : Out :=
  if s.canConvert ch && !s.schedNow ch && fld (s.cfgOf ch).aiTrig 31 30 == 1 then .next (s.inject ch)
  else .next s

/-- INJECT_PWM_EDGE (04 R157, R158): a duty of 0 or 1 has no edges. -/
def execInjectPwmEdge (ch : Ch) (s : State) : Out :=
  let src := chNo (fld (s.cfgOf ch).aiTrig 27 23)
  let d := (s.chan src).out.duty
  if s.canConvert ch && !s.schedNow ch && fld (s.cfgOf ch).aiTrig 31 30 == 2 &&
      (s.modeOf src).isSwitch && (s.cfgOf src).pwm && (s.chan src).out.ps.isOn && d != 0 &&
      d != 10000 then
    .next (s.inject ch)
  else .next s

/-- An injection beyond the reserve is counted in LATE, with EV86 at most once per 10 ms per group
(04 R161). -/
def State.noteLateInj (s : State) (g : Grp) : State :=
  let s1 := s.modConv g fun c => { c with injLate := satInc c.injLate }
  if s1.spaced (s1.group g).conv.lastEv86 (10 * milli) then
    let s2 := s1.raise 86 g.val 1 (s1.convInjCntW g) 0 0
    s2.modConv g fun c => { c with lastEv86 := some s2.time }
  else s1

/-- The injections that a group began in the last 100 µs (04 R160). -/
def State.recentInj (s : State) (g : Grp) : List Nat :=
  (s.group g).conv.injTimes.filter fun t => decide (s.time < t + 100 * micro)

/-- An injection holds its channel and waits for a slice (04 R160, R161): beyond the reserve of the last
100 µs it is late. It goes ahead of a free-rate conversion that waits. DESIGN CHOICE (log entry 118): a late
injection counts in the 100 µs too. -/
def State.holdInj (s : State) (n : Ch) : State :=
  let g := grpOf n
  let late := decide (s.injReserve g ≤ (s.recentInj g).length)
  let s1 := (s.modAi n fun a => { a with inj := none }).modConv g fun c => { c with
    injTimes := s.recentInj g ++ [s.time] }
  let s2 := s1.startConv n .inj s.stampNow none
  if late then s2.noteLateInj g else s2

/-- Whether a claimed or injected conversion of a channel waits for a slice. -/
def State.convWaits (s : State) (n : Ch) : Bool :=
  match (s.chan n).ai.req with
  | some r => r.cls != .free
  | none => false

/-- INJECT_HOLD (04 R157, R160): the delay of a waiting injection has passed and its channel is held. -/
def execInjectHold (ch : Ch) (s : State) : Out :=
  if s.canConvert ch && !s.schedNow ch && (s.chan ch).ai.inj.isSome && !s.convWaits ch then
    .next (s.holdInj ch)
  else .next s

/-! ### Diagnostics of analogue inputs -/

/-- AI_OPEN_DETECTED (04 R145, R146). -/
def execAiOpenDetected (ch : Ch) (s : State) : Out :=
  if !s.failedCh ch && s.supplied ch && (s.modeOf ch == .aiRes ||
      (s.modeOf ch == .aiTc && bit (s.cfgOf ch).aiCfg 27)) then
    .next (s.setFault ch 29)
  else .next s

/-- AI_LEAD_DETECTED (04 R145): in RTD3 and RTD4. -/
def execAiLeadDetected (ch : Ch) (s : State) : Out :=
  if !s.failedCh ch && s.supplied ch && (s.pairOf ch == .rtd3 || s.pairOf ch == .rtd4) then
    .next (s.setFault ch 28)
  else .next s

/-- AI_I_SENSE_TRIP (04 R148): the sense path opens, VALID clears, no results are produced. -/
def execAiISenseTrip (ch : Ch) (s : State) : Out :=
  if s.modeOf ch == .aiI && !(s.chan ch).ai.senseOpen && !s.failedCh ch then
    let s1 := (s.modAi ch fun a => { a with senseOpen := true }).modIn ch fun i => { i with valid := false }
    .next (s1.setFault ch 31)
  else .next s

/-! ### References -/

/-- REF_SETTLED sets (04 R137): EV84, and a calibration that waits starts (R135). -/
def State.settleRef (s : State) (g : Grp) : State :=
  let s1 := (s.modConv g fun c => { c with refSettled := true }).raiseRef g 1
  if (s1.group g).conv.calState = 1 then s1.beginCal g else s1

/-- REF_SETTLED (04 R137, R135): 2 ms after a switch to the internal reference. -/
def execRefSettled (g : Grp) (s : State) : Out :=
  let c := (s.group g).conv
  if s.dieUp g && !c.refSettled && (c.refSel != 1 || c.fallback) then .next (s.settleRef g) else .next s

/-- REFIN_MONITOR_CHECK (04 R137, R139): settles on REFIN in range, falls back to the internal
reference out of range. -/
def execRefinMonitorCheck (g : Grp) (inRange : Bool) (s : State) : Out :=
  let c := (s.group g).conv
  if s.dieUp g && c.refSel == 1 && !c.fallback then
    if inRange then
      if c.refSettled then .next s else .next (s.settleRef g)
    else
      let s1 := (s.clearRef g).modConv g fun c => { c with refFault := true, fallback := true }
      .next (s1.raiseRef g 3)
  else .next s

/-! ### Slices -/

/-- A correction beyond 32 LSB in offset or 0.05 % in gain (04 R130). -/
def sliceFails (off gain : Int) : Bool := decide (32000 < off.natAbs) || decide (500000 < gain.natAbs)

/-- A slice is declared faulty (04 R130, 08 R265): out of rotation for good, EV85, and a policy fault
below three healthy slices. -/
def State.declareFaulty (s : State) (g : Grp) (k : Slice) : State :=
  let s1 := s.modConv g fun c => GrpConv.recount { c with
    faulty := c.faulty ||| sliceBit k.val, spare := 7, overlap := none, calLeft := 0
    released := if c.released == some k then none else c.released
    calFault := c.calFault || c.calState == 2 }
  let s2 := s1.raiseCal g 3
  let h := (s2.group g).conv.healthy
  let s3 := if h < 4 then s2.raiseCal g 4 else s2
  if h < 3 then s3.policyFault 31 85 g.val 4 (s3.convSliceW g) (s3.convCalW g) 0 else s3

/-- A coefficient moves towards its measured value by at most one step per turn (04 R129). -/
def stepTo (old new : Int) (step : Nat) : Int := old + clampInt (-(step : Int)) step (new - old)

/-- SPARE_ROTATION (04 R127 to R131): off and gain are the measured correction of the outgoing spare in
1/1000 LSB and 10^-9; suspended with no spare and through a foreground run. After a turn of fewer than 256
working conversions the slices in service convert the calibration source once each (R128). A turn that finds its slice faulty is
not counted in TURNS; the outgoing spare enters service and the incoming one leaves when its conversion in
progress has completed (R127); the report-only entry has EV85's subject and CODE 0x8000, and a residual that has
exceeded its limit makes no second one (DESIGN CHOICE, log entry 107). -/
def execSpareRotation (g : Grp) (off gain : Int) (s : State) : Out :=
  let c := (s.group g).conv
  if !s.dieUp g || c.spare.toNat ≥ 5 || c.calState == 2 then .next s
  else
    let k : Slice := ⟨c.spare.toNat % 5, Nat.mod_lt _ (by decide)⟩
    let s0 := s.modConv g fun c => { c with
      calLeft := if c.working < 256 then c.slots else 0, working := 0 }
    if sliceFails off gain then .next ((s0.declareFaulty g k).dispatch g)
    else
      let s1 := s0.modConv g fun c => GrpConv.recount { c with
        turns := c.turns + 1
        spare := BitVec.ofNat 3 ((k.val + 1) % 5)
        overlap := if 0 < s.busyCount g then some s.time else none }
      if c.calRo then
        let big := decide (2000 < (off - c.coefOff[k.val]).natAbs) ||
          decide (10000 < (gain - c.coefGain[k.val]).natAbs)
        if big && !c.residual.getLsbD k.val then
          let s2 := s1.modConv g fun c => { c with
            residual := c.residual ||| sliceBit k.val }
          .next ((s2.recordOnly 85 (BitVec.ofNat 16 g.val) (BitVec.ofNat 16 reportOnly)
            (s2.convSliceW g) (s2.convCalW g) 0).dispatch g)
        else .next (s1.dispatch g)
      else
        .next ((s1.modConv g fun c => { c with
          coefOff := c.coefOff.set k.val (stepTo c.coefOff[k.val] off 500)
          coefGain := c.coefGain.set k.val (stepTo c.coefGain[k.val] gain 5000) }).dispatch g)

/-- A monitor entry in its route (05 R167, R171). -/
def State.putMonitor (s : State) (g : Grp) (tag : Nat) (data : BitVec 24) : State :=
  let e : QEntry := { cls := .mon, word := resultW tag false false data, src := 0
                      stamp := if bit s.res.cfg 27 then some s.stampNow else none }
  if s.linkOpen g then
    match fld s.res.cfg 29 28 with
    | 1 => s.putEntry false e
    | 2 => s.putEntry true e
    | _ => s
  else if s.pw.window.isSome && s.dieUp g then
    s.keepOnDie g (routeParts (fld s.res.cfg 29 28)) (qsize e) { entry := e, window := e.word, late := none, cell := 0 }
  else s

/-- What the internal monitors of a group measure (04 R147; 05 R167; 13 R398): VF in mV, die temperature and cold
junction in 0.01 °C, reference in µV. -/
def State.internalMeasured (s : State) (g : Grp) (vf tdie : BitVec 16) (refUv : BitVec 24) (cj : BitVec 16) :
    State :=
  let s1 := (s.measureVf g vf).modGrp g fun x => { x with
    sup := { x.sup with tdie := tdie }
    conv := { x.conv with cjt := cj, cjValid := true } }
  let s2 := s1.putMonitor g (32 + g.val) (vf.setWidth 24)
  let s3 := s2.putMonitor g (36 + g.val) (tdie.signExtend 24)
  let s4 := s3.putMonitor g (40 + g.val) refUv
  s4.putMonitor g (44 + g.val) (cj.signExtend 24)

/-- The internal monitors of a group reach a host, or are kept or discarded on the die through field continuity (13
R419). -/
def State.monitorsGo (s : State) (g : Grp) : Bool :=
  s.dieUp g && (!(s.group g).link.silent || s.pw.window.isSome)

/-- INTERNAL_MONITOR_CONVERSION (04 R128, R130, R147; 05 R167; 13 R398): on the spare, or with none in slice time
that no claim covers, for which it waits. -/
def execInternalMonitorConversion (g : Grp) (vf : BitVec 16) (tdie : BitVec 16) (refUv : BitVec 24)
    (cj : BitVec 16) (s : State) : Out :=
  if !s.monitorsGo g then .next s
  else if s.monitorReady g then .next (s.internalMeasured g vf tdie refUv cj)
  else .next (s.queueMon g (fun x => match x with
    | .internal .. => true
    | _ => false) (.internal vf tdie refUv cj))

/-- A monitor conversion that took a slice has ended (04 R130). -/
def State.endMon (s : State) (g : Grp) (j : MonJob) : State :=
  match j with
  | .terminal ch m => if s.monitored ch then s.terminalMeasured ch m else s
  | .internal vf tdie refUv cj => if s.monitorsGo g then s.internalMeasured g vf tdie refUv cj else s

/-- What ends by itself on the slices of a group (04 R121, R127, R128, R130): a rotation's overlap after 1 µs, a
monitor conversion, one of the calibration source. -/
def State.endSide (s : State) (g : Grp) : State :=
  let c := (s.group g).conv
  let ended (t : Option Nat) : Bool := t.any fun x => decide (x ≤ s.time)
  let s1 := s.modConv g fun c => GrpConv.recount { c with
    overlap := if ended (c.overlap.map (· + convTime)) then none else c.overlap
    calBusy := if ended c.calBusy then none else c.calBusy
    monBusy := if ended (c.monBusy.map (·.1)) then none else c.monBusy }
  match c.monBusy with
  | some (t, j) => if t ≤ s.time then s1.endMon g j else s1
  | none => s1

/-! ### Foreground calibration -/

/-- The end of a foreground run: rotation resumes with S0 as spare (04 R133, R135). -/
def State.endCal (s : State) (g : Grp) : State :=
  let s1 := s.modConv g fun c => GrpConv.recount { c with
    calState := 0
    calOutcome := if c.calFault then 3 else 1
    calRuns := c.calRuns + 1
    released := none
    spare := if c.faulty = 0 then 0 else 7
    working := 0 }
  s1.raiseCal g 1

/-- ADC_CAL_SLICE_DONE (04 R133 to R135): the spare or the released slice has been calibrated at 64 points; its
offset, gain and linearity table apply at once. The run ends when every healthy slice is done. -/
def execAdcCalSliceDone (g : Grp) (k : Slice) (off gain : Int) (lin : List Int) (s : State) : Out :=
  let c := (s.group g).conv
  if !s.dieUp g || c.calState != 2 || s.calWaits g || !c.todo k ||
      !(c.spare.toNat == k.val || c.released == some k) then .next s
  else
    let s1 := s.modConv g fun c => GrpConv.recount { c with
      calDone := c.calDone ||| sliceBit k.val
      released := if c.released == some k then none else c.released
      coefOff := c.coefOff.set k.val off
      coefGain := c.coefGain.set k.val gain
      coefLin := c.coefLin.set k.val lin }
    let s2 := if sliceFails off gain then s1.declareFaulty g k else s1
    let s3 := if allSlices.any (s2.group g).conv.todo then s2 else s2.endCal g
    .next (s3.serveGroup g)

/-- ADC_CAL_REF_TIMEOUT (04 R135). -/
def execAdcCalRefTimeout (g : Grp) (s : State) : Out :=
  if (s.group g).conv.calState == 1 then
    .next ((s.modConv g fun c => { c with calState := 0, calOutcome := 2 }).raiseCal g 2)
  else .next s

end Sys2Proof.Machine
end

