-- ==== Sys2Proof/Machine/CombRun.lean ====
section
/-! DEFINITION. The cells of the comb on the field dies, the wrap of its period, its exchange and its
stall (07 R217, R223 to R234, R240 to R250; 04 R123, R134). -/

namespace Sys2Proof.Machine

/-! ### Late cells -/

/-- Whether a cell that starts now is late (07 R226, R246, R249): beyond JITTER after its due instant, or
passed in a jump. -/
def DueCell.isLate (d : DueCell) (now jitter : Nat) : Bool :=
  d.passed || decide (jitter < 4 * (now - d.due))

/-- A late or skipped cell is counted once, on whichever die it is late first (07 R227, R246): `code` is that
of EV89. -/
def State.noteLate (s : State) (d : DueCell) (code : Nat) : State :=
  if s.comb.lateSeen.contains (d.pos, d.idx) then s
  else
    let s1 : State := { s with
      comb.lateSeen := s.comb.lateSeen ++ [(d.pos, d.idx)]
      comb.late := if code = 1 then satInc s.comb.late else s.comb.late
      comb.skipped := if code = 2 then satInc s.comb.skipped else s.comb.skipped }
    s1.raiseLate d.idx code

/-- The late cells that some die has still to reach or to run stay known (07 R227). -/
def State.keepSeen (s : State) (c : Comb) : State :=
  { s with comb.lateSeen := s.comb.lateSeen.filter fun x =>
      allGrp.any fun g =>
        (match c.cells[x.2]? with
          | some y => y.onDie g
          | none => false) &&
        (decide ((s.group g).pos.h < x.1) ||
          (s.group g).pos.due.any fun d => d.pos == x.1 && d.idx == x.2) }

/-- The next due cell of a die is skipped when it is SKIPPABLE and late (07 R246): its results are awaited no
longer. -/
def State.skipFront (s : State) (c : Comb) (g : Grp) : State :=
  match (s.group g).pos.due with
  | [] => s
  | d :: rest =>
    match c.cells[d.idx]? with
    | some x =>
      if x.skip && d.isLate s.time c.hdr.jitter then
        let s1 := (s.modPos g fun p => { p with due := rest }).noteLate d 2
        State.finishJobs { s1 with comb.jobs := s1.comb.jobs.map fun j =>
          if j.pos == d.pos && j.idx == d.idx then
            { j with dies := j.dies &&& ~~~(BitVec.ofNat 4 (1 <<< g.val)) } else j }
      else s
    | none => s.modPos g fun p => { p with due := rest }

/-- Every SKIPPABLE cell that is late at the front of a die's share is skipped (07 R246). -/
def State.skipLate (s : State) (c : Comb) : State :=
  (s.each allGrp fun t g =>
    (List.range (t.group g).pos.due.length).foldl (fun u _ => u.skipFront c g) t).keepSeen c

/-! ### Running a cell -/

/-- The capacity of a unit on a die (07 R226, R228; 04 R130): the slices in service, where a claim of more
waits only for those there are. -/
def State.capacityNow (s : State) (g : Grp) (u q : Nat) : Nat :=
  if u = sliceUnit then max q (min 4 (s.slicePool g)) else 1

/-- Every resource that a cell claims on a die is free (07 R226). -/
def State.resourcesFree (s : State) (g : Grp) (c : Cell) : Bool :=
  (s.uses (c.forDies [g])).all fun p =>
    let load := s.claimed g (if p.1 = sliceUnit then [sliceUnit, injUnit] else [p.1])
    decide (load + p.2 ≤ s.capacityNow g p.1 p.2)

/-- Whether an exchange is due at the period wrap that the horizon has passed since it was armed, so that no cell
of the old comb starts (07 R240). -/
def State.exchangeDue (s : State) : Bool := s.comb.armed.isSome && s.comb.wrapDue

/-- The cell that a die starts now if it is the one of an index (07 R217, R226): first among the due cells of
its share, due, 8 field ticks after the cell before it, its resources free, and E not below H. -/
def State.startable (s : State) (idx : Nat) (x : Cell) (g : Grp) : Option DueCell :=
  let p := (s.group g).pos
  match p.due with
  | [] => none
  | d :: _ =>
    let spaced := p.last.all fun t => decide (t + 8 ≤ 4 * s.time)
    if d.idx == idx && decide (d.due ≤ s.time) && spaced &&
        (s.comb.cond == .fallback || decide ((p.h : Int) ≤ p.e)) && s.resourcesFree g x then some d
    else none

/-- A die starts a cell (07 R222, R226): its claims run from now. -/
def State.beginCell (s : State) (g : Grp) (x : Cell) : State :=
  let claims := (s.uses (x.forDies [g])).map fun p =>
    ({ unit := if x.action = 0x0E then injUnit else p.1, qty := p.2, fin := 4 * s.time + x.ticks } : Claim)
  s.modPos g fun p => { p with
    due := p.due.drop 1, last := some (4 * s.time)
    occ := (p.occ.filter fun o => decide (4 * s.time < o.fin)) ++ claims }

/-- A cell in the course of starting: on which dies, its image index, extended position and stamp (05 R169),
and its lateness in units of the time base where it is late. -/
structure Started where
  dies : List Grp
  idx : Nat
  pos : Nat
  stamp : Word
  late : Option Nat
  deriving DecidableEq, Repr

/-- The cell of an index starts on every die on which it can start now (07 R217, R226, R227, R246): the parts
at one position together. A MANDATORY one that is late runs with its lateness, how far H has passed its
position; the cell that f runs is the shares of those dies. -/
def State.runCell (s : State) (action idx : Nat) (f : State → Cell → Started → State) : State :=
  match s.comb.active with
  | none => s
  | some cb =>
    match cb.cells[idx]? with
    | none => s
    | some x =>
      if !s.cellsRun || x.action.toNat != action || s.exchangeDue then s
      else
        let s1 := s.skipLate cb
        match allGrp.findSome? (s1.startable idx x) with
        | none => s1
        | some d =>
          let gs := allGrp.filter fun g => (s1.startable idx x g).any fun e => e.pos == d.pos
          let late := gs.any fun g => (s1.startable idx x g).any fun e => e.isLate s1.time cb.hdr.jitter
          let h := gs.foldl (fun m g => max m (s1.group g).pos.h) 0
          let s2 := if late then s1.noteLate d 1 else s1
          let s3 := (s2.each gs fun t g => t.beginCell g x).keepSeen cb
          f s3 (x.forDies gs)
            { dies := gs, idx := idx, pos := d.pos, stamp := stampOf d.pos cb.per
              late := if late then some (h - d.pos) else none }

/-! ### How a cell meets a channel -/

/-- How a cell meets a channel: it runs, it is a counted no-op (01 R15, R29), it meets the guard
(01 R16), or it brings nothing. -/
inductive Meets where
  | run | noop | held | absent
  deriving DecidableEq, Repr

/-- How a cell meets channel n (01 R15, R16, R29; 04 R148; 08 R257; 13 R395): below UVLO the cells aimed at
outputs are no-ops, and conversion cells produce nothing. -/
def State.meets (s : State) (conv : Bool) (n : Ch) : Meets :=
  if s.failedCh n then .noop
  else if !s.dieUp (grpOf n) then .absent
  else if s.protected n then .noop
  else if (s.group (grpOf n)).sup.dark && conv then .absent
  else if (s.chan n).guard.held then .held
  else if (s.chan n).ai.senseOpen || ((s.group (grpOf n)).sup.uvlo && (s.modeOf n).isGuarded) then .noop
  else .run

/-- The channels that a cell covers and that stand for themselves. -/
def State.coveredBy (s : State) (c : Cell) : List Ch := c.covered.filter fun n => !s.isOdd n

/-- Do an action on every channel that a cell covers (07 R225); the cell is a no-op for those it
cannot act on. -/
def State.eachCovered (s : State) (c : Cell) (conv : Bool) (f : State → Ch → State) : State :=
  s.each (s.coveredBy c) fun t n =>
    match t.meets conv n with
    | .run => f t n
    | .noop => t.countNoop n
    | _ => t

/-- A pending command is discarded at its target cell, with APPLYCONF and EV93 (07 R233). -/
def State.discardPend (s : State) (n : Ch) : State :=
  match (s.chan n).pend with
  | none => s
  | some _ => (s.modCh n fun c => { c with pend := none }).applyConflict n

/-- A restored command would start a switch-on within 5 ms of another of the group (08 R268). -/
def State.tooSoon (s : State) (n : Ch) (p : PendCmd) : Bool :=
  p.restored && !s.clearOn (grpOf n) &&
  if (s.modeOf n).isAo then (s.chan n).ao.code == 0 && p.code != 0
  else p.on && (s.chan n).out.ps == .off

/-! ### Actions -/

/-- NOP (07 R223). -/
def execNop (idx : Nat) (s : State) : Out :=
  .next (s.runCell 0x00 idx fun t _ _ => t)

/-- A new sample replaces one not yet converted: the old one is lost and counted (04 R124). DESIGN CHOICE (log
entry 118): with the conversion of the old sample in progress nothing is lost and the new one is kept. -/
def State.loseSample (s : State) (n : Ch) : State :=
  let a := (s.chan n).ai
  if a.held || a.req.isSome then
    ((s.modAi n fun a => { a with held := false, req := none }).modConv (grpOf n) fun x =>
      { x with overrun := satInc x.overrun }).loseReq n a.req
  else s

/-- HOLD (04 R123, R124). -/
def execHold (idx : Nat) (s : State) : Out :=
  .next (s.runCell 0x01 idx fun t c _ =>
    t.eachCovered c true fun u n =>
      if (u.modeOf n).isAnalogue then (u.loseSample n).modAi n fun a => { a with held := true } else u)

/-- A result of a cell as its die brings it (05 R163, R180). -/
def State.dieResult (s : State) (n : Ch) (w stamp : Word) : DieEntry :=
  { entry := { cls := .comb, word := w, stamp := some stamp, src := 0 }, window := s.windowOf n w
    late := none, cell := 0 }

/-- The dies whose part of a cell at a position has still to bring results, once some dies have run it
(05 R170): those in service whose link is open. -/
def State.diesAwaited (s : State) (x : Started) : BitVec 4 :=
  match s.comb.active with
  | none => 0
  | some cb =>
    match cb.cells[x.idx]? with
    | none => 0
    | some c =>
      (allGrp.filter fun g => c.onDie g && !x.dies.contains g && s.dieUp g && !(s.group g).link.silent).foldl
        (fun w g => w ||| BitVec.ofNat 4 (1 <<< g.val)) 0

/-- The part of a cell on some dies joins its job, or opens it (05 R170, 07 R227). -/
def State.joinJob (s : State) (x : Started) (wait : Word) (got : List (Nat × DieEntry)) : State × Nat :=
  match s.comb.jobs.find? fun j => j.pos == x.pos && j.idx == x.idx with
  | some k =>
    let mask := x.dies.foldl (fun (w : BitVec 4) g => w ||| BitVec.ofNat 4 (1 <<< g.val)) 0
    ({ s with comb.jobs := s.comb.jobs.map fun j =>
        if j.id = k.id then
          { j with dies := j.dies &&& ~~~mask, wait := j.wait ||| wait, got := j.got ++ got
                   late := max j.late x.late }
        else j }, k.id)
  | none =>
    let id := s.comb.nextJob
    ({ s with
        comb.nextJob := id + 1
        comb.jobs := s.comb.jobs ++ [{ id := id, pos := x.pos, idx := x.idx, dies := s.diesAwaited x,
                                       late := x.late, wait := wait, got := got }] }, id)

/-- A cell samples or converts its channels (04 R123, 05 R166, R169, R170): the results that are ready
gather, the analogue ones are awaited, and all enter together with the stamp of the cell. -/
def State.sampleCell (s : State) (c : Cell) (x : Started) (useHeld : Bool) : State :=
  let chs := (s.coveredBy c).filter fun n => s.meets true n == .run
  let an := chs.filter fun n => (s.modeOf n).isAnalogue
  let got := (chs.filter fun n => (s.modeOf n).isNonAnalogue && !useHeld && s.arrives (grpOf n)).map fun n =>
    (n.val, s.dieResult n (resultW n.val false false (s.plainData n)) x.stamp)
  let j := s.joinJob x (an.foldl (fun w n => putBit w n.val true) 0) got
  let s1 := j.1.eachCovered c true fun u n =>
    if (u.modeOf n).isAnalogue then
      let r := (u.chan n).ai.req
      let u1 := if useHeld then (u.modAi n fun a => { a with req := none }).loseReq n r else u.loseSample n
      (u1.modAi n fun a => { a with held := true }).startConv n .comb x.stamp (some j.2)
    else u
  s1.finishJobs

/-- CONVERT (04 R123): a stage that still tracks is held now. -/
def execConvert (idx : Nat) (s : State) : Out :=
  .next (s.runCell 0x02 idx fun t c x => t.sampleCell c x true)

/-- SAMPLE (04 R123, 02 R54, 05 R166). -/
def execSample (idx : Nat) (s : State) : Out :=
  .next (s.runCell 0x03 idx fun t c x => t.sampleCell c x false)

/-- A switch-on that a policy waits to make takes place at an APPLY cell once the channel is ready
(01 R17). -/
def State.policyApply (s : State) (n : Ch) : State :=
  if (s.chan n).out.polOn && !(s.chan n).guard.held && !(s.chan n).out.ps.isOn && s.readyOn n then s.switchOn n
  else s

/-- APPLY meets a channel (07 R231, R233): under the guard or on a failed die a pending command is discarded,
on a protected channel it is handed to the protection state machine. -/
def State.applyAt (s : State) (n : Ch) : State :=
  let s0 := s.policyApply n
  let s1 := if s0.meets false n = .noop then s0.countNoop n else s0
  match (s.chan n).pend with
  | none => s1
  | some p =>
    if (s.chan n).guard.held || s.failedCh n then s1.discardPend n
    else match s0.meets false n with
      | .run => if s.tooSoon n p then s1.countNoop n else s1.takePend n p
      | .noop => s1.takePend n p
      | _ => s1

/-- APPLY (07 R223, R231, R233). -/
def execApply (idx : Nat) (s : State) : Out :=
  .next (s.runCell 0x04 idx fun t c _ => t.each (t.coveredBy c) State.applyAt)

/-- OUT_SET (07 R223, R234): the state becomes the channel's command, a pending command waits on. -/
def execOutSet (idx : Nat) (s : State) : Out :=
  .next (s.runCell 0x05 idx fun t c _ =>
    t.eachCovered c false fun u n =>
      (u.command n (bit c.arg 31) (BitVec.ofNat 14 (fld c.arg 13 0))).modOutP n fun o => { o with
        hostOn := false })

/-- OUT_PULSE meets a channel (07 R223): no pulse when it is at the level already. -/
def State.pulseAt (s : State) (on : Bool) (n : Ch) : State :=
  let p := (s.chan n).out.ps
  if on then
    if p == .off && s.readyOn n then
      (s.modOutP n fun o => { o with pulse := some true }).switchOn n
    else s
  else if p.isOn then (s.switchOff n .off).modOutP n fun o => { o with pulse := some false }
  else s

/-- OUT_PULSE (07 R223). -/
def execOutPulse (idx : Nat) (s : State) : Out :=
  .next (s.runCell 0x06 idx fun t c _ => t.eachCovered c false fun u n => u.pulseAt (bit c.arg 31) n)

/-- OUT_PULSE_END (07 R223): the channel goes to the state that its command then calls for, unless the guard
holds it, the die has failed, or a protection state holds it (01 R16, R29, 03 R98). -/
def execOutPulseEnd (ch : Ch) (s : State) : Out :=
  let o := (s.chan ch).out
  let s1 := s.modOutP ch fun o => { o with pulse := none }
  if o.pulse.isNone then .next s
  else if !(s.modeOf ch).isSwitch || (s.chan ch).guard.held || !s.dieUp (grpOf ch) then .next s1
  else if !o.cmdOn then .next (s1.commandOff ch)
  else match o.ps with
    | .off => .next (if s1.readyOn ch then s1.switchOn ch else s1.modOutP ch fun o => { o with ps := .pend })
    | .on | .limit => .next (s1.refreshDuty ch)
    | _ => .next s1

/-- DIAG (03 R110, R112): an off-pulse on a channel in ON with no inductive load, else a counted
no-op. -/
def execDiag (idx : Nat) (s : State) : Out :=
  .next (s.runCell 0x07 idx fun t c _ =>
    t.each (t.coveredBy c) fun u n =>
      match u.meets false n with
      | .absent => u
      | .run =>
        if (u.chan n).out.ps == .on && !(u.cfgOf n).inductive then
          u.modOutP n fun o => { o with diag := true }
        else u.countNoop n
      | _ => u.countNoop n)

/-- AO_SET with FIXED 0 meets a channel (07 R231, R233): at a blocked stage the code stays pending. -/
def State.aoApplyAt (s : State) (n : Ch) : State :=
  let s1 := if s.meets false n = .noop then s.countNoop n else s
  match (s.chan n).pend with
  | none => s1
  | some p =>
    if (s.chan n).guard.held || s.failedCh n then s1.discardPend n
    else match s.meets false n with
      | .run => if s.tooSoon n p then s1.countNoop n else s1.takePend n p
      | .noop => if (s.chan n).ao.blocked then s1 else s1.takePend n p
      | _ => s1

/-- AO_SET (07 R223, R231, R234). -/
def execAoSet (idx : Nat) (s : State) : Out :=
  .next (s.runCell 0x08 idx fun t c _ =>
    if bit c.arg 31 then
      t.eachCovered c false fun u n => u.applyCode n (BitVec.ofNat 16 (fld c.arg 15 0))
    else t.each (t.coveredBy c) State.aoApplyAt)

/-- The limit of a rail in mV (06 R189): the lower of 32 V and VF + 8 V. -/
def State.railLimit (s : State) (n : Ch) : Nat :=
  min 32000 ((s.group (grpOf n)).sup.vf.toNat + 8000)

/-- What the loop of an AO_I_SRC channel needs in mV (06 R189): 1.2 V above its terminal at the commanded
current, with HARTEN at 0.5 mA more. -/
def State.railNeed (s : State) (n : Ch) (millivolts tone : Int) : Int :=
  (if bit (s.cfgOf n).hart 31 then tone else millivolts) + 1200

/-- The rail target in mV (06 R189): from the floor of 2.5 V to the limit. -/
def State.railTarget (s : State) (n : Ch) (millivolts tone : Int) : Nat :=
  (clampInt 2500 (s.railLimit n) (s.railNeed n millivolts tone)).toNat

/-- How far a rail moves towards its target at most (06 R189): it rises at 4 V/ms, it falls freely. -/
def State.railReach (s : State) (n : Ch) (target : Nat) : Nat :=
  let a := (s.chan n).ao
  if target ≤ a.rail then target else min target (a.rail + (s.time - a.railAt) / 5)

/-- A slot serves the rail of a channel (06 R189, R190, R196, R212): how far it moves towards its target is a
free value, and it never stands above the limit (log entry 5). HCLIP tells that the limit does not reach the
target of the tone peak. -/
def State.railSlot (s : State) (n : Ch) (millivolts tone : Int) : State :=
  let old := min (s.chan n).ao.rail (s.railLimit n)
  let r := s.railReach n (s.railTarget n millivolts tone)
  let lo := min old r
  let v := lo + s.freeWord.toNat % (max old r - lo + 1)
  (s.tookFree.modAo n fun a => { a with rail := v, railAt := s.time }).modHart n fun h => { h with
    hclip := bit (s.cfgOf n).hart 31 && decide ((s.railLimit n : Int) < tone + 1200) }

/-- Whether a die serves the rail of a channel (06 R190, R202): through field continuity and in KEEP a channel
that the guard holds as well. -/
def State.railMeets (s : State) (n : Ch) : Bool :=
  s.meets false n == .run ||
  (s.meets false n == .held && !(s.group (grpOf n)).sup.uvlo && (s.pw.window.isSome || s.pw.mode == .keep))

/-- RAIL (06 R190, R202): the covered channels are served in turn; one of which the row brings no terminal voltage
meets a free one. -/
def execRail (idx : Nat) (loads : List RailLoad) (s : State) : Out :=
  .next (s.runCell 0x09 idx fun t c _ =>
    t.each (t.coveredBy c) fun u n =>
      if u.railMeets n then
        match loads.find? fun l => l.ch == n with
        | some l => u.railSlot n l.millivolts l.tone
        | none => u.tookFree.railSlot n u.freeInt u.freeInt
      else if u.meets false n == .noop then u.countNoop n
      else u)

/-- HART_WIN (06 R210): a close while a transmission is in progress takes effect at its end. -/
def execHartWin (idx : Nat) (s : State) : Out :=
  .next (s.runCell 0x0A idx fun t c _ =>
    t.eachCovered c false fun u n => u.modHart n fun h =>
      if bit c.arg 0 then { h with winOpen := true, closing := false }
      else if h.phase == .sending then { h with closing := true }
      else { h with winOpen := false, closing := false })

/-- The die that runs a cell concerning no channel works (07 R221, 01 R29). -/
def State.leadUp (s : State) (c : Cell) : Bool := s.dieUp (grpNo c.lead.toNat)

/-- STAMP (05 R168): the marker enters on the lead die's link, or stays on the die through field
continuity (13 R419). -/
def execStamp (idx : Nat) (s : State) : Out :=
  .next (s.runCell 0x0B idx fun t c x =>
    let g := grpNo c.lead.toNat
    if t.linkOpen g then t.putMarkerAt 50 (fld c.arg 23 0) x.stamp
    else if t.pw.window.isSome && t.leadUp c then
      ({ t with comb.nextJob := t.comb.nextJob + 1 } : State).keepOnDie g
        ([false, true].filter t.anyRouted) 2
        { t.dieResult 0 (markerW 50 (fld c.arg 23 0)) x.stamp with cell := t.comb.nextJob }
    else t)

/-- TRIG_OUT (05 R184, 12 R387). -/
def execTrigOut (idx : Nat) (s : State) : Out :=
  .next (s.runCell 0x0C idx fun t c x =>
    let t1 := if bit c.arg 0 && fld t.res.cap.cfg 29 27 == 3 && t.linkOpen (grpNo c.lead.toNat) then
        t.capTrigger x.stamp
      else t
    if bit c.arg 1 && t.sw.syncEn && t.hostUp && t.leadUp c then
      { t1 with sw.syncPulses := t1.sw.syncPulses + 1 }
    else t1)

/-- CAL_WIN (04 R134, 07 R223): from 3 ms it releases a slice to calibration for its duration. -/
def execCalWin (idx : Nat) (s : State) : Out :=
  .next (s.runCell 0x0D idx fun t c _ =>
    let g := grpNo c.lead.toNat
    if 240000 ≤ c.ticks ∧ t.leadUp c then
      (t.modConv g fun x => { x with winEnd := max x.winEnd (t.time + c.ticks / 4) }).serveGroup g
    else t)

/-- INJ_RES (04 R160): its claim holds slices for injected conversions. -/
def execInjRes (idx : Nat) (s : State) : Out :=
  .next (s.runCell 0x0E idx fun t _ _ => t)

/-- EVENT (07 R223, 09 R288): one COMB_MARK record. -/
def execEvent (idx : Nat) (s : State) : Out :=
  .next (s.runCell 0x0F idx fun t c x =>
    if t.leadUp c then
      t.recordSpecial 0xF5 (BitVec.ofNat 16 (fld c.arg 15 0)) (BitVec.ofNat 16 idx) x.stamp t.combIdW 0
    else t)

/-! ### Wrap, exchange, stall -/

/-- Where the time base drives the horizon of a die (07 R217, R248): an emulated position in FALLBACK on TB1
and TB2, else E. -/
def State.driveOf (s : State) (c : Comb) (p : DiePos) : Int :=
  if s.comb.cond == .fallback && (c.hdr.tb == 1 || c.hdr.tb == 2) then s.comb.emul else p.e

/-- Whether the time base of a die has passed the end of the period in which its horizon stands (log
entry 2). -/
def State.wraps (s : State) (c : Comb) (g : Grp) : Bool :=
  let p := (s.group g).pos
  decide ((wrapLimit p.h c.per : Int) < s.driveOf c p)

/-- The horizon of a die passes into the next period (07 R217), and on with its time base. -/
def State.wrapDie (s : State) (c : Comb) (g : Grp) : State :=
  if s.wraps c g then
    let h := wrapLimit (s.group g).pos.h c.per + 1
    let s1 := s.modPos g fun p =>
      if s.hasShare g then c.reach g s.time h false p else { p with h := h, due := [] }
    if s.comb.armed.isSome then s1 else s1.reachH c g (s.driveOf c (s.group g).pos) false
  else s

/-- COMB_PERIOD_WRAP (07 R217, R242, 05 R168, 10 R331): the horizons pass into the next period;
`micros` is the duration of the period completed. With an exchange armed they wait there for it. -/
def execCombPeriodWrap (micros : Word) (s : State) : Out :=
  match s.comb.active with
  | none => .next s
  | some c =>
    if s.cellsRun then
      let s1 := s.each allGrp fun t g => t.wrapDie c g
      if s.wraps c s.posGrp then
        let s2 : State := { s1 with comb.fbper := micros, comb.wrapDue := s.comb.armed.isSome }
        .next (s2.countGen s).wrapMarker
      else .next s1
    else .next s

/-- COMB_EXCHANGE (07 R240, R241): at once with no comb running, else at a period wrap. -/
def execCombExchange (s : State) : Out :=
  match s.comb.active with
  | none => .next s.exchange
  | some _ =>
    if !s.combLive || s.comb.cond == .stalled || s.exchangeDue then .next s.exchange
    else .next s

/-- TB_STALL (07 R248): TB1 has not changed for STALL_T, TB2 has lost its lock, be it with its die (log entry
122), or TB3 has been without synchronisation for STALL_T. -/
def execTbStall (s : State) : Out :=
  match s.comb.active with
  | none => .next s
  | some c =>
    let still : Bool := match s.comb.moves with
      | m :: _ => decide (m.1 + c.hdr.stallT * milli ≤ s.time)
      | [] => true
    let lost := if c.hdr.tb = 1 then still
      else if c.hdr.tb = 2 then !(s.chan c.source).mains.lock || !s.dieUp (grpOf c.source)
      else !s.sw.synced && decide (s.sw.lostAt + c.hdr.stallT * milli ≤ s.time)
    .next (if lost then s.stall else s)

end Sys2Proof.Machine
end

