-- ==== Sys2Proof/Machine/Ao.lean ====
section
/-! DEFINITION. Analogue outputs: rails, compliance, mis-wiring, the thermal backstop; and HART (06). -/

namespace Sys2Proof.Machine

/-- An analogue output on a die in service. -/
def State.aoLive (s : State) (n : Ch) : Bool := (s.modeOf n).isAo && s.dieUp (grpOf n)

/-! ### Rails -/

/-- No RAIL claim runs on a die (06 R190). -/
def State.converterFree (s : State) (g : Grp) : Bool := s.claimed g [2] == 0

/-- A rail that the converter serves by itself (06 R190, R191): of an AO_I_SRC channel whose stage is not
blocked, outside the RAIL claims. -/
def State.railServed (s : State) (n : Ch) : Bool :=
  s.aoLive n && s.modeOf n == .aoISrc && !(s.chan n).ao.blocked && s.converterFree (grpOf n)

/-- RAIL_SLOT (06 R190, R212): the converter's own cycle serves a free AO_I_SRC channel, and every one
while no comb runs. -/
def execRailSlot (ch : Ch) (millivolts tone : Int) (s : State) : Out :=
  if s.railServed ch && !s.schedNow ch then .next (s.railSlot ch millivolts tone) else .next s

/-- RAIL_SLOT_INSERTED (06 R191): 200 µs after the last slot of a scheduled channel. -/
def execRailSlotInserted (ch : Ch) (millivolts tone : Int) (s : State) : Out :=
  if s.railServed ch && s.schedNow ch && decide ((s.chan ch).ao.railAt + 200 * micro ≤ s.time) then
    .next ((s.railSlot ch millivolts tone).modAo ch fun a => { a with inserted := satInc a.inserted })
  else .next s

/-! ### Measurements -/

/-- A shortfall (06 R195): a mean current more than 24 µA below the commanded one. -/
def shortfall (code : BitVec 16) (mean : Int) : Bool :=
  decide ((mean + 24) * 65535 < (code.toNat * 24000 : Nat))

/-- A command of at least 1.0 mA (06 R195). -/
def atLeast1mA (code : BitVec 16) : Bool := decide (1000 * 65535 ≤ code.toNat * 24000)

/-- The compliance condition of R195. -/
def complianceNow (m : ChMode) (code : BitVec 16) (a : AoMeas) : Bool :=
  match m with
  | .aoISrc => a.railAtLimit && shortfall code a.mean
  | .aoISnk => decide (a.millivolts < 3000) && shortfall code a.mean
  | _ => false

/-- The open-loop condition of R195. -/
def openNow (m : ChMode) (code : BitVec 16) (a : AoMeas) : Bool :=
  match m with
  | .aoISrc => atLeast1mA code && a.railAtLimit && decide (a.mean < 100)
  | .aoISnk => atLeast1mA code && decide (a.mean < 100) && decide (a.millivolts < 1000)
  | _ => false

/-- Whether two codes differ by at least 1.0 mA (06 R193). -/
def farCodes (a b : BitVec 16) : Bool := decide (1000 * 65535 ≤ (max a.toNat b.toNat - min a.toNat b.toNat) * 24000)

/-- The settled codes of R193 (06) after one more measurement at a settled code, the last one first. -/
def ChAo.settle (a : ChAo) (m : AoMeas) : ChAo :=
  { a with settled := (a.code, m.millivolts, m.mean) :: a.settled.filter fun x => x.1 != a.code }

/-- The last two settled codes that differ by at least 1.0 mA (06 R193), the earlier one first. -/
def settledPair : List (BitVec 16 × Int × Int) → Option ((BitVec 16 × Int × Int) × (BitVec 16 × Int × Int))
  | [] => none
  | y :: l =>
    match l.find? fun x => farCodes x.1 y.1 with
    | some x => some (x, y)
    | none => settledPair l

/-- A loop resistance in Ω from mV over µA, to the nearest (06 R193; log entry 110): 0xFFFE above 65 533. -/
def ohmsOf (millivolts microamps : Int) : BitVec 16 :=
  if microamps = 0 then 0xFFFF
  else
    let x := if microamps < 0 then -(millivolts * 1000) else millivolts * 1000
    let r := roundDiv (Config.tieUp x microamps.natAbs) x microamps.natAbs
    if 65533 < r then 0xFFFE else BitVec.ofNat 16 r.toNat

/-- RLOOP (06 R193). -/
def rloopOf (mode : ChMode) (a : ChAo) (m : AoMeas) : BitVec 16 :=
  match mode, settledPair a.settled with
  | .aoISrc, _ => if m.mean < 500 then 0xFFFF else ohmsOf m.millivolts m.mean
  | .aoISnk, some (x, y) => ohmsOf (x.2.1 - y.2.1) (y.2.2 - x.2.2)
  | _, _ => 0xFFFF

/-- AO_MEAS_UPDATE (06 R193, R195): the 20 ms means are measured in µA or mV; flags are judged while
the stage is not blocked, RB_DEV while no other condition of R195 is present. -/
def execAoMeasUpdate (ch : Ch) (m : AoMeas) (s : State) : Out :=
  if !s.aoLive ch then .next s
  else
    let mode := s.modeOf ch
    let a := if m.settled then (s.chan ch).ao.settle m else (s.chan ch).ao
    let judged := !a.blocked && !a.off && s.supplied ch
    let comp := judged && complianceNow mode a.code m
    let opn := judged && openNow mode a.code m
    let s1 := s.modAo ch fun x => { x with
      settled := a.settled
      readback := BitVec.ofInt 16 (clampInt (-32768) 32767 m.mean)
      rloop := rloopOf mode a m
      compl := (comp || opn) || (x.compl && mode != .aoV && shortfall a.code m.mean) }
    let s2 := if comp || opn then s1.setFault ch 31 else s1
    let s3 := if opn then s2.setFault ch 30 else s2
    .next (if judged && m.deviates && !comp && !opn && !m.limiting then s3.setFault ch 26 else s3)

/-- AO_LIMIT_DETECTED (06 R195). -/
def execAoLimitDetected (ch : Ch) (s : State) : Out :=
  if s.aoLive ch && s.modeOf ch == .aoV && !(s.chan ch).ao.blocked then .next (s.setFault ch 27)
  else .next s

/-! ### Blocking -/

/-- The stage resumes its applied code, or takes a code held while it was blocked (06 R197 to R199); a stage that
fell with its group and missed its turn takes the next one (06 R201). -/
def State.unblock (s : State) (n : Ch) : State :=
  let a := (s.chan n).ao
  let g := grpOf n
  match a.heldCode with
  | some k =>
    if a.blocked || a.off then s
    else if a.down then
      let s1 := s.queueTurns g
      if !(s.group g).sup.recovering && (s1.group g).sup.recovering && s1.clearOn g then s1.staggerStep g else s1
    else s.applyCode n k
  | none => s

/-- MISWIRE_DETECTED (06 R197): an AO_I_SRC rail returns to its 2.5 V floor. -/
def execMiswireDetected (ch : Ch) (s : State) : Out :=
  if s.aoLive ch then
    let s1 := s.modAo ch fun a => { a with
      miswire := true, retest := false
      rail := if s.modeOf ch == .aoISrc then 2500 else a.rail, railAt := s.time }
    .next (s1.setFault ch 29)
  else .next s

/-- MISWIRE_RETEST_END (06 R197). -/
def execMiswireRetestEnd (ch : Ch) (driven : Bool) (s : State) : Out :=
  if s.aoLive ch && (s.chan ch).ao.retest then
    if driven then .next ((s.modAo ch fun a => { a with retest := false }).setFault ch 29)
    else .next ((s.modAo ch fun a => { a with retest := false, miswire := false }).unblock ch)
  else .next s

/-- AO_THERMAL_TRIP (06 R198). -/
def execAoThermalTrip (ch : Ch) (s : State) : Out :=
  if s.aoLive ch then
    .next ((s.modAo ch fun a => { a with therm := true }).setFault ch 28)
  else .next s

/-- AO_THERMAL_RESTART (06 R198). -/
def execAoThermalRestart (ch : Ch) (s : State) : Out :=
  if s.aoLive ch && (s.chan ch).ao.therm then
    .next ((s.modAo ch fun a => { a with therm := false }).unblock ch)
  else .next s

/-! ### HART -/

/-- HART is on for a channel: feature 1, HARTEN, die in service (06 R206). -/
def State.hartOn (s : State) (n : Ch) : Bool :=
  s.feat 1 && bit (s.cfgOf n).hart 31 && s.dieUp (grpOf n)

/-- HART works on a channel: it is on, and the guard does not hold the channel (06 R202, R206). -/
def State.hartLive (s : State) (n : Ch) : Bool := s.hartOn n && !(s.chan n).guard.held

/-- The window is open (06 R210): always on a free channel. -/
def State.windowOpen (s : State) (n : Ch) : Bool := !s.schedNow n || (s.chan n).hart.winOpen

/-- EV87 (11 R361). -/
def State.raiseHart (s : State) (n : Ch) (code : Nat) : State :=
  s.fieldRaise (grpOf n) 87 n.val code (s.chHartW n) 0 0

/-- PREAMBLE (06 R206). -/
def ChCfg.preamble (c : ChCfg) : Nat := fld c.hart 23 19

/-- HART_TRANSMIT_START (06 R205, R209): the quiet time has passed, and the preamble goes ahead of the host's
bytes. -/
def execHartTransmitStart (ch : Ch) (s : State) : Out :=
  let h := (s.chan ch).hart
  if s.hartLive ch && h.phase == .queued && s.windowOpen ch && !h.carrier then
    .next (s.modHart ch fun h => { h with
      phase := .sending, tx := List.replicate (s.cfgOf ch).preamble 0xFF#8 ++ h.tx })
  else .next s

/-- HART_TRANSMIT_END (06 R209, R210): the reply wait starts and a deferred close takes effect. -/
def execHartTransmitEnd (ch : Ch) (s : State) : Out :=
  if (s.chan ch).hart.phase == .sending then
    .next (s.modHart ch fun h => { h with
      phase := .waiting, tx := [], winOpen := h.winOpen && !h.closing, closing := false })
  else .next s

/-- HART_CARRIER_CHANGE (06 R204, R206, R209): the receiver is muted while the module transmits and while the
guard holds the channel; the detector of the die does not wait for feature negotiation. -/
def execHartCarrierChange (ch : Ch) (on : Bool) (s : State) : Out :=
  if bit (s.cfgOf ch).hart 31 && s.dieUp (grpOf ch) && !(s.chan ch).guard.held &&
      (s.chan ch).hart.phase != .sending then
    .next (s.modHart ch fun h => { h with carrier := on })
  else .next s

/-- Characters with errors in a frame (06 R205). -/
def frameErrors (f : HartFrame) : Nat := (f.marks.filter fun b => b).length

/-- HART_FRAME_RECEIVED (06 R205, R209, R211): a frame needs a preamble of at least two characters; it
is the reply to a transaction, a burst frame delivered under BURSTRX, or a frame discarded. DESIGN CHOICE (log
entry 119): a frame queued but not yet transmitted is no open transaction. -/
def execHartFrameReceived (ch : Ch) (frame : HartFrame) (s : State) : Out :=
  let h := (s.chan ch).hart
  if !s.hartLive ch || h.phase == .sending || frame.pre.toNat < 2 then .next s
  else
    let f : HartFrame := { frame with bytes := frame.bytes.take 255, marks := frame.marks.take 255 }
    let s1 := s.modHart ch fun h => { h with errCount := satAdd h.errCount (frameErrors f) }
    if h.phase == .waiting then
      let last : BitVec 3 := if frameErrors f = 0 then 1 else 2
      let s2 := s1.modHart ch fun h => { h with
        phase := .idle, txBusy := false, last := last, rxCount := h.rxCount + 1, rx := some f }
      .next (s2.raiseHart ch last.toNat)
    else if bit (s.cfgOf ch).hart 29 then
      let s2 := s1.modHart ch fun h => { h with rxCount := h.rxCount + 1, rx := some f }
      .next (s2.raiseHart ch 6)
    else .next s1

/-- HART_REPLY_TIMEOUT (06 R209): the wait ends through a hold of the guard too. -/
def execHartReplyTimeout (ch : Ch) (s : State) : Out :=
  let h := (s.chan ch).hart
  if s.hartOn ch && h.phase == .waiting && !h.carrier then
    .next ((s.modHart ch fun h => { h with phase := .idle, txBusy := false, last := 3 }).raiseHart ch 3)
  else .next s

end Sys2Proof.Machine
end

