-- ==== Sys2Proof/Machine/Links.lean ====
section
/-! DEFINITION. Field links, failure of a field die, the guards' copies and entries, host silence, the
waggle, the core watchdog's order, the task monitor, debug halts (01 R12 to R29, 08). -/

namespace Sys2Proof.Machine

/-! ### Links -/

/-- FIELD_LINK_FRAME_ERROR (01 R14): counted, resent; 16 within 1 ms raise EV72-EV75. A burst empties the list
of error times, so that the next one needs 16 errors more (DESIGN CHOICE, log entry 108). -/
def execFieldLinkFrameError (g : Grp) (s : State) : Out :=
  let l := (s.group g).link
  let times := (l.errTimes.filter fun t => decide (s.time < t + milli)) ++ [s.time]
  let burst := decide (16 ≤ times.length)
  let s1 := s.modLink g fun l => { l with
    errs := l.errs + 1, errTimes := if burst then [] else times }
  .next (if burst then s1.raiseLink g 1 else s1)

/-- Whether a die extrapolates the time base while its link is silent (07 R250). -/
def State.extrapolates (s : State) (g : Grp) : Bool :=
  match s.comb.active with
  | none => false
  | some c => s.combLive && (c.hdr.tb == 1 || c.hdr.tb == 2) && grpOf c.source != g

/-- A die begins to extrapolate at the last relayed rate where it must (07 R250), and EV72-EV75 tells it. -/
def State.beginExtrap (s : State) (g : Grp) : State :=
  if s.extrapolates g then
    ((s.modLink g fun l => { l with extrap := true, rate := s.rateNow }).modPos g fun p =>
      { p with frac := 0 }).raiseLink g 5
  else s

/-- The guard of an extrapolating die under a LIVE comb takes its scheduled channels (07 R250, 08 R261). -/
def State.liveTakeover (s : State) (g : Grp) : State :=
  match s.comb.active with
  | some c =>
    if (s.group g).link.extrap && c.hdr.live then s.takeover g 0xB fun n => s.scheduled n else s
  | none => s

/-- FIELD_LINK_SILENCE (01 R12, 08 R263, 07 R250): the guard of a working die takes over alone, unless its last
order lengthened or lifted the silence limit (13 R408). No cell awaits its results any longer. -/
def execFieldLinkSilence (g : Grp) (s : State) : Out :=
  let x := s.group g
  if x.link.silent || x.link.failed || !x.sup.ready || x.guard.limitMicros != 50 then .next s
  else
    let s1 := ((s.dropShares [g]).modLink g fun l => { l with silent := true }).raiseLink g 2
    if !s.dieUp g then .next s1
    else
      let s2 := s1.takeover g 4 fun _ => true
      let s3 := if (s2.group g).guard.held && !(s.group g).guard.held then s2.raiseLink g 3 else s2
      .next (s3.beginExtrap g)

/-- Raise the events that a die held, in order and with their own stamps (02 R61): each accepted change that it
held is delivered, in place of one change at the return (DESIGN CHOICE, log entry 108). -/
def State.raiseHeld (s : State) (g : Grp) : State :=
  let evs := (s.group g).link.events
  let s1 := s.modLink g fun l => { l with events := [] }
  s1.each evs fun t e => t.raiseAt e.source e.subject e.code e.p0 e.p1 e.p2 e.stamp e.nocomb

/-- A die adopts the relayed position (07 R250), into the period that the source has reached: cells between its
extrapolated horizon and the position ahead count as passed; a position behind holds cells. -/
def State.adoptOne (s : State) (c : Comb) (g : Grp) : State :=
  let r := (s.group (grpOf c.source)).pos
  s.modPos g fun p =>
    let q := { p with e := r.e, frac := 0 }
    let h := min r.e.toNat (max (wrapLimit p.h c.per) r.h)
    if s.hasShare g then c.reach g s.time h true q else { q with h := max p.h h, due := [] }

/-- The link of a die returns (07 R250): it adopts the relayed position, and where it carries the source of the
time base the others adopt its position. -/
def State.adoptPos (s : State) (g : Grp) : State :=
  match s.comb.active with
  | none => s
  | some c =>
    if !(c.hdr.tb == 1 || c.hdr.tb == 2) || !s.combLive then s
    else if g == grpOf c.source then
      (s.each (allGrp.filter fun x => x != g && !(s.group x).link.silent) fun t x => t.adoptOne c x).afterMove s
    else if (s.group g).link.extrap then (s.adoptOne c g).afterMove s
    else s

/-- FIELD_LINK_RESTORED (07 R250, 08 R263, 02 R61). -/
def execFieldLinkRestored (g : Grp) (s : State) : Out :=
  let l := (s.group g).link
  if !l.silent || !s.dieUp g || !s.hostUp || s.pw.window.isSome then .next s
  else
    let s1 := (s.adoptPos g).modLink g fun l => { l with silent := false, extrap := false }
    .next ((s1.raiseHeld g).raiseLink g 6)

/-! ### Failure of a die -/

/-- The gates of a die are discharged (01 R28): every output of the group is off. -/
def State.dischargeGates (s : State) (g : Grp) : State :=
  s.each (chOf g) fun t n => t.modCh n fun c => { c with
    out := { c.out with ps := if c.out.ps.isOn then .off else c.out.ps, duty := 0, frozen := false
                        pulse := none, diag := false, polOn := false }
    ao := { c.ao with code := 0, heldCode := none, down := false, rail := 0 }
    loop := { c.loop with on := false, limit := false, want := false, iloop := 0 }
    hart := { c.hart.stop with carrier := false } }

/-- The logic of a die stops (01 R28): its conversions are lost and no cell awaits it. -/
def State.haltDie (s : State) (g : Grp) : State :=
  (((s.dischargeGates g).each (chOf g) State.killConv).dropShares [g]).modGrp g fun x => { x with
    link := { x.link with stopped := true, extrap := false }
    guard := { x.guard with fok := false } }

/-- FIELD_DIE_FAILURE (01 R29, 02 R35, 07 R248): the group's channels are FAILED and high-impedance, with VALID
0, no guard holds them; a comb whose TB1 source it carried stalls at once. An unpowered die does not fail (13 R397). -/
def execFieldDieFailure (g : Grp) (s : State) : Out :=
  if (s.group g).link.failed || !(s.group g).sup.ready || !s.hostUp || s.pw.window.isSome then .next s
  else
    let s1 := (s.haltDie g).each (chOf g) fun t n =>
      (t.modGuard n fun _ => ChGuard.reset).modIn n fun i => { i with valid := false }
    let s2 := s1.modGrp g fun x => { x with
      link := { x.link with failed := true, silent := false, events := [], entries := [] }
      guard := { x.guard with held := false, stallHold := false } }
    let s3 := s2.raiseLink g 4
    match s.comb.active with
    | some c =>
      .next ((if c.hdr.tb == 1 && grpOf c.source == g then s3.stall else s3).countGen s)
    | none => .next s3

/-- DIE_SUPERVISOR_TRIP (01 R28, 08 R282): the gates are discharged and the die stops; the host die
declares it by its silence. -/
def execDieSupervisorTrip (g : Grp) (s : State) : Out :=
  if s.dieUp g then .next (s.haltDie g) else .next s

/-! ### Guard copies and entries -/

/-- An internal fault whose cause code and words the manual leaves open (11 R361; log entry 5). -/
def State.openFault (s : State) : State :=
  let code := s.freeWord.toNat % 0x7FFF + 1
  let s1 := s.tookFree
  let s2 := s1.tookFree
  let s3 := s2.tookFree
  s3.tookFree.internalFault code s1.freeWord s2.freeWord s3.freeWord

/-- The host die rewrites the copy of a guard from its master (08 R260): a copy that does not verify
sets TBAD and raises EV127. -/
def State.rewriteGuard (s : State) (g : Grp) (verifies : Bool) : State :=
  if verifies then s.writeGuard g
  else
    let s1 := s.modGrp g fun x => { x with guard := { x.guard with tbad := true } }
    s1.fokRefresh.openFault

/-- Whether the host die can reach a guard. -/
def State.guardReached (s : State) (g : Grp) : Bool :=
  s.dieUp g && !(s.group g).link.silent && s.hostUp && s.pw.window.isNone

/-- GUARD_GEN_MISMATCH (08 R282). -/
def execGuardGenMismatch (g : Grp) (verifies : Bool) (s : State) : Out :=
  if s.guardReached g then .next (s.rewriteGuard g verifies) else .next s

/-- GUARD_CRC_CHECK (08 R260): the check failed outside an application. -/
def execGuardCrcCheck (g : Grp) (verifies : Bool) (s : State) : Out :=
  if s.guardReached g then .next (s.rewriteGuard g verifies) else .next s

/-- Whether an entry starts a load (08 R258). -/
def State.entryStarts (s : State) (n : Ch) : Bool :=
  let e := s.entryOf n
  let act := fld e.1 31 30
  let c := s.chan n
  match s.guardMode n with
  | .doHs | .doPp => (act == 1 || act == 3) && !c.out.ps.isOn
  | .loopPwr => act == 1 && !c.loop.on
  | _ => act == 3 && c.ao.code == 0 && e.2.setWidth 16 != 0#16

/-- The entry of a held channel is due (08 R258, R259): DELAY has passed since T, no HOLD order freezes it, and
no mode change is in progress. -/
def State.entryDue (s : State) (n : Ch) : Bool :=
  let x := (s.chan n).guard
  x.held && !x.applied && !x.frozen && !(s.chan n).cfgBusy &&
  decide (x.t + fld (s.entryOf n).1 9 0 * 10 * milli ≤ s.time)

/-- Whether the switch-on of another entry comes first (08 R258): of those due, in ascending RANK and then
number. -/
def State.otherFirst (s : State) (n : Ch) : Bool :=
  (chOf (grpOf n)).any fun m => m != n && s.entryDue m && s.entryStarts m &&
    (decide (s.rankOf m < s.rankOf n) || (s.rankOf m == s.rankOf n && decide (m < n)))

/-- SAFE_ENTRY_APPLY (08 R258 to R260): a held channel's entry at T + DELAY, a switch-on 5 ms after
the group's previous one and in its turn; `copyOk` is the check immediately before, and a copy that fails it
brings all OFF, ignoring DELAY and RANK. A switch-on that must wait
for R97 or for its supply waits for a turn. -/
def execSafeEntryApply (ch : Ch) (copyOk : Bool) (s : State) : Out :=
  let g := grpOf ch
  if !s.dieUp g || !(s.chan ch).guard.held then .next s
  else if !copyOk || (s.group g).guard.tbad then .next (s.badCopy g)
  else if !s.entryDue ch then .next s
  else if s.entryStarts ch && (!s.clearOn g || s.otherFirst ch) then .next s
  else .next ((s.applyEntry ch).queueTurns g)

/-- Whether a guard took over FOK_DLY ago or more (08 R265, R273). -/
def State.fokOver (s : State) (g : Grp) : Bool :=
  (chOf g).any fun n =>
    (s.chan n).guard.held && decide ((s.chan n).guard.t + s.fokDly * 10 * milli ≤ s.time)

/-- FOK_DELAY_EXPIRED (08 R273). -/
def execFokDelayExpired (g : Grp) (s : State) : Out :=
  if s.fokOver g then
    .next (s.modGrp g fun x => { x with guard := { x.guard with fok := false } })
  else .next s

/-- DIE_OVERTEMP (08 R265): a die sensor at 160 °C for 1 s. -/
def execDieOvertemp (g : Grp) (s : State) : Out :=
  if s.dieUp g && s.hostUp then
    let s1 := s.raiseThermal g 4
    .next (s1.policyFault 30 (68 + g.val) g.val 4 ((s1.group g).sup.tdie.signExtend 32) (s1.shedMask g) 0)
  else .next s

/-- After a HOLD order the entries of a guard apply with this instant as the new T (08 R279). -/
def State.unfreeze (s : State) (g : Grp) : State :=
  s.each (chOf g) fun t n =>
    if (t.chan n).guard.frozen then t.modGuard n fun x => { x with frozen := false, t := t.time } else t

/-- Whether d units of 50 ns have passed since the NMI of a core-watchdog expiry (08 R279). -/
def State.sinceNmi (s : State) (d : Nat) : Bool :=
  match s.wd.nmi with
  | some t => decide (t + d ≤ s.time)
  | none => false

/-- GUARD_HOLD_EXPIRY (08 R279): 150 ms after the NMI the guards apply their tables alone. -/
def execGuardHoldExpiry (s : State) : Out :=
  if s.sinceNmi (150 * milli) then
    .next (s.each allGrp fun t g =>
      if (t.group g).guard.limitMicros = 150000 && !(t.group g).link.failed then t.unfreeze g else t)
  else .next s

/-! ### Watchdogs -/

/-- KV1608 compatibility (08 R269): every held output off, at 0 mA or at 0 V at once, whatever the table
says. -/
def State.kv1608Off (s : State) : State :=
  s.each (allCh.filter fun n => (s.chan n).guard.held) fun t n =>
    (t.entryOff n).modAo n fun a => { a with off := false }

/-- HOST_SILENCE_EXPIRY (08 R261, R269, R274): PERIOD has passed since the last service. -/
def execHostSilenceExpiry (s : State) : Out :=
  if (s.pw.mode == .run || s.pw.mode == .doze) && s.hostUp && s.pw.window.isNone &&
      decide (s.wd.hsLast + s.wd.hsPeriod.toNat * 100 * micro ≤ s.time) then
    let s1 : State := { s with wd.hsExpiries := satInc s.wd.hsExpiries }
    let s2 := s1.raise 76 0 1 s1.wdHsW s1.safeStatW 0
    if s.feat 0 then .next ((s2.takeAll 1).kv1608Off.enterMode .safe 3)
    else .next (s2.safeTrigger 1)
  else .next s

/-- A challenge is posted from the random source and a period starts (08 R276; log entry 5). -/
def State.postChallenge (s : State) : State :=
  { s.tookFree with wd.wgChal := s.freeWord }

/-- A waggle failure (08 R277): counted and recorded; outside SAFE also EV77, a new challenge and the
trigger. The period starts afresh. -/
def State.waggleFail (s : State) (why : Nat) : State :=
  let s1 : State := { s with
    wd.wgFails := satInc s.wd.wgFails, wd.wgLastFail := BitVec.ofNat 3 why, wd.wgStart := s.time }
  if s.pw.mode = .safe then
    s1.recordOnly 77 0 (BitVec.ofNat 16 why) s1.wdWgStatW s1.wd.wgCount 0
  else
    let s2 := (s1.raise 77 0 why s1.wdWgStatW s1.wd.wgCount 0).postChallenge
    let owed := s.pw.mode == .run || s.pw.mode == .doze
    State.safeTrigger { s2 with safe.waggleOwed := s2.safe.waggleOwed || owed } 2

/-- WAGGLE_TIMEOUT (08 R277): the period is over without an accepted service. The waggle never freezes, and a
reset disarms it. -/
def execWaggleTimeout (s : State) : Out :=
  if s.wd.wgEn && s.hostUp && decide (s.wd.wgStart + s.wd.wgPeriod.toNat * milli ≤ s.time) then
    .next (s.waggleFail 1)
  else .next s

/-- CORE_WATCHDOG_EXPIRY (08 R279): the evidence words latch, with the operating seconds and the stamp of the
last service, and the HOLD order freezes the guards' channels at their present states. A debugger's halt
freezes this watchdog (R283). -/
def execCoreWatchdogExpiry (pc : Word) (cause : BitVec 8) (s : State) : Out :=
  if !s.hostUp || s.pw.halted then .next s
  else
    let s1 : State := { s with
      wd.coreExpiries := satInc s.wd.coreExpiries
      wd.evid0 := pc, wd.evid1 := s.wd.svcOpsec, wd.evid2 := s.wd.svcStamp
      wd.evidCause := cause, wd.evalid := true, wd.nmi := some s.time }
    let before (n : Ch) : Bool := (s.chan n).guard.held
    let reach := allGrp.filter fun g => s.dieUp g && !(s.group g).link.silent
    let s2 := s1.takeGroups reach 8
    let s3 := s2.each allCh fun t n =>
      if (t.chan n).guard.held && !before n then t.modGuard n fun x => { x with frozen := true } else t
    let s4 := s3.each reach fun t g => t.modGrp g fun x => { x with guard := { x.guard with
      limitMicros := 150000 } }
    .next s4.stopComb

/-- Where the present period of a task ends (08 R280, R281). -/
def State.taskEnd (s : State) (k : Fin 16) : Nat :=
  s.wd.taskStart[k.val] + (s.wd.taskCfg[k.val]).toNat * milli

/-- TASK_PERIOD_END (08 R280, R281): the next period begins where this one ends. -/
def execTaskPeriodEnd (k : Fin 16) (s : State) : Out :=
  if !s.feat 7 || !s.wd.taskEn.getLsbD k.val || s.pw.halted || !s.hostUp || decide (s.time < s.taskEnd k) then
    .next s
  else
    let n := s.wd.checkins[k.val]
    let b : BitVec 16 := BitVec.ofNat 16 (1 <<< k.val)
    let s1 : State := { s with
      wd.checkins := s.wd.checkins.set k.val 0, wd.taskStart := s.wd.taskStart.set k.val (s.taskEnd k) }
    if n = 0 then
      let s2 : State := { s1 with wd.taskMiss := s1.wd.taskMiss ||| b }
      .next (s2.raise 78 k.val 1 s2.taskStatW 0 0)
    else if n = 1 then .next s1
    else
      let s2 : State := { s1 with wd.taskExtra := s1.wd.taskExtra ||| b }
      .next (if s.wd.taskStrict then s2.raise 78 k.val 2 s2.taskStatW 0 0 else s2)

/-- DEBUGGER_HALT (08 R283): only while core debug is open (14 R448). -/
def execDebuggerHalt (s : State) : Out :=
  if s.sec.dbgOpen && s.hostUp && !s.pw.halted then
    .next { s with pw.halted := true, pw.haltedAt := s.time }
  else .next s

end Sys2Proof.Machine
end

