-- ==== Sys2Proof/Machine/Frames.lean ====
section
/-! DEFINITION. Sending on the swarm ports: roles, routes, credit, segments (12 R362 to R373), and the
words of the swarm objects (12 R388). -/

namespace Sys2Proof.Machine

/-! ### Roles and routes -/

/-- The swarm role from H_STRAP1 (12 R362, R388): 0 standalone, 1 root, 2 node. -/
def State.isRoot (s : State) : Bool := s.port.strap1 == 1

def State.isNode (s : State) : Bool := s.port.strap1 == 2

/-- The module's own address (12 R388). -/
def State.ownAddr (s : State) : Addr := if s.isRoot then 0 else s.sw.addr

def State.swPort (s : State) (p : Port) : SwPort := s.sw.ports[p.val]

def State.modPort (s : State) (p : Port) (f : SwPort → SwPort) : State :=
  { s with sw.ports := s.sw.ports.set p.val (f (s.swPort p)) }

/-- A port is up (12 R388). -/
def State.portUp (s : State) (p : Port) : Bool := (s.swPort p).state == 3

/-- The upstream port (12 R382). -/
def State.upstream (s : State) : Option Port := allPorts.find? fun p => (s.swPort p).use == 1

/-- The downstream ports (12 R373). -/
def State.downstream (s : State) : List Port :=
  allPorts.filter fun p => (s.swPort p).use == 2 && s.portUp p

/-- The port that leads to an address (12 R373). -/
def State.routeTo (s : State) (a : Addr) : Option Port :=
  match s.sw.routes.find? (fun r => r.1 == a) with
  | some r => some r.2
  | none => if a = 0 && !s.isRoot then s.upstream else none

/-! ### Credit -/

/-- The code of a class (12 R368). -/
def swClassCode : SwClass → Nat
  | .control => 0 | .event => 1 | .stream => 2 | .bulk => 3

def allClasses : List SwClass := [.control, .event, .stream, .bulk]

/-- The blocks of a class (12 R371). -/
def fullCredit : Vector Nat 4 := #v[32, 64, 96, 64]

/-- The class to which a kind belongs, where the kind alone fixes it (12 R370). -/
def kindFits (kind : Nat) (c : SwClass) : Bool :=
  match kind, c with
  | 0, .control | 0, .bulk | 1, .control | 1, .bulk => true
  | 2, .event => true
  | 3, .control | 5, .control | 6, .control | 7, .control | 8, .control | 9, .control => true
  | 4, .event | 4, .stream => true
  | 10, .bulk => true
  | _, _ => false

/-- The blocks that a payload takes (12 R371): header, payload and CRC word in blocks of 64 bytes. -/
def blocksOf (len : Nat) : Nat := ((len + 3) * 4 + 63) / 64

/-- The blocks that a frame takes (12 R371). -/
def frameBlocks (f : SwFrame) : Nat := blocksOf f.payload.length

theorem classLt (c : SwClass) : swClassCode c < 4 := by cases c <;> decide

def SwPort.creditOf (p : SwPort) (c : SwClass) : Nat := p.credit[swClassCode c]'(classLt c)

def SwPort.withCredit (p : SwPort) (c : SwClass) (n : Nat) : SwPort :=
  { p with credit := p.credit.set (swClassCode c) n (classLt c) }

/-- A port sends (12 R367). -/
def State.emit (s : State) (p : Port) (o : SwOut) : State := { s with sw.out := s.sw.out ++ [(p, o)] }

/-- The blocks of a received frame are freed, and a CREDIT set returns them (12 R367, R371, R373): of a frame
that was forwarded once no copy of it waits. -/
def State.freeBlocks (s : State) (o : Option Port) (f : SwFrame) : State :=
  match o with
  | none => s
  | some p =>
    if allPorts.any fun q => (s.swPort q).waiting.contains (o, f) then s
    else s.emit p (.credit f.cls (frameBlocks f))

/-- The first frame of a class that waits leaves, when its credit is held (12 R371). -/
def State.sendHead (s : State) (p : Port) (c : SwClass) : Option State :=
  let x := s.swPort p
  match x.waiting.find? fun w => w.2.cls == c with
  | none => none
  | some w =>
    if s.portUp p && decide (frameBlocks w.2 ≤ x.creditOf c) then
      let s1 := s.modPort p fun x =>
        { x.withCredit c (x.creditOf c - frameBlocks w.2) with waiting := x.waiting.erase w }
      some ((s1.emit p (.frame w.2)).freeBlocks w.1 w.2)
    else none

/-- Frames of a class that wait leave in order while their credit is held (12 R371). -/
def drainFuel : Nat → State → Port → SwClass → State
  | 0, s, _, _ => s
  | k + 1, s, p, c =>
    match s.sendHead p c with
    | some t => drainFuel k t p c
    | none => s

def State.drain (s : State) (p : Port) (c : SwClass) : State :=
  drainFuel (s.swPort p).waiting.length s p c

/-- Stream and bulk frames that wait leave, three of stream to one of bulk while both can (12 R372); n is
how many of stream have left since one of bulk. -/
def mixFuel : Nat → Nat → State → Port → State
  | 0, _, s, _ => s
  | k + 1, n, s, p =>
    match s.sendHead p .stream, s.sendHead p .bulk with
    | some t, none => mixFuel k 0 t p
    | some t, some u => if n < 3 then mixFuel k (n + 1) t p else mixFuel k 0 u p
    | none, some u => mixFuel k 0 u p
    | none, none => s

def State.drainMix (s : State) (p : Port) : State := mixFuel (s.swPort p).waiting.length 0 s p

/-- Frames that wait on a port leave as credit allows, in the order of precedence (12 R371, R372). -/
def State.drainPort (s : State) (p : Port) : State := ((s.drain p .control).drain p .event).drainMix p

/-- Frames wait for a port behind those of their class (12 R371, R373, R382): on a port that is down they are
kept. A port that is off or refused sends nothing. -/
def State.enqueue (s : State) (p : Port) (ws : List (Option Port × SwFrame)) : State :=
  if (s.swPort p).state = 0 ∨ (s.swPort p).state = 4 then s
  else s.modPort p fun x => { x with waiting := x.waiting ++ ws }

/-- Send a frame of this module on a port (12 R371): at once while credit for every block is held and none of its
class waits, else it waits. -/
def State.sendOn (s : State) (p : Port) (f : SwFrame) : State := (s.enqueue p [(none, f)]).drain p f.cls

/-- A received frame goes on to some ports (12 R373): where it must wait it stays in its input buffer. -/
def State.forwardOn (s : State) (p : Port) (qs : List Port) (f : SwFrame) : State :=
  if qs.isEmpty then s.freeBlocks (some p) f
  else (s.each qs fun t q => t.enqueue q [(some p, f)]).each qs fun t q => t.drain q f.cls

/-- This module has taken a frame of its own from the input buffer of the port that leads to its sender
(12 R371). -/
def State.took (s : State) (src : Addr) (cls : SwClass) (len : Nat) : State :=
  match s.routeTo src with
  | some p => s.emit p (.credit cls (blocksOf len))
  | none => s

/-- A TAG that no command of this module in flight has. -/
def State.newTag (s : State) : BitVec 8 := s.sw.tag + 1

/-- The segments of a message (12 R369): 256 words each, every one but the last with MORE. -/
def segments : Nat → SwFrame → List Word → List SwFrame
  | 0, _, _ => []
  | k + 1, f, ws =>
    if ws.length ≤ 256 then [{ f with more := false, payload := ws }]
    else { f with more := true, payload := ws.take 256 } :: segments k f (ws.drop 256)

/-- Send a message from this module to an address, or broadcast it on every downstream port
(12 R369, R373). -/
def State.sendMsg (s : State) (cls : SwClass) (kind : Nat) (bcast : Bool) (dst : Addr) (tag : BitVec 8)
    (ws : List Word) : State :=
  let f : SwFrame := { cls := cls, kind := BitVec.ofNat 4 kind, bcast := bcast, dst := dst,
                       src := s.ownAddr, hops := 0, tag := tag, more := false, payload := [] }
  let fs := segments 17 f ws
  let ports := if bcast then s.downstream else (s.routeTo dst).toList
  s.each ports fun t p => t.each fs fun u g => u.sendOn p g

/-- SW_TIME_LO, SW_TIME_HI (12 R388). -/
def State.stLoW (s : State) : Word := s.sw.st.setWidth 32

def State.stHiW (s : State) : Word := (s.sw.st >>> 32).setWidth 32

/-- The generation of the SW_TIME pair counts the changes of its high half (10 R333). -/
def State.countSt (s old : State) : State :=
  if s.stHiW = old.stHiW then s else { s with port.stGen := s.port.stGen + 1 }

/-! ### Object words -/

/-- SW_CFG to SW_REVSTAT (12 R388). -/
def State.swCfgW (s : State) : Word :=
  pk [(if s.port.strap1 == 3 then 0 else s.port.strap1.toNat, 30), (s.sw.syncEn.toNat, 29),
      (s.sw.healRo.toNat, 28), ((s.sw.addrv || s.isRoot).toNat, 12), (s.ownAddr.toNat, 0)]

def State.swStatW (s : State) : Word :=
  pk [(s.sw.ring.toNat, 30), ((s.sw.synced || s.isRoot).toNat, 29), (s.sw.enumBusy.toNat, 28),
      (if s.isRoot then s.sw.nodes.toNat else 0, 12), (s.sw.hops.toNat, 0)]

def State.swPortW (s : State) (p : Port) : Word :=
  let x := s.swPort p
  pk [(x.state.toNat, 29), (x.use.toNat, 27), (x.errs.toNat, 16), (x.delay.toNat, 0)]

def State.swSyncW (s : State) : Word := pk [(s.sw.losses.toNat, 24), (s.sw.offset.toNat, 0)]

def State.swTrigW (s : State) : Word := pk [(s.sw.trigs.length, 28), (s.sw.missed.toNat, 0)]

def State.swRevstatW (s : State) : Word := pk [(s.sw.holds.toNat, 16), (s.sw.revq.length, 0)]

/-! ### Events -/

/-- EV96-EV98 (12 R389). -/
def State.raisePort (s : State) (p : Port) (code : Nat) : State :=
  s.raise (srcNo (96 + p.val)) p.val code (s.swPortW p) s.swStatW 0

/-- EV99 (12 R389). -/
def State.raiseRing (s : State) (a : Addr) (code : Nat) : State :=
  s.raise 99 a.toNat code s.swStatW 0 0

/-- EV100 (12 R389). -/
def State.raiseSync (s : State) (code : Nat) : State := s.raise 100 0 code s.swSyncW s.swTrigW 0

/-- EV102 (12 R389). -/
def State.raiseEnum (s : State) (code : Nat) (old : Addr) : State :=
  s.raise 102 0 code s.swStatW (s.sw.budget.setWidth 32) (old.setWidth 32)

end Sys2Proof.Machine
end

