-- ==== Sys2Proof/Machine/Recorder.lean ====
section
/-! DEFINITION. The event recorder: the write engine, merging, the log and its reading, clearing, the
fault block and peer recording (09). -/

namespace Sys2Proof.Machine

/-! ### Slots -/

/-- The usable capacity in records (09 R297). -/
def Recorder.usable (r : Recorder) : Nat := 65536 - 64 * r.bad.length

/-- The words of a record (09 R286, R287, R298). -/
def recordWords (index : Word) (e : Intake) : List Word :=
  let ws := [index, e.opsec, pk [(e.pcycle.toNat, 0), (e.source.toNat, 24)],
             pk [(e.code.toNat, 0), (e.subject.toNat, 16)], e.p0, e.p1, e.p2]
  ws ++ [pk [((crc16 (wordsBytes ws)).toNat, 0), (0xFF, 16), (0xA5, 24)]]

/-- Byte 31 of a slot is the MARK of a valid record (09 R286). -/
def marked (ws : List Word) : Bool := ws.length == 8 && fld (wAt ws 7) 31 24 == 0xA5

/-- The CRC of a slot matches (09 R287). -/
def crcMatches (ws : List Word) : Bool :=
  fld (wAt ws 7) 15 0 == (crc16 (wordsBytes (ws.take 7))).toNat

/-- A slot holds a valid record of the log from REC_BASE on (09 R287). -/
def recordFrom (base : Word) (ws : List Word) : Bool :=
  marked ws && fld (wAt ws 7) 23 16 == 0xFF && crcMatches ws && decide (base.toNat ≤ (wAt ws 0).toNat)

/-- A slot holds a valid record (09 R287). -/
def Recorder.valid (r : Recorder) (ws : List Word) : Bool :=
  recordFrom r.base ws && decide ((wAt ws 0).toNat < r.next.toNat)

/-- The words of a slot are written: the list stays in slot order. -/
def putSlot (k : Nat) (ws : List Word) : List (Nat × List Word) → List (Nat × List Word)
  | [] => [(k, ws)]
  | (j, v) :: l =>
    if k < j then (k, ws) :: (j, v) :: l
    else if k = j then (k, ws) :: l
    else (j, v) :: putSlot k ws l

/-- A record enters a list in INDEX order. -/
def putIndex (ws : List Word) : List (List Word) → List (List Word)
  | [] => [ws]
  | v :: l => if (wAt ws 0).toNat < (wAt v 0).toNat then ws :: v :: l else v :: putIndex ws l

/-- The valid records of the log, in INDEX order (09 R287, R298). -/
def Recorder.log (r : Recorder) : List (List Word) :=
  ((r.slots.map (·.2)).filter r.valid).foldr putIndex []

/-- Whether a slot holds a valid record. -/
def Recorder.taken (r : Recorder) (k : Nat) : Bool := (r.slots.lookup k).any r.valid

/-- The next slot from k on that lies in no bad block and holds no valid record: records held are never
overwritten (09 R291, R297, R302). -/
def Recorder.goodSlot (r : Recorder) : Nat → Nat → Option Nat
  | 0, _ => none
  | fuel + 1, k =>
    if 65536 ≤ k then none
    else if r.bad.contains (k / 64) then r.goodSlot fuel ((k / 64 + 1) * 64)
    else if r.taken k then r.goodSlot fuel (k + 1)
    else some k

/-- The slot that the engine tries next: none in the failed state, and none once the log is full (09 R297,
R303). -/
def State.trySlot (s : State) : Option Nat :=
  if s.recHealth = 2 || s.rcd.full then none else s.rcd.goodSlot 65537 s.rcd.slot

/-- The SRAM shadow holds the last 64 records written or attempted (09 R303). -/
def Recorder.shadowed (r : Recorder) (ws : List Word) : Recorder :=
  let l := r.shadow ++ [ws]
  { r with shadow := l.drop (l.length - 64) }

/-! ### The control block -/

/-- The newer copy of the control block that verifies (09 R293). -/
def Recorder.control (r : Recorder) : Option ControlCopy :=
  if r.ctl0.good && (!r.ctl1.good || r.ctl1.gen < r.ctl0.gen) then some r.ctl0
  else if r.ctl1.good then some r.ctl1 else none

/-- A write of the control block goes to the other copy, with the next generation (09 R293). -/
def Recorder.writeControl (r : Recorder) (c : ControlCopy) : Recorder :=
  let c := { c with gen := max r.ctl0.gen r.ctl1.gen + 1, good := true }
  if r.ctl0.good && (!r.ctl1.good || r.ctl1.gen < r.ctl0.gen) then { r with ctl1 := c }
  else { r with ctl0 := c }

/-- The head hint is rewritten after every 256 records (09 R293). -/
def Recorder.hinted (r : Recorder) : Recorder :=
  if r.sinceHint + 1 < 256 then { r with sinceHint := r.sinceHint + 1 }
  else
    let c := r.control.getD ControlCopy.reset
    Recorder.writeControl { r with sinceHint := 0 } { c with hint := r.slot }

/-! ### Faults -/

/-- One entry in the ring of 32 fault entries (09 R302); an entry of the same code and block counts a
repeat (log entry 8). -/
def Recorder.noteFault (r : Recorder) (code : Byte) (block : Nat) (opsec pcycle : Word) : Recorder :=
  if r.faults.any fun f => f.code == code && f.block == block then
    { r with faults := r.faults.map fun f =>
        if f.code == code && f.block == block then
          { f with opsec := opsec, pcycle := pcycle, repeats := f.repeats + 1 }
        else f }
  else
    let l := r.faults ++ [{ code, block, opsec, pcycle, repeats := 0 }]
    { r with faults := l.drop (l.length - 32) }

/-- A block is marked bad (09 R302): its slots leave the count of slots written since the last clear. -/
def Recorder.markBad (r : Recorder) (b : Nat) : Recorder :=
  if r.bad.contains b then r
  else { r with bad := r.bad ++ [b], written := r.written - min 64 (r.slot - 64 * b) }

/-- A memory fault (09 R302, R303): the block of the slot is marked bad, the fault entry goes into all
three copies of the fault block, and EV106 is raised. -/
def State.memoryFault (s : State) (code : Byte) (block : Option Nat) : State :=
  let r := s.rcd
  let r1 := match block with
    | some b => r.markBad b
    | none => r
  let r2 := r1.noteFault code (block.getD 0) s.pw.opsec s.pw.pcycle
  let r3 := if r2.bad.length = 65 ∧ r.bad.length = 64 then
      r2.noteFault 0x04 (block.getD 0) s.pw.opsec s.pw.pcycle
    else r2
  let s1 : State := { s with
    rcd := { r3 with copies := Vector.replicate 3 { bad := r3.bad, faults := r3.faults } } }
  s1.raiseRec 106

/-- Two agreeing copies of the fault block win (09 R302). -/
def faultVote (copies : Vector FaultBlock 3) : Option FaultBlock :=
  if copies[0] = copies[1] then some copies[0]
  else if copies[0] = copies[2] then some copies[0]
  else if copies[1] = copies[2] then some copies[1]
  else none

/-- The fault block is read (09 R302, R303): the third copy is rewritten from the two that agree; where no
two agree the recorder has failed. -/
def Recorder.readFaults (r : Recorder) : Recorder :=
  match faultVote r.copies with
  | some v => { r with bad := v.bad, faults := v.faults, copies := Vector.replicate 3 v }
  | none => { r with failed := true }

/-! ### The write engine -/

/-- A place frees in the intake (09 R296): a LOST record enters behind the entries held, and EV108 is
raised at most once per 1 s. -/
def State.noteLost (s : State) : State :=
  let r := s.rcd
  if r.dropped = 0 then s
  else
    let e := s.intakeOf 0xF1 0 0 (BitVec.ofNat 32 r.dropped) r.dropFirst r.dropLast
    let s1 : State := { s with
      rcd.intake := r.intake ++ [e], rcd.dropped := 0, rcd.dropFirst := 0, rcd.dropLast := 0 }
    if s1.spaced r.lastEv108 (1000 * milli) then
      let s2 := s1.raiseRec 108
      { s2 with rcd.lastEv108 := some s2.time }
    else s1

/-- EV105 when the log has become full, and EV104 when 90 % of the usable capacity is written, once per
clear (09 R297): `old` is the recorder before the write. -/
def State.noteFill (s : State) (old : Recorder) : State :=
  let s1 := if s.rcd.full && !old.full then s.raiseRec 105 else s
  if !s1.rcd.near && decide (s1.rcd.usable * 9 ≤ s1.rcd.written * 10) then
    State.raiseRec { s1 with rcd.near := true } 104
  else s1

/-- A record that cannot be written goes to the shadow, and to the peer where peer recording is in
force (09 R303, R304); with PEER_RO the decision is noted in the shadow. -/
def State.shadowOnly (s : State) (e : Intake) : State :=
  let ws := recordWords s.rcd.next e
  let s1 : State := { s with rcd := { s.rcd.shadowed ws with next := s.rcd.next + 1 } }
  if s1.peering then
    let a : Addr := (s1.rcd.peer.setWidth 12)
    match s1.routeTo a with
    | some p =>
      if s1.portUp p then
        let tag := s1.newTag
        State.sendMsg { s1 with sw.tag := tag, sw.foreign := s1.sw.foreign ++ [(tag, s1.time)] } .bulk 10 false a
          tag (ws.take 7)
      else { s1 with rcd.peerRef := satInc s1.rcd.peerRef }
    | none => { s1 with rcd.peerRef := satInc s1.rcd.peerRef }
  else if s1.feat 9 && bit s1.rcd.peer 30 && bit s1.rcd.peer 31 then
    { s1 with rcd := s1.rcd.shadowed (recordWords s.rcd.next { e with code := e.code ||| 0x8000 }) }
  else s1

/-- A record whose MARK reads back is held in its slot, and REC_NEXT passes it (09 R291, R292). -/
def Recorder.store (r : Recorder) (k : Nat) (e : Intake) : Recorder :=
  let ws := recordWords r.next e
  Recorder.hinted { r.shadowed ws with
    slots := putSlot k ws r.slots, next := r.next + 1, slot := k + 1, written := r.written + 1 }

/-- An entry is disposed of (09 R291, R297, R303): written in the next good slot, where its record reads
back; refused and counted where no good slot is left; kept in the shadow alone in the failed state. -/
def State.storeEntry (s : State) (e : Intake) : State :=
  if s.recHealth = 2 then s.shadowOnly e
  else match s.trySlot with
    | some k => { s with rcd := s.rcd.store k e }
    | none => { s with rcd.refused := satInc s.rcd.refused, rcd.full := true }

/-- The write engine tries the entry at the head of the intake (09 R291, R292, R296): `ok` tells whether
its record reads back in the slot. After both tries fail the slot is a memory fault and the entry waits
for the next good slot with no new INDEX. -/
def State.writeHead (s : State) (ok : Bool) : State :=
  match s.rcd.intake with
  | [] => s
  | e :: es =>
    match ok, s.trySlot with
    | false, some k => s.memoryFault 0x01 (some (k / 64))
    | _, _ => ((State.storeEntry { s with rcd.intake := es } e).noteLost).noteFill s.rcd

/-- RECORD_WRITE (09 R291): `first` and `second` are the outcomes of the two read-backs in the slot. -/
def execRecordWrite (first second : Bool) (s : State) : Out := .next (s.writeHead (first || second))

/-- The outcomes of the slots that a write tries: as listed, then good. -/
abbrev Tries := List Bool

/-- An entry is written past the intake: slots that fail are memory faults, and the record goes into the
next good slot (09 R291, R300); with the outcomes that are left. -/
def State.writeNow : Tries → State → Intake → State × Tries
  | false :: os, s, e =>
    match s.trySlot with
    | some k => State.writeNow os (s.memoryFault 0x01 (some (k / 64))) e
    | none => ((s.storeEntry e).noteFill s.rcd, false :: os)
  | os, s, e => ((s.storeEntry e).noteFill s.rcd, os.tail)

/-- Write out the intake until it is empty (09 R294). -/
def State.drainFuel : Nat → Tries → State → State
  | 0, _, s => s
  | fuel + 1, os, s =>
    if s.rcd.intake.isEmpty then s else State.drainFuel fuel os.tail (s.writeHead (os.headD true))

/-- Write out the whole intake, with what the writing itself raises (09 R294). -/
def State.drainIntake (s : State) (os : Tries) : State :=
  s.drainFuel (s.rcd.intake.length + 4 * os.length + 16) os

/-- The REPEAT records of the open merge windows (09 R295). -/
def State.repeats (s : State) : List Intake :=
  (s.rcd.merges.filter fun m => m.count != 0).map (repeatEntry s)

/-- The entries of the intake, a waiting LOST record included (09 R288, R296). -/
def State.heldEntries (s : State) : List Intake :=
  let r := s.rcd
  r.intake ++ (if r.dropped = 0 then []
    else [s.intakeOf 0xF1 0 0 (BitVec.ofNat 32 r.dropped) r.dropFirst r.dropLast])

/-- The intake and the merge windows are written out (09 R294): every window closes, its REPEAT record
enters behind the entries held, and `last` behind them. -/
def State.flushRecorder (s : State) (last : List Intake) (os : Tries) : State :=
  State.drainIntake { s with rcd := { s.rcd with
    intake := s.heldEntries ++ s.repeats ++ last, merges := []
    dropped := 0, dropFirst := 0, dropLast := 0 } } os

/-- MERGE_WINDOW_CLOSE (09 R295): 1 s after the window opened. -/
def execMergeWindowClose (source : BitVec 8) (code subject : BitVec 16) (s : State) : Out :=
  match s.rcd.merges.find? fun m => m.source == source && m.code == code && m.subject == subject with
  | some m => if m.opened + 1000 * milli ≤ s.time then .next (s.closeMerge m) else .next s
  | none => .next s

/-! ### Reading -/

/-- Records with INDEX from `start` on, up to a count; a FROM below REC_BASE is read from REC_BASE (09
R298). -/
def Recorder.select (r : Recorder) (l : List (List Word)) (start : Word) (max : Nat) : List (List Word) :=
  let first := if start.toNat < r.base.toNat then r.base else start
  (l.filter fun ws => decide (first.toNat ≤ (wAt ws 0).toNat)).take max

/-- The words of a clear-history entry (09 R301). -/
def clearWords (c : ClearEntry) : List Word :=
  [c.seq, c.opsec, pk [(c.pcycle.toNat, 0), (c.keyid.toNat, 24)], c.cleared, c.prevBase, c.newBase,
   c.nonceLo, c.nonceHi]

/-- The four words of a fault entry (09 R302): their order is the model's (log entry 8). -/
def faultWords (f : FaultEntry) : List Word :=
  [pk [(f.code.toNat, 0), (f.block % 65536, 16)], f.opsec, f.pcycle, BitVec.ofNat 32 f.repeats]

/-- Word k of the bitmap of bad blocks (09 R302): bit i is block 32k + i (log entry 8). -/
def badWord (bad : List Nat) (k : Nat) : Word :=
  bad.foldl (fun w b => if b / 32 = k then putBit w (b % 32) true else w) 0

/-- A list cut into entries of eight words. -/
def entriesOf8 : Nat → List Word → List (List Word)
  | 0, _ => []
  | n + 1, l => l.take 8 :: entriesOf8 n (l.drop 8)

/-- The 640 bytes of the fault block as 20 entries of eight words (09 R302, 11 R342): the bitmap of 128
bytes, then the ring of 32 entries of 16 bytes, unused ones zero (log entry 8). -/
def blockEntries (f : FaultBlock) : List (List Word) :=
  entriesOf8 20 ((List.range 32).map (badWord f.bad) ++ f.faults.flatMap faultWords ++
    List.replicate (4 * (32 - f.faults.length)) 0)

/-- The fault block as LOG_READ returns it (09 R298, R302): where no two copies agree, which words it
returns is open (log entry 8). -/
def State.faultEntries (s : State) : List (List Word) :=
  match faultVote s.rcd.copies with
  | some v => blockEntries v
  | none => entriesOf8 20 ((List.range 160).map fun k => Config.freeWord (s.free + k))

/-- The blocks, not yet marked bad, of the slots below the head that carry MARK 0xA5 and fail their CRC (09
R302). -/
def Recorder.corrupt (r : Recorder) : List Nat :=
  ((r.slots.filter fun x => decide (x.1 < r.slot) && marked x.2 && !crcMatches x.2 &&
    !r.bad.contains (x.1 / 64)).map fun x => x.1 / 64).dedup

/-- The memory faults of a read of the log (09 R302). -/
def State.readLog (s : State) : State :=
  s.each s.rcd.corrupt fun t b => t.memoryFault 0x02 (some b)

/-! ### Clearing -/

/-- The CLEARED record of a clear (09 R288, R300). -/
def State.clearedEntry (s : State) (c : ClearEntry) (refused : Word) : Intake :=
  s.intakeOf 0xF0 0 (c.keyid.setWidth 16) c.cleared c.prevBase refused

/-- The commit of a clear (09 R300): the history entry, then the control-block copy with the new
REC_BASE. -/
def Recorder.commitClear (r : Recorder) (c : ClearEntry) : Recorder :=
  let hist := r.clears ++ [c]
  Recorder.writeControl { r with
    clears := hist.drop (hist.length - 16), clearSeq := c.seq, clearKey := c.keyid
    base := c.newBase, slot := 0, written := 0, sinceHint := 0, refused := 0, full := false, near := false
    challenge := none }
    { gen := 0, base := c.newBase, hint := 0, clearSeq := c.seq, clearKey := c.keyid
      refused := r.refused, good := true }

/-- A verified clear (09 R300, R301): the intake is paused, the REPEAT records of the merge windows are
written, the clear is committed and EV107 raised, and CLEARED becomes the first record of the new log; the
entries in the intake are written after it. -/
def State.clearLog (s : State) (keyid : Byte) (nonce : List Word) (os : Tries) : State :=
  let (s1, os1) := s.repeats.foldl (fun x e => State.writeNow x.2 x.1 e)
    ({ s with rcd.merges := [] }, os)
  let r := s1.rcd
  let entry : ClearEntry :=
    { seq := r.clearSeq + 1, opsec := s1.pw.opsec, pcycle := s1.pcycle24, keyid := keyid
      cleared := BitVec.ofNat 32 r.log.length, prevBase := r.base, newBase := r.next
      nonceLo := nonce.headD 0, nonceHi := (nonce.drop 1).headD 0 }
  let s2 := State.raiseRec { s1 with rcd := r.commitClear entry } 107
  (State.writeNow os1 s2 (s2.clearedEntry entry r.refused)).1

/-! ### The recorder at a boot -/

/-- The first slot from k on, across at most n slots, that holds no valid record (09 R293). -/
def Recorder.scan (r : Recorder) : Nat → Nat → Nat
  | 0, k => k
  | n + 1, k => if (r.slots.lookup k).any (recordFrom r.base) then r.scan n (k + 1) else k

/-- What the boot reads of the log (09 R293): the head from the hint, REC_NEXT above the highest valid
INDEX, and the shadow from the last 64 valid records. -/
def Recorder.find (r : Recorder) (hint : Nat) : Recorder :=
  let all := ((r.slots.map (·.2)).filter (recordFrom r.base)).foldr putIndex []
  { r with
    slot := r.scan 256 hint
    sinceHint := r.scan 256 hint - hint
    next := match all.getLast? with
      | some ws => wAt ws 0 + 1
      | none => r.base
    shadow := all.drop (all.length - 64) }

/-- The CRC of the slot at the head is read too: a mismatch is a memory fault (09 R302). -/
def State.headFault (s : State) : State :=
  if (s.rcd.slots.lookup s.rcd.slot).any fun ws => marked ws && !crcMatches ws then
    s.memoryFault 0x02 (some (s.rcd.slot / 64))
  else s

/-- A CLEARED record that is missing is written from the clear history entry (09 R300). -/
def State.missingCleared (s : State) : State :=
  match s.rcd.clears.getLast? with
  | some c =>
    if c.newBase = s.rcd.base && s.rcd.next == s.rcd.base then
      let refused := (s.rcd.control.map (·.refused)).getD 0
      (State.writeNow [] s (s.clearedEntry c refused)).1
    else s
  | none => s

/-- The recorder's memory as a boot finds it (09 R293, R302): the slots and the copies that now read
otherwise. -/
def Recorder.found (r : Recorder) (b : BootInput) : Recorder :=
  Recorder.readFaults { r with
    slots := b.slots.foldl (fun l x => putSlot x.1 x.2 l) r.slots
    ctl0 := { r.ctl0 with good := r.ctl0.good && !b.ctlFail.getLsbD 0 }
    ctl1 := { r.ctl1 with good := r.ctl1.good && !b.ctlFail.getLsbD 1 }
    copies := b.faultCopies.foldl (fun v x => v.set x.1 x.2) r.copies }

/-- The recorder at a boot (09 R293, R300, R302, R303): the fault block is voted, the newer verifying copy of
the control block taken, the head found, and a missing CLEARED record written. Where neither copy verifies
the recorder has failed, and REC_BASE is open (log entry 113). -/
def State.bootRecorder (s : State) (b : BootInput) : State :=
  let s1 : State := { s with rcd := s.rcd.found b }
  let s2 := if s1.rcd.failed && !s.rcd.failed then s1.raiseRec 106 else s1
  let bad := [s2.rcd.ctl0, s2.rcd.ctl1].filter fun c => !c.good
  let s3 := s2.each bad fun t _ => t.memoryFault 0x03 none
  match s3.rcd.control with
  | some c =>
    let r : Recorder := { s3.rcd with base := c.base, clearSeq := c.clearSeq, clearKey := c.clearKey }
    (State.headFault { s3 with rcd := r.find c.hint }).missingCleared
  | none =>
    let r : Recorder := { s3.rcd with base := s3.freeWord, failed := true }
    let s4 : State := { s3.tookFree with rcd := r.find 0 }
    if s3.rcd.failed then s4 else s4.raiseRec 106

end Sys2Proof.Machine
end

