-- ==== Sys2Proof/Machine/Objects.lean ====
section
/-! DEFINITION. The object space: what every object reads (11 R351 to R357), the ranges, the RW fields,
and the status window. -/

namespace Sys2Proof.Machine

/-! ### Words of the security, port and identity objects -/

/-- A downgrade grant stored with a slot matches the present COUNTER (14 R440, R451). -/
def Slot.granted (x : Slot) (counter : BitVec 7) : Bool :=
  match x.grant with
  | some g => g.2 == counter
  | none => false

/-- Whether a device certificate is installed and valid (14 R446, R451). -/
def State.certValid (s : State) : Bool := s.sec.cert.isSome

/-- SEC_STAT (14 R451). -/
def State.secStatW (s : State) : Word :=
  let x := s.sec
  pk [(x.dbgOpen.toNat, 31), (x.dbgEver.toNat, 30), (s.certValid.toNat, 29), (x.provLock.toNat, 28),
      (x.trial.toNat, 27), (x.recovery.toNat, 26), (x.lockout.toNat, 25), (x.certGen.toNat, 16),
      (x.dbgOpens.toNat, 8), (x.authFail.toNat, 0)]

/-- SEC_FWSLOT (14 R451). -/
def State.secFwslotW (s : State) : Word :=
  let x := s.sec
  pk [(x.slotA.state.code, 28), (x.slotB.state.code, 24), (x.runB.toNat, 23), (x.rxBytes.toNat, 0)]

/-- VERSION of a VALID slot (14 R451). -/
def Slot.versionW (x : Slot) : Word := if x.state = .valid then x.version else 0

/-- SEC_SVN (14 R451). -/
def State.secSvnW (s : State) : Word :=
  let x := s.sec
  pk [((x.slotA.granted x.counter).toNat, 25), ((x.slotB.granted x.counter).toNat, 24),
      (if x.slotA.state = .valid then x.slotA.svn.toNat else 0, 16),
      (if x.slotB.state = .valid then x.slotB.svn.toNat else 0, 8), (x.counter.toNat, 0)]

/-- SEC_OWNERk (14 R451). -/
def ownerW (o : Option Owner) : Word :=
  match o with
  | none => 0
  | some k => pk [(1, 31), (k.perm.toNat, 24), (leAt (Config.sha384 k.key) 0 3, 0)]

/-- Word k of a byte string (11 R338). -/
def wordAt (bs : List Byte) (k : Nat) : Word := BitVec.ofNat 32 (leAt bs (4 * k) 4)

/-- SEC_IDPUBk and SEC_CERTk (14 R451). -/
def State.secIdpubW (s : State) (k : Nat) : Word := if s.sec.dbgOpen then 0 else wordAt s.sec.idPub k

def State.secCertW (s : State) (k : Nat) : Word := wordAt (s.sec.cert.getD []) k

/-- HP_CFG (10 R325). -/
def State.hpCfgW (s : State) : Word := pk [(s.port.rckEn.toNat, 31), (s.port.mode3.toNat, 30)]

/-- HP_ERR0 to HP_ERR2, MB_CNT (10 R327, 11 R355). -/
def State.hpErrW (s : State) (k : Nat) : Word :=
  let c := s.port.cnt
  match k with
  | 0 => pk [(c.crc.toNat, 16), (c.short.toNat, 0)]
  | 1 => pk [(c.hdr.toNat, 16), (c.trail.toNat, 0)]
  | _ => pk [(c.busy.toNat, 16), (c.seg.toNat, 8), (c.selcol.toNat, 0)]

def State.mbCntW (s : State) : Word :=
  let c := s.port.cnt
  pk [(c.wrongState.toNat, 16), (c.notNeg.toNat, 8), (c.dup.toNat, 0)]

/-- PWR_RESET, PWR_ENV (13 R424, 16 R481). -/
def State.pwrResetW (s : State) : Word :=
  pk [(s.pw.last.toNat, 24), (s.pw.hrst.toNat, 8), (s.pw.act.toNat, 0)]

def State.pwrEnvW (s : State) : Word :=
  pk [(s.pw.envShed.toNat, 31), (s.pw.envOver.toNat, 30), (s.pw.env.toNat, 0)]

/-- WD_CORE, WD_EVID3 (08 R279). -/
def State.wdCoreW (s : State) : Word :=
  pk [(s.wd.coreExpiries.toNat, 16), (s.wd.corePeriod.toNat, 0)]

def State.wdEvid3W (s : State) : Word := pk [(s.wd.evidCause.toNat, 24), (s.wd.evalid.toNat, 0)]

/-- TASK_CTL (08 R281). -/
def State.taskCtlW (s : State) : Word := pk [(s.wd.taskStrict.toNat, 31), (s.wd.taskEn.toNat, 0)]

/-- REC_PEER, REC_CLEARS, REC_SRCk (09 R305). -/
def State.recPeerW (s : State) : Word := s.rcd.peer ||| pk [(s.rcd.peerRef.toNat, 12)]

def State.recClearsW (s : State) : Word := pk [(s.rcd.clearSeq.toNat, 8), (s.rcd.clearKey.toNat, 0)]

def State.recSrcW (s : State) (k : Nat) : Word := (s.rcd.srcSel >>> (32 * k)).setWidth 32

/-- EVT_ENk (11 R360). -/
def State.evtEnW (s : State) (k : Nat) : Word := (s.ev.en >>> (32 * k)).setWidth 32

/-- EVT_PENDk, EVPENDk (11 R356, R360). -/
def State.evtPendW (s : State) (k : Nat) : Word :=
  allCh.foldl (fun w b => putBit w b.val (s.ev.src[(srcNo (32 * k + b.val)).val]).pending) 0

/-! ### Reading -/

/-- What the feature of an object leaves of it: its reset value without the feature (11 R348). -/
def State.ifFeat (s : State) (k : Nat) (reset w : Word) : Word := if s.feat k then w else reset

/-- The objects of channel n (02, 03, 04, 06, 08). -/
def State.readCh (s : State) (n : Ch) (off : Nat) : Word :=
  let c := s.cfgOf n
  let x := s.chan n
  match off with
  | 0x00 => s.chModeW n | 0x01 => s.chStatusW n | 0x02 => s.chStatCntW n | 0x03 => x.fault
  | 0x04 => s.chTermvW n | 0x05 => c.inCfg | 0x06 => c.inThr | 0x07 => x.inp.cosStamp
  | 0x08 => x.inp.cosCount | 0x09 => c.cntCfg | 0x0A => x.cnt.val | 0x0B => x.cnt.freq
  | 0x0C => x.cnt.per | 0x0D => s.chMainsW n | 0x0E => s.chMainsMeasW n | 0x0F => s.chLoopW n
  | 0x10 => if bit c.outCfg 25 && !s.feat 12 then ChCfg.reset.outCfg else c.outCfg
  | 0x11 => c.outLim | 0x12 => c.outDiag | 0x13 => c.outPol
  | 0x14 => s.chOutStateW n | 0x15 => s.chOutMeasW n | 0x16 => s.chOutLearnW n
  | 0x17 => c.aiCfg | 0x18 => s.chAiFiltW n | 0x19 => c.aiTrig | 0x1A => c.aiTime
  | 0x1B => s.chAoStateW n | 0x1C => s.chAoMeasW n | 0x1D => s.chHartW n
  | 0x1E => c.safe | _ => c.safeVal

/-- The identity objects (11 R353). -/
def State.readIdentity (s : State) (i : Nat) : Option Word :=
  match i with
  | 0x00 => some 0x32404100#32
  | 0x01 => some s.sec.fwver
  | 0x04 => some s.sec.serial[0] | 0x05 => some s.sec.serial[1]
  | 0x06 => some s.sec.serial[2] | 0x07 => some s.sec.serial[3]
  | 0x10 => some s.sec.offer | 0x11 => some 0 | 0x12 => some 0 | 0x13 => some 0
  | 0x14 => some s.sec.acc | 0x15 => some 0 | 0x16 => some 0 | 0x17 => some 0
  | _ => none

/-- The mode, power and host port objects (11 R354, 13 R424, 16 R481, 10 R325 to R327). -/
def State.readPower (s : State) (i : Nat) : Option Word :=
  match i with
  | 0x100 => some s.modeStatW | 0x101 => some s.pwrStatW | 0x102 => some s.pw.rtol
  | 0x103 => some s.pw.ctol | 0x104 => some s.pw.cfg | 0x105 => some s.pw.opsec
  | 0x106 => some s.pw.pcycle | 0x107 => some s.pwrResetW | 0x108 => some s.pwrEnvW
  | 0x200 => some s.hpCfgW | 0x201 => some s.hpStatW | 0x202 => some (s.hpErrW 0)
  | 0x203 => some (s.hpErrW 1) | 0x204 => some (s.hpErrW 2) | 0x205 => some s.mbCntW
  | _ => none

/-- The group objects (13 R398). -/
def State.readGroup (s : State) (g : Grp) (off : Nat) : Option Word :=
  match off with
  | 0 => some (s.grpSupplyW g)
  | 1 => some (s.grpCntW g)
  | 2 => some ((s.group g).sup.tdie.setWidth 32)
  | _ => none

/-- The conversion objects of a group (04 R132). -/
def State.readConv (s : State) (g : Grp) (off : Nat) : Option Word :=
  match off with
  | 0 => some (s.convRefW g)
  | 1 => some (s.convSliceW g)
  | 2 => some (BitVec.ofNat 32 (s.injReserve g))
  | 3 => some (s.convInjCntW g)
  | 4 => some (s.convCalW g)
  | 5 => some (s.convCjW g)
  | 6 => some ((s.group g).conv.overrun.setWidth 32)
  | _ => none

/-- The results and capture objects (04 R151, 05 R171 to R182). RES_FIFO holds no value of its own. -/
def State.readResults (s : State) (i : Nat) : Option Word :=
  match i with
  | 0x940 => some s.res.ovr
  | 0x950 => some s.res.cfg | 0x951 => some s.res.routeLo | 0x952 => some s.res.routeHi
  | 0x953 => some s.res.stampSel | 0x954 => some s.res.policy | 0x955 => some s.res.wmPoll
  | 0x956 => some s.res.wmStrm | 0x957 => some s.qstatW | 0x958 => some s.resLostW
  | 0x959 => some s.res.bpCount | 0x95A => some 0
  | 0x95B => some (s.ifFeat 6 0 (s.res.credit.setWidth 32))
  | 0x960 => some (s.ifFeat 5 0x1FF s.res.cap.cfg)
  | 0x961 => some (s.ifFeat 5 0 s.res.cap.mask)
  | 0x962 => some (s.ifFeat 5 0 s.res.cap.level)
  | 0x963 => some (s.ifFeat 5 0 s.capStatW)
  | 0x964 => some (s.ifFeat 5 0 (s.res.cap.tidx.setWidth 32))
  | 0x965 => some (s.ifFeat 5 0 s.res.cap.tstamp)
  | _ => none

/-- The comb objects (07 R242). -/
def State.readComb (s : State) (i : Nat) : Option Word :=
  match i with
  | 0xA00 => some s.combStatW | 0xA01 => some s.combLoadW | 0xA02 => some s.combCntW
  | 0xA03 => some s.combEvcntW | 0xA04 => some s.combRateW | 0xA05 => some s.comb.fbper
  | 0xA06 => some s.combIdW
  | _ => none

/-- The safe-state and watchdog objects (08 R265 to R281). SECRET reads 0 (R7). -/
def State.readSafe (s : State) (i : Nat) : Option Word :=
  match i with
  | 0xB00 => some s.safe.cfg | 0xB01 => some s.safeStatW | 0xB02 => some s.wdHsW
  | 0xB03 => some s.wdWgW | 0xB04 => some s.wd.wgChal | 0xB05 => some s.wd.wgCount
  | 0xB06 => some 0 | 0xB07 => some s.wdWgStatW | 0xB08 => some s.wdCoreW
  | 0xB09 => some s.wd.evid0 | 0xB0A => some s.wd.evid1 | 0xB0B => some s.wd.evid2
  | 0xB0C => some s.wdEvid3W
  | 0xB10 => some (s.ifFeat 7 0 s.taskCtlW)
  | 0xB11 => some (s.ifFeat 7 0 s.taskStatW)
  | _ =>
    if 0xB20 ≤ i ∧ i < 0xB30 then
      some (s.ifFeat 7 0x3E8 ((s.wd.taskCfg[i % 16]'(Nat.mod_lt _ (by decide))).setWidth 32))
    else none

/-- The recorder objects (09 R305). -/
def State.readRecorder (s : State) (i : Nat) : Option Word :=
  match i with
  | 0xC00 => some s.recStatW | 0xC01 => some s.rcd.next | 0xC02 => some s.rcd.base
  | 0xC03 => some s.rcd.refused | 0xC04 => some s.rcd.lost | 0xC05 => some s.rcd.merged
  | 0xC06 => some s.recClearsW | 0xC07 => some (s.ifFeat 9 0 s.recPeerW)
  | 0xC08 => some (s.recSrcW 0) | 0xC09 => some (s.recSrcW 1) | 0xC0A => some (s.recSrcW 2)
  | 0xC0B => some (s.recSrcW 3)
  | _ => none

/-- The swarm objects (12 R362, R388): without feature 4 they read their reset values, ROLE as the
strap gives it. SW_REVQ holds no value of its own. -/
def State.readSwarm (s : State) (i : Nat) : Option Word :=
  match i with
  | 0xD00 => some (s.ifFeat 4 (s.swCfgW &&& 0xC0000000#32) s.swCfgW)
  | 0xD01 => some (s.ifFeat 4 0 s.swStatW)
  | 0xD02 => some (s.ifFeat 4 0 (s.swPortW 0))
  | 0xD03 => some (s.ifFeat 4 0 (s.swPortW 1))
  | 0xD04 => some (s.ifFeat 4 0 (s.swPortW 2))
  | 0xD05 => some (s.ifFeat 4 0 (s.sw.lat.setWidth 32))
  | 0xD06 => some (s.ifFeat 4 0 (s.sw.budget.setWidth 32))
  | 0xD07 => some (s.ifFeat 4 0 s.swSyncW)
  | 0xD08 => some (s.ifFeat 4 0 s.stLoW)
  | 0xD09 => some (s.ifFeat 4 0 s.stHiW)
  | 0xD0A => some (s.ifFeat 4 0 s.swTrigW)
  | 0xD0B => some (s.ifFeat 4 0 s.swRevstatW)
  | 0xD0C => some 0
  | _ => none

/-- The security objects (14 R451). -/
def State.readSecurity (s : State) (i : Nat) : Option Word :=
  match i with
  | 0xE00 => some s.secStatW | 0xE01 => some s.secFwslotW
  | 0xE02 => some s.sec.slotA.versionW | 0xE03 => some s.sec.slotB.versionW
  | 0xE04 => some s.secSvnW
  | 0xE08 => some (ownerW s.sec.owners[0]) | 0xE09 => some (ownerW s.sec.owners[1])
  | 0xE0A => some (ownerW s.sec.owners[2]) | 0xE0B => some (ownerW s.sec.owners[3])
  | _ =>
    if 0xE20 ≤ i ∧ i ≤ 0xE38 then some (s.secIdpubW (i - 0xE20))
    else if 0xE40 ≤ i ∧ i ≤ 0xE7F then some (s.secCertW (i - 0xE40))
    else none

/-- The event objects (11 R360). -/
def State.readEvents (s : State) (i : Nat) : Option Word :=
  if 0xF00 ≤ i ∧ i < 0xF04 then some (s.evtEnW (i - 0xF00))
  else if 0xF04 ≤ i ∧ i < 0xF08 then some (s.evtPendW (i - 0xF04))
  else none

/-- The value of an object; none for a reserved index (11 R351, R352). -/
def State.readObj (s : State) (i : Nat) : Option Word :=
  if i < 0x100 then s.readIdentity i
  else if i < 0x300 then s.readPower i
  else if i < 0x400 then none
  else if i < 0x800 then some (s.readCh (chNo ((i - 0x400) / 32)) (i % 32))
  else if i < 0x900 then s.readGroup (grpNo ((i - 0x800) / 64)) (i % 64)
  else if i < 0x940 then s.readConv (grpNo ((i - 0x900) / 16)) (i % 16)
  else if i < 0xA00 then s.readResults i
  else if i < 0xB00 then s.readComb i
  else if i < 0xC00 then s.readSafe i
  else if i < 0xD00 then s.readRecorder i
  else if i < 0xE00 then s.readSwarm i
  else if i < 0xF00 then s.readSecurity i
  else if i < 0x1000 then s.readEvents i
  else none

/-- The end of the range of the object map that holds an index (11 R351). -/
def rangeEnd (i : Nat) : Option Nat :=
  if i < 0x300 then some ((i / 0x100 + 1) * 0x100)
  else if i < 0x400 then none
  else if i < 0x800 then some 0x800
  else if i < 0x1000 then some ((i / 0x100 + 1) * 0x100)
  else none

/-! ### RW fields -/

/-- The RW and WO bits of the configuration words of a channel, by offset. -/
def chMask (off : Nat) : Word :=
  match off with
  | 0x00 => 0x00007C0F#32 | 0x05 => 0x3F0300FF#32 | 0x06 => 0x81FF01FF#32 | 0x09 => 0x0FFB7FFF#32
  | 0x0D => 0x00FF0000#32 | 0x10 => 0x0FFFFFFF#32 | 0x11 => 0x3FF7F0FF#32 | 0x12 => 0x01FFFF7F#32
  | 0x13 => 0xF0FFFCE0#32 | 0x16 => 0x3F000000#32 | 0x17 => 0x18F00000#32 | 0x18 => 0xF8001FFF#32
  | 0x19 => 0xFF80FFFF#32 | 0x1A => 0x0000FFFF#32 | 0x1D => 0xE0F80000#32 | 0x1E => 0xC0F003FF#32
  | 0x1F => 0x0000FFFF#32
  | _ => 0

/-- The RW bits of the other objects. -/
def objMask (i : Nat) : Word :=
  if 0x400 ≤ i ∧ i < 0x800 then chMask (i % 32)
  else match i with
  | 0x104 => 0xE000007F#32 | 0x108 => 0x0000FFFF#32 | 0x200 => 0x80000000#32
  | 0x900 => 3 | 0x910 => 3 | 0x920 => 3 | 0x930 => 3
  | 0x901 => 0x00040000#32 | 0x911 => 0x00040000#32 | 0x921 => 0x00040000#32
  | 0x931 => 0x00040000#32
  | 0x950 => 0xFC0F0000#32 | 0x951 => 0xFFFFFFFF#32 | 0x952 => 0xFFFFFFFF#32
  | 0x953 => 0xFFFFFFFF#32 | 0x954 => 0x0000FFFF#32 | 0x955 => 0x0FFF0FFF#32
  | 0x956 => 0x0FFF0FFF#32
  | 0x960 => 0xFFF1FFFF#32 | 0x961 => 0xFFFFFFFF#32 | 0x962 => 0x00FFFFFF#32
  | 0xB00 => 0xF00003FF#32 | 0xB02 => 0x000FFFFF#32 | 0xB03 => 0x80003FFF#32
  | 0xB10 => 0x8000FFFF#32
  | 0xC07 => 0xC0000FFF#32
  | 0xC08 => 0xFFFFFFFF#32 | 0xC09 => 0xFFFFFFFF#32 | 0xC0A => 0xFFFFFFFF#32
  | 0xC0B => 0xFFFFFFFF#32
  | 0xD00 => 0x30000000#32
  | 0xF00 => 0xFFFFFFFF#32 | 0xF01 => 0xFFFFFFFF#32 | 0xF02 => 0xFFFFFFFF#32
  | 0xF03 => 0xFFFFFFFF#32
  | _ => if 0xB20 ≤ i ∧ i < 0xB30 then 0x0000FFFF#32 else 0

/-- Every object that holds an RW field, in ascending index, with the other fields set to 0: the words
of which the configuration digest is taken (14 R445). -/
def State.rwWords (s : State) : List Word :=
  (List.range 0x1000).filterMap fun i =>
    if objMask i = 0 then none else some ((s.readObj i).getD 0 &&& objMask i)

/-! ### The status window -/

/-- The bit of a channel for an image in which an odd pair member follows its even channel. -/
def State.leadBits (s : State) (f : Ch → Bool) : Word :=
  allCh.foldl (fun w n => putBit w n.val (f (s.leadOf n))) 0

/-- DI_IMAGE (02 R49). -/
def State.diImage (s : State) : Word :=
  allCh.foldl (fun w n => putBit w n.val (
    let i := (s.chan n).inp
    let m := s.modeOf n
    i.valid && !(s.group (grpOf n)).link.silent &&
      if m.isDigital then i.state else m.isGuarded && i.raw)) 0

/-- A channel drives its terminal (11 R356). -/
def State.drives (s : State) (n : Ch) : Bool :=
  let c := s.chan n
  match c.actMode with
  | .doHs | .doPp => c.out.ps.isOn && !s.failedCh n
  | .loopPwr => c.loop.on
  | .aoISrc | .aoISnk | .aoV => c.ao.code != 0 && !c.ao.blocked && !c.ao.off
  | _ => false

/-- An enabled source has been raised and not acknowledged (10 R328). -/
def State.irq (s : State) : Bool :=
  s.hostUp && (List.range 128).any fun k =>
    (s.ev.src[(srcNo k).val]).pending && s.ev.en.getLsbD k

/-- A source put into a list that is in the order of the latest raising. -/
def insertSrc (ord : Fin 128 → Nat) (a : Fin 128) : List (Fin 128) → List (Fin 128)
  | [] => [a]
  | b :: bs => if ord a ≤ ord b then a :: b :: bs else b :: insertSrc ord a bs

/-- The enabled sources that are pending and undelivered, in the order of their latest raising (11
R359). -/
def State.evtReady (s : State) : List (Fin 128) :=
  (((List.range 128).map srcNo).filter fun k =>
    (s.ev.src[k.val]).pending && (s.ev.src[k.val]).undel && s.ev.en.getLsbD k.val).foldr
    (insertSrc fun k => (s.ev.src[k.val]).ord) []

def TxItem.isEvt : TxItem → Bool
  | .evt _ _ => true
  | _ => false

/-- EVT_WAIT (11 R357): an EVT frame is held for resending (10 R320), or sources wait for one; at the
instant of reset no frame is built yet (10 R318, log entry 126). -/
def State.evtWait (s : State) : Bool :=
  s.port.again.any (fun x => x.2.isEvt) || (decide (s.time ≠ 0) && !s.evtReady.isEmpty)

/-- DEVSTAT (11 R357). -/
def State.devstatW (s : State) : Word :=
  pk [(s.pw.mode.code, 29), (s.pw.dstate.code, 27), (s.pw.neg.toNat, 26), (s.irq.toNat, 25),
      (s.evtWait.toNat, 24), ((!s.port.rsp.isEmpty).toNat, 23), (s.anyHeld.toNat, 22),
      (s.fatal.toNat, 21), ((s.combStatW.getLsbD 31).toNat, 20),
      ((s.res.cap.state == .done).toNat, 19), (s.recHealth, 17), (s.hok.toNat, 16),
      (grpBits fun g => (s.group g).link.failed, 12), (grpBits fun g => (s.group g).sup.vfup, 8)]

/-- COMB_POS_LO and COMB_POS_HI (07 R218). -/
def State.posLoW (s : State) : Word := s.stampNow

def State.posHiW (s : State) : Word := s.pcount

/-- The window word of a channel (05 R180): before its first result a reserved tag, or 0 in COUNT. -/
def State.resultWord (s : State) (n : Ch) : Word :=
  (s.chan n).window.getD (if s.modeOf n == .count then 0 else 0xFC000000#32)

/-- The status window (11 R356); COMB_POS_HI is the live one. -/
def State.windowW (s : State) (k : Nat) : Word :=
  if k = 0 then s.devstatW
  else if k < 5 then s.evtPendW (k - 1)
  else if k = 0x08 then s.diImage
  else if k = 0x09 then s.leadBits s.drives
  else if k = 0x0A then s.leadBits fun n => (s.chan n).fault != 0 || s.failedCh n
  else if 0x10 ≤ k ∧ k < 0x30 then s.resultWord (chNo (k - 0x10))
  else if k = 0x30 then s.posLoW
  else if k = 0x31 then s.posHiW
  else if k = 0x32 then s.pw.opsec
  else if k = 0x33 then s.qstatW
  else 0

end Sys2Proof.Machine
end

