-- ==== Sys2Proof/Machine/ObjWrite.lean ====
section
/-! DEFINITION. Writing objects: the RW fields, the checks that a write meets, and what an accepted
write does (00 R5 to R7, R487, and the rules of each object). -/

namespace Sys2Proof.Machine

/-! ### Statuses -/

/-- The rank of a status among those that one command fails with (11 R341). -/
def Status.rank : Status → Nat
  | .badLength => 1 | .unknownOpcode => 2 | .notNegotiated => 3 | .wrongState => 4 | .range => 5
  | _ => 6

/-- The status that a command with several failing checks returns (11 R341): of equal rank, the first
in the order of the rule. -/
def worst (l : List Status) : Option Status :=
  l.foldl (fun best x =>
    match best with
    | none => some x
    | some b => if x.rank < b.rank then some x else some b) none

/-- A check: the status when the condition holds. -/
def failIf (c : Bool) (st : Status) : List Status := if c then [st] else []

/-! ### Configuration words of a channel -/

/-- A configuration word of a channel. -/
def ChCfg.word (c : ChCfg) (off : Nat) : Word :=
  match off with
  | 0x00 => pk [(c.pairFn.code, 12), (c.loopMate.toNat, 10), (c.mode.code, 0)]
  | 0x05 => c.inCfg | 0x06 => c.inThr | 0x09 => c.cntCfg | 0x0D => pk [(c.holdT.toNat, 16)]
  | 0x10 => c.outCfg | 0x11 => c.outLim | 0x12 => c.outDiag | 0x13 => c.outPol
  | 0x16 => pk [(c.driftPct.toNat, 24)] | 0x17 => c.aiCfg | 0x18 => c.aiFilt | 0x19 => c.aiTrig
  | 0x1A => c.aiTime | 0x1D => c.hart | 0x1E => c.safe | 0x1F => c.safeVal
  | _ => 0

/-- The configuration with one word written, its RW fields alone (00 R6). The reserved codes of
CH_MODE leave their field. -/
def ChCfg.withWord (c : ChCfg) (off : Nat) (w : Word) : ChCfg :=
  let v := mix (c.word off) w (chMask off)
  match off with
  | 0x00 => { c with
      mode := (ChMode.ofCode (fld w 3 0)).getD c.mode
      pairFn := (PairFn.ofCode (fld w 14 12)).getD c.pairFn
      loopMate := BitVec.ofNat 2 (fld w 11 10) }
  | 0x05 => { c with inCfg := v } | 0x06 => { c with inThr := v }
  | 0x09 => { c with cntCfg := v } | 0x0D => { c with holdT := BitVec.ofNat 8 (fld w 23 16) }
  | 0x10 => { c with outCfg := v } | 0x11 => { c with outLim := v }
  | 0x12 => { c with outDiag := v } | 0x13 => { c with outPol := v }
  | 0x16 => { c with driftPct := BitVec.ofNat 6 (fld w 29 24) }
  | 0x17 => { c with aiCfg := v } | 0x18 => { c with aiFilt := v }
  | 0x19 => { c with aiTrig := v } | 0x1A => { c with aiTime := v }
  | 0x1D => { c with hart := v } | 0x1E => { c with safe := v } | 0x1F => { c with safeVal := v }
  | _ => c

/-- A list of offsets and words written in order. -/
def ChCfg.withWords (c : ChCfg) (l : List (Nat × Word)) : ChCfg :=
  l.foldl (fun a p => a.withWord p.1 p.2) c

def outside (x lo hi : Nat) : Bool := decide (x < lo ∨ hi < x)

/-- LOAD inductive, ILIM, INRUSH_I, INRUSH_T. -/
def ChCfg.isInductive (c : ChCfg) : Bool := fld c.outCfg 27 26 == 2

def ChCfg.ilim (c : ChCfg) : Nat := fld c.outLim 7 0

/-- The actions of R254 in each mode (08 R254). -/
def entryAllowed (m : ChMode) (pwm : Bool) (action : Nat) : Bool :=
  match action with
  | 0 => true
  | 1 => m.isSwitch || m == .loopPwr
  | 2 => m.isGuarded
  | _ => (m.isSwitch && pwm) || m.isAo

/-- The RANGE codes of R141 in each mode (04): where none applies, those that are reserved in every mode are
still refused (00 R5). -/
def rangeAllowed (m : ChMode) (r : Nat) : Bool :=
  match m with
  | .aiI | .aiTc => r == 0
  | _ => decide (r ≤ 2)

/-- The other channels as the checks see them, n with its new configuration. -/
def State.candidate (s : State) (n : Ch) (t : ChCfg) : State := s.modCh n fun c => { c with cfg := t }

/-- A channel that an IDXCH may name (02 R68). -/
def State.indexable (s : State) (k : Ch) : Bool :=
  let c := (s.chan k).cfg
  c.mode == .count && fld c.cntCfg 27 24 == 2 && s.pairOf k == .none

/-- A QUAD pair with an index action names this channel (02 R68). -/
def idxOf (k : Ch) (cntCfg : Word) : Ch := chNo (k.val / 8 * 8 + fld cntCfg 14 12)

def State.quadIndexed (s : State) (k : Ch) : Bool :=
  let c := (s.chan k).cfg
  k.val % 2 == 0 && c.pairFn == .quad && c.mode == .count && fld c.cntCfg 17 16 != 0

/-- Whether n is the index channel of a QUAD pair with an index action (02 R39). -/
def State.indexesPair (s : State) (n : Ch) : Bool :=
  (chOf (grpOf n)).any fun k => s.quadIndexed k && idxOf k (s.chan k).cfg.cntCfg == n

/-- Every IDXCH in use names an index channel (02 R68). -/
def State.indexOk (s : State) (g : Grp) : Bool :=
  (chOf g).all fun k => !s.quadIndexed k || s.indexable (idxOf k (s.chan k).cfg.cntCfg)

/-- The sum of ILIM in the group, a declared pair twice (03 R85). -/
def State.ilimSum (s : State) (g : Grp) : Nat :=
  ((chOf g).map fun k =>
    let c := (s.chan k).cfg
    if !c.mode.isSwitch || s.isOdd k then 0
    else if s.pairOf k == .parallel then 2 * c.ilim else c.ilim).sum

/-- A comb whose time base n sources, active or armed (07 R216). -/
def State.namedSource (s : State) (tb : BitVec 2) (n : Ch) : Bool :=
  let src (c : Comb) : Bool := c.hdr.tb == tb && c.source == n
  (match s.comb.active with
   | some c => src c
   | none => false) ||
  (match s.comb.armed, s.comb.next with
   | some true, some c => src c
   | _, _ => false)

/-- The checks on one word that a command carries for channel n, whose configuration would be t
(11 R344). -/
def State.wordChecks (s : State) (n : Ch) (t : ChCfg) (off : Nat) (w : Word) : List Status :=
  let v := t.word off
  match off with
  | 0x00 =>
    failIf ((ChMode.ofCode (fld w 3 0)).isNone || fld w 11 10 == 3) .range ++
    failIf (n.val % 2 == 0 && (PairFn.ofCode (fld w 14 12)).isNone) .range
  | 0x05 => failIf (fld v 17 16 == 3) .range
  | 0x06 => failIf (decide (fld v 8 0 < 30 ∨ 280 < fld v 24 16 ∨ fld v 24 16 < fld v 8 0 + 10)) .range
  | 0x09 =>
    failIf (decide (2 < fld v 27 24) || fld v 21 20 == 3 || fld v 11 10 == 3 ||
      (fld v 27 24 == 0 && fld v 23 22 == 0)) .range ++
    failIf (fld v 27 24 == 1 && t.pairFn != .quad) .range ++
    failIf (s.namedSource 1 n) .conflict
  | 0x0D => failIf (decide (100 < t.holdT.toNat)) .range ++ failIf (s.namedSource 2 n) .conflict
  | 0x10 =>
    failIf (bit v 25 && !s.feat 12) .notNegotiated ++
    failIf (outside (fld v 23 20) 1 10 || outside (fld v 19 9) 25 2000 || outside (fld v 8 0) 180 300 ||
      fld v 27 26 == 3) .range ++
    failIf (bit v 24 && t.isInductive && (t.mode == .doHs || (t.mode == .doPp && decide (50 < t.ilim))))
      .range ++
    failIf (bit v 25 && (!bit v 24 || t.isInductive)) .range
  | 0x11 =>
    failIf (outside (fld v 7 0) 10 250 || decide (100 < fld v 18 12) || outside (fld v 29 20) 50 600 ||
      (fld v 18 12 != 0 && decide (fld v 29 20 < fld v 7 0))) .range
  | 0x12 =>
    failIf (outside (fld v 22 16) 10 50 || fld v 15 8 == 0 || outside (fld v 6 0) 5 100) .range
  | 0x13 => failIf (outside (fld v 19 10) 1 1000) .range
  | 0x16 => failIf (!s.feat 10) .notNegotiated ++ failIf (outside t.driftPct.toNat 1 50) .range
  | 0x17 =>
    failIf (!rangeAllowed t.mode (fld v 23 20)) .range ++
    failIf (bit v 28 && (t.mode != .aiV || fld v 23 20 != 2)) .range ++
    failIf (s.scheduled n || s.armedSchedules n) .conflict
  | 0x18 =>
    failIf (fld v 31 30 == 3 || outside (fld v 12 0) 1 4096 ||
      (fld v 31 30 == 0 && decide (1 < fld v 12 0))) .range ++
    failIf (!bit v 27 && bit t.hart 31) .range ++
    failIf (s.scheduled n || s.armedSchedules n) .conflict
  | 0x19 =>
    let p := ((s.candidate n t).cfgOf (chNo (fld v 27 23)))
    failIf (fld v 31 30 == 3 || (fld v 31 30 == 2 && !(p.mode.isSwitch && p.pwm))) .range
  | 0x1A => failIf (fld v 15 0 == 0) .range
  | 0x1D =>
    let old := (s.chan n).cfg.hart
    failIf (bit v 31 && !s.feat 1) .notNegotiated ++
    failIf (bit v 31 && !(t.mode == .aiI || t.mode == .aoISrc || t.mode == .aoISnk)) .range ++
    failIf (bit v 31 && !bit t.aiFilt 27) .range ++
    failIf (outside (fld v 23 19) 5 20) .range ++
    failIf ((s.chan n).hart.txBusy && (bit v 31 != bit old 31 || bit v 30 != bit old 30)) .busy
  | 0x1E | 0x1F =>
    failIf (!entryAllowed t.mode t.pwm (fld t.safe 31 30) || decide (1000 < fld t.safe 9 0) ||
      (t.mode.isSwitch && decide (10000 < fld t.safeVal 15 0))) .range ++
    failIf ((s.chan n).guard.held || s.failedCh n) .denied
  | _ => []

/-- The checks on the configuration that a command would leave, whichever words it carries (02 R58,
R65, R68, 04 R143; 03 R85 when the mode, the pair or CH_OUT_LIM changes). A change of the index channel's own
mode has its refusal in R39. -/
def State.leaveChecks (s : State) (n : Ch) (t : ChCfg) : List Status :=
  let u := s.candidate n t
  let g := grpOf n
  failIf (fld t.inCfg 29 28 != 0 && !(t.mode == .di || t.mode == .diNamur)) .range ++
  failIf (bit t.aiCfg 27 && t.mode != .aiTc) .range ++
  failIf (t.mode == .count && ((fld t.cntCfg 27 24 == 1) != (t.pairFn == .quad))) .range ++
  failIf (t.pairFn == .diff && fld t.aiCfg 23 20 != 1) .range ++
  failIf (!u.indexOk g && s.indexOk g && !(t.mode != (s.chan n).cfg.mode && s.indexesPair n)) .range ++
  failIf (decide (1800 < u.ilimSum g) && decide (s.ilimSum g < u.ilimSum g)) .range

/-! ### What an accepted word does -/

/-- The effect of a configuration word that is written outside a mode change. -/
def State.wordEffect (s : State) (n : Ch) (off : Nat) (w : Word) : State :=
  let c := s.chan n
  match off with
  | 0x05 =>
    if !c.actMode.isDigital then s
    else if c.inp.brk || c.inp.short then
      let st := s.faultState n
      s.modIn n fun i => { i with state := st }
    else s.modIn n fun i => { i with state := i.deb != c.cfg.invert }
  | 0x09 =>
    s.modCh n fun x => { x with cnt := { freshCnt x.actMode x.cfg.cntCfg with
      val := x.cnt.val, gateVal := x.cnt.val } }
  | 0x10 => s.refreshDuty n
  | 0x16 =>
    if bit w 30 then s.modOut n fun o => { o with learned := false, base := 0 } else s
  | 0x17 | 0x18 => if c.actMode.isAnalogue then s.restartFilter n else s
  | 0x1D =>
    if bit w 31 then s else s.modHart n fun h => { h with carrier := false, hclip := false }
  | _ => s

/-- The master table of a group changes (08 R256, R266): the generation counts, and the guard stores
the copy when the die can be reached. -/
def State.tableWritten (s : State) (g : Grp) : State :=
  let s1 : State := { s with safe.gen := s.safe.gen + 1 }
  s1.writeGuard g

/-- Write words of a channel, no mode, pair or partner changing. -/
def State.putWords (s : State) (n : Ch) (l : List (Nat × Word)) : State :=
  let s1 := s.modCh n fun c => { c with cfg := c.cfg.withWords (l.filter fun p => p.1 != 0) }
  let s2 := s1.each l fun t p => t.wordEffect n p.1 p.2
  if l.any fun p => p.1 == 0x1E || p.1 == 0x1F then s2.tableWritten (grpOf n) else s2

/-! ### CH_FAULT -/

/-- The host writes 1 to bits of CH_FAULT (02 R37, 03 R105, 04 R148, 06 R197). -/
def State.clearFaults (s : State) (n : Ch) (w : Word) : State :=
  let c := s.chan n
  let s1 := s.modCh n fun x => { x with fault := x.fault &&& ~~~w }
  if c.actMode.isSwitch then
    if bit w 31 && c.out.ps == .lockedOff then
      (s1.clearRetry n).modOutP n fun o => { o with
        ps := .off, cmdOn := false, hostOn := false, cmdDuty := 0 }
    else s1
  else if c.actMode == .aiI then
    if bit w 31 && c.ai.senseOpen then s1.modAi n fun a => { a with senseOpen := false } else s1
  else if c.actMode.isAo then
    if bit w 29 && c.ao.miswire then s1.modAo n fun a => { a with retest := true } else s1
  else s1

/-! ### Other objects -/

/-- A reference is selected (04 R137, R139): FALLBACK clears and the settling starts. -/
def State.selectRef (s : State) (g : Grp) (sel : BitVec 2) : State :=
  let c := (s.group g).conv
  if c.refSel = sel ∧ !c.fallback then s
  else
    (s.modConv g fun x => { x with refSel := sel, fallback := false }).loseRef g

/-- A write of WD_HS or WD_WG while the waggle is armed arrives in the open window (08 R276, R284). -/
def State.inWindow (s : State) : Bool :=
  let p := s.wd.wgPeriod.toNat * milli
  let t := s.time - s.wd.wgStart
  decide (p ≤ 4 * t ∧ t ≤ p)

/-- Arm the waggle (08 R276): a challenge is posted and the first period starts. -/
def State.armWaggle (s : State) (period : BitVec 14) : State :=
  State.postChallenge { s with
    wd.wgEn := true, wd.wgPeriod := period, wd.wgSet := none, wd.wgStart := s.time }

/-- Every bit of the sources that are always recorded (09 R290). -/
def forcedSrc : BitVec 128 :=
  [76, 77, 79, 107, 113, 115, 116].foldl (fun m k => m ||| (1#128 <<< k)) 0

/-- The bits of the enable mask that are writable: those of EV126 and of the sources never raised are
not (11 R360). -/
def fixedEn : BitVec 128 :=
  [94, 95, 109, 110, 111, 117, 118, 119, 126].foldl (fun m k => m ||| (1#128 <<< k)) 0

/-- Write the enable bits (11 R360). -/
def State.setEnables (s : State) (m : BitVec 128) : State :=
  { s with ev.en := (m &&& ~~~fixedEn) ||| (1#128 <<< 126) }

/-- A 32-bit part of a 128-bit mask replaced. -/
def putPart (m : BitVec 128) (k : Nat) (w : Word) : BitVec 128 :=
  (m &&& ~~~((BitVec.allOnes 32).setWidth 128 <<< (32 * k))) ||| (w.setWidth 128 <<< (32 * k))

/-- The end of a write: the first failing status, or the new state. -/
def judge (l : List Status) (s : State) : Except Status State :=
  match worst l with
  | some st => .error st
  | none => .ok s

/-- Two-bit codes 3 in a word. -/
def hasCode3 (w : Word) : Bool := (List.range 16).any fun k => fld w (2 * k + 1) (2 * k) == 3

def hasCode2 (w : Word) : Bool := (List.range 16).any fun k => fld w (2 * k + 1) (2 * k) == 2

/-- The conversion objects of a group (04 R132 to R140). -/
def State.writeConv (s : State) (g : Grp) (off : Nat) (w : Word) : Except Status State :=
  match off with
  | 0 =>
    let s1 := if bit w 30 then s.modConv g fun c => { c with refFault := false } else s
    judge (failIf (decide (1 < fld w 1 0)) .range) (s1.selectRef g (BitVec.ofNat 2 (fld w 1 0)))
  | 1 => .ok (s.modConv g fun c => { c with calRo := bit w 18 })
  | _ => .ok s

/-- The results and capture objects (04 R151, 05 R171 to R182). -/
def State.writeResults (s : State) (i : Nat) (w : Word) : Except Status State :=
  let capOff := failIf (!s.feat 5) .notNegotiated
  let capBusy := failIf (s.res.cap.state == .armed || s.res.cap.state == .triggered) .denied
  match i with
  | 0x940 => .ok { s with res.ovr := s.res.ovr &&& ~~~w }
  | 0x950 =>
    let p := fld w 19 16 * 256
    let changed := fld w 19 16 != fld s.res.cfg 19 16
    judge
      (failIf (fld w 29 28 == 2 && !s.feat 6) .notNegotiated ++
       failIf (decide (1 < fld w 31 30) || fld w 29 28 == 3 || p == 0) .range ++
       failIf (changed && (decide (p < s.res.hwm false) || decide (4096 - p < s.res.hwm true))) .range ++
       failIf (changed && !(s.res.poll.entries.isEmpty && s.res.strm.entries.isEmpty)) .denied)
      { s with res.cfg := w &&& objMask 0x950 }
  | 0x951 =>
    judge (failIf (hasCode2 w && !s.feat 6) .notNegotiated ++ failIf (hasCode3 w) .range)
      { s with res.routeLo := w }
  | 0x952 =>
    judge (failIf (hasCode2 w && !s.feat 6) .notNegotiated ++ failIf (hasCode3 w) .range)
      { s with res.routeHi := w }
  | 0x953 => .ok { s with res.stampSel := w }
  | 0x954 =>
    judge (failIf (hasCode3 (w &&& 0xFFFF#32) || hasCode2 (w &&& 0xF0FF#32)) .range)
      (State.settlePause { s with res.policy := w &&& 0xFFFF#32 })
  | 0x955 =>
    judge (failIf (decide (¬(fld w 11 0 < fld w 27 16 ∧ fld w 27 16 ≤ s.res.sizeOf false))) .range)
      (State.afterTake { s with res.wmPoll := w &&& objMask 0x955 } false)
  | 0x956 =>
    judge (failIf (decide (¬(fld w 11 0 < fld w 27 16 ∧ fld w 27 16 ≤ s.res.sizeOf true))) .range)
      (State.afterTake { s with res.wmStrm := w &&& objMask 0x956 } true).settlePause
  | 0x960 =>
    judge (capOff ++ failIf (decide (1 < fld w 31 30) || decide (3 < fld w 29 27)) .range ++ capBusy)
      { s with res.cap.cfg := w &&& objMask 0x960 }
  | 0x961 => judge (capOff ++ capBusy) { s with res.cap.mask := w }
  | 0x962 => judge (capOff ++ capBusy) { s with res.cap.level := w &&& 0xFFFFFF#32 }
  | _ => .ok s

/-- What a write of EN sets for the tasks that it enables (08 R280). -/
def State.newTasks (s : State) (en : BitVec 16) (x : Nat) (v : Vector Nat 16) : Vector Nat 16 :=
  (List.range 16).foldl (fun (v : Vector Nat 16) k =>
    if en.getLsbD k && !s.wd.taskEn.getLsbD k then v.set (k % 16) x (Nat.mod_lt _ (by decide)) else v) v

/-- The safe-state and watchdog objects (08 R265, R274, R275, R281, R284). -/
def State.writeSafe (s : State) (snd : Sender) (i : Nat) (w : Word) : Except Status State :=
  let task := failIf (!s.feat 7) .notNegotiated
  match i with
  | 0xB00 =>
    judge (failIf (decide (1000 < fld w 9 0)) .range) { s with safe.cfg := w &&& objMask 0xB00 }
  | 0xB02 =>
    judge (failIf (outside (fld w 19 0) 1 600000) .range ++
           failIf (s.wd.wgEn && !s.inWindow) .denied)
      { s with wd.hsSet := some (BitVec.ofNat 20 (fld w 19 0)) }
  | 0xB03 =>
    let p : BitVec 14 := BitVec.ofNat 14 (fld w 13 0)
    let bad := failIf (outside (fld w 13 0) 1 10000) .range
    if s.wd.wgEn then
      judge (bad ++ failIf (!bit w 31 || !s.inWindow) .denied) { s with wd.wgSet := some p }
    else if bit w 31 then judge bad (s.armWaggle p)
    else judge bad { s with wd.wgPeriod := p }
  | 0xB06 =>
    judge (failIf (s.wd.wgEn || snd != .host) .denied) { s with wd.wgSecret := w }
  | 0xB10 =>
    let en : BitVec 16 := w.setWidth 16
    judge task { s with
      wd.taskStrict := bit w 31, wd.taskEn := en
      wd.checkins := s.newTasks en 0 s.wd.checkins
      wd.taskStart := s.newTasks en s.time s.wd.taskStart }
  | 0xB11 =>
    judge task { s with
      wd.taskExtra := s.wd.taskExtra &&& ~~~((w >>> 16).setWidth 16)
      wd.taskMiss := s.wd.taskMiss &&& ~~~(w.setWidth 16) }
  | _ =>
    if 0xB20 ≤ i ∧ i < 0xB30 then
      judge (task ++ failIf (fld w 15 0 == 0) .range ++ failIf (s.wd.taskEn.getLsbD (i % 16)) .denied)
        { s with wd.taskCfg := s.wd.taskCfg.set (i % 16) (w.setWidth 16) (Nat.mod_lt _ (by decide)) }
    else .ok s

/-- Write an object outside the channels (11 R352): RANGE for a reserved index, OK without effect for
an object with no writable field. -/
def State.writeObj (s : State) (snd : Sender) (i : Nat) (w : Word) : Except Status State :=
  if (s.readObj i).isNone then .error .range
  else if 0x900 ≤ i ∧ i < 0x940 then s.writeConv (grpNo ((i - 0x900) / 16)) (i % 16) w
  else if 0x940 ≤ i ∧ i < 0xA00 then s.writeResults i w
  else if 0xB00 ≤ i ∧ i < 0xC00 then s.writeSafe snd i w
  else if 0xC08 ≤ i ∧ i < 0xC0C then
    .ok { s with rcd.srcSel := putPart s.rcd.srcSel (i - 0xC08) w ||| forcedSrc }
  else if 0xF00 ≤ i ∧ i < 0xF04 then .ok (s.setEnables (putPart s.ev.en (i - 0xF00) w))
  else match i with
  | 0x104 =>
    judge (failIf (outside (fld w 6 0) 20 100) .range)
      (State.settleDstate { s with pw.cfg := w &&& objMask 0x104 })
  | 0x108 =>
    judge (failIf (outside (fld w 15 0) 2000 9000) .range) { s with pw.env := w.setWidth 16 }
  | 0x200 =>
    judge (failIf (bit w 31 && !s.feat 2) .notNegotiated) { s with port.rckEn := bit w 31 }
  | 0xC07 =>
    judge (failIf (bit w 30 && !s.feat 9) .notNegotiated ++
           failIf ((s.isRoot || s.sw.addrv) && w.setWidth 12 == s.ownAddr) .range)
      { s with rcd.peer := w &&& objMask 0xC07 }
  | 0xD00 =>
    judge (failIf (!s.feat 4) .notNegotiated) { s with sw.syncEn := bit w 29, sw.healRo := bit w 28 }
  | _ => .ok s

end Sys2Proof.Machine
end

