-- ==== Sys2Proof/Machine/Receive.lean ====
section
/-! DEFINITION. Frames of the host port and its receive logic: header and CRC words, which host frames are
well formed, what is counted and reported of a discarded one, and the states of R323 (10 R314 to R324). -/

namespace Sys2Proof.Machine

/-! ### Frames -/

/-- The header word of a frame (10 R314). -/
def headerW (type mb : Nat) (last : Bool) (seq : BitVec 8) (len : Nat) : Word :=
  pk [(type, 28), (mb, 26), (last.toNat, 24), (seq.toNat, 16), (len, 0)]

/-- The CRC word of a frame, over its header and payload words (10 R316). -/
def frameCrc (ws : List Word) : Word := crc32c (ws.flatMap fun w => (wordBytes w).reverse)

/-- The words of a frame (10 R314). -/
def frameWords (type mb : Nat) (last : Bool) (seq : BitVec 8) (payload : List Word) : List Word :=
  let ws := headerW type mb last seq payload.length :: payload
  ws ++ [frameCrc ws]

/-- Whether a header is that of a well-formed host frame on a select, CS1 when `cs1` (10 R312, R315). -/
def hostHeaderOk (cs1 : Bool) (h : Word) : Bool :=
  let len := fld h 10 0
  let mb := fld h 27 26
  fld h 25 25 == 0 && fld h 15 11 == 0 && decide (len ≤ 1024) &&
  match fld h 31 28 with
  | 0 => mb == 0 && len == 0
  | 1 => !cs1 && decide (mb ≤ 1 ∧ 1 ≤ len)
  | 5 => !cs1 && mb == 0 && len == 1
  | 7 => !cs1 && mb == 1 && decide (1 ≤ len)
  | 8 => cs1 && mb == 3 && len == 1
  | _ => false

/-- The header of a CMD or BULK frame of the host (10 R314, R315). -/
def cmdHeader (f : Frame) (last : Bool) (len : Nat) : Word :=
  headerW (if f.bulk then 7 else 1) f.mb.toNat last f.seq len

/-- What identifies the message of a CMD or BULK header (10 R314). -/
def messageOf (h : Word) : Frame :=
  { mb := h.extractLsb' 26 2, seq := h.extractLsb' 16 8, bulk := fld h 31 28 == 7 }

/-! ### Service of the timers, waking -/

/-- A period of WD_HS that was written comes into force at a service (08 R284). -/
def Watchdogs.serveHs (w : Watchdogs) (now : Nat) : Watchdogs :=
  { w with hsPeriod := w.hsSet.getD w.hsPeriod, hsSet := none, hsLast := now }

/-- The host-silence timer is served (08 R274); on the root a HEARTBEAT becomes due (12 R380). -/
def State.serveHs (s : State) : State :=
  { s with
    wd := s.wd.serveHs s.time
    sw.heartbeatDue := s.sw.heartbeatDue || (s.isRoot && s.feat 4) }

/-- A dozing module is awake in RUN (13 R405, R416). -/
def State.wake (s : State) : State :=
  if s.pw.mode = .doze then { s with pw.mode := .run, pw.waking := false } else s

/-- The host port serves the host-silence timer: a frame came that its CRC proves whole (08 R274, 10 R322,
13 R404). -/
def State.servePort (s : State) : State := { s.serveHs with port.heardAt := s.time }

/-! ### Discarded frames -/

/-- An error of the receive side joins the next report frame (10 R319): bit 0 SEG, 1 BUSY, 2 TRAIL,
3 HDR, 4 SHORT, 5 CRC, 6 SELCOL. -/
def State.report (s : State) (b : Nat) : State :=
  { s with
    port.repFlags := s.port.repFlags ||| BitVec.ofNat 7 (1 <<< b)
    port.repCount := satInc s.port.repCount }

/-- A message is discarded, counted and reported (10 R317, 11 R338). -/
def State.lostMessage (s : State) : State :=
  State.report { s with port.cnt.seg := satInc s.port.cnt.seg } 0

/-- The segments held of other messages of the mailbox are discarded, each message counted (10 R317); one whose
loss was noted before is over. -/
def State.supersede (s : State) (f : Frame) : State :=
  let s1 : State := { s with port.lostMsgs := s.port.lostMsgs.filter fun x => !(x.mb == f.mb && x != f) }
  if s.port.segs.any fun x => x.frame.mb == f.mb && x.frame != f then
    State.lostMessage { s1 with port.segs := s.port.segs.filter fun x => !(x.frame.mb == f.mb && x.frame != f) }
  else s1

/-- A frame with a header was discarded (10 R317; log entry 112): a segment takes its message with it, counted
once; later segments of that message are discarded up to its last. -/
def State.lostFrame (s : State) (h : Word) : State :=
  let f := messageOf h
  let last := h.getLsbD 24
  if !(fld h 31 28 == 1 || f.bulk) || decide (1 < f.mb.toNat) then s
  else if s.port.lostMsgs.contains f then
    { s with port.lostMsgs := if last then s.port.lostMsgs.erase f else s.port.lostMsgs }
  else if !last || s.port.segs.any (fun x => x.frame == f) then
    State.lostMessage { s with
      port.segs := s.port.segs.filter fun x => x.frame.mb != f.mb
      port.lostMsgs := if last then s.port.lostMsgs else s.port.lostMsgs ++ [f] }
  else s

/-- HDR: a malformed header (10 R315, R323). -/
def State.rejectHdr (s : State) (h : Word) : State :=
  (State.report { s with
    port.cnt.hdr := satInc s.port.cnt.hdr, port.rx := .drop, port.rxWords := [] } 3).lostFrame h

/-- CRC: the CRC word differs (10 R323). -/
def State.rejectCrc (s : State) (h : Word) : State :=
  (State.report { s with
    port.cnt.crc := satInc s.port.cnt.crc, port.rx := .drop, port.rxWords := [] } 5).lostFrame h

/-- SHORT: the select rose within a frame (10 R323). -/
def State.rejectShort (s : State) (h : Word) : State :=
  (State.report { s with port.cnt.short := satInc s.port.cnt.short } 4).lostFrame h

/-- BUSY: a frame came whole under a busy word (10 R321 to R323); it serves the timer where its CRC is valid. -/
def State.rejectBusy (s : State) (h : Word) (valid : Bool) : State :=
  let s1 := (State.report { s with
    port.cnt.busy := satInc s.port.cnt.busy, port.rx := .drop, port.rxWords := [] } 1).lostFrame h
  if valid then s1.servePort else s1

/-- TRAIL: a non-zero word after a frame, counted once per exchange (10 R323). -/
def State.rejectTrail (s : State) : State :=
  if s.port.trailed then s
  else State.report { s with port.cnt.trail := satInc s.port.cnt.trail, port.trailed := true } 2

/-! ### The receive states -/

/-- A frame is whole (10 R324): it serves the host-silence timer and wakes the module. -/
def State.accept (s : State) : State :=
  let s1 := s.servePort.wake
  { s1 with port.rx := .tail, port.rxWords := [] }

/-- One word on H_SDI (10 R323). A frame that passes is delivered by the row of its command. -/
def State.rxWord (s : State) (w : Word) : State :=
  let ws := s.port.rxWords ++ [w]
  match s.port.rx, s.port.rxWords with
  | .idle, _ => s
  | .hunt, _ =>
    if w = 0 then s
    else if s.port.busy then { s with port.rx := .drop, port.rxWords := [w] }
    else if hostHeaderOk (s.port.sel == some true) w then
      { s with port.rx := if fld w 10 0 = 0 then .check else .body, port.rxWords := [w] }
    else s.rejectHdr w
  | .body, h :: _ =>
    { s with port.rx := if ws.length = fld h 10 0 + 1 then .check else .body, port.rxWords := ws }
  | .check, h :: _ => if w = frameCrc s.port.rxWords then s.accept else s.rejectCrc h
  | .tail, _ => if w = 0 then s else s.rejectTrail
  | .drop, h :: _ =>
    if ws.length = fld h 10 0 + 2 then s.rejectBusy h (w == frameCrc s.port.rxWords)
    else { s with port.rxWords := ws }
  | _, [] => s

/-- What the receive logic makes of a whole frame whose CRC word fits (10 R311, R313, R321, R323): whether it is
delivered. It is the first of its exchange, on a select that is not ignored, under no busy word, and well formed. -/
def State.frameIn (s : State) (h : Word) : State × Bool :=
  match s.port.sel, s.port.rx with
  | some cs1, .hunt =>
    if s.port.busy then (s.rejectBusy h true, false)
    else if hostHeaderOk cs1 h then (s.accept, true)
    else (s.rejectHdr h, false)
  | _, .tail => (s.rejectTrail, false)
  | _, _ => (s, false)

end Sys2Proof.Machine
end

