-- ==== Sys2Proof/Machine/Command.lean ====
section
/-! DEFINITION. How a command is received, judged and answered, from the host port or over the swarm
(11 R334 to R348, 12 R378). -/

namespace Sys2Proof.Machine

/-! ### Describing a command -/

/-- What the body of a command answers: a response now, with its DETAIL and further words, or later,
when the work named by a key is complete. -/
inductive Ans where
  | now (st : Status) (detail : Nat) (ws : List Word)
  | later (key : Nat)
  deriving DecidableEq, Repr

/-- The body of a command: its sender, ARGS and words. -/
abbrev Body := Sender → BitVec 24 → List Word → State → State × Ans

/-- A row of the tables of R342 and R346 (11): opcode, mailboxes, whether the length fits, the modes in
which it is legal, whether it is served before negotiation, the feature it needs, and whether it is
accepted from the swarm. -/
structure CmdSpec where
  op : Nat
  mb0 : Bool := true
  mb1 : Bool := false
  lenOk : BitVec 24 → List Word → Bool := fun _ ws => ws.isEmpty
  standby : Bool := true
  run : Bool := true
  safe : Bool := true
  service : Bool := true
  pre : BitVec 24 → Bool := fun _ => false
  feat : Option Nat := none
  swarm : Bool := true

/-- Legality in the present mode (11 R346). -/
def CmdSpec.legal (c : CmdSpec) (m : Mode) : Bool :=
  match m with
  | .standby => c.standby
  | .run | .doze => c.run
  | .safe => c.safe
  | .service => c.service
  | _ => false

/-- The answer OK without words. -/
def Ans.ok : Ans := .now .ok 0 []

/-- A refusal with DETAIL 0; BUSY says that the time is unknown (11 R340). -/
def Ans.fail (st : Status) : Ans := .now st (if st = .busy then 0x1FFF else 0) []

/-- A body that fails with the worst of some checks, or goes on. -/
def checked (l : List Status) (s : State) (go : State × Ans) : State × Ans :=
  match worst l with
  | some st => (s, .fail st)
  | none => go

/-! ### Counters of the port -/

/-- A repeated frame is counted (11 R337). -/
def State.countDup (s : State) : State := { s with port.cnt.dup := satInc s.port.cnt.dup }

/-! ### Responses -/

/-- Word 0 of a response (11 R340). -/
def State.rspWord (s : State) (op : Nat) (st : Status) (detail : Nat) : Word :=
  pk [(op, 24), (st.code, 16), (s.pw.mode.code, 13), (detail % 8192, 0)]

/-- MB_CNT counts the commands answered WRONG_STATE and NOT_NEGOTIATED (11 R347, R355). -/
def State.countStatus (s : State) (st : Status) : State :=
  match st with
  | .wrongState => { s with port.cnt.wrongState := satInc s.port.cnt.wrongState }
  | .notNegotiated => { s with port.cnt.notNeg := satInc s.port.cnt.notNeg }
  | _ => s

/-- The class of a routed command or its response (12 R370). -/
def classOfMb (mb : BitVec 2) : SwClass := if mb = 1 then .bulk else .control

/-- The response is sent to its sender: queued at the port, or sent over the swarm and kept there
(10 R318, 12 R378). -/
def State.sendRsp (s : State) (o : Outst) (words : List Word) (counts : Bool) : State :=
  let r : Rsp := { mb := o.frame.mb, seq := o.frame.seq, bulk := o.frame.bulk, words := words
                   crc := o.crc, counts := counts }
  match o.sender with
  | .host => { s with port.rsp := s.port.rsp ++ [r] }
  | .swarm a =>
    if o.bcast then s
    else
      let l := s.sw.kept.filter fun k => !(k.1 == a && k.2.mb == r.mb && k.2.seq == r.seq)
      let n := if r.mb = 1 then 1 else 8
      let (same, others) := l.partition fun k => k.1 == a && k.2.mb == r.mb
      let s1 : State := { s with sw.kept := others ++ (same ++ [(a, r)]).drop ((same.length + 1) - n) }
      s1.sendMsg (classOfMb r.mb) 1 false a r.seq words

/-- The words of a response (11 R340, R342): COMB_COMMIT gives COMB_LOAD for every status, and INDEX as
DETAIL of RANGE and CONFLICT. -/
def State.rspWords (s : State) (op : Nat) (st : Status) (detail : Nat) (ws : List Word) : List Word :=
  if op = 0x12 then
    let d := if st = .range ∨ st = .conflict then s.comb.index.toNat else detail
    [s.rspWord op st d, s.combLoadW]
  else s.rspWord op st detail :: ws

/-- An outstanding command is answered (11 R335, R340). -/
def State.respond (s : State) (o : Outst) (st : Status) (detail : Nat) (ws : List Word) : State :=
  let s1 := s.countStatus st
  let s2 : State := match o.sender with
    | .host => { s1 with port.outst := s1.port.outst.map fun x =>
        if x = o then { x with answered := true } else x }
    | .swarm _ => { s1 with port.outst := s1.port.outst.erase o }
  s2.sendRsp o (s2.rspWords o.opcode.toNat st detail ws) true

/-- The work of a key is complete: the command that waits for it is answered. -/
def State.complete (s : State) (key : Nat) (st : Status) (detail : Nat) (ws : List Word) : State :=
  match s.port.outst.find? fun o => o.key == key && !o.answered with
  | some o => s.respond o st detail ws
  | none => s

/-- Whether a command waits for the work of a key. -/
def State.awaited (s : State) (key : Nat) : Bool :=
  s.port.outst.any fun o => o.key == key && !o.answered

/-! ### Judging -/

/-- What is served in recovery, beside FEAT_ACCEPT before negotiation (14 R437). -/
def recoveryServes (op : Nat) (args : BitVec 24) : Bool :=
  let i := args.toNat % 65536
  op == 0x01 || op == 0x02 || op == 0x39 || op == 0x3A || op == 0x3B ||
  ((op == 0x03 || op == 0x05) && (decide (i < 0x100) || i / 256 == 0x0E))

/-- The checks before the command itself (11 R341, R342, R346). -/
def State.preChecks (s : State) (c : CmdSpec) (mb : BitVec 2) (args : BitVec 24) (ws : List Word) :
    List Status :=
  failIf (!c.lenOk args ws) .badLength ++
  failIf (!s.pw.neg && !c.pre args) .notNegotiated ++
  (match c.feat with
   | some k => failIf (!s.feat k) .notNegotiated
   | none => []) ++
  failIf (s.pw.neg && !c.legal s.pw.mode) .wrongState ++
  failIf (!(if mb = 0 then c.mb0 else c.mb1)) .range

/-- Whether the command is refused whatever it says (11 R346, 12 R363, 14 R437). -/
def State.denies (s : State) (snd : Sender) (c : CmdSpec) (args : BitVec 24) : Bool :=
  (snd != .host && !c.swarm) || (s.isNode && c.op == 0x02) ||
  (s.sec.recovery && !recoveryServes c.op args)

/-- A WAGGLE from the swarm counts as refused (08 R278). -/
def State.countRefusal (s : State) (snd : Sender) (c : CmdSpec) : State :=
  if snd != .host && c.op == 0x20 then { s with wd.wgRefused := satInc s.wd.wgRefused } else s

/-- What refuses a command before its own checks (11 R341, R346). -/
def State.refusal (s : State) (snd : Sender) (c : CmdSpec) (mb : BitVec 2) (args : BitVec 24) (ws : List Word) :
    Option Status :=
  worst (s.preChecks c mb args ws ++ failIf (s.denies snd c args) .denied)

/-- A command is judged and carried out; of several failing checks the first in the order of R341 answers, and a
failing status leaves the state as it was, save what its body says (11 R341). -/
def State.judgeCmd (s : State) (snd : Sender) (c : CmdSpec) (body : Body) (mb : BitVec 2)
    (args : BitVec 24) (ws : List Word) : State × Ans :=
  match s.refusal snd c mb args ws with
  | none => body snd args ws s
  | some st =>
    let out := (if st = .denied then s.countRefusal snd c else s, Ans.fail st)
    match body snd args ws s with
    | (_, .now st' d r) => if st'.rank < st.rank then (s, .now st' d r) else out
    | _ => out

/-- A sender of a kind. -/
def Sender.isHost : Sender → Bool
  | .host => true
  | .swarm _ => false

/-- The key of a command that changed RCK_EN, which takes effect after its response (10 R310). -/
def rckKey (en : Bool) : Nat := 300 + en.toNat

/-- Carry out a command: it becomes outstanding, and is answered now or later (11 R335). -/
def State.runCmd (s : State) (snd : Sender) (c : CmdSpec) (body : Body) (f : Frame) (crc : Word) (bcast : Bool)
    (args : BitVec 24) (ws : List Word) : State :=
  let o : Outst := { sender := snd, frame := f, crc := crc, opcode := BitVec.ofNat 8 c.op, key := 0
                     answered := false, bcast := bcast }
  match s.judgeCmd snd c body f.mb args ws with
  | (t, .now st d r) =>
    let rck := t.port.rckEn != s.port.rckEn
    let o1 : Outst := { o with key := if rck then rckKey t.port.rckEn else 0 }
    State.respond { t with
      port.outst := t.port.outst ++ [o1]
      port.rckNext := if rck && !snd.isHost then some t.port.rckEn else t.port.rckNext } o1 st d r
  | (t, .later k) => { t with port.outst := t.port.outst ++ [{ o with key := k }] }

/-- The commands outstanding on a mailbox from the host port, or from the swarm (11 R335, 12 R378). -/
def State.outstanding (s : State) (host : Bool) (mb : BitVec 2) : List Outst :=
  s.port.outst.filter fun o => o.sender.isHost == host && o.frame.mb == mb

/-- The limit of a mailbox (11 R334). -/
def mbLimit (mb : BitVec 2) : Nat := if mb = 0 then 8 else 1

/-- The BUSY answer that does not count as outstanding (11 R335). -/
def State.busyAnswer (s : State) (snd : Sender) (op : Nat) (f : Frame) (crc : Word) (bcast : Bool) : State :=
  s.sendRsp { sender := snd, frame := f, crc := crc, opcode := BitVec.ofNat 8 op, key := 0, answered := true
              bcast := bcast }
    (s.rspWords op .busy 0x1FFF []) false

/-- The kept response of the host that a frame repeats (11 R337). -/
def State.keptFor (s : State) (f : Frame) (crc : Word) : Option Rsp :=
  if f.mb = 0 then s.port.kept0.find? fun r => r.seq == f.seq && r.crc == crc
  else match s.port.kept1 with
    | some r => if r.seq = f.seq ∧ r.crc = crc then some r else none
    | none => none

/-- Whether a frame repeats a command that is still outstanding (11 R337). -/
def State.repeatsOutst (s : State) (snd : Sender) (f : Frame) (crc : Word) : Bool :=
  s.port.outst.any fun o => o.sender == snd && o.frame.mb == f.mb && o.frame.seq == f.seq && o.crc == crc

/-- Word 0 of a command (11 R339). -/
def cmdWord (op : Nat) (args : BitVec 24) : Word := pk [(op, 24), (args.toNat, 0)]

/-- The segments held of a message (10 R317). -/
def State.heldOf (s : State) (f : Frame) : List Word :=
  ((s.port.segs.find? fun x => x.frame == f).map (·.words)).getD []

/-- The payload of the last frame of a message (10 R317): what its held segments have not brought. -/
def lastPart (held full : List Word) : List Word :=
  if held.isEmpty then full.drop (1024 * ((full.length - 1) / 1024)) else full.drop held.length

/-- The last frame of a command message, header first (10 R314, R317). -/
def State.lastFrame (s : State) (op : Nat) (m : Cmd) : List Word :=
  let part := lastPart (s.heldOf m.frame) (cmdWord op m.args :: m.words)
  cmdHeader m.frame true part.length :: part

/-- A command message that is whole is executed once (11 R335 to R347). -/
def State.takeCmd (s : State) (c : CmdSpec) (body : Body) (m : Cmd) (crc : Word) : State :=
  match s.keptFor m.frame crc with
  | some r => State.countDup { s with port.rsp := s.port.rsp ++ [r] }
  | none =>
    if s.repeatsOutst .host m.frame crc then s.countDup
    else if s.pw.window.isSome ||
        decide (mbLimit m.frame.mb ≤ (s.outstanding true m.frame.mb).length) then
      s.busyAnswer .host c.op m.frame crc false
    else s.runCmd .host c body m.frame crc false m.args m.words

/-- The control core takes the last frame of a message (10 R317, 11 R338): segments held of its own message are
part of it, those of another one of the mailbox are discarded. It does not execute a message of which a segment
was discarded, nor one of more than 4096 words. -/
def State.takeLast (s : State) (c : CmdSpec) (body : Body) (m : Cmd) : State :=
  let f := m.frame
  let full := cmdWord c.op m.args :: m.words
  let crc := frameCrc (s.lastFrame c.op m)
  let held := s.heldOf f
  let s1 := s.supersede f
  let s2 : State := { s1 with port.segs := s1.port.segs.filter fun x => x.frame != f }
  if s.port.lostMsgs.contains f then { s2 with port.lostMsgs := s2.port.lostMsgs.erase f }
  else if 4096 < full.length then s2.lostMessage
  else if held ++ lastPart held full = full then s2.takeCmd c body m crc
  else s2

/-- A command that the host port delivers (10 R324, 11 R335 to R347). While the control core is halted its frame
stays in a receive buffer, and a WAGGLE is checked in hardware (08 R283). -/
def State.hostCmd (s : State) (c : CmdSpec) (body : Body) (m : Cmd) : State :=
  if !s.portOpen then s
  else
    let r := s.frameIn ((s.lastFrame c.op m).headD 0)
    if !r.2 then r.1
    else if r.1.pw.halted && c.op != 0x20 then
      { r.1 with port.bufs := r.1.port.bufs ++ [.cmd (BitVec.ofNat 8 c.op) m] }
    else r.1.takeLast c body m

/-- A routed command that reaches the control core of a node (12 R378): R335 and R337 apply with TAG in
place of SEQ. -/
def State.swarmCmd (s : State) (c : CmdSpec) (body : Body) (src : Addr) (f : Frame) (crc : Word) (bcast : Bool)
    (args : BitVec 24) (ws : List Word) : State :=
  let snd : Sender := .swarm src
  if s.pw.halted then s
  else
    match s.sw.kept.find? fun k => k.1 == src && k.2.mb == f.mb && k.2.seq == f.seq && k.2.crc == crc with
    | some k => s.countDup.sendMsg (classOfMb f.mb) 1 false src f.seq k.2.words
    | none =>
      if s.repeatsOutst snd f crc then s.countDup
      else if s.pw.window.isSome || decide (mbLimit f.mb ≤ (s.outstanding false f.mb).length) then
        s.busyAnswer snd c.op f crc bcast
      else s.runCmd snd c body f crc bcast args ws

/-! ### Reading the words of a command -/

/-- Exactly n request words. -/
def exactly (n : Nat) : BitVec 24 → List Word → Bool := fun _ ws => ws.length == n

/-- The number of bits set in a mask. -/
def popCount (w : Word) : Nat := ((List.range 32).filter fun k => w.getLsbD k).length

/-- A field of ARGS. -/
def arg (args : BitVec 24) (hi lo : Nat) : Nat := fld (args.setWidth 32) hi lo

/-- A field of ARGS replaced. -/
def withArg (args : BitVec 24) (hi lo v : Nat) : BitVec 24 :=
  (args &&& ~~~(BitVec.ofNat 24 ((2 ^ (hi + 1 - lo) - 1) <<< lo))) |||
    BitVec.ofNat 24 ((v % 2 ^ (hi + 1 - lo)) <<< lo)

/-- The field of ARGS in which the rows that share an opcode differ (log entry 25): the row's own
value, or the reserved code that the message carries. -/
def rowArg (args : BitVec 24) (hi lo v legal : Nat) : BitVec 24 :=
  if legal < arg args hi lo then args else withArg args hi lo v

/-- The words of a byte count. -/
def wordsFor (n : Nat) : Nat := (n + 3) / 4

/-- The bits of a mask paired with the words that follow it, ascending. -/
def maskWords (mask : Word) (ws : List Word) : List (Nat × Word) :=
  ((List.range 32).filter fun k => mask.getLsbD k).zip ws

end Sys2Proof.Machine
end

