-- ==== Sys2Proof/Machine/CombImage.lean ====
section
/-! DEFINITION. The comb image: decoding the header and the cells, the field checks, the order and
mode checks, the resource contract (07 R219 to R229, 01 R27, 06 R191). -/

namespace Sys2Proof.Machine

/-! ### Decoding -/

/-- An INDEX that names no cell (07 R236). -/
def noIndex : Nat := 0x1FFF

/-- The header of an image (07 R220). -/
def decodeHdr (bs : List Byte) : CombHdr :=
  let flags := leAt bs 11 1
  { ncells := leAt bs 8 2
    tb := BitVec.ofNat 2 (leAt bs 10 1)
    signed := flags % 2 == 1
    live := flags / 2 % 2 == 1
    period := leAt bs 12 4
    prescale := leAt bs 16 2
    tbsrc := BitVec.ofNat 8 (leAt bs 18 1)
    stallact := BitVec.ofNat 8 (leAt bs 19 1)
    stallT := leAt bs 20 2
    jitter := leAt bs 22 2
    rateMax := leAt bs 24 4
    tbOffset := leAt bs 28 4
    sched := BitVec.ofNat 32 (leAt bs 32 4)
    injres := [0, 1, 2, 3].map fun g => leAt bs (36 + 2 * g) 2
    budget := [0, 1, 2, 3].map fun g =>
      (leAt bs (44 + 8 * g) 2, leAt bs (46 + 8 * g) 2, leAt bs (48 + 8 * g) 2, leAt bs (50 + 8 * g) 2)
    combId := BitVec.ofNat 32 (leAt bs 76 4)
    keyid := BitVec.ofNat 8 (leAt bs 84 1)
    digest := slice bs 96 48 }

/-- The cell whose 16 bytes are given (07 R221, R222). -/
def decodeCell (bs : List Byte) : Cell :=
  let flags := leAt bs 3 1
  let claim := leAt bs 14 2
  { pos := leAt bs 0 3
    skip := 128 ≤ flags
    lead := BitVec.ofNat 2 flags
    action := BitVec.ofNat 8 (leAt bs 4 1)
    group := BitVec.ofNat 4 (leAt bs 5 1)
    mask := BitVec.ofNat 32 (leAt bs 6 4)
    arg := BitVec.ofNat 32 (leAt bs 10 4)
    qty := claim / 16384
    scale := BitVec.ofNat 2 (claim / 4096)
    count := claim % 4096 }

/-- The bytes of cell k. -/
def cellBytes (bs : List Byte) (k : Nat) : List Byte := slice bs (256 + 16 * k) 16

/-- The comb of an image. -/
def decodeComb (bs : List Byte) : Comb :=
  let h := decodeHdr bs
  { hdr := h, cells := (List.range h.ncells).map fun k => decodeCell (cellBytes bs k) }

/-! ### Header -/

/-- TB0 and TB3 count time, TB1 and TB2 follow a source (07 R214). -/
def CombHdr.timed (h : CombHdr) : Bool := h.tb == 0 || h.tb == 3

/-- PERIOD, PRESCALE, TBSRC, STALL_T, RATE_MAX and TB_OFFSET in the ranges of R214 and R220 (07); an odd
TBSRC on TB1 lies outside its range (log entry 9). -/
def CombHdr.rangesOk (h : CombHdr) (tbByte : Nat) : Bool :=
  decide (1 ≤ h.ncells ∧ h.ncells ≤ 4096) && decide (tbByte ≤ 3) &&
  (if h.tb = 2 then h.period == 65536
   else decide ((if h.tb = 1 then 4 else 2) ≤ h.period ∧ h.period ≤ 2 ^ 24)) &&
  (if h.timed then decide (1 ≤ h.prescale ∧ h.prescale ≤ 1024) else h.prescale == 0) &&
  (if h.timed then h.tbsrc == 0xFF
   else decide (h.tbsrc.toNat < 32) && (h.tb == 2 || decide (h.tbsrc.toNat % 2 = 0))) &&
  decide (h.stallact.toNat ≤ 2) &&
  (h.tb == 0 || h.tb == 2 || decide (1 ≤ h.stallT ∧ h.stallT ≤ 60000)) &&
  (if h.tb = 1 then decide (1 ≤ h.rateMax ∧ h.rateMax ≤ 1000000)
   else if h.tb = 2 then decide (1 ≤ h.rateMax ∧ h.rateMax ≤ 4259840)
   else h.rateMax == 20000000 / h.prescale) &&
  (if h.timed then h.tbOffset == 0 else decide (h.tbOffset < h.period)) &&
  h.injres.all (fun x => decide (x ≤ 400)) &&
  (if h.signed then decide (h.keyid.toNat ≤ 3) else h.keyid == 0xFF)

/-- All bytes of a part are 0. -/
def zeros (bs : List Byte) : Bool := bs.all fun b => b == 0

/-- Step 1 of R236 (07). -/
def headerOk (bs : List Byte) : Bool :=
  let h := decodeHdr bs
  decide (272 ≤ bs.length) &&
  decide (bs.length = 256 + 16 * h.ncells + if h.signed then 96 else 0) &&
  leAt bs 0 4 == 0x4243564B && leAt bs 4 2 == 1 && leAt bs 6 2 == 0x0100 &&
  decide (leAt bs 11 1 < 4) && h.rangesOk (leAt bs 10 1) &&
  zeros (slice bs 85 11) && zeros (slice bs 144 112)

/-- DIGEST of an image (07 R220). -/
def digestOf (bs : List Byte) : List Byte :=
  let h := decodeHdr bs
  Config.sha384 (slice bs 0 96 ++ slice bs 144 112 ++ slice bs 256 (16 * h.ncells))

/-- Step 2 of R236 (07). -/
def digestOk (bs : List Byte) : Bool := digestOf bs == (decodeHdr bs).digest

/-- The signature of a signed image (07 R220). -/
def signatureOf (bs : List Byte) : List Byte := slice bs (256 + 16 * (decodeHdr bs).ncells) 96

/-! ### Cells -/

/-- An action that concerns channels (07 R223). -/
def Cell.chAction (c : Cell) : Bool := decide (1 ≤ c.action.toNat ∧ c.action.toNat ≤ 0x0A)

/-- An action that may claim slices by QTY (07 R222, R223; log entry 26). -/
def Cell.sliceAction (c : Cell) : Bool :=
  c.action == 0x02 || c.action == 0x03 || c.action == 0x0E

/-- The dies that take part in a cell. -/
def Cell.dies (c : Cell) : List Grp := allGrp.filter fun g => c.group.getLsbD g.val

/-- The channels of one die that a cell covers. -/
def Cell.coveredOn (c : Cell) (g : Grp) : List Ch := c.covered.filter fun n => grpOf n = g

/-- ARG in the range of its action (07 R223, R224). -/
def Cell.argOk (c : Cell) : Bool :=
  let a := c.arg
  match c.action.toNat with
  | 0x05 => fld a 30 14 == 0 && decide (fld a 13 0 ≤ 10000)
  | 0x06 => fld a 30 24 == 0 && decide (8 ≤ fld a 23 0)
  | 0x07 => fld a 31 16 == 0 && decide (8000 ≤ fld a 15 0 ∧ fld a 15 0 ≤ 40000)
  | 0x08 => fld a 30 16 == 0 && (bit a 31 || fld a 15 0 == 0)
  | 0x0A => fld a 31 1 == 0
  | 0x0B => fld a 31 24 == 0
  | 0x0C => fld a 31 2 == 0
  | 0x0F => fld a 31 16 == 0
  | _ => a == 0

/-- Step 6 of R236 on one cell (07 R221, R222, R224); `raw` are its bytes. -/
def cellOk (h : CombHdr) (raw : List Byte) : Bool :=
  let c := decodeCell raw
  decide (c.action.toNat ≤ 0x0F) && leAt raw 3 1 / 4 % 32 == 0 && decide (leAt raw 5 1 < 16) &&
  decide (c.pos < h.period) && c.argOk && (c.sliceAction || c.qty == 0) &&
  (if c.chAction then
    c.group != 0 &&
    c.dies.all (fun g => !(c.coveredOn g).isEmpty) &&
    c.covered.all (fun n => c.group.getLsbD (grpOf n).val && bit h.sched n.val) &&
    c.dies.head? == some (grpNo c.lead.toNat)
   else c.mask == 0 && c.dies == [grpNo c.lead.toNat])

/-- The lowest index that fails a check. -/
def lowest (l : List Nat) : Option Nat :=
  l.foldl (fun b x => match b with
    | none => some x
    | some y => some (min x y)) none

/-- Step 6 over every cell: the lowest index that fails (07 R224). -/
def fieldFail (bs : List Byte) : Option Nat :=
  let h := decodeHdr bs
  (List.range h.ncells).find? fun k => !cellOk h (cellBytes bs k)

/-- The modes that an action accepts (07 R223). -/
def Cell.accepts (c : Cell) (m : ChMode) : Bool :=
  match c.action.toNat with
  | 0x01 | 0x02 => m.isAnalogue
  | 0x03 => m != .off
  | 0x04 | 0x05 | 0x06 | 0x07 => m.isSwitch
  | 0x08 => m.isAo
  | 0x09 => m == .aoISrc
  | 0x0A => m == .aiI || m == .aoISrc || m == .aoISnk
  | _ => true

/-- Whether every covered channel of a cell fits its action now (07 R224). -/
def State.cellFits (s : State) (c : Cell) : Bool :=
  c.covered.all fun n => !s.isOdd n && !(s.chan n).cfgBusy && c.accepts (s.modeOf n)

/-- Whether cell k breaks the order of the cells (07 R224). -/
def orderFail (cells : List Cell) (k : Nat) (c : Cell) : Bool :=
  let before := cells.take k
  (match before.getLast? with
   | some p => decide (c.pos < p.pos)
   | none => false) ||
  before.any fun p => p.pos == c.pos && (p.group &&& c.group) != 0

/-- Step 7 of R236: the lowest index that fails (07 R224). -/
def State.orderModeFail (s : State) (c : Comb) : Option Nat :=
  (List.range c.cells.length).find? fun k =>
    match c.cells[k]? with
    | some x => orderFail c.cells k x || !s.cellFits x
    | none => false

/-- Step 5 of R236 (07): the source is in the mode that TB needs. -/
def State.sourceFits (s : State) (c : Comb) : Bool :=
  let n := c.source
  let x := s.chan n
  if c.hdr.tb = 1 then
    n.val % 2 == 0 && s.pairOf n == .quad && x.actMode == .count && !x.cfgBusy &&
      fld x.cfg.cntCfg 21 20 == 2
  else if c.hdr.tb = 2 then x.actMode == .mainsSense && !x.cfgBusy
  else true

/-- Step 4 of R236: the features that the time base needs (07 R215). -/
def State.timeBaseFeatures (s : State) (c : Comb) : Bool :=
  if c.hdr.tb = 1 ∨ c.hdr.tb = 2 then s.feat 14
  else if c.hdr.tb = 3 then s.feat 4 && (s.isRoot || s.isNode)
  else true

/-! ### The resource contract -/

/-- One cell of a die's share with its times (07 R225, R228). Times are counted in field ticks, on TB1
and TB2 multiplied by RATE_MAX so that they are whole. -/
structure Share where
  index : Nat
  cell : Cell
  t0 : Int
  t1 : Int
  deriving DecidableEq, Repr

/-- What one field tick counts. -/
def CombHdr.tick (h : CombHdr) : Nat := if h.timed then 1 else max h.rateMax 1

/-- What one unit of the time base counts (07 R228). -/
def CombHdr.unit (h : CombHdr) : Nat := if h.timed then 4 * h.prescale else 80000000

/-- The span after which a share repeats. -/
def CombHdr.span (h : CombHdr) : Int := max ((h.period * h.unit : Nat) : Int) 1

/-- The share of a die (07 R225). -/
def Comb.share (c : Comb) (g : Grp) : List Share :=
  ((List.range c.cells.length).zip c.cells).filterMap fun p =>
    if p.2.group.getLsbD g.val then
      let t0 : Int := (p.2.pos * c.hdr.unit : Nat)
      some { index := p.1, cell := { p.2 with mask := p.2.mask &&& (0xFF#32 <<< (8 * g.val)) }
             t0 := t0, t1 := t0 + ((p.2.ticks + c.hdr.jitter) * c.hdr.tick : Nat) }
    else none

/-- a / b rounded up. -/
def ceilDiv (a b : Nat) : Nat := (a + b - 1) / b

/-- The minimum duration of a claim (07 R223), in field ticks. -/
def State.minTicks (s : State) (c : Cell) : Nat :=
  match c.action.toNat with
  | 0x01 => 16
  | 0x02 => 12 + 80 * ceilDiv c.covered.length (c.qty + 1)
  | 0x03 =>
    let n := (s.analogueOf c).length
    if n = 0 then 16 else 12 + 80 * ceilDiv n (c.qty + 1)
  | 0x04 | 0x05 | 0x08 => 20
  | 0x06 => 20 + fld c.arg 23 0
  | 0x07 => 20 + fld c.arg 15 0
  | 0x09 => 40 * c.covered.length
  | 0x0A | 0x0D => 8
  | 0x0E => 80
  | _ => 0

/-- Test 1, claim size (07 R228). -/
def State.claimFails (s : State) (sh : List Share) : List Nat :=
  (sh.filter fun x => decide (x.cell.ticks < s.minTicks x.cell)).map (·.index)

/-- Test 2, spacing (07 R228): a start within 8 ticks of the previous one, across the wrap too. -/
def spacingFails (h : CombHdr) (sh : List Share) : List Nat :=
  let gap : Int := (8 * h.tick : Nat)
  let within := (sh.zip (sh.drop 1)).filterMap fun p =>
    if p.2.t0 - p.1.t0 < gap then some p.2.index else none
  match sh.head?, sh.getLast? with
  | some a, some b => if a.t0 + h.span - b.t0 < gap then a.index :: within else within
  | _, _ => within

/-- The load on a unit at the start of a cell (07 R229). -/
def State.loadAt (s : State) (h : CombHdr) (sh : List Share) (k : Share) (u : Nat) : Nat :=
  s.useOf k.cell u + ((sh.filter fun j => j.index != k.index).map fun j =>
    let on (shift : Int) : Bool := decide (j.t0 + shift ≤ k.t0 ∧ k.t0 < j.t1 + shift)
    (if on 0 then s.useOf j.cell u else 0) + (if on (-h.span) then s.useOf j.cell u else 0)).sum

/-- Test 3, capacity (07 R228, R229). -/
def State.capacityFails (s : State) (h : CombHdr) (sh : List Share) : List Nat :=
  (sh.filter fun k => (s.uses k.cell).any fun p => decide (capacityOf p.1 < s.loadAt h sh k p.1)).map
    (·.index)

/-- Whether some copy of [b0, b1), repeated at every span, meets [a0, a1). -/
def meetsPeriodic (span a0 a1 b0 b1 : Int) : Bool := decide ((a0 - b1) / span + 1 ≤ (a1 - b0 - 1) / span)

/-- Cells that place hold instants (07 R228). -/
def Cell.holds (c : Cell) : Bool := c.action == 1 || c.action == 2 || c.action == 3

/-- Test 4, converter quiet (07 R228): both cells of an overlap fail. -/
def quietFails (h : CombHdr) (sh : List Share) : List Nat :=
  let k : Int := (h.tick : Nat)
  (sh.filter fun r => r.cell.action == 9).flatMap fun r =>
    (sh.filter fun x => x.cell.holds &&
      meetsPeriodic h.span r.t0 r.t1 (x.t0 - 32 * k) (x.t0 + 24 * k)).flatMap fun x => [r.index, x.index]

/-- The time in [0, y) that an occupancy of length d covers when it repeats at every span, as an
antiderivative that is valid for every y. -/
def coverTo (span d y : Int) : Int :=
  d / span * y + y / span * (d % span) + min (y % span) (d % span)

/-- The slice time that a share claims for others than injections in [a, b). -/
def State.claimedIn (s : State) (h : CombHdr) (sh : List Share) (a b : Int) : Int :=
  ((sh.filter fun x => x.cell.action != 0x0E).map fun x =>
    (s.slicesOf x.cell : Int) *
      (coverTo h.span (x.t1 - x.t0) (b - x.t0) - coverTo h.span (x.t1 - x.t0) (a - x.t0))).sum

/-- Test 5, injection reserve (07 R228). -/
def State.reserveFails (s : State) (h : CombHdr) (sh : List Share) (injres : Nat) : List Nat :=
  (sh.filter fun w =>
    let win : Int := (8000 * h.tick : Nat)
    decide (4 * win - s.claimedIn h sh w.t0 (w.t0 + win) < ((injres * 80 * h.tick : Nat) : Int))).map
      (·.index)

/-- Result words of a cell (07 R228). -/
def Cell.words (c : Cell) : Nat :=
  match c.action.toNat with
  | 0x02 | 0x03 => 2 * c.covered.length
  | 0x0B => 2
  | _ => 0

/-- How many copies of an instant, repeated at every span, lie in [a, b). -/
def copiesIn (span t a b : Int) : Int := (b - 1 - t) / span - (a - 1 - t) / span

/-- Result words of a share in the window of 80 000 ticks that opens at a cell. -/
def wordsIn (h : CombHdr) (sh : List Share) (a : Int) : Int :=
  (sh.map fun x =>
    (x.cell.words : Int) * copiesIn h.span x.t0 a (a + (80000 * h.tick : Nat))).sum

/-- Test 6, field link (07 R228). -/
def linkFails (h : CombHdr) (sh : List Share) : List Nat :=
  (sh.filter fun w => decide (3200 < wordsIn h sh w.t0)).map (·.index)

/-- The die limit of R27 (01): the first cell beyond 1024. -/
def limitFails (sh : List Share) : List Nat := (((sh.drop 1024).head?).map (·.index)).toList

/-- The interval of R191 (06) on one AO_I_SRC channel of TB0 or TB3: 100 µs between RAIL cells, across
the wrap too. -/
def railFails (h : CombHdr) (sh : List Share) (n : Ch) : List Nat :=
  let mine := sh.filter fun x => bit x.cell.mask n.val
  let rails := mine.filter fun x => x.cell.action == 9
  match mine.head?, rails.head?, rails.getLast? with
  | none, _, _ => [noIndex]
  | some c, none, _ => [c.index]
  | some _, some a, some b =>
    let within := (rails.zip (rails.drop 1)).filterMap fun p =>
      if 8000 < p.2.t0 - p.1.t0 then some p.2.index else none
    if 8000 < a.t0 + h.span - b.t0 then a.index :: within else within
  | some _, some a, none => [a.index]

/-- Test 7, die limits and rails (07 R228). -/
def State.dieFails (s : State) (c : Comb) (g : Grp) (sh : List Share) : List Nat :=
  limitFails sh ++
  if c.hdr.timed then
    ((chOf g).filter fun n => bit c.hdr.sched n.val && s.modeOf n == .aoISrc).flatMap
      (railFails c.hdr sh)
  else []

/-- LINKW and SLICE_PM of a share (07 R228). -/
def linkWords (h : CombHdr) (sh : List Share) : Int := (sh.map fun w => wordsIn h sh w.t0).foldl max 0

def State.slicePm (s : State) (h : CombHdr) (sh : List Share) : Nat :=
  let sum := (sh.map fun x => s.slicesOf x.cell * x.cell.ticks * h.tick).sum
  1000 * sum / (4 * h.span.toNat)

/-- Test 8, budget (07 R228). -/
def State.budgetFails (s : State) (c : Comb) (g : Grp) (sh : List Share) : List Nat :=
  match c.hdr.budget[g.val]? with
  | some b =>
    if sh.length = b.1 ∧ linkWords c.hdr sh = b.2.1 ∧ s.slicePm c.hdr sh = b.2.2.1 then [] else [noIndex]
  | none => []

/-- Step 8 of R236: the lowest index that fails (07 R228). -/
def State.contractFail (s : State) (c : Comb) : Option Nat :=
  lowest (allGrp.flatMap fun g =>
    let sh := c.share g
    s.claimFails sh ++ spacingFails c.hdr sh ++ s.capacityFails c.hdr sh ++ quietFails c.hdr sh ++
    s.reserveFails c.hdr sh ((c.hdr.injres[g.val]?).getD 0) ++ linkFails c.hdr sh ++
    s.dieFails c g sh ++ s.budgetFails c g sh)

/-- The least JITTER (07 R229). -/
def CombHdr.jitterOk (h : CombHdr) : Bool :=
  decide ((if h.tb = 0 then 2 else if h.tb = 3 then 8 else 4) ≤ h.jitter)

end Sys2Proof.Machine
end

