-- ==== Sys2Proof/Machine/CombLoad.lean ====
section
/-! DEFINITION. Loading, verifying, persisting and exchanging combs (07 R235 to R241), owner
authorisations (14 R429, R432), and the entry to RUN (07 R239, R244, 13 R402, R412). -/

namespace Sys2Proof.Machine

/-! ### Owner authorisations -/

/-- An owner signature fails (14 R432, R452): counted, LOCKOUT at the eighth in a row, EV116. -/
def State.authFailure (s : State) (keyid code opcode : Nat) : State :=
  let n := s.sec.consec + 1
  let s1 : State := { s with
    sec.authFail := satInc s.sec.authFail
    sec.consec := min n 8
    sec.lockout := s.sec.lockout || decide (8 ≤ n)
    sec.lockedAt := if s.sec.lockout then s.sec.lockedAt else s.pw.opsec }
  s1.raise 116 keyid code s1.secStatW (BitVec.ofNat 32 opcode) 0

/-- An owner signature verifies (14 R432). -/
def State.authSuccess (s : State) : State := { s with sec.consec := 0 }

/-- The owner key of a slot, when it has a permission (14 R429). -/
def State.ownerWith (s : State) (slot : Nat) (perm : BitVec 4) : Option Owner :=
  if slot < 4 then
    match s.sec.owners[slot % 4]'(Nat.mod_lt _ (by decide)) with
    | some k => if k.perm &&& perm = perm then some k else none
    | none => none
  else none

/-- Whether an owner key with a permission signed a digest (14 R426 to R429). -/
def State.ownerSigned (s : State) (slot : Nat) (perm : BitVec 4) (digest sig : List Byte) : Bool :=
  match s.ownerWith slot perm with
  | some k => Config.ecdsaOk k.key digest sig
  | none => false

/-! ### Verification -/

/-- Step 3 of R236 (07 R237, 14 R429). -/
def State.signatureFits (s : State) (bs : List Byte) : Bool :=
  let h := decodeHdr bs
  if h.signed then s.ownerSigned h.keyid.toNat 4 h.digest (signatureOf bs) else !s.feat 3

/-- Verification in the order of R236 (07): none when every check passes, else status, REASON and
INDEX. -/
def State.verifyComb (s : State) (bs : List Byte) : Option (Status × BitVec 4 × BitVec 13) :=
  let c := decodeComb bs
  let fail (st : Status) (r i : Nat) := some (st, BitVec.ofNat 4 r, BitVec.ofNat 13 i)
  if !headerOk bs then fail .range 1 noIndex
  else if !digestOk bs then fail .range 2 noIndex
  else if !s.signatureFits bs then fail .denied 3 noIndex
  else if !s.timeBaseFeatures c then fail .notNegotiated 4 noIndex
  else if !s.sourceFits c then fail .conflict 5 noIndex
  else match fieldFail bs with
    | some k => fail .range 6 k
    | none =>
      match s.orderModeFail c with
      | some k => fail .conflict 7 k
      | none =>
        if !c.hdr.jitterOk then fail .range 8 noIndex
        else match s.contractFail c with
          | some k => fail .conflict 8 k
          | none => none

/-- What a rejected image raises (07 R235, R237): EV116 for a failed signature, and EV92. -/
def State.noteRejected (s : State) (bs : List Byte) (reason : BitVec 4) (index : BitVec 13) : State :=
  let h := decodeHdr bs
  let s1 :=
    if reason = 3 then
      if h.signed then s.authFailure h.keyid.toNat 3 0x12 else s
    else if 3 < reason.toNat && h.signed then s.authSuccess
    else s
  s1.raise 92 index.toNat reason.toNat s1.combLoadW 0 0

/-! ### Loading -/

/-- The image received so far in the inactive bank. -/
def CombState.loading (c : CombState) : List Byte := c.bankOf (!c.actBank)

def combLoadBeginSpec : CmdSpec := { op := 0x10, mb0 := false, mb1 := true, lenOk := exactly 1 }

/-- COMB_LOAD_BEGIN (07 R235). -/
def combLoadBeginBody : Body := fun _ _ ws s =>
  let len := (wAt ws 0).toNat
  checked (failIf (decide (len < 272 ∨ 65888 < len)) .range ++
           failIf (s.comb.lstate == .verifying || s.comb.armed.isSome) .busy) s
    ({ s with comb := { s.comb.setBank (!s.comb.actBank) [] with
        lstate := .receiving, reason := 0, index := 0, rxLen := len, next := none, persist := false } },
     .ok)

def execCombLoadBegin (c : Cmd) (s : State) : Out := .next (s.hostCmd combLoadBeginSpec combLoadBeginBody c)

/-- The LEN of a command that carries offset, count and bytes (11 R342). -/
def dataLen : BitVec 24 → List Word → Bool := fun _ ws =>
  decide (2 ≤ ws.length) && ws.length == 2 + wordsFor (wAt ws 1).toNat

def combLoadDataSpec : CmdSpec := { op := 0x11, mb0 := false, mb1 := true, lenOk := dataLen }

/-- The bytes that a data command carries (11 R338). -/
def dataBytes (ws : List Word) : List Byte := (wordsBytes (ws.drop 2)).take (wAt ws 1).toNat

/-- COMB_LOAD_DATA (07 R235). -/
def combLoadDataBody : Body := fun _ _ ws s =>
  let off := (wAt ws 0).toNat
  let n := (wAt ws 1).toNat
  let got := s.comb.loading
  let idle := s.comb.lstate == .empty || s.comb.lstate == .valid || s.comb.lstate == .rejected
  checked (failIf idle .wrongState ++
           failIf (outside n 1 4088) .range ++
           failIf (s.comb.lstate == .receiving &&
             decide (off ≠ got.length ∨ s.comb.rxLen < off + n)) .range ++
           failIf (s.comb.lstate == .verifying) .busy) s
    (let all := got ++ dataBytes ws
     ({ s with comb := s.comb.setBank (!s.comb.actBank) all }, .now .ok 0 [BitVec.ofNat 32 all.length]))

def execCombLoadData (c : Cmd) (s : State) : Out := .next (s.hostCmd combLoadDataSpec combLoadDataBody c)

def combCommitSpec : CmdSpec := { op := 0x12, mb0 := false, mb1 := true }

/-- The key of a COMB_COMMIT in progress (11 R335). -/
def commitKey : Nat := 100

/-- COMB_COMMIT (07 R235, R236): the checks are made on the state at commit, and answered when the
verification is complete. -/
def combCommitBody : Body := fun _ args _ s =>
  let c := s.comb
  let idle := c.lstate == .empty || c.lstate == .valid || c.lstate == .rejected
  checked (failIf (c.lstate == .receiving && decide (c.loading.length < c.rxLen)) .badLength ++
           failIf idle .wrongState ++ failIf (c.lstate == .verifying) .busy) s
    ({ s with comb := { c with
        lstate := .verifying, persist := arg args 0 0 == 1, verdict := s.verifyComb c.loading } },
     .later commitKey)

def execCombCommit (c : Cmd) (s : State) : Out := .next (s.hostCmd combCommitSpec combCommitBody c)

/-- The verified image is written into the comb store half of its bank (07 R239). -/
def CombState.persistImage (c : CombState) : CombState :=
  if !c.persist then c
  else if c.actBank then { c with store0 := some c.loading } else { c with store1 := some c.loading }

/-- COMB_VERIFY_COMPLETE (07 R235, R236, R239). -/
def execCombVerifyComplete (s : State) : Out :=
  let c := s.comb
  if c.lstate != .verifying || !s.hostUp then .next s
  else
    match c.verdict with
    | some (st, reason, index) =>
      let s1 : State := { s with comb := { c with
        lstate := .rejected, reason := reason, index := index, verdict := none } }
      .next ((s1.noteRejected c.loading reason index).complete commitKey st 0 [])
    | none =>
      let s1 : State := { s with comb := { c.persistImage with
        lstate := .valid, reason := 0, index := 0, next := some (decodeComb c.loading) } }
      let s2 := if (decodeHdr c.loading).signed then s1.authSuccess else s1
      .next (s2.complete commitKey .ok 0 [])

/-! ### Exchange -/

def combSwapSpec : CmdSpec := { op := 0x13, service := false }

/-- COMB_SWAP (07 R240). -/
def combSwapBody : Body := fun _ args _ s =>
  let answer (t : State) : State × Ans := (t, .now .ok 0 [t.combStatW])
  match arg args 1 0 with
  | 0 =>
    let fits := match s.comb.next with
      | some c => s.sourceFits c && (s.orderModeFail c).isNone
      | none => false
    checked (failIf (s.comb.lstate != .valid) .wrongState ++ failIf (!fits) .conflict) s
      (answer { s with comb.armed := some true, comb.wrapDue := false })
  | 1 => answer { s with comb.armed := none, comb.wrapDue := false }
  | 2 => answer { s with comb.armed := some false, comb.wrapDue := false }
  | _ => (s, .fail .range)

def execCombSwapArm (c : Cmd) (s : State) : Out :=
  .next (s.hostCmd combSwapSpec combSwapBody { c with args := rowArg c.args 1 0 0 2 })

def execCombSwapCancel (c : Cmd) (s : State) : Out :=
  .next (s.hostCmd combSwapSpec combSwapBody { c with args := rowArg c.args 1 0 1 2 })

def execCombSwapStop (c : Cmd) (s : State) : Out :=
  .next (s.hostCmd combSwapSpec combSwapBody { c with args := rowArg c.args 1 0 2 2 })

/-! ### Entry to RUN and to STANDBY -/

/-- The stored comb enters at the first entry to RUN after a reset (07 R239): the marked half is verified
again and becomes the active bank; an image loaded meanwhile stays the inactive one (log entry 27). -/
def State.enterStored (s : State) : State :=
  if !s.comb.firstRun || s.comb.active.isSome then s
  else
    match s.comb.mark with
    | none => s
    | some b =>
      match s.comb.storeOf b with
      | none => s
      | some bs =>
        match s.verifyComb bs with
        | some (_, reason, index) => s.noteRejected bs reason index
        | none =>
          let c := s.comb
          { s with comb := { (c.setBank (!b) (if b = c.actBank then c.bankOf (!b) else c.bankOf b)).setBank b bs
              with active := some (decodeComb bs), actBank := b } }

/-- The configuration of every channel. -/
def State.config (s : State) : Vector ChCfg 32 :=
  allCh.foldl (fun v n => v.set n.val (s.chan n).cfg) (Vector.replicate 32 .reset)

/-- Enter RUN for a cause (13 R402, R412, 07 R239, R244): the comb starts unless it ran on in SAFE, the
host-silence timer starts a full period, the configuration is stored; an injection or a free conversion that
waits on a channel now scheduled is dropped (04 R157). -/
def State.enterRun (s : State) (cause : Nat) : State :=
  let s1 := s.enterStored
  let s2 : State := { s1 with
    comb.firstRun := false, wd.hsLast := s1.time, pw.stored := some s1.config }
  let s3 := ((if s2.comb.started then s2 else s2.startComb).countGen s).enterMode .run cause
  s3.each allCh fun t n => if t.schedNow n then t.takeUnderComb n else t

/-- Outputs of every channel go off and pending commands are discarded (13 R402); a channel that the
guard holds stays held. -/
def State.allOutputsOff (s : State) : State :=
  s.each allCh fun t n =>
    if (t.chan n).guard.held then t.modCh n fun c => { c with pend := none } else t.outputsOff n

end Sys2Proof.Machine
end

