-- ==== Sys2Proof/Machine/ObjCmds.lean ====
section
/-! DEFINITION. First contact, the object commands, mode and latency commands, event commands
(11 R342 to R360, 13 R402, R403, R413), and the rows that are writes of one object. -/

namespace Sys2Proof.Machine

/-! ### HELLO and FEAT_ACCEPT -/

/-- The words of a list of objects. -/
def State.objects (s : State) (l : List Nat) : List Word := l.map fun i => (s.readObj i).getD 0

def helloSpec : CmdSpec := { op := 0x01, pre := fun _ => true }

/-- HELLO (11 R342, R348). -/
def helloBody : Body := fun _ _ _ s =>
  (s, .now .ok 0 (s.objects [0x00, 0x01, 0x10, 0x11, 0x12, 0x13, 0x04, 0x05, 0x06, 0x07]))

def execHello (c : Cmd) (s : State) : Out := .next (s.hostCmd helloSpec helloBody c)

/-- The running slot, and a slot replaced (14 R435). -/
def State.slot (s : State) (b : Bool) : Slot := if b then s.sec.slotB else s.sec.slotA

def State.setSlot (s : State) (b : Bool) (x : Slot) : State :=
  if b then { s with sec.slotB := x } else { s with sec.slotA := x }

/-- EV113 (14 R452). -/
def State.raiseFw (s : State) (code : Nat) : State :=
  s.raise 113 s.sec.activeB.toNat code s.secFwslotW s.sec.fwver s.secSvnW

/-- The running image is confirmed (14 R438, R442): TRIAL clears and COUNTER rises to its SVN. -/
def State.confirmImage (s : State) : State :=
  if s.sec.trial && !s.sec.recovery then
    let svn := (s.slot s.sec.runB).svn.toNat
    State.raiseFw { s with
      sec.trial := false
      sec.counter := BitVec.ofNat 7 (max s.sec.counter.toNat svn) } 2
  else s

/-- Whether a configuration in force needs a feature outside a set (11 R350). -/
def State.needsMore (s : State) (set : Word) : Bool :=
  allCh.any (fun n =>
    let c := (s.chan n).cfg
    (c.mode == .diNamur && !bit set 13) || (c.mode == .aiTc && !bit set 15) ||
    (bit c.hart 31 && !bit set 1) || (bit c.outCfg 25 && !bit set 12)) ||
  match s.comb.active with
  | some c => ((c.hdr.tb == 1 || c.hdr.tb == 2) && !bit set 14) || (c.hdr.tb == 3 && !bit set 4)
  | none => false

/-- An internal fault of a known cause, its words left open (11 R361; log entry 5). -/
def State.faultOf (s : State) (code : Nat) : State :=
  let s1 := s.tookFree
  let s2 := s1.tookFree
  s2.tookFree.internalFault code s.freeWord s1.freeWord s2.freeWord

/-- The set is locked (11 R348, R350, 10 R310, 05 R178): EV126 is acknowledged, the stream credit is 0,
RCK_EN falls without feature 2; the events that wait for the end of negotiation are raised (01 R24, 10 R307). -/
def State.acceptFeatures (s : State) (set : Word) : State :=
  let e := s.ev.src[126]
  let s1 : State := { s with
    sec.acc := set, pw.neg := true, res.credit := 0
    ev.src := s.ev.src.set 126 { e with pending := false, undel := false }
    port.rckEn := s.port.rckEn && bit set 2 }
  let s2 := s1.confirmImage
  let s3 := if s2.needsMore set then s2.faultOf 0x10 else s2
  let s4 := s3.each s3.sec.pendingEvents fun t e =>
    if e.1 = 127 then t.faultOf e.2.2.toNat
    else t.raise e.1 e.2.1.toNat e.2.2.toNat t.hpStatW 0 0
  { s4 with sec.pendingEvents := [] }

def featAcceptSpec : CmdSpec :=
  { op := 0x02, lenOk := exactly 4, pre := fun _ => true, standby := false, run := false, safe := false
    service := false, swarm := false }

/-- FEAT_ACCEPT (11 R348). -/
def featAcceptBody : Body := fun _ _ ws s =>
  let set := wAt ws 0
  checked (failIf (set &&& ~~~s.sec.offer != 0 || wAt ws 1 != 0 || wAt ws 2 != 0 || wAt ws 3 != 0) .range ++
           failIf (bit set 0 && (bit set 8 || bit set 3)) .range) s
    (s.acceptFeatures set, .now .ok 0 [set, 0, 0, 0])

def execFeatAccept (c : Cmd) (s : State) : Out := .next (s.hostCmd featAcceptSpec featAcceptBody c)

/-! ### Reading objects -/

/-- The index that a command names. -/
def objIndex (args : BitVec 24) : Nat := arg args 15 0

/-- Word 2 of GET_OBJ (10 R333, 11 R342). -/
def State.pairWord (s : State) (shadow : Bool) : Word :=
  pk [(shadow.toNat, 16), (s.port.stLgen.toNat, 8), (s.port.stGen.toNat, 0)]

/-- A read that covers the low half latches the high half of its copy (10 R332, R333). -/
def State.latchSt (s : State) : State :=
  { s with port.stShadow := s.readObj 0xD09, port.stLgen := s.port.stGen }

def getObjSpec : CmdSpec := { op := 0x03, pre := fun a => decide (objIndex a < 0x100) }

/-- GET_OBJ (11 R342, R352, 10 R333). -/
def getObjBody : Body := fun _ args _ s =>
  let i := objIndex args
  match s.readObj i with
  | none => (s, .fail .range)
  | some v =>
    if i = 0xD08 then
      let t := s.latchSt
      (t, .now .ok 0 [v, t.pairWord false])
    else if i = 0xD09 then
      match s.port.stShadow with
      | some h => ({ s with port.stShadow := none }, .now .ok 0 [h, s.pairWord true])
      | none => (s, .now .ok 0 [v, s.pairWord false])
    else (s, .now .ok 0 [v, 0])

def execGetObj (c : Cmd) (s : State) : Out := .next (s.hostCmd getObjSpec getObjBody c)

/-- The six words of an event record (11 R358). -/
def eventWords (e : EvRecord) : List Word :=
  [pk [(e.source.toNat, 24), (e.nocomb.toNat, 23), (e.subject.toNat, 0)],
   pk [(e.code.toNat, 16), (e.raises.toNat, 0)], e.stamp, e.p0, e.p1, e.p2]

/-- The words of a relayed record (12 R381). -/
def relayedWords (r : Addr × EvRecord) : List Word := r.1.setWidth 32 :: eventWords r.2

def getObjBlockSpec : CmdSpec :=
  { op := 0x05, mb1 := true, lenOk := exactly 1, pre := fun a => decide (objIndex a < 0x100) }

/-- GET_OBJ_BLOCK of a plain range (11 R345, 10 R333). -/
def State.readBlock (s : State) (i n : Nat) : State × List Word :=
  let l := (List.range n).map (i + ·)
  let lo := decide (i ≤ 0xD08 ∧ 0xD08 < i + n)
  let hi := decide (i ≤ 0xD09 ∧ 0xD09 < i + n)
  let ws := s.objects l
  if lo then (s.latchSt, ws)
  else if hi then
    match s.port.stShadow with
    | some h => ({ s with port.stShadow := none }, ws.set (0xD09 - i) h)
    | none => (s, ws)
  else (s, ws)

/-- GET_OBJ_BLOCK (11 R345, 05 R177, 12 R381): from RES_FIFO and SW_REVQ it takes whole entries. -/
def getObjBlockBody : Body := fun _ args ws s =>
  let i := objIndex args
  let n := (wAt ws 0).toNat
  let inRange := match rangeEnd i with
    | some e => decide (i + n ≤ e)
    | none => false
  if i = 0xD0C && !s.feat 4 then (s, .fail .notNegotiated)
  else if outside n 1 1024 then (s, .fail .range)
  else if i = 0x95A then
    let p := s.res.poll
    let t : State := { s with res.poll := p.rest n }
    (t.afterTake false, .now .ok 0 (entryWords (p.head n)))
  else if i = 0xD0C then
    let k := n / 7
    ({ s with sw.revq := s.sw.revq.drop k }, .now .ok 0 ((s.sw.revq.take k).flatMap relayedWords))
  else if !inRange then (s, .fail .range)
  else
    let (t, vs) := s.readBlock i n
    (t, .now .ok 0 vs)

def execGetObjBlock (c : Cmd) (s : State) : Out := .next (s.hostCmd getObjBlockSpec getObjBlockBody c)

/-! ### Writing objects -/

/-- The configuration of n with one word written; the PAIRFN of an odd channel is read-only (02 R34). -/
def State.withWordOf (s : State) (n : Ch) (off : Nat) (w : Word) : ChCfg :=
  let c := (s.chan n).cfg
  let t := c.withWord off w
  if n.val % 2 = 1 then { t with pairFn := c.pairFn } else t

/-- Refusals of every write to a channel (01 R29, 02 R41, 13 R410). -/
def State.channelBusy (s : State) (n : Ch) : List Status :=
  let g := grpOf n
  failIf (s.failedCh n) .denied ++ failIf (s.chan n).cfgBusy .busy ++
  failIf (!s.dieUp g || (s.group g).link.silent) .busy

/-- SET_OBJ of a channel object (02 R37, R38, R41, R43, 11 R344, R352). -/
def State.writeCh (s : State) (n : Ch) (off : Nat) (w : Word) : Except Status State :=
  let c := (s.chan n).cfg
  let t := s.withWordOf n off w
  let busy := s.channelBusy n
  if s.isOdd n then judge busy s
  else if off = 0 then
    judge (s.wordChecks n t 0 w ++
      failIf (t.mode != c.mode || t.pairFn != c.pairFn || t.loopMate != c.loopMate) .denied ++ busy) s
  else if off = 3 then judge busy (s.clearFaults n w)
  else if chMask off = 0 then judge busy s
  else judge (s.wordChecks n t off w ++ s.leaveChecks n t ++ busy) (s.putWords n [(off, w)])

/-- SET_OBJ of any object (11 R352). -/
def State.setObject (s : State) (snd : Sender) (i : Nat) (w : Word) : Except Status State :=
  if 0x400 ≤ i ∧ i < 0x800 then s.writeCh (chNo ((i - 0x400) / 32)) (i % 32) w else s.writeObj snd i w

def setObjSpec : CmdSpec := { op := 0x04, lenOk := exactly 1 }

/-- SET_OBJ (11 R342, R352). -/
def setObjBody : Body := fun snd args ws s =>
  let i := objIndex args
  match s.setObject snd i (wAt ws 0) with
  | .error st => (s, .fail st)
  | .ok t => (t, .now .ok 0 (t.objects [i]))

def execSetObj (c : Cmd) (s : State) : Out := .next (s.hostCmd setObjSpec setObjBody c)

/-- A row that is the write of one object. -/
def State.hostWrite (s : State) (f : Frame) (i : Nat) (w : Word) : State :=
  s.hostCmd setObjSpec setObjBody { frame := f, args := BitVec.ofNat 24 i, words := [w] }

/-- The index of an object of channel n. -/
def chIndex (n : Ch) (off : Nat) : Nat := 0x400 + 0x20 * n.val + off

/-- LOCKOUT_CLEAR (03 R105). -/
def execLockoutClear (f : Frame) (ch : Ch) (rest : Word) (s : State) : Out :=
  .next (s.hostWrite f (chIndex ch 0x03) (putBit rest 31 true))

/-- ITRIP_CLEAR (04 R148). -/
def execItripClear (f : Frame) (ch : Ch) (rest : Word) (s : State) : Out :=
  .next (s.hostWrite f (chIndex ch 0x03) (putBit rest 31 true))

/-- MISWIRE_RETEST (06 R197). -/
def execMiswireRetest (f : Frame) (ch : Ch) (rest : Word) (s : State) : Out :=
  .next (s.hostWrite f (chIndex ch 0x03) (putBit rest 29 true))

/-- RELEARN (03 R113). -/
def execRelearn (f : Frame) (ch : Ch) (rest : Word) (s : State) : Out :=
  .next (s.hostWrite f (chIndex ch 0x16) (putBit rest 30 true))

/-- WG_EN_ARM (08 R275, R276). -/
def execWgEnArm (f : Frame) (period : BitVec 14) (s : State) : Out :=
  .next (s.hostWrite f 0xB03 (putBit (period.setWidth 32) 31 true))

/-- REFSEL_WRITE (04 R139). -/
def execRefselWrite (f : Frame) (g : Grp) (sel : BitVec 2) (s : State) : Out :=
  .next (s.hostWrite f (0x900 + 0x10 * g.val) (sel.setWidth 32))

/-- AI_FILTER_WRITE (04 R156). -/
def execAiFilterWrite (f : Frame) (ch : Ch) (filt : Bool) (w : Word) (s : State) : Out :=
  .next (s.hostWrite f (chIndex ch (if filt then 0x18 else 0x17)) w)

/-- RCK_EN_WRITE (10 R310). -/
def execRckEnWrite (f : Frame) (en : Bool) (s : State) : Out :=
  .next (s.hostWrite f 0x200 (putBit 0 31 en))

/-- WATCHDOG_PERIOD_WRITE (08 R284). -/
def execWatchdogPeriodWrite (f : Frame) (waggle : Bool) (w : Word) (s : State) : Out :=
  .next (s.hostWrite f (if waggle then 0xB03 else 0xB02) w)

/-- TASK_ENABLE (08 R280). -/
def execTaskEnable (f : Frame) (w : Word) (s : State) : Out := .next (s.hostWrite f 0xB10 w)

/-- CH_SAFE_WRITE (08 R256). -/
def execChSafeWrite (f : Frame) (ch : Ch) (val : Bool) (w : Word) (s : State) : Out :=
  .next (s.hostWrite f (chIndex ch (if val then 0x1F else 0x1E)) w)

/-! ### Mode and latency -/

def setModeSpec : CmdSpec := { op := 0x06 }

/-- SET_MODE (13 R402, R403). -/
def setModeBody : Body := fun _ args _ s =>
  let t := arg args 2 0
  if t ≠ 2 ∧ t ≠ 3 ∧ t ≠ 6 then (s, .fail .range)
  else if t = s.pw.mode.code then (s, .ok)
  else
    match s.pw.mode, t with
    | .standby, 3 => if s.anyHeld then (s.enterMode .safe 6, .ok) else (s.enterRun 2, .ok)
    | .standby, 6 => (({ s with port.heardAt := s.time } : State).enterMode .service 2, .ok)
    | .run, 2 => (s.allOutputsOff.stopComb.enterMode .standby 2, .ok)
    | .safe, 2 =>
      (State.enterMode { s.stopComb with safe.cause := if s.anyHeld then s.safe.cause else 0 } .standby 2, .ok)
    | .service, 2 => (s.allOutputsOff.stopComb.enterMode .standby 2, .ok)
    | _, _ => (s, .fail .wrongState)

def execSetMode (c : Cmd) (s : State) : Out := .next (s.hostCmd setModeSpec setModeBody c)

def latencyTolSpec : CmdSpec := { op := 0x40, lenOk := exactly 2 }

/-- LATENCY_TOL (13 R413, R425). -/
def latencyTolBody : Body := fun _ _ ws s =>
  let old := chosenState s.pw.rtol s.pw.ctol
  let new := chosenState (wAt ws 0) (wAt ws 1)
  let s1 := State.settleDstate { s with pw.rtol := wAt ws 0, pw.ctol := wAt ws 1 }
  let code := new.code + 1 + if bit s.pw.cfg 29 then reportOnly else 0
  let s2 := if new = old then s1 else s1.raise 121 0 code s1.pw.rtol s1.pw.ctol s1.modeStatW
  (s2, .now .ok 0 [BitVec.ofNat 32 new.code])

def execLatencyTol (c : Cmd) (s : State) : Out := .next (s.hostCmd latencyTolSpec latencyTolBody c)

/-! ### Events -/

/-- Change every event source. -/
def Events.mapSrc (e : Events) (f : Nat → EvState → EvState) : Vector EvState 128 :=
  ((List.range 128).map srcNo).foldl (fun v k => v.set k.val (f k.val v[k.val])) e.src

/-- Four words as one mask. -/
def mask128 (ws : List Word) : BitVec 128 :=
  (wAt ws 0).setWidth 128 ||| ((wAt ws 1).setWidth 128 <<< 32) ||| ((wAt ws 2).setWidth 128 <<< 64) |||
    ((wAt ws 3).setWidth 128 <<< 96)

def evtAckSpec : CmdSpec := { op := 0x0A, lenOk := exactly 4 }

/-- Acknowledge the named sources that were delivered (11 R359, R360); EV126 only through FEAT_ACCEPT. -/
def State.ackEvents (s : State) (m : BitVec 128) : State :=
  { s with ev.src := s.ev.mapSrc fun k e =>
      if m.getLsbD k && e.pending && !e.undel && k != 126 then { e with pending := false } else e }

/-- Mark every pending enabled source undelivered (11 R359). -/
def State.redeliver (s : State) : State :=
  { s with ev.src := s.ev.mapSrc fun k e =>
      if e.pending && s.ev.en.getLsbD k then { e with undel := true } else e }

/-- EVT_ACK (11 R342, R359). -/
def evtAckBody : Body := fun _ args ws s =>
  let t := if arg args 0 0 = 1 then s.redeliver else s.ackEvents (mask128 ws)
  (t, .now .ok 0 [t.evtPendW 0, t.evtPendW 1, t.evtPendW 2, t.evtPendW 3])

def execEvtAck (c : Cmd) (s : State) : Out :=
  .next (s.hostCmd evtAckSpec evtAckBody { c with args := withArg c.args 0 0 0 })

def execEvtRedeliver (c : Cmd) (s : State) : Out :=
  .next (s.hostCmd evtAckSpec evtAckBody { c with args := withArg c.args 0 0 1 })

def evtMaskSpec : CmdSpec := { op := 0x0B, lenOk := exactly 4 }

/-- EVT_MASK (11 R342, R360). -/
def evtMaskBody : Body := fun _ _ ws s =>
  let t := s.setEnables (mask128 ws)
  (t, .now .ok 0 [t.evtEnW 0, t.evtEnW 1, t.evtEnW 2, t.evtEnW 3])

def execEvtMask (c : Cmd) (s : State) : Out := .next (s.hostCmd evtMaskSpec evtMaskBody c)

end Sys2Proof.Machine
end

