-- ==== Sys2Proof/Machine/ChanCmds.lean ====
section
/-! DEFINITION. The commands that name channels: CH_CONFIG with the mode change that follows,
OUT_WRITE, AO_WRITE, HART_SEND, HART_RECV (02 R33 to R44, 03 R82, 06 R188, R208, R211, 07 R231 to
R233, 11 R343, R344). -/

namespace Sys2Proof.Machine

/-- A failing status of a command that names channels: DETAIL is the lowest failing channel, and the
unknown time for BUSY (11 R340). -/
def channelDetail (st : Status) (n : Nat) : Nat :=
  match st with
  | .ok => 0
  | .busy => 0x1FFF
  | _ => n

/-! ### CH_CONFIG: checks -/

/-- The channel that a LOOPMATE names (02 R34, R44): none outside the group. -/
def mateNamed (n : Ch) (m : BitVec 2) : Option Ch :=
  let k := if m = 1 then n.val - 1 else n.val + 1
  if m = 1 ∧ n.val % 8 = 0 then none
  else if m = 2 ∧ n.val % 8 = 7 then none
  else if m = 1 ∨ m = 2 then some (chNo k)
  else none

/-- Whether a LOOP_PWR neighbour names n (02 R39). -/
def State.namedByMate (s : State) (n : Ch) : Bool :=
  (chOf (grpOf n)).any fun k =>
    (s.chan k).cfg.mode == .loopPwr && mateNamed k (s.chan k).cfg.loopMate == some n

/-- The refusals of a mode change (02 R39). -/
def State.modeRefusals (s : State) (n : Ch) : List Status :=
  failIf (s.scheduled n || s.armedSchedules n) .conflict ++
  failIf ((s.chan n).guard.held || (s.chan n).out.ps == .lockedOff || s.failedCh n ||
    s.namedByMate n || s.indexesPair n) .denied

/-- The modes of a pair function (02 R42). -/
def pairFits (p : PairFn) (m : ChMode) : Bool :=
  match p with
  | .none => true
  | .quad => m == .count
  | .rtd3 | .rtd4 => m == .aiRes
  | .diff => m == .aiV
  | .parallel => m.isSwitch

/-- The mode that the odd channel takes with the even channel's new configuration (02 R42, R43): OFF when
the pair is dissolved, none when it stays as it is. -/
def State.oddTarget (s : State) (n : Ch) (t : ChCfg) : Option ChMode :=
  let c := (s.chan n).cfg
  if n.val % 2 = 1 then none
  else if t.pairFn = .none then if c.pairFn = .none then none else some .off
  else some t.mode

/-- The checks on the odd channel of a pair that is declared, kept or dissolved (02 R39, R42, R43). -/
def State.oddChecks (s : State) (n : Ch) (t : ChCfg) : List Status :=
  let c := (s.chan n).cfg
  let o := mateOf n
  let om := (s.chan o).cfg.mode
  match s.oddTarget n t with
  | none => []
  | some .off =>
    failIf (s.scheduled o || s.armedSchedules o) .conflict ++
    failIf ((s.chan o).guard.held || (s.chan o).out.ps == .lockedOff) .denied ++
    failIf (s.chan o).cfgBusy .busy
  | some m =>
    if t.mode = c.mode ∧ t.pairFn = c.pairFn then []
    else
      failIf (!pairFits t.pairFn m) .range ++
      failIf (om != .off && om != m) .range ++
      failIf (s.namedByMate o || (om == .loopPwr && (s.chan o).cfg.loopMate != 0)) .range ++
      failIf (s.scheduled o || s.armedSchedules o) .conflict ++
      failIf (s.chan o).cfgBusy .busy

/-- LOOPMATE (02 R44). -/
def State.mateChecks (s : State) (n : Ch) (t : ChCfg) : List Status :=
  if t.loopMate = 0 then []
  else if t.mode != .loopPwr then [.range]
  else match mateNamed n t.loopMate with
    | none => [.range]
    | some m => failIf ((s.chan m).cfg.mode != .aiI || s.pairOf m != .none) .range

/-- The features that a mode needs, whenever a CH_CONFIG selects it (02 R33). -/
def State.modeFeature (s : State) (m : ChMode) (l : List (Nat × Word)) : List Status :=
  failIf ((l.any fun p => p.1 == 0) && ((m == .diNamur && !s.feat 13) || (m == .aiTc && !s.feat 15)))
    .notNegotiated

/-- The configuration that a CH_CONFIG would leave (11 R344, 08 R255): an entry not carried returns to
its reset values when the mode changes. -/
def State.configLeft (s : State) (n : Ch) (l : List (Nat × Word)) : ChCfg :=
  let c := (s.chan n).cfg
  let t0 := c.withWords l
  let t := if n.val % 2 = 1 then { t0 with pairFn := c.pairFn } else t0
  if t.mode = c.mode then t
  else { t with
    safe := if l.any (fun p => p.1 == 0x1E) then t.safe else 0
    safeVal := if l.any (fun p => p.1 == 0x1F) then t.safeVal else 0 }

/-- Every check of a CH_CONFIG on a channel that is no odd pair member (02 R33, R39, R41, R42, R44,
07 R216, 11 R344). -/
def State.configChecks (s : State) (n : Ch) (l : List (Nat × Word)) : List Status :=
  let c := (s.chan n).cfg
  let t := s.configLeft n l
  let modeCh := t.mode != c.mode
  let pairCh := t.pairFn != c.pairFn
  let any := modeCh || pairCh || t.loopMate != c.loopMate
  let g := grpOf n
  (l.flatMap fun p => s.wordChecks n t p.1 p.2) ++ s.leaveChecks n t ++ s.mateChecks n t ++
  failIf (modeCh && !rangeAllowed t.mode (fld t.aiCfg 23 20)) .range ++
  failIf (!pairFits t.pairFn t.mode && n.val % 2 == 0) .range ++
  s.oddChecks n t ++ s.modeFeature t.mode l ++
  (if modeCh then s.modeRefusals n else []) ++
  failIf ((modeCh || pairCh) && (s.namedSource 1 n || s.namedSource 2 n)) .conflict ++
  failIf (s.failedCh n) .denied ++
  failIf (any && (s.chan n).cfgBusy) .busy ++
  failIf (!s.dieUp g || (s.group g).link.silent) .busy

/-- The checks of a CH_CONFIG on an odd pair member (02 R39, R43): its words are ignored. -/
def State.oddConfigChecks (s : State) (n : Ch) (l : List (Nat × Word)) : List Status :=
  let c := (s.chan n).cfg
  let t := s.configLeft n l
  (l.flatMap fun p => if p.1 = 0 then s.wordChecks n t 0 p.2 else []) ++ s.mateChecks n t ++
  s.modeFeature t.mode l ++ failIf (t.mode != c.mode || s.failedCh n) .denied

/-! ### The mode change -/

/-- A mode change starts (02 R40, R41): outputs of the old mode go off, the state, count and
measurement objects, the faults and the counters restart. -/
def State.startChange (s : State) (n : Ch) (t : ChCfg) : State :=
  ((s.outputsOff n).dropConv n).modCh n fun c =>
    { Channel.reset with
      cfg := t, cfgBusy := true, window := c.window, lastEv93 := c.lastEv93
      ai := { ChAi.reset with busy := c.ai.busy, void := c.ai.void } }

/-- The odd channel follows its pair (02 R42, R43); its entry returns to its reset values with its mode (08
R255). -/
def State.changeOdd (s : State) (n : Ch) (target : Option ChMode) : State :=
  match target with
  | none => s
  | some m =>
    let o := mateOf n
    let c := (s.chan o).cfg
    if c.mode = m then s else s.startChange o { c with mode := m, loopMate := 0, safe := 0, safeVal := 0 }

/-- The configuration of n takes effect (02 R40 to R43, 11 R344); a count is kept while its mode stays (02
R71). -/
def State.applyConfig (s : State) (n : Ch) (l : List (Nat × Word)) : State :=
  let c := (s.chan n).cfg
  let t := s.configLeft n l
  let odd := s.oddTarget n t
  let o := (s.chan (mateOf n)).cfg
  let oddReset : Bool := match odd with
    | some m => o.mode != m && (o.safe != 0 || o.safeVal != 0)
    | none => false
  let table := oddReset || t.safe != c.safe || t.safeVal != c.safeVal ||
    l.any fun p => p.1 == 0x1E || p.1 == 0x1F
  if t.mode != c.mode then
    let s1 := (s.startChange n t).changeOdd n odd
    if table then s1.tableWritten (grpOf n) else s1
  else if t.pairFn != c.pairFn || t.loopMate != c.loopMate then
    let s1 := (s.modCh n fun x => { x with cfg := { x.cfg with pairFn := t.pairFn, loopMate := t.loopMate } })
    let s2 := (s1.putWords n l).changeOdd n odd
    let s3 := if oddReset then s2.tableWritten (grpOf n) else s2
    if t.pairFn != c.pairFn then
      let s4 := s3.modCh n fun x => { x with cnt := { freshCnt x.actMode x.cfg.cntCfg with
        val := x.cnt.val, gateVal := x.cnt.val } }
      if (s4.modeOf n).isAnalogue then s4.restartFilter n else s4
    else s3
  else s.putWords n l

/-- The LEN of a command with a mask (11 R342). -/
def maskLen : BitVec 24 → List Word → Bool := fun _ ws =>
  decide (1 ≤ ws.length) && ws.length == 1 + popCount (wAt ws 0)

def chConfigSpec : CmdSpec := { op := 0x07, lenOk := maskLen }

/-- The key of a CH_CONFIG in progress on a channel (11 R335). -/
def configKey (n : Ch) : Nat := 1 + n.val

/-- CH_CONFIG (11 R344). -/
def chConfigBody : Body := fun _ args ws s =>
  let n := chNo (arg args 4 0)
  let l := maskWords (wAt ws 0) (ws.drop 1)
  let checks := failIf (wAt ws 0 == 0) .range ++
    if s.isOdd n then s.oddConfigChecks n l else s.configChecks n l
  match worst checks with
  | some st => (s, .now st (channelDetail st n.val) [])
  | none =>
    if s.isOdd n then (s, .now .ok 0 [s.chModeW n])
    else
      let t := s.applyConfig n l
      if (s.configLeft n l).mode = (s.chan n).cfg.mode then (t, .now .ok 0 [t.chModeW n])
      else (t, .later (configKey n))

def execChConfig (c : Cmd) (s : State) : Out := .next (s.hostCmd chConfigSpec chConfigBody c)

/-- A channel connects its new front end (02 R40, R96, R76). A loop supply that connects below VF_LOW waits for
the recovery at 13.5 V (DESIGN CHOICE, log entry 108). -/
def State.connect (s : State) (n : Ch) (sensorOk : Bool) : State :=
  let s1 := s.modCh n fun c => { c with
    actMode := c.cfg.mode, cfgBusy := false, cnt := freshCnt c.cfg.mode c.cfg.cntCfg
    ao := { c.ao with railAt := s.time } }
  let m := (s.chan n).cfg.mode
  if m.isSwitch && !sensorOk then s1.setFault n 28
  else if m = .loopPwr && !(s.chan n).guard.held then s1.loopOn n
  else s1

/-- MODE_CHANGE_COMPLETE (02 R40): both members of a pair that change together connect together. -/
def execModeChangeComplete (ch : Ch) (sensorOk : Bool) (s : State) : Out :=
  if !(s.chan ch).cfgBusy || !s.dieUp (grpOf ch) then .next s
  else
    let m := mateOf ch
    let s1 := s.connect ch sensorOk
    let s2 := if s.pairOf ch != .none && (s.chan m).cfgBusy then s1.connect m sensorOk else s1
    let n := s2.leadOf ch
    .next ((s2.complete (configKey ch) .ok 0 [s2.chModeW ch]).complete (configKey n) .ok 0 [s2.chModeW n])

/-! ### OUT_WRITE and AO_WRITE -/

/-- The mode against which an entry is judged (02 R41). -/
def State.entryMode (s : State) (n : Ch) : ChMode :=
  if (s.chan n).cfgBusy then (s.chan n).cfg.mode else s.modeOf n

/-- A command for a scheduled channel that no cell would apply (07 R232). -/
def State.noCell (s : State) (n : Ch) (analogue : Bool) : Bool :=
  let lacks (c : Comb) : Bool := bit c.hdr.sched n.val && (c.applyPos n analogue).isEmpty
  s.combMode &&
  ((match s.comb.active with
    | some c => lacks c
    | none => false) ||
   (match s.comb.armed, s.comb.next with
    | some true, some c => lacks c
    | _, _ => false))

/-- Refusals that both entry commands share (01 R29, 02 R41, R43, 07 R232, 08 R257, 13 R410). -/
def State.entryRefusals (s : State) (n : Ch) (analogue : Bool) : List Status :=
  failIf (s.isOdd n || (s.chan n).guard.held) .denied ++ s.channelBusy n ++
  failIf (s.noCell n analogue) .conflict

/-- The two words of an entry (11 R343). -/
def entryAnswer (st : Status) (target : Option (Nat × Word)) : List Word :=
  match st, target with
  | .ok, some (p, k) => [pk [(p, 0)], k]
  | _, _ => [pk [(st.code, 24), (0xFFFFFF, 0)], 0xFFFFFFFF#32]

/-- A scheduled channel takes the command as pending (07 R231, R248): LATE while the comb is stalled. -/
def State.pendEntry (s : State) (n : Ch) (analogue : Bool) (p : PendCmd) :
    State × Status × List Word :=
  let st : Status := if s.comb.cond == .stalled then .late else .ok
  (s.setPend n p, st, entryAnswer st (s.targetCell n analogue))

/-- One entry of OUT_WRITE (11 R343, 03 R82, R105). -/
def State.outEntry (s : State) (n : Ch) (w : Word) : State × Status × List Word :=
  let cmd := fld w 31 30
  let d : Nat := if cmd = 2 then fld w 13 0 else 10000
  let on := cmd != 0
  let checks :=
    failIf (!(s.entryMode n).isSwitch) .range ++
    failIf (cmd == 3 || decide (10000 < fld w 13 0)) .range ++
    failIf (d != 10000 && !(s.cfgOf n).pwm) .range ++
    s.entryRefusals n false ++
    failIf (on && (s.chan n).out.ps == .lockedOff) .denied
  match worst checks with
  | some st => (s, st, entryAnswer st none)
  | none =>
    let duty : BitVec 14 := if on then BitVec.ofNat 14 d else 0
    if s.schedNow n then s.pendEntry n false { on := on, duty := duty, code := 0, restored := false }
    else (s.hostCommand n on duty, .ok, entryAnswer .ok none)

/-- One entry of AO_WRITE (11 R343, 06 R188). -/
def State.aoEntry (s : State) (n : Ch) (w : Word) : State × Status × List Word :=
  let checks := failIf (!(s.entryMode n).isAo) .range ++ s.entryRefusals n true
  match worst checks with
  | some st => (s, st, entryAnswer st none)
  | none =>
    let code : BitVec 16 := w.setWidth 16
    if s.schedNow n then
      s.pendEntry n true { on := false, duty := 0, code := code, restored := false }
    else ((s.clearOverridden n).applyCode n code, .ok, entryAnswer .ok none)

/-- The entries of a command, each judged on its own, in ascending order (11 R343): the state, the first
failing entry, the words. -/
def runEntries (f : State → Ch → Word → State × Status × List Word) :
    State → List (Nat × Word) → State × Option (Status × Nat) × List Word
  | s, [] => (s, none, [])
  | s, (k, w) :: rest =>
    let (t, st, ws) := f s (chNo k) w
    let (u, bad, more) := runEntries f t rest
    (u, if st = .ok then bad else some (st, k), ws ++ more)

/-- OUT_WRITE and AO_WRITE (11 R343). -/
def entriesBody (f : State → Ch → Word → State × Status × List Word) : Body := fun _ _ ws s =>
  let mask := wAt ws 0
  if mask = 0 then (s, .fail .range)
  else
    let (t, bad, answer) := runEntries f s (maskWords mask (ws.drop 1))
    match bad with
    | none => (t, .now .ok 0 (mask :: answer))
    | some (st, n) => (t, .now st (channelDetail st n) (mask :: answer))

def outWriteSpec : CmdSpec := { op := 0x08, lenOk := maskLen, standby := false }

def execOutWrite (c : Cmd) (s : State) : Out :=
  .next (s.hostCmd outWriteSpec (entriesBody State.outEntry) c)

def aoWriteSpec : CmdSpec := { op := 0x09, lenOk := maskLen, standby := false }

def execAoWrite (c : Cmd) (s : State) : Out :=
  .next (s.hostCmd aoWriteSpec (entriesBody State.aoEntry) c)

/-! ### HART -/

def hartSendSpec : CmdSpec :=
  { op := 0x41, standby := false, feat := some 1
    lenOk := fun _ ws => decide (1 ≤ ws.length) && ws.length == 1 + wordsFor (wAt ws 0).toNat }

/-- A body that names one channel: the worst check, with its DETAIL, or what follows. -/
def checkedCh (l : List Status) (n : Ch) (s : State) (go : State × Ans) : State × Ans :=
  match worst l with
  | some st => (s, .now st (channelDetail st n.val) [])
  | none => go

/-- HART_SEND (06 R208). -/
def hartSendBody : Body := fun _ args ws s =>
  let n := chNo (arg args 4 0)
  let k := (wAt ws 0).toNat
  let c := s.chan n
  checkedCh (failIf (outside k 1 255) .range ++
      failIf (!bit (s.cfgOf n).hart 31 || c.guard.held || c.ao.blocked) .denied ++
      s.channelBusy n ++ failIf c.hart.txBusy .busy) n s
    (s.modHart n fun h => { h with
      txBusy := true, phase := .queued, tx := (wordsBytes (ws.drop 1)).take k }, .ok)

def execHartSend (c : Cmd) (s : State) : Out := .next (s.hostCmd hartSendSpec hartSendBody c)

/-- The eight words of error marks (11 R342): bit k for byte k. -/
def markWords (marks : List Bool) : List Word :=
  (List.range 8).map fun j =>
    allCh.foldl (fun w b => putBit w b.val ((marks[32 * j + b.val]?).getD false)) 0

def hartRecvSpec : CmdSpec := { op := 0x42, standby := false, feat := some 1 }

/-- HART_RECV (06 R211, 11 R342): the held frame is returned and the buffer emptied. -/
def hartRecvBody : Body := fun _ args _ s =>
  let n := chNo (arg args 4 0)
  let f : HartFrame := ((s.chan n).hart.rx).getD { pre := 0, bytes := [], marks := [] }
  checkedCh (failIf (s.chan n).guard.held .denied ++ s.channelBusy n) n s
    (s.modHart n fun h => { h with rx := none },
     .now .ok 0 (pk [(f.pre.toNat, 8), (f.bytes.length, 0)] :: markWords f.marks ++ packBytes f.bytes))

def execHartRecv (c : Cmd) (s : State) : Out := .next (s.hostCmd hartRecvSpec hartRecvBody c)

end Sys2Proof.Machine
end

