-- ==== Sys2Proof/Machine/MiscCmds.lean ====
section
/-! DEFINITION. Calibration, capture, waggle, task, safe-state and recorder commands
(04 R133 to R135, 05 R183, R185, 08 R261, R267, R276 to R280, 09 R298 to R300). -/

namespace Sys2Proof.Machine

/-- The groups of a mask. -/
def groupsOf (mask : Nat) : List Grp := allGrp.filter fun g => mask.testBit g.val

/-! ### Calibration -/

def adcCalSpec : CmdSpec := { op := 0x18 }

/-- The channels of a group with an injected conversion pending or in progress (04 R135). -/
def State.injMask (s : State) (g : Grp) : Word :=
  (chOf g).foldl (fun m n =>
    let a := (s.chan n).ai
    if a.inj.isSome || isInj a.req || isInj a.busy then putBit m n.val true else m) 0

/-- A foreground run starts on a group, after the injected conversions that are pending, or waits for its
reference (04 R133, R135); a run in progress goes on. -/
def State.startCal (s : State) (g : Grp) : State :=
  if (s.group g).conv.calState != 0 then s
  else
    let s1 := s.modConv g fun c => { c with calDone := 0, calFault := false, calWait := s.injMask g }
    if (s.group g).conv.refSettled then (s1.beginCal g).dispatch g
    else s1.modConv g fun c => { c with calState := 1 }

/-- ADC_CAL (04 R135): DENIED when a named group has failed. -/
def adcCalBody : Body := fun _ args _ s =>
  let gs := groupsOf (arg args 3 0)
  checked (failIf gs.isEmpty .range ++
           failIf (gs.any fun g => (s.group g).link.failed) .denied ++
           failIf (gs.any fun g => !s.dieUp g || (s.group g).link.silent) .busy) s
    (s.each gs State.startCal, .ok)

def execAdcCal (c : Cmd) (s : State) : Out := .next (s.hostCmd adcCalSpec adcCalBody c)

/-! ### Capture -/

def captureArmSpec : CmdSpec := { op := 0x19, feat := some 5 }

/-- Whether TCH can give the trigger that TSRC selects (05 R183, R184). -/
def State.triggerFits (s : State) : Bool :=
  let c := s.res.cap.cfg
  let n := chNo (fld c 25 21)
  match fld c 29 27 with
  | 1 => s.modeOf n != .off && !s.isOdd n
  | 2 => (s.modeOf n).isDigital && !s.isOdd n
  | _ => true

/-- Arm the capture (05 R183): previous contents are discarded; TSRC 0 triggers at once. -/
def State.armCapture (s : State) : State :=
  let s1 : State := { s with res.cap := { s.res.cap with
    state := .armed, wrapped := false, words := [], toGo := 0, tidx := 0, tstamp := 0 } }
  if fld s.res.cap.cfg 29 27 = 0 then s1.capTrigger s.stampNow else s1

/-- CAPTURE_ARM and its stop flag (05 R183). -/
def captureArmBody : Body := fun _ args _ s =>
  let answer (t : State) : State × Ans := (t, .now .ok 0 [t.capStatW])
  let c := s.res.cap.cfg
  if arg args 0 0 = 1 then answer { s with res.cap.state := .idle }
  else
    checked (failIf (!s.res.cap.ring && fld c 16 9 != 0) .range ++
             failIf (s.res.cap.ring && fld c 29 27 == 0) .range ++
             failIf (!s.triggerFits) .range) s
      (answer s.armCapture)

def execCaptureArm (c : Cmd) (s : State) : Out :=
  .next (s.hostCmd captureArmSpec captureArmBody { c with args := withArg c.args 0 0 0 })

def execCaptureStop (c : Cmd) (s : State) : Out :=
  .next (s.hostCmd captureArmSpec captureArmBody { c with args := withArg c.args 0 0 1 })

def captureReadSpec : CmdSpec := { op := 0x1A, mb0 := false, mb1 := true, feat := some 5, lenOk := exactly 2 }

/-- CAPTURE_READ (05 R185). -/
def captureReadBody : Body := fun _ _ ws s =>
  let i := (wAt ws 0).toNat
  let c := s.res.cap
  let busy := c.state == .armed || c.state == .triggered
  checked (failIf (outside (wAt ws 1).toNat 1 1024) .range ++
           failIf (!busy && decide (c.words.length ≤ i)) .range ++ failIf busy .busy) s
    (let r := (c.words.drop i).take (wAt ws 1).toNat
     (s, .now .ok 0 (BitVec.ofNat 32 r.length :: r)))

def execCaptureRead (c : Cmd) (s : State) : Out := .next (s.hostCmd captureReadSpec captureReadBody c)

/-! ### Waggle and tasks -/

def waggleSpec : CmdSpec := { op := 0x20, lenOk := exactly 1, swarm := false }

/-- The token of the present challenge (08 R276). -/
def State.waggleToken (s : State) : Word :=
  crc32c (wordBytes s.wd.wgChal ++ wordBytes s.wd.wgSecret) ^^^ s.wd.wgCount

/-- An accepted WAGGLE (08 R276, R284): COUNT rises, a new challenge, the next period at the written
PERIOD. -/
def State.acceptWaggle (s : State) : State :=
  State.postChallenge { s with
    wd.wgCount := s.wd.wgCount + 1
    wd.wgPeriod := s.wd.wgSet.getD s.wd.wgPeriod
    wd.wgSet := none
    wd.wgStart := s.time
    safe.waggleOwed := false }

/-- WAGGLE (08 R276, R277): early and wrong tokens fail. While the waggle is not armed it is refused
and nothing else happens. -/
def waggleBody : Body := fun _ _ ws s =>
  if !s.wd.wgEn then (s, .fail .denied)
  else if 4 * (s.time - s.wd.wgStart) < s.wd.wgPeriod.toNat * milli then (s.waggleFail 2, .fail .denied)
  else if wAt ws 0 = s.waggleToken then
    let t := s.acceptWaggle
    (t, .now .ok 0 [t.wd.wgChal, t.wd.wgCount])
  else (s.waggleFail 3, .fail .denied)

def execWaggle (c : Cmd) (s : State) : Out := .next (s.hostCmd waggleSpec waggleBody c)

def taskCheckinSpec : CmdSpec := { op := 0x21, feat := some 7 }

/-- TASK_CHECKIN (08 R280, R281): it counts in the period in which it arrives; RANGE for a task that is not
enabled. -/
def taskCheckinBody : Body := fun _ args _ s =>
  let k : Fin 16 := ⟨arg args 3 0 % 16, Nat.mod_lt _ (by decide)⟩
  checked (failIf (!s.wd.taskEn.getLsbD k.val) .range) s
    ({ s with wd.checkins := s.wd.checkins.set k.val (s.wd.checkins[k.val] + 1) }, .ok)

def execTaskCheckin (c : Cmd) (s : State) : Out := .next (s.hostCmd taskCheckinSpec taskCheckinBody c)

/-! ### Safe state -/

def safeApplySpec : CmdSpec := { op := 0x22, standby := false, service := false }

/-- A SAFE_APPLY that finds a named group held is recorded when it makes no EV120 (08 R261; the record's
form is the model's choice, log entry 110). -/
def State.recordTrigger (s : State) (gs : List Grp) : State :=
  if gs.any fun g => (s.group g).guard.held then
    s.recordOnly 120 (BitVec.ofNat 16 s.pw.mode.code) (BitVec.ofNat 16 s.pw.mode.code) s.modeStatW
      s.safeStatW 0
  else s

/-- SAFE_APPLY (08 R261): every group is a trigger for the module, some groups are taken alone. -/
def safeApplyBody : Body := fun _ args _ s =>
  let gs := groupsOf (arg args 3 0)
  if gs.isEmpty then (s, .fail .range)
  else
    let t := if gs.length = 4 ∧ s.pw.mode ≠ .safe then s.safeTrigger 3
      else ((s.recordTrigger gs).takeGroups gs 3).fokRefresh
    (t, .now .ok 0 [t.safeStatW])

def execSafeApply (c : Cmd) (s : State) : Out := .next (s.hostCmd safeApplySpec safeApplyBody c)

def safeReleaseSpec : CmdSpec := { op := 0x23, standby := false, service := false }

/-- What forbids the release of a group, whether it holds a channel or not (08 R267). -/
def State.releaseDenied (s : State) (g : Grp) : Bool :=
  let x := s.group g
  x.link.silent || x.link.failed || x.guard.tbad ||
  (x.guard.stallHold && (s.comb.cond == .stalled || s.comb.cond == .fallback)) || s.safe.waggleOwed

/-- SAFE_RELEASE (08 R267, R268, 13 R402): a group that holds no channel is ignored; with no group held
a module in SAFE goes back to RUN. -/
def safeReleaseBody : Body := fun _ args _ s =>
  let named := groupsOf (arg args 3 0)
  if named.any s.releaseDenied then (s, .fail .denied)
  else
    let gs := named.filter fun g => (s.group g).guard.held
    let s1 := s.each gs fun t g => t.releaseGroup (arg args 8 8 == 1) g
    let s2 := if s1.pw.mode = .safe ∧ !s1.anyHeld then
        State.enterRun { s1 with safe.cause := 0 } 4
      else s1
    (s2, .now .ok 0 [s2.safeStatW])

def execSafeRelease (c : Cmd) (s : State) : Out := .next (s.hostCmd safeReleaseSpec safeReleaseBody c)

/-! ### Reading the log -/

def logReadSpec : CmdSpec := { op := 0x28, mb0 := false, mb1 := true, lenOk := exactly 2 }

/-- The answer of LOG_READ: a count, and eight words for each entry. -/
def logAnswer (l : List (List Word)) : Ans := .now .ok 0 (BitVec.ofNat 32 l.length :: l.flatten)

/-- LOG_READ (09 R298): the fault block is voted as it is read, and a CRC mismatch met in the log is a
memory fault (09 R302). -/
def logReadBody : Body := fun _ _ ws s =>
  let first := wAt ws 0
  let w := wAt ws 1
  let max := fld w 6 0
  match fld w 9 8 with
  | 2 => (s, logAnswer (s.rcd.clears.map clearWords))
  | 3 => ({ s with rcd := s.rcd.readFaults }, logAnswer s.faultEntries)
  | sel =>
    if outside max 1 120 then (s, .fail .range)
    else if sel = 1 then (s, logAnswer (s.rcd.select s.rcd.shadow first max))
    else (s.readLog, logAnswer (s.rcd.select s.rcd.log first max))

/-- The SEL of a row of LOG_READ (log entry 25). -/
def withSel (ws : List Word) (sel : Nat) : List Word :=
  match ws with
  | [a, b] => [a, mix b (pk [(sel, 8)]) 0x300#32]
  | _ => ws

def State.logRow (s : State) (c : Cmd) (sel : Nat) : State :=
  s.hostCmd logReadSpec logReadBody { c with words := withSel c.words sel }

def execLogRead (c : Cmd) (s : State) : Out := .next (s.logRow c 0)

def execLogReadShadow (c : Cmd) (s : State) : Out := .next (s.logRow c 1)

def execLogReadClearHistory (c : Cmd) (s : State) : Out := .next (s.logRow c 2)

def execLogReadFaultBlock (c : Cmd) (s : State) : Out := .next (s.logRow c 3)

/-! ### Clearing the log -/

def logClearChallengeSpec : CmdSpec := { op := 0x29, mb0 := false, mb1 := true }

/-- A 16-byte nonce of the random source, and the state past it (log entry 5). -/
def State.drawNonce (s : State) : State × List Word :=
  let s1 := s.tookFree
  let s2 := s1.tookFree
  let s3 := s2.tookFree
  (s3.tookFree, [s.freeWord, s1.freeWord, s2.freeWord, s3.freeWord])

/-- LOG_CLEAR_CHALLENGE (09 R299): a new challenge replaces any earlier one. -/
def logClearChallengeBody : Body := fun _ _ _ s =>
  let (t, nonce) := s.drawNonce
  ({ t with rcd.challenge := some (nonce, s.rcd.next), rcd.challengeAt := s.time }, .now .ok 0 (nonce ++ [s.rcd.next]))

def execLogClearChallenge (c : Cmd) (s : State) : Out :=
  .next (s.hostCmd logClearChallengeSpec logClearChallengeBody c)

/-- LOG_CLEAR_CHALLENGE_LAPSE (09 R299). -/
def execLogClearChallengeLapse (s : State) : Out :=
  if s.rcd.challengeAt + 60000 * milli ≤ s.time then .next { s with rcd.challenge := none } else .next s

/-- The serial number as bytes (11 R348, 00 R3). -/
def State.serialBytes (s : State) : List Byte := wordsBytes s.sec.serial.toList

/-- The clear message (09 R299). -/
def State.clearMessage (s : State) (next : Word) (nonce : List Word) (keyid : Byte) : List Byte :=
  wordBytes 0x434C564B#32 ++ s.serialBytes ++ wordBytes next ++ wordsBytes nonce ++ [keyid, 0, 0, 0]

/-- The 96 bytes of a signature carried in 24 words (14 R427). -/
def sigBytes (ws : List Word) : List Byte := wordsBytes (ws.take 24)

def logClearSpec : CmdSpec := { op := 0x2A, mb0 := false, mb1 := true, lenOk := exactly 24 }

/-- LOG_CLEAR (09 R299, R300, 14 R429, R432): the first LOG_CLEAR ends the challenge. `tries` are the
outcomes of the slots written, `ctl` tells whether the control block can be written. -/
def logClearBody (tries : Tries) (ctl : Bool) : Body := fun _ args ws s =>
  let keyid := arg args 7 0
  let done : State := { s with rcd.challenge := none }
  if s.sec.lockout then (done, .fail .denied)
  else
    match s.rcd.challenge with
    | none => (s, .fail .denied)
    | some (nonce, next) =>
      let digest := Config.sha384 (s.clearMessage next nonce (BitVec.ofNat 8 keyid))
      if !s.ownerSigned keyid 1 digest (sigBytes ws) then
        (done.authFailure keyid 1 0x2A, .fail .denied)
      else
        let ok := done.authSuccess
        if s.rcd.next ≠ next then (ok, .fail .conflict)
        else if s.recHealth = 2 || !ctl then (ok, .fail .nvmFault)
        else
          let t := ok.clearLog (BitVec.ofNat 8 keyid) nonce tries
          (t, .now .ok 0 [t.rcd.base])

def execLogClear (c : Cmd) (tries : List Bool) (ctl : Bool) (s : State) : Out :=
  .next (s.hostCmd logClearSpec (logClearBody tries ctl) c)

end Sys2Proof.Machine
end

