-- ==== Sys2Proof/Machine/Port.lean ====
section
/-! DEFINITION. The host port at frame level: selects, the busy word, the report frame, the choice and
delivery of module frames, window reads, stream credit, segments (10 R311 to R332, 05 R178). -/

namespace Sys2Proof.Machine

/-! ### Events as records -/

/-- The record of a source (11 R358). -/
def State.eventRecord (s : State) (k : Fin 128) : EvRecord :=
  let e := s.ev.src[k.val]
  { source := BitVec.ofNat 8 k.val, nocomb := e.nocomb, subject := e.subject, code := e.code
    raises := e.raises, stamp := e.stamp, p0 := e.p0, p1 := e.p1, p2 := e.p2 }

/-- A record is delivered (11 R359): the source is delivered with RAISES 0, unless it was raised again
meanwhile. -/
def State.deliverEvent (s : State) (r : EvRecord) : State :=
  let k := srcNo r.source.toNat
  let e := s.ev.src[k.val]
  let e' : EvState :=
    if s.eventRecord k = r then { e with undel := false, raises := 0 }
    else { e with raises := if e.raises = r.raises then 1 else e.raises - r.raises }
  { s with ev.src := s.ev.src.set k.val e' }

/-- The records of a new EVT frame (11 R358, R359): at most 170. -/
def State.readyRecords (s : State) : List EvRecord := (s.evtReady.take 170).map s.eventRecord

/-! ### The choice of a frame -/

def TxItem.isReport : TxItem → Bool
  | .report _ _ => true
  | _ => false

def TxItem.isStrm : TxItem → Bool
  | .strm _ _ => true
  | _ => false

def TxItem.isBusy : TxItem → Bool
  | .busy _ => true
  | _ => false

/-- The words that H_SDO carries for a frame of the module, or for the busy word (10 R314, R315, R317, R319,
R321). -/
def TxItem.words : TxItem → List Word
  | .busy n => [0xBEE50000#32 ||| n.setWidth 32]
  | .report flags count => frameWords 0 0 true 0 [pk [(flags.toNat, 22), (count.toNat, 0)]]
  | .winrsp q ws => frameWords 6 0 true q ws
  | .rsp r first =>
    frameWords (if r.bulk then 7 else 2) r.mb.toNat (decide (r.words.length ≤ first + 1024)) r.seq
      ((r.words.drop first).take 1024)
  | .evt q recs => frameWords 3 2 true q (recs.flatMap eventWords)
  | .strm q es => frameWords 4 3 true q (entryWords es)

/-- What H_SDO still carries in the present exchange (10 R306, R311). -/
def State.sdo (s : State) : List Word := if s.sdoDriven then s.port.tx.flatMap TxItem.words else []

/-- The frame of a kind that is to be sent again on a select (10 R320). -/
def State.findAgain (s : State) (cs1 : Bool) (f : TxItem → Bool) : Option TxItem :=
  (s.port.again.find? fun x => x.1 == cs1 && f x.2).map (·.2)

/-- Take a frame that is to be sent again (10 R320). -/
def State.takeAgain (s : State) (cs1 : Bool) (f : TxItem → Bool) : State :=
  { s with port.again := s.port.again.filter fun x => !(x.1 == cs1 && f x.2) }

/-- The report frame, when one is due (10 R319, R320). -/
def State.chooseReport (s : State) (cs1 : Bool) : State × List TxItem :=
  match s.findAgain cs1 TxItem.isReport with
  | some x => (s.takeAgain cs1 TxItem.isReport, [x])
  | none =>
    if s.port.repCount = 0 then (s, [])
    else ({ s with port.repFlags := 0, port.repCount := 0 },
          [.report s.port.repFlags s.port.repCount])

/-- The EVT frame that is a candidate (10 R318, R320, 11 R359). -/
def State.chooseEvt (s : State) : Option (State × TxItem) :=
  match s.findAgain false TxItem.isEvt with
  | some x => some (s.takeAgain false TxItem.isEvt, x)
  | none =>
    match s.readyRecords with
    | [] => none
    | recs => some ({ s with ev.seq := s.ev.seq + 1 }, .evt s.ev.seq recs)

/-- The frame chosen at a fall of H_CS0n (10 R318): a WINRSP, then an RSP of MB0 and an EVT in turn, then a
frame of MB1. -/
def State.chooseCs0 (s : State) : State × List TxItem :=
  match s.port.winRsp with
  | some (q, ws) => (s, [.winrsp q ws])
  | none =>
    match s.port.rsp.find? (fun r => r.mb == 0), s.chooseEvt with
    | some r, some (t, x) => if s.port.evtTurn then (t, [x]) else (s, [.rsp r s.port.sent0])
    | some r, none => (s, [.rsp r s.port.sent0])
    | none, some (t, x) => (t, [x])
    | none, none =>
      match s.port.rsp.find? fun r => r.mb == 1 with
      | some r => (s, [.rsp r s.port.sent1])
      | none => (s, [])

/-- The STRM frame of an exchange on H_CS1n (05 R178): whole entries within the credit and 1024 words, with
feature 6 (11 R349). A frame that is sent again was charged when it was built (10 R320). -/
def State.chooseCs1 (s : State) : State × List TxItem :=
  match s.findAgain true TxItem.isStrm, s.feat 6 with
  | some x, _ => (s.takeAgain true TxItem.isStrm, [x])
  | none, false => (s, [])
  | none, true =>
    let n := min s.res.credit.toNat 1024
    let p := s.res.strm
    match p.head n with
    | [] => (s, [])
    | es =>
      let s1 : State := { s with
        res.strm := p.rest n, port.strmSeq := s.port.strmSeq + 1
        res.credit := s.res.credit - BitVec.ofNat 24 (es.map qsize).sum }
      (s1.afterTake true, [.strm s.port.strmSeq es])

/-- The longest wake of a power state in µs (10 R322, 13 R414). -/
def wakeMicros : DState → Nat
  | .d0 => 0
  | .d1 => 20
  | .d2 => 300
  | .d3 => 5000

/-- The busy word of an exchange (10 R321, R322): the remaining wake time, which the manual bounds and does not
give (log entry 5); at most 2 µs for a firmware slot line; or, with both receive buffers full or as the row
tells, the estimate of the core's backlog, 0xFFFF when it is unknown. -/
def State.busyWord (s : State) (busy : Option BusyCause) : State × List TxItem :=
  let max := if s.pw.mode = .doze then wakeMicros s.pw.dstate else 0
  if max ≠ 0 then (s.tookFree, [.busy (BitVec.ofNat 16 (s.freeWord.toNat % (max + 1)))])
  else match busy with
    | some (.backlog n) => (s, [.busy (if n = 0 then 1 else n)])
    | some (.slotLine n) => (s, [.busy (if s.port.bufs.length < 2 then (if n.toNat < 2 then n else 2) else 0xFFFF)])
    | none => (s, if s.port.bufs.length < 2 then [] else [.busy 0xFFFF])

/-- A select falls with the other high (10 R310, R318 to R323, 13 R416). -/
def State.openExchange (s : State) (cs1 : Bool) (cause : Option BusyCause) : State :=
  let (s1, busy) := s.busyWord cause
  let (s2, report) := s1.chooseReport cs1
  let (s3, frame) := if cs1 then s2.chooseCs1 else s2.chooseCs0
  { s3 with
    port.sel := some cs1
    port.busy := !busy.isEmpty
    port.rx := .hunt
    port.rxWords := []
    port.trailed := false
    port.rckAct := s.port.rckNext.getD s.port.rckAct
    port.rckNext := none
    port.cnt.busyWords := if busy.isEmpty then s.port.cnt.busyWords else s.port.cnt.busyWords + 1
    port.tx := busy ++ report ++ frame
    pw.waking := s3.pw.waking || s3.pw.mode == .doze }

/-- The bit of a select among those that are low. -/
def csBit (cs1 : Bool) : BitVec 2 := if cs1 then 2 else 1

/-- SELECT_FALL (10 R313, R322): with the other select low it is ignored until it rises. -/
def execSelectFall (cs1 : Bool) (busy : Option BusyCause) (s : State) : Out :=
  if s.port.csLow &&& csBit cs1 != 0 then .next s
  else
    let s1 : State := { s with port.csLow := s.port.csLow ||| csBit cs1 }
    if !s.portOpen then .next s1
    else if s.port.csLow == 0 then .next (s1.openExchange cs1 busy)
    else .next (State.report { s1 with port.cnt.selcol := satInc s.port.cnt.selcol } 6)

/-- The exchange of a select ends (10 R320, R323): an incomplete host frame is SHORT; a module frame that was
cut short is kept whole for the same select. -/
def State.closeExchange (s : State) (cs1 : Bool) : State :=
  let cut := s.port.tx.filter fun x => x.isReport || x.isEvt || x.isStrm
  let s1 : State := { s with
    port.sel := none, port.busy := false, port.rx := .idle, port.rxWords := [], port.tx := []
    port.again := s.port.again ++ cut.map fun x => (cs1, x) }
  match s.port.rx, s.port.rxWords with
  | .body, h :: _ => s1.rejectShort h
  | .check, h :: _ => s1.rejectShort h
  | _, _ => s1

/-- SELECT_RISE (10 R313, R320, R323): `words` are the whole words of a frame that the select's period did not
complete. -/
def execSelectRise (cs1 : Bool) (words : List Word) (s : State) : Out :=
  let s1 : State := { s with port.csLow := s.port.csLow &&& ~~~(csBit cs1) }
  if s.port.sel = some cs1 then .next ((words.foldl State.rxWord s1).closeExchange cs1) else .next s1

/-! ### Delivery -/

/-- The kept responses of MB0 after a delivery (11 R337): the last of each of the last 8 SEQ values. -/
def keepRsp (l : List Rsp) (r : Rsp) : List Rsp :=
  let l1 := l.filter (fun x => x.seq != r.seq) ++ [r]
  l1.drop (l1.length - 8)

/-- A response has left whole (11 R335, R337, 10 R310). -/
def State.finishRsp (s : State) (r : Rsp) : State :=
  let s1 : State := { s with port.rsp := s.port.rsp.erase r }
  let s2 : State :=
    if r.mb = 0 then { s1 with port.sent0 := 0, port.evtTurn := true, port.kept0 := keepRsp s1.port.kept0 r }
    else { s1 with port.sent1 := 0, port.kept1 := some r }
  if !r.counts then s2
  else match s2.port.outst.find? fun o => o.sender == .host && o.answered && o.frame.mb == r.mb &&
      o.frame.seq == r.seq && o.crc == r.crc with
    | some o => { s2 with
        port.outst := s2.port.outst.erase o
        port.rckNext := if o.key = rckKey true then some true
          else if o.key = rckKey false then some false else s2.port.rckNext }
    | none => s2

/-- A module frame is delivered (10 R320). -/
def State.deliver (s : State) : TxItem → State
  | .report _ _ => s
  | .busy _ => s
  | .winrsp q ws => if s.port.winRsp = some (q, ws) then { s with port.winRsp := none } else s
  | .evt _ recs => { s.each recs State.deliverEvent with port.evtTurn := false }
  | .strm _ _ => s
  | .rsp r first =>
    if first + 1024 < r.words.length then
      if r.mb = 0 then { s with port.sent0 := first + 1024, port.evtTurn := true }
      else { s with port.sent1 := first + 1024 }
    else s.finishRsp r

/-- MODULE_FRAME_DELIVERED (10 R320): the first frame of the exchange that was not yet delivered. -/
def execModuleFrameDelivered (s : State) : Out :=
  match s.port.tx.dropWhile TxItem.isBusy with
  | [] => .next s
  | x :: rest => .next (State.deliver { s with port.tx := rest, port.sentAt := s.time } x)

/-! ### Receiving -/

/-- HOST_FRAME_REJECTED (10 R317, R319, R321 to R323): the words of a host frame, or those after one. -/
def execHostFrameRejected (words : List Word) (s : State) : Out :=
  .next (if s.portOpen then words.foldl State.rxWord s else s)

/-- The control core takes a segment that is not the last (10 R317, 11 R338): one of a discarded message is
discarded, and so is a message of more than 4096 words. -/
def State.takeSeg (s : State) (f : Frame) (words : List Word) : State :=
  let s1 := s.supersede f
  if s1.port.lostMsgs.contains f then s1
  else
    let all := s1.heldOf f ++ words
    let s2 : State := { s1 with port.segs := s1.port.segs.filter fun x => x.frame != f }
    if 4096 < all.length then State.lostMessage { s2 with port.lostMsgs := s2.port.lostMsgs ++ [f] }
    else { s2 with port.segs := s2.port.segs ++ [{ frame := f, words := all }] }

/-- HOST_SEGMENT_RECEIVED (10 R317, R324, 11 R338). -/
def execHostSegmentReceived (f : Frame) (words : List Word) (s : State) : Out :=
  if !s.portOpen then .next s
  else
    let r := s.frameIn (cmdHeader f false words.length)
    if !r.2 then .next r.1
    else if r.1.pw.halted then .next { r.1 with port.bufs := r.1.port.bufs ++ [.seg f words] }
    else .next (r.1.takeSeg f words)

/-! ### Window reads -/

/-- Word 0 of a WINRSP (10 R329). -/
def winWord (err shadow : Bool) (cgen lgen : BitVec 8) (first : BitVec 6) (count : BitVec 7) : Word :=
  pk [(err.toNat, 31), (shadow.toNat, 30), (cgen.toNat, 22), (first.toNat, 16), (lgen.toNat, 8),
      (count.toNat, 0)]

/-- The answer to a window read (10 R329 to R332). -/
def State.readWindow (s : State) (seq : BitVec 8) (first : BitVec 6) (count : BitVec 7) : State :=
  let a := first.toNat
  let n := count.toNat
  let cgen := s.comb.cgen
  let covers (k : Nat) : Bool := decide (a ≤ k ∧ k < a + n)
  let words := ((List.range n).map (a + ·)).map s.windowW
  if n = 0 ∨ 64 < a + n then
    { s with port.winRsp := some (seq, [winWord true false cgen s.port.lgen first count]) }
  else if covers 0x30 then
    { s with
      port.shadow := some s.posHiW
      port.lgen := cgen
      port.winRsp := some (seq, winWord false false cgen cgen first count :: words) }
  else match s.port.shadow with
    | some h =>
      if covers 0x31 then
        { s with
          port.shadow := none
          port.winRsp := some (seq,
            winWord false true cgen s.port.lgen first count :: words.set (0x31 - a) h) }
      else { s with
        port.winRsp := some (seq, winWord false false cgen s.port.lgen first count :: words) }
    | none => { s with
        port.winRsp := some (seq, winWord false false cgen s.port.lgen first count :: words) }

/-- WINRD (10 R328, R329). -/
def execWinrd (seq : BitVec 8) (first : BitVec 6) (count : BitVec 7) (s : State) : Out :=
  if !s.portOpen then .next s
  else
    let r := s.frameIn (headerW 5 0 true seq 1)
    .next (if r.2 then r.1.readWindow seq first count else r.1)

/-- CREDIT (05 R178), with feature 6 (11 R349). -/
def execCredit (grant : BitVec 24) (s : State) : Out :=
  if !s.portOpen then .next s
  else
    let r := s.frameIn (headerW 8 3 true 0 1)
    let t := r.1
    if !r.2 || !t.feat 6 then .next t
    else
      .next { t with res.credit := BitVec.ofNat 24 (min (t.res.credit.toNat + grant.toNat) 0xFFFFFF) }

end Sys2Proof.Machine
end

