-- ==== Sys2Proof/Machine/Security.lean ====
section
/-! DEFINITION. Identity, update, attestation, provisioning and debug: the commands and rows of
14 R426 to R449. -/

namespace Sys2Proof.Machine

/-- Exactly n bytes of a byte string, padded with zero bytes. -/
def bytesN (n : Nat) (bs : List Byte) : List Byte := (bs ++ List.replicate n 0).take n

/-! ### Firmware images -/

/-- The firmware digest of an image (14 R433): SHA-384 of its manifest. -/
def fwDigest (bs : List Byte) : List Byte := Config.sha384 (bs.take 256)

/-- The manifest is well formed (14 R433, R434): length, MAGIC, FORMAT, HDR_LEN, ranges, reserved bytes,
PART, MIN_STEP not above the stepping A. An SVN above 64 is out of its range (log entry 22). -/
def manifestOk (bs : List Byte) : Bool :=
  let exec := leAt bs 16 4
  let data := leAt bs 20 4
  let entry := leAt bs 24 4
  decide (256 ≤ bs.length) && bs.length == 352 + exec + data && leAt bs 0 4 == 0x5746564B &&
  leAt bs 4 2 == 1 && leAt bs 6 2 == 0x100 && leAt bs 8 1 == 0 && decide (leAt bs 12 1 ≤ 64) &&
  decide (leAt bs 13 1 ≤ 0x41) && leAt bs 14 2 == 0x3240 && !outside exec 64 524288 &&
  exec % 64 == 0 && decide (data ≤ 131072) && data % 4 == 0 && entry % 4 == 0 && decide (entry < exec) &&
  zeros (slice bs 28 4) && zeros (slice bs 80 176)

/-- The length of the executable and the data of an image (14 R433). -/
def bodyLen (bs : List Byte) : Nat := leAt bs 16 4 + leAt bs 20 4

/-- The checks of R434 (14): none when all hold, else the status and the CODE of EV112. -/
def verifyImage (bs : List Byte) : Option (Status × Nat) :=
  if !manifestOk bs then some (.range, 2)
  else if Config.sha384 (slice bs 256 (bodyLen bs)) != slice bs 32 48 then some (.badCrc, 3)
  else if !Config.ecdsaOk (Config.fusedKey 0) (fwDigest bs) (slice bs (256 + bodyLen bs) 96) then
    some (.denied, 4)
  else none

/-- EV112 (14 R452). -/
def State.raiseSlot (s : State) (b : Bool) (code : Nat) : State :=
  s.raise 112 b.toNat code s.secFwslotW (s.slot b).versionW s.secSvnW

def fwBeginSpec : CmdSpec := { op := 0x39, mb0 := false, mb1 := true, lenOk := exactly 1 }

/-- FW_BEGIN (14 R439); a slot whose checks run is busy (log entry 22). -/
def fwBeginBody : Body := fun _ _ ws s =>
  let len := (wAt ws 0).toNat
  let b := !s.sec.runB
  checked (failIf (outside len 416 655712) .range ++ failIf s.sec.trial .conflict ++
           failIf (s.sec.activating || (s.slot b).state == .verifying) .busy) s
    (let t := State.setSlot { s with sec.rxBytes := 0 } b
       { state := .receiving, image := [], len := len, version := 0, svn := 0, grant := none }
     (t, .now .ok 0 [t.secFwslotW]))

def execFwBegin (c : Cmd) (s : State) : Out := .next (s.hostCmd fwBeginSpec fwBeginBody c)

/-- The key of the FW_DATA that completes an image (11 R335). -/
def imageKey : Nat := 101

def fwDataSpec : CmdSpec := { op := 0x3A, mb0 := false, mb1 := true, lenOk := dataLen }

/-- FW_DATA (14 R439). -/
def fwDataBody : Body := fun _ _ ws s =>
  let b := !s.sec.runB
  let x := s.slot b
  let off := (wAt ws 0).toNat
  let n := (wAt ws 1).toNat
  checked (failIf (outside n 1 4088 || x.state != .receiving ||
             decide (off ≠ x.image.length ∨ x.len < off + n)) .range) s
    (let all := x.image ++ dataBytes ws
     let t : State := { s with sec.rxBytes := BitVec.ofNat 20 all.length }
     if all.length = x.len then
       (t.setSlot b { x with image := all, state := .verifying }, .later imageKey)
     else (t.setSlot b { x with image := all }, .now .ok 0 [BitVec.ofNat 32 all.length]))

def execFwData (c : Cmd) (s : State) : Out := .next (s.hostCmd fwDataSpec fwDataBody c)

/-- FW_VERIFY_COMPLETE (14 R434, R439). -/
def execFwVerifyComplete (s : State) : Out :=
  let b := !s.sec.runB
  let x := s.slot b
  if x.state != .verifying || !s.hostUp then .next s
  else
    match verifyImage x.image with
    | some (st, code) =>
      .next (((s.setSlot b { x with state := .invalid }).raiseSlot b code).complete imageKey st 0 [])
    | none =>
      let y : Slot := { x with
        state := .valid, version := BitVec.ofNat 32 (leAt x.image 8 4)
        svn := BitVec.ofNat 8 (leAt x.image 12 1) }
      .next (((s.setSlot b y).raiseSlot b 1).complete imageKey .ok 0 [BitVec.ofNat 32 x.image.length])

/-! ### Activation -/

/-- The downgrade message (14 R440). -/
def State.downgradeMessage (s : State) (x : Slot) (keyid : Byte) : List Byte :=
  wordBytes 0x4744564B#32 ++ s.serialBytes ++ fwDigest x.image ++ [s.sec.counter.setWidth 8, x.svn, keyid, 0]

def fwActivateSpec : CmdSpec :=
  { op := 0x3B, mb0 := false, mb1 := true, safe := false
    lenOk := fun args ws => ws.length == if arg args 0 0 = 1 then 24 else 0 }

/-- Work that an activation may not cut (14 R440). -/
def State.activationBusy (s : State) : Bool :=
  s.comb.lstate == .verifying || s.sw.enumBusy || s.sec.activating

/-- The target becomes ACTIVE as a trial (14 R440), with a grant when it is a downgrade. -/
def State.activate (s : State) (b down : Bool) : State :=
  let x := s.slot b
  let s1 :=
    if down && decide (x.svn.toNat < s.sec.counter.toNat) then
      s.setSlot b { x with grant := some (fwDigest x.image, s.sec.counter) }
    else s
  State.raiseFw { s1 with
    sec.activeB := b, sec.trial := true, sec.tried := false, sec.activating := true } 1

/-- FW_ACTIVATE (14 R432, R440, R441). -/
def fwActivateBody : Body := fun _ args ws s =>
  let b := !s.sec.runB
  let x := s.slot b
  let down := arg args 0 0 == 1
  let keyid := arg args 15 8
  let finish (t : State) : State × Ans :=
    if s.activationBusy then (t, .fail .busy)
    else
      let u := t.activate b down
      (u, .now .ok 0 [u.secFwslotW, (u.slot b).versionW])
  if down && s.sec.lockout then (s, .fail .denied)
  else if x.state != .valid then (s, .fail .conflict)
  else if 64 < x.svn.toNat then (s, .fail .range)
  else if !down then
    if x.svn.toNat < s.sec.counter.toNat then (s, .fail .denied) else finish s
  else if s.ownerSigned keyid 8 (Config.sha384 (s.downgradeMessage x (BitVec.ofNat 8 keyid))) (sigBytes ws)
  then finish s.authSuccess
  else (s.authFailure keyid 4 0x3B, .fail .denied)

def execFwActivate (c : Cmd) (s : State) : Out := .next (s.hostCmd fwActivateSpec fwActivateBody c)

/-! ### Attestation -/

/-- The slot that runs. -/
def State.running (s : State) : Slot := s.slot s.sec.runB

/-- Bytes 0 to 215 of the attestation report (14 R444, R445). -/
def State.attestBody (s : State) (nonce : List Word) : List Byte :=
  let digest := match s.comb.active with
    | some c => bytesN 48 c.hdr.digest
    | none => List.replicate 48 0
  let signed := match s.comb.active with
    | some c => c.hdr.signed
    | none => false
  let flags := s.sec.trial.toNat + 2 * s.certValid.toNat + 4 * signed.toNat + 8 * s.sec.dbgEver.toNat +
    16 * s.sec.provLock.toNat
  natLe 4 0x5441564B ++ natLe 2 1 ++ natLe 2 312 ++ s.serialBytes ++ bytesN 16 (wordsBytes nonce) ++
  bytesN 48 (fwDigest s.running.image) ++ digest ++ bytesN 48 (Config.sha384 (wordsBytes s.rwWords)) ++
  wordBytes s.combIdW ++ wordBytes s.pw.opsec ++ wordBytes s.pw.pcycle ++ wordBytes s.rcd.next ++
  [s.sec.counter.setWidth 8, s.sec.certGen, BitVec.ofNat 8 s.pw.mode.code, BitVec.ofNat 8 flags] ++
  wordBytes s.sec.fwver ++ wordBytes s.sec.acc ++ wordBytes s.safeStatW

def attestSpec : CmdSpec :=
  { op := 0x38, lenOk := fun args ws => ws.length == if arg args 0 0 = 0 then 4 else 0 }

/-- ATTEST (14 R443): the values are taken at START; FETCH while signing runs tells the milliseconds
left, which the manual bounds by 40 (log entry 5). -/
def attestBody : Body := fun _ args ws s =>
  if arg args 0 0 = 0 then
    if s.sec.dbgOpen then (s, .fail .denied)
    else
      let body := s.attestBody ws
      let sig := bytesN 96 (Config.identitySign s.free (Config.sha384 body))
      let t := s.tookFree
      ({ t with sec.attest := some (body ++ sig), sec.attestReady := false }, .ok)
  else
    match s.sec.attest with
    | none => (s, .fail .range)
    | some r =>
      if s.sec.attestReady then (s, .now .ok 0 (BitVec.ofNat 32 312 :: packBytes r))
      else (s.tookFree, .now .busy (s.freeWord.toNat % 41) [])

def execAttestStart (c : Cmd) (s : State) : Out :=
  .next (s.hostCmd attestSpec attestBody { c with args := withArg c.args 0 0 0 })

def execAttestFetch (c : Cmd) (s : State) : Out :=
  .next (s.hostCmd attestSpec attestBody { c with args := withArg c.args 0 0 1 })

/-- ATTEST_READY (14 R443, R452). -/
def execAttestReady (s : State) : Out :=
  match s.sec.attest with
  | none => .next s
  | some r =>
    if s.sec.attestReady then .next s
    else .next (State.raise { s with sec.attestReady := true } 114 0 1 s.secStatW (wordAt r 6) 0)

/-! ### Provisioning -/

/-- The part of a provisioning request that says whose signature covers it (14 R430, R431). -/
def State.provMessage (s : State) (nonce : List Word) (op slot perm signer : Nat) (key : List Byte) :
    List Byte :=
  wordBytes 0x504B564B#32 ++ s.serialBytes ++ wordsBytes nonce ++
  [BitVec.ofNat 8 op, BitVec.ofNat 8 slot, BitVec.ofNat 8 perm, BitVec.ofNat 8 signer] ++
  bytesN 97 key ++ [0, 0, 0]

/-- The words that a request carries before its signature (14 R430). -/
def provWords (op : Nat) : Nat := if op = 0 then 25 else if op = 3 then 64 else 0

def keyProvisionSpec : CmdSpec :=
  { op := 0x3E, standby := false, run := false, safe := false, swarm := false
    lenOk := fun args ws =>
      ws.length == provWords (arg args 3 2) + if arg args 15 8 = 0xFF then 0 else 24 }

/-- Whether a request needs a signature (14 R430). -/
def State.provNeeds (s : State) (op slot : Nat) : Bool :=
  s.sec.provLock || op == 1 || (op == 0 && (s.sec.owners[slot % 4]'(Nat.mod_lt _ (by decide))).isSome)

/-- Whether the key of a slot may sign a request (14 R430): unlocked, the key in SLOT itself, or any key for
OP 2; else a key whose PERM includes every bit granted, replaced or revoked. -/
def State.provMay (s : State) (op slot perm signer : Nat) : Bool :=
  match s.ownerWith signer 0 with
  | none => false
  | some k =>
    let old := match s.sec.owners[slot % 4]'(Nat.mod_lt _ (by decide)) with
      | some o => o.perm
      | none => 0
    let need := if op = 0 && s.sec.provLock then old ||| BitVec.ofNat 4 perm else old
    if op = 2 && !s.sec.provLock then true
    else (!s.sec.provLock && signer == slot) || k.perm &&& need == need

/-- What OP 0 to 2 do (14 R430). -/
def State.provision (s : State) (op slot perm : Nat) (key : List Byte) : State :=
  let put (o : Option Owner) : Vector (Option Owner) 4 :=
    s.sec.owners.set (slot % 4) o (Nat.mod_lt _ (by decide))
  match op with
  | 0 => { s with sec.owners := put (some { key := key, perm := BitVec.ofNat 4 perm }) }
  | 1 => { s with sec.owners := put none }
  | _ => { s with sec.provLock := true }

/-- The answer of an accepted request: SEC_OWNERk (14 R431). -/
def State.provAnswer (s : State) (slot : Nat) : State × Ans :=
  (s, .now .ok 0 [ownerW (s.sec.owners[slot % 4]'(Nat.mod_lt _ (by decide)))])

/-- The checks of a certificate (14 R446). -/
def State.certFits (s : State) (bs : List Byte) : Bool :=
  leAt bs 0 4 == 0x4344564B && leAt bs 4 2 == 1 && leAt bs 6 2 == 256 &&
  slice bs 8 16 == s.serialBytes && leAt bs 24 2 == 0x3240 && leAt bs 26 1 == 0x41 &&
  leAt bs 27 1 == s.sec.certGen.toNat && slice bs 28 97 == s.sec.idPub && zeros (slice bs 125 35) &&
  Config.ecdsaOk (Config.fusedKey 1) (Config.sha384 (bs.take 160)) (slice bs 160 96)

/-- OP 3 (14 R446). -/
def State.installCert (s : State) (slot : Nat) (bs : List Byte) : State × Ans :=
  if s.sec.dbgOpen || !s.certFits bs then (s, .fail .denied)
  else State.provAnswer { s with sec.cert := some bs } slot

/-- KEY_PROVISION (14 R430 to R432, R446). A request that names a signer is judged on its signature even
where none is needed for OP 2; a SIGNER on an unlocked install into an empty slot is refused. -/
def keyProvisionBody : Body := fun _ args ws s =>
  let slot := arg args 1 0
  let op := arg args 3 2
  let perm := arg args 7 4
  let signer := arg args 15 8
  let needs := s.provNeeds op slot
  let key := (wordsBytes (ws.take 25)).take 97
  let signed := signer != 0xFF
  if signed && s.sec.lockout then (s, .fail .denied)
  else
    checked (failIf (signed && decide (3 < signer)) .range ++
             failIf (op == 0 && (perm == 0 || !Config.keyOnCurve key)) .range ++
             failIf (op != 0 && perm != 0) .range ++
             failIf (op == 0 && !needs && signed) .range) s
      (if op = 3 then s.installCert slot (wordsBytes (ws.take 64))
       else if !needs && !signed then (s.provision op slot perm key).provAnswer slot
       else
         match s.sec.chalProv with
         | none => (s, .fail .denied)
         | some nonce =>
           let used : State := { s with sec.chalProv := none }
           let msg := Config.sha384 (s.provMessage nonce op slot perm signer (if op = 0 then key else []))
           if signed && s.provMay op slot perm signer &&
               s.ownerSigned signer 0 msg (wordsBytes ((ws.drop (provWords op)).take 24)) then
             (used.authSuccess.provision op slot perm key).provAnswer slot
           else (used.authFailure signer 5 0x3E, .fail .denied))

/-- KEY_PROVISION with the OP of a row (log entry 25). -/
def State.provRow (s : State) (c : Cmd) (op : Nat) : State :=
  s.hostCmd keyProvisionSpec keyProvisionBody { c with args := withArg c.args 3 2 op }

def execKeyInstall (c : Cmd) (s : State) : Out := .next (s.provRow c 0)

def execKeyRevoke (c : Cmd) (s : State) : Out := .next (s.provRow c 1)

def execProvLockSet (c : Cmd) (s : State) : Out := .next (s.provRow c 2)

def execCertInstall (c : Cmd) (s : State) : Out := .next (s.provRow c 3)

/-! ### Debug access -/

def debugUnlockChallengeSpec : CmdSpec := { op := 0x3C, standby := false, run := false, safe := false }

/-- DEBUG_UNLOCK_CHALLENGE (14 R447). -/
def debugUnlockChallengeBody : Body := fun _ args _ s =>
  let (t, nonce) := s.drawNonce
  let u : State := if arg args 0 0 = 0 then { t with sec.chalDebug := some nonce, sec.debugAt := s.time }
    else { t with sec.chalProv := some nonce, sec.provAt := s.time }
  (u, .now .ok 0 nonce)

def execDebugUnlockChallenge (c : Cmd) (s : State) : Out :=
  .next (s.hostCmd debugUnlockChallengeSpec debugUnlockChallengeBody c)

/-- DEBUG_CHALLENGE_LAPSE (14 R447): 60 s after its issue. -/
def execDebugChallengeLapse (provisioning : Bool) (s : State) : Out :=
  if (if provisioning then s.sec.provAt else s.sec.debugAt) + 60000 * milli ≤ s.time then
    .next (if provisioning then { s with sec.chalProv := none } else { s with sec.chalDebug := none })
  else .next s

def debugUnlockSpec : CmdSpec :=
  { op := 0x3D, standby := false, run := false, safe := false, lenOk := exactly 24 }

/-- The unlock message (14 R447). -/
def State.unlockMessage (s : State) (nonce : List Word) (keyid scope : Nat) : List Byte :=
  wordBytes 0x5544564B#32 ++ s.serialBytes ++ wordsBytes nonce ++
  [BitVec.ofNat 8 keyid, BitVec.ofNat 8 scope] ++ List.replicate 10 0

/-- The steps of R448 (14): the secrets are erased, EV115 is recorded, debug opens. -/
def State.openDebug (s : State) (keyid : Nat) : State :=
  let s1 : State := { s with
    sec.cert := none
    sec.idPub := []
    sec.owners := Vector.replicate 4 none
    sec.provLock := false
    wd.wgSecret := 0
    sec.chalDebug := none
    sec.chalProv := none
    rcd.challenge := none }
  let s2 := s1.raise 115 keyid 1 s1.secStatW 0 0
  { s2 with
    sec.dbgOpens := satInc s2.sec.dbgOpens
    sec.dbgEver := true
    sec.dbgOpen := true }

/-- DEBUG_UNLOCK (14 R432, R447, R448). -/
def debugUnlockBody : Body := fun _ args ws s =>
  let keyid := arg args 7 0
  let scope := arg args 15 8
  if s.sec.lockout then (s, .fail .denied)
  else
    checked (failIf (scope != 1) .range ++ failIf s.wd.wgEn .conflict ++
             failIf (s.sec.chalDebug.isNone || s.sec.dbgOpen) .denied) s
      (let used : State := { s with sec.chalDebug := none }
       let msg := Config.sha384 (s.unlockMessage (s.sec.chalDebug.getD []) keyid scope)
       let ok := if keyid = 0xFE then Config.ecdsaOk (Config.fusedKey 2) msg (sigBytes ws)
         else s.ownerSigned keyid 2 msg (sigBytes ws)
       if ok then (used.authSuccess.openDebug keyid, .ok)
       else (used.authFailure keyid 2 0x3D, .fail .denied))

def execDebugUnlock (c : Cmd) (s : State) : Out := .next (s.hostCmd debugUnlockSpec debugUnlockBody c)

/-- AUTH_LOCKOUT_END (14 R432): after 60 s of operating seconds. -/
def execAuthLockoutEnd (s : State) : Out :=
  if s.sec.lockout && decide (60 ≤ (s.pw.opsec - s.sec.lockedAt).toNat) then
    .next { s with sec.lockout := false, sec.consec := 7 }
  else .next s

end Sys2Proof.Machine
end

