-- ==== Sys2Proof/Machine/SwarmCmds.lean ====
section
/-! DEFINITION. The swarm commands of the host and the work behind them: enumeration, routed commands,
triggers, and what the root knows of the wiring (12 R375 to R386). -/

namespace Sys2Proof.Machine

/-- The swarm ports are in service (12 R362, R374): on a root or node with VH, outside power-on reset and
H_RSTn. -/
def State.swarmOn (s : State) : Bool := (s.isRoot || s.isNode) && !s.landsFloat

/-- The control core takes frames from the swarm (12 R374). -/
def State.swarmCore (s : State) : Bool := s.swarmOn && s.portOpen && !s.pw.halted

/-! ### Sending -/

/-- Whether a frame of this module still waits on a port that is up (12 R379, R385). -/
def State.frameWaits (s : State) (kind : Nat) (tag : BitVec 8) : Bool :=
  allPorts.any fun p => s.portUp p && (s.swPort p).waiting.any fun w =>
    w.2.kind.toNat == kind && w.2.tag == tag && w.1.isNone

/-- A command is answered once its frame has left: now, or when the frame leaves (12 R379, R385). -/
def State.answerLeft (s : State) (key kind : Nat) (tag : BitVec 8) (ws : List Word) : State × Ans :=
  if s.frameWaits kind tag then
    ({ s with sw.leaving := s.sw.leaving ++ [{ key := key, kind := BitVec.ofNat 4 kind, tag := tag }] },
     .later key)
  else (s, .now .ok 0 ws)

/-- The commands whose frames have left are answered. A broadcast SWARM_ROUTE answers w1 0 (12 R379). -/
def State.settleLeft (s : State) : State :=
  let (wait, done) := s.sw.leaving.partition fun l => s.frameWaits l.kind.toNat l.tag
  let s1 : State := { s with sw.leaving := wait }
  s1.each done fun t l => t.complete l.key .ok 0 (if l.kind = 0 then [0] else [])

/-! ### What the root knows of the wiring -/

/-- The link by which a node hangs (12 R375). -/
def Swarm.linkOf (w : Swarm) (a : Addr) : Option SwLink := w.links.find? fun l => l.node == a

/-- The nodes on the path from a node to the root, the node first. -/
def Swarm.pathFuel (w : Swarm) : Nat → Addr → List Addr
  | 0, _ => []
  | k + 1, a => if a = 0 then [] else
    match w.linkOf a with
    | some l => a :: w.pathFuel k l.parent
    | none => [a]

def Swarm.path (w : Swarm) (a : Addr) : List Addr := w.pathFuel w.links.length a

/-- The path latency of a destination (12 R375, R385). -/
def Swarm.latOf (w : Swarm) (a : Addr) : Nat :=
  match w.linkOf a with
  | some l => l.lat.toNat
  | none => 0

/-- Whether a link has an end (12 R382). -/
def SwLink.has (l : SwLink) (a : Addr) (p : Port) : Bool :=
  (l.node == a && l.nodePort == p) || (l.parent == a && l.port == p)

/-! ### SWARM_ENUM -/

/-- The key of an enumeration in progress (11 R335). -/
def enumKey : Nat := 102

/-- The payload of an ENUM frame (12 R370); its layout is the model's (log entry 14). -/
def enumPayload : EnumMsg → List Word
  | .ask => [0]
  | .probe p => [1, BitVec.ofNat 32 p.val]
  | .assign a st features lat hops =>
    [2, a.setWidth 32, st.setWidth 32, (st >>> 32).setWidth 32, features, lat.setWidth 32, hops.setWidth 32]
  | .route a out => [3, a.setWidth 32, BitVec.ofNat 32 out.val]
  | .mark p use => [4, BitVec.ofNat 32 p.val, use.setWidth 32]
  | .refuse p => [5, BitVec.ofNat 32 p.val]
  | .found serial role far delay =>
    6 :: serial.toList ++ [role.setWidth 32, BitVec.ofNat 32 far.val, delay.setWidth 32]
  | .nothing => [7]

/-- Send an ENUM frame out of a port to a module. -/
def State.sendEnum (s : State) (p : Port) (dst : Addr) (m : EnumMsg) : State :=
  s.sendOn p { cls := .control, kind := 7, bcast := false, dst := dst, src := s.ownAddr, hops := 0, tag := s.sw.tag
               more := false, payload := enumPayload m }

/-- Send an ENUM frame to a module that has an address. -/
def State.tellEnum (s : State) (dst : Addr) (m : EnumMsg) : State :=
  match s.routeTo dst with
  | some p => s.sendEnum p dst m
  | none => s

/-- The walk goes on to the next port that leads anywhere (12 R375): an own port that is up is asked, a node is
told to probe. The ports of links recorded as closures are done. -/
def walkFuel : Nat → State → State
  | 0, s => s
  | k + 1, s =>
    match s.sw.walk with
    | [] => s
    | (a, p) :: rest =>
      if s.sw.skip.contains (a, p) || (a == 0 && !s.portUp p) then walkFuel k { s with sw.walk := rest }
      else if a = 0 then s.sendEnum p 0 .ask
      else s.tellEnum a (.probe p)

def State.walkOn (s : State) : State := walkFuel s.sw.walk.length s

/-- The start of a walk (12 R375): the root forgets what the last walk found, counts as addressed, and probes D1
before D2. -/
def State.startEnum (s : State) (budget : Word) : State :=
  let s1 : State := { s with
    sw.enumBusy := true
    sw.budget := budget.setWidth 17
    sw.nodes := 0
    sw.maxLat := 0
    sw.refused := 0
    sw.ring := 0
    sw.routes := []
    sw.links := []
    sw.serials := [(0, s.sec.serial)]
    sw.walk := [(0, 1), (0, 2)]
    sw.skip := []
    sw.ringEnds := none
    sw.broken := [] }
  let s2 := s1.each allPorts fun t p => t.modPort p fun x =>
    { x with use := 0, state := if x.state = 4 then 3 else x.state }
  s2.walkOn

/-- The response words of START (12 R377). -/
def State.enumWords (s : State) : List Word :=
  [s.sw.nodes.setWidth 32, s.sw.maxLat.setWidth 32, pk [(s.sw.ring.toNat, 30), (s.sw.refused.toNat, 0)]]

def swarmEnumSpec : CmdSpec :=
  { op := 0x30, safe := false, feat := some 4
    lenOk := fun args ws => 1 < arg args 1 0 || ws.length == if arg args 1 0 = 0 then 1 else 0 }

/-- SWARM_ENUM (12 R375, R377). -/
def swarmEnumBody : Body := fun _ args ws s =>
  match arg args 1 0 with
  | 0 =>
    checked (failIf (outside (wAt ws 0).toNat 500 100000) .range ++ failIf (!s.isRoot) .denied ++
             failIf s.sw.enumBusy .busy) s
      (let t := s.startEnum (wAt ws 0)
       if t.sw.walk.isEmpty then (State.raiseEnum { t with sw.enumBusy := false } 1 0, .now .ok 0 t.enumWords)
       else (t, .later enumKey))
  | 1 => (s, .now .ok 0 [s.swStatW, s.swPortW 0, s.swPortW 1, s.swPortW 2, s.sw.lat.setWidth 32])
  | _ => (s, .fail .range)

def execSwarmEnumStart (c : Cmd) (s : State) : Out :=
  .next (s.hostCmd swarmEnumSpec swarmEnumBody { c with args := rowArg c.args 1 0 0 1 })

def execSwarmEnumQuery (c : Cmd) (s : State) : Out :=
  .next (s.hostCmd swarmEnumSpec swarmEnumBody { c with args := rowArg c.args 1 0 1 1 })

/-- A port is refused (12 R375, R388): an own port reads refused and raises its event, a node is told. -/
def State.refusePort (s : State) (a : Addr) (p : Port) : State :=
  let s1 : State := { s with sw.refused := satInc s.sw.refused }
  if a = 0 then (s1.modPort p fun x => { x with state := 4 }).raisePort p 3 else s1.tellEnum a (.refuse p)

/-- The use of a port (12 R375, R382, R388): set here, or told to its node. -/
def State.usePort (s : State) (a : Addr) (p : Port) (use : BitVec 2) : State :=
  if a = 0 then s.modPort p fun x => { x with use := use } else s.tellEnum a (.mark p use)

/-- A ring closure (12 R375): at a port of the root it becomes ring standby and the other end downstream;
elsewhere both ports are refused. -/
def State.closeRing (s : State) (a : Addr) (p : Port) (b : Addr) (q : Port) : State :=
  let s1 : State := { s with sw.skip := s.sw.skip ++ [(a, p), (b, q)] }
  if a = 0 then
    State.usePort { s1.usePort 0 p 3 with sw.ring := 1, sw.ringEnds := some ((0, p), (b, q)) } b q 2
  else if b = 0 then
    State.usePort { s1.usePort 0 q 3 with sw.ring := 1, sw.ringEnds := some ((0, q), (a, p)) } a p 2
  else ((s1.refusePort a p).refusePort b q).raiseEnum 6 0

/-- A node found at a port (12 R375): refused beyond BUDGET or at 4095 nodes; else it takes the next address, the
root and the nodes on its path take its route, its ports join the walk, and it is told. LAT counts whole ns of each
link (log entry 14). -/
def State.nodeFound (s : State) (a : Addr) (p : Port) (serial : Vector Word 4) (far : Port) (delay : BitVec 16) :
    State :=
  let lat := s.sw.latOf a + (if a = 0 then 0 else 320) + delay.toNat / 4
  if s.sw.budget.toNat < lat then (s.refusePort a p).raiseEnum 2 0
  else if s.sw.nodes = 4095 then (s.refusePort a p).raiseEnum 4 0
  else
    let b : Addr := s.sw.nodes + 1
    let lat17 : BitVec 17 := BitVec.ofNat 17 lat
    let hop (x : Addr × Addr) (t : State) : State := match s.sw.linkOf x.2 with
      | some l => t.tellEnum x.1 (.route b l.port)
      | none => t
    let up := s.sw.path a
    let s1 := s.usePort a p 2
    let s2 : State := { s1 with
      sw.nodes := b
      sw.maxLat := if s.sw.maxLat.toNat < lat then lat17 else s.sw.maxLat
      sw.routes := s.sw.routes ++ [(b, if a = 0 then p else (s.routeTo a).getD p)]
      sw.links := s.sw.links ++ [{ node := b, nodePort := far, parent := a, port := p, lat := lat17 }]
      sw.serials := s.sw.serials ++ [(b, serial)]
      sw.walk := s.sw.walk ++ [(b, 1), (b, 2)] }
    let s3 := if a = 0 then s2 else s2.tellEnum a (.route b p)
    let s4 := s3.each ((up.drop 1).zip up) fun t x => hop x t
    s4.tellEnum b (.assign b s4.sw.st s4.sec.acc lat17 (BitVec.ofNat 12 ((s.sw.path a).length + 1)))

/-- The outcome of the probe of a port (12 R375). -/
def State.probed (s : State) (a : Addr) (p : Port) (m : EnumMsg) : State :=
  match m with
  | .found serial role far delay =>
    match s.sw.serials.find? fun x => x.2 == serial with
    | some x => s.closeRing a p x.1 far
    | none =>
      if role = 1 then (s.refusePort a p).raiseEnum 3 0
      else if role = 2 then s.nodeFound a p serial far (if a = 0 then (s.swPort p).delay else delay)
      else s
  | _ => s

/-- The end of the walk (12 R375, R377). -/
def State.enumDone (s : State) : State :=
  let s1 : State := { s with sw.enumBusy := false }
  (s1.raiseEnum 1 0).complete enumKey .ok 0 s1.enumWords

/-- What is found or not found at the port that the walk probes (12 R375): then the walk goes on, or ends. -/
def State.enumAtRoot (s : State) (m : EnumMsg) : State :=
  match s.sw.walk with
  | [] => s
  | (a, p) :: rest =>
    let s1 := (State.probed { s with sw.walk := rest } a p m).walkOn
    if s1.sw.walk.isEmpty then s1.enumDone else s1

/-- A node is addressed (12 R363, R376): its swarm time steps to the root's, unless a comb on TB3 is active
and it slews; it adopts its features; a changed address is reported. -/
def State.addressed (s : State) (p : Port) (a : Addr) (st : BitVec 64) (features : Word) (lat : BitVec 17)
    (hops : BitVec 12) : State :=
  let old := s.sw.addr
  let tb3 := match s.comb.active with
    | some c => c.hdr.tb == 3
    | none => false
  let s1 := s.each allPorts fun t q => t.modPort q fun x =>
    { x with use := if q = p then 1 else 0, state := if x.state = 4 then 3 else x.state }
  let s2 : State := { s1 with
    sw.addr := a
    sw.addrv := true
    sw.lat := lat
    sw.hops := hops
    sw.routes := []
    sw.st := if tb3 then s.sw.st else st
    sw.slew := if tb3 then 1000 * ((st.toNat : Int) - s.sw.st.toNat) else 0
    sw.frac := if tb3 then s.sw.frac else 0
    sw.rootFeatures := features }
  let s3 := (s2.countSt s).acceptFeatures (features &&& s.sec.offer)
  let s4 : State := { s3 with
    port.rckNext := if s3.port.rckEn = s.port.rckEn then s3.port.rckNext else some s3.port.rckEn }
  if s.sw.addrv && old != a then s4.raiseEnum 5 old else s4

/-- What the walk tells a node (12 R375, R376): its address, the routes behind it, the use of its ports, and which
port to probe; what a probe of its own finds it tells the root, with the delay of the link. -/
def State.enumAtNode (s : State) (p : Port) (m : EnumMsg) : State :=
  match m with
  | .ask => s
  | .probe q => if s.portUp q then s.sendEnum q 0 .ask else s.tellEnum 0 .nothing
  | .assign a st features lat hops => s.addressed p a st features lat hops
  | .route a out =>
    let s1 := s.modPort out fun x => { x with use := 2 }
    { s1 with sw.routes := (s1.sw.routes.filter fun r => r.1 != a) ++ [(a, out)] }
  | .mark q use => s.modPort q fun x => { x with use := use }
  | .refuse q => (s.modPort q fun x => { x with state := 4 }).raisePort q 3
  | .found serial role far delay =>
    s.tellEnum 0 (.found serial role far (if s.upstream = some p then delay else (s.swPort p).delay))
  | .nothing => s

/-! ### SWARM_ROUTE -/

/-- The key of a routed command that awaits its response (11 R335). -/
def routeKey (tag : BitVec 8) : Nat := 1000 + tag.toNat

/-- The opcodes that may be broadcast (12 R379). -/
def broadcastable (op : Nat) : Bool :=
  op == 0x06 || op == 0x0B || op == 0x13 || op == 0x22 || op == 0x23 || op == 0x40

/-- The mailbox of a routed command (12 R370): MB1 for the commands that only MB1 carries. -/
def routedMb (op : Nat) : BitVec 2 :=
  if [0x10, 0x11, 0x12, 0x1A, 0x28, 0x29, 0x2A, 0x39, 0x3A, 0x3B].contains op then 1 else 0

/-- The OPCODE of a word 0 (11 R339). -/
def opcodeOf (w : Word) : Nat := fld w 31 24

def swarmRouteSpec : CmdSpec :=
  { op := 0x31, safe := false, feat := some 4
    lenOk := fun _ ws => decide (2 ≤ ws.length ∧ ws.length ≤ 1023) }

/-- SWARM_ROUTE (12 R378, R379). -/
def swarmRouteBody : Body := fun snd _ ws s =>
  let w := wAt ws 0
  let bcast := bit w 12
  let dst : Addr := w.setWidth 12
  let op := opcodeOf (wAt ws 1)
  if !snd.isHost || !s.isRoot then (s, .fail .denied)
  else checked (failIf (decide (1000 < fld w 31 16)) .range ++
           failIf (bcast && !broadcastable op) .range ++
           failIf (!bcast && (dst == 0 || (s.routeTo dst).isNone)) .range) s
    (let tag := s.newTag
     let wait := (if fld w 31 16 = 0 then 100 else fld w 31 16) * milli
     let t := State.sendMsg { s with
       sw.tag := tag
       sw.waits := if bcast then s.sw.waits else s.sw.waits ++ [(tag, s.time + wait)] } (classOfMb (routedMb op)) 0 bcast
       dst tag (ws.drop 1)
     if bcast then t.answerLeft (routeKey tag) 0 tag [0] else (t, .later (routeKey tag)))

def execSwarmRoute (c : Cmd) (s : State) : Out := .next (s.hostCmd swarmRouteSpec swarmRouteBody c)

/-! ### SWARM_TRIGGER -/

/-- A trigger is armed, or discarded and counted at the ninth (12 R385). -/
def State.armTrigger (s : State) (t : Trigger) : State :=
  if s.sw.trigs.length < 8 then { s with sw.trigs := s.sw.trigs ++ [t] }
  else { s with sw.missed := satInc s.sw.missed }

/-- A trigger is not carried out (12 R386). -/
def State.missTrigger (s : State) : State :=
  State.raiseSync { s with sw.missed := satInc s.sw.missed } 3

/-- The key of a SWARM_TRIGGER whose frame has not left. -/
def triggerKey (tag : BitVec 8) : Nat := 2000 + tag.toNat

def swarmTriggerSpec : CmdSpec :=
  { op := 0x32, standby := false, safe := false, service := false, feat := some 4, lenOk := exactly 3 }

/-- The words of a TRIGGER frame: ARGS and w1 to w3 of the command (12 R385; log entry 14). -/
def triggerWords (args : BitVec 24) (ws : List Word) : List Word := args.setWidth 32 :: ws

/-- SWARM_TRIGGER (12 R385): ST counts 50 ns, LAT is in ns. -/
def swarmTriggerBody : Body := fun _ args ws s =>
  let dst : Addr := args.setWidth 12
  let bcast := arg args 12 12 == 1
  let at' : BitVec 64 := (wAt ws 0).setWidth 64 ||| ((wAt ws 1).setWidth 64 <<< 32)
  let lat := if bcast then s.sw.maxLat.toNat else s.sw.latOf dst
  let ahead : Int := 50 * ((at'.toNat : Int) - s.sw.st.toNat)
  let local' := bcast || dst == 0
  checked (failIf (decide (ahead < lat + 100000 ∨ 60000000000 < ahead)) .range ++
           failIf (arg args 15 13 == 0) .range ++
           failIf (!bcast && dst != 0 && (s.routeTo dst).isNone) .range ++
           failIf (!s.isRoot) .denied) s
    (let tag := s.newTag
     let x : Trigger := { st := at', capture := args.getLsbD 13, pulse := args.getLsbD 14
                          snap := args.getLsbD 15, mask := wAt ws 2 }
     let s1 : State := { s with sw.tag := tag }
     let s2 := if local' then s1.armTrigger x else s1
     if !bcast && dst == 0 then (s2, .ok)
     else (s2.sendMsg .control 5 bcast dst tag (triggerWords args ws)).answerLeft (triggerKey tag) 5 tag [])

def execSwarmTrigger (c : Cmd) (s : State) : Out := .next (s.hostCmd swarmTriggerSpec swarmTriggerBody c)

end Sys2Proof.Machine
end

