-- ==== Sys2Proof/Machine/Opcodes.lean ====
section
/-! DEFINITION. The opcode table as a dispatcher (11 R341, R342), for the commands that arrive over the
swarm (12 R378) and for opcodes outside the table. -/

namespace Sys2Proof.Machine

/-- The description of an opcode outside the table: it is answered UNKNOWN_OPCODE in every mode
(11 R341). -/
def unknownSpec (op : Nat) : CmdSpec :=
  { op := op, mb1 := true, lenOk := fun _ _ => true, pre := fun _ => true }

def unknownBody : Body := fun _ _ _ s => (s, .fail .unknownOpcode)

/-- The commands below 0x20 of the opcode table (11 R342). -/
def commandLow (op : Nat) : Option (CmdSpec × Body) :=
  match op with
  | 0x01 => some (helloSpec, helloBody)
  | 0x02 => some (featAcceptSpec, featAcceptBody)
  | 0x03 => some (getObjSpec, getObjBody)
  | 0x04 => some (setObjSpec, setObjBody)
  | 0x05 => some (getObjBlockSpec, getObjBlockBody)
  | 0x06 => some (setModeSpec, setModeBody)
  | 0x07 => some (chConfigSpec, chConfigBody)
  | 0x08 => some (outWriteSpec, entriesBody State.outEntry)
  | 0x09 => some (aoWriteSpec, entriesBody State.aoEntry)
  | 0x0A => some (evtAckSpec, evtAckBody)
  | 0x0B => some (evtMaskSpec, evtMaskBody)
  | 0x10 => some (combLoadBeginSpec, combLoadBeginBody)
  | 0x11 => some (combLoadDataSpec, combLoadDataBody)
  | 0x12 => some (combCommitSpec, combCommitBody)
  | 0x13 => some (combSwapSpec, combSwapBody)
  | 0x18 => some (adcCalSpec, adcCalBody)
  | 0x19 => some (captureArmSpec, captureArmBody)
  | 0x1A => some (captureReadSpec, captureReadBody)
  | _ => none

/-- The commands from 0x20 on of the opcode table (11 R342). -/
def commandHigh (op : Nat) : Option (CmdSpec × Body) :=
  match op with
  | 0x20 => some (waggleSpec, waggleBody)
  | 0x21 => some (taskCheckinSpec, taskCheckinBody)
  | 0x22 => some (safeApplySpec, safeApplyBody)
  | 0x23 => some (safeReleaseSpec, safeReleaseBody)
  | 0x28 => some (logReadSpec, logReadBody)
  | 0x29 => some (logClearChallengeSpec, logClearChallengeBody)
  | 0x2A => some (logClearSpec, logClearBody [] true)
  | 0x30 => some (swarmEnumSpec, swarmEnumBody)
  | 0x31 => some (swarmRouteSpec, swarmRouteBody)
  | 0x32 => some (swarmTriggerSpec, swarmTriggerBody)
  | 0x38 => some (attestSpec, attestBody)
  | 0x39 => some (fwBeginSpec, fwBeginBody)
  | 0x3A => some (fwDataSpec, fwDataBody)
  | 0x3B => some (fwActivateSpec, fwActivateBody)
  | 0x3C => some (debugUnlockChallengeSpec, debugUnlockChallengeBody)
  | 0x3D => some (debugUnlockSpec, debugUnlockBody)
  | 0x3E => some (keyProvisionSpec, keyProvisionBody)
  | 0x40 => some (latencyTolSpec, latencyTolBody)
  | 0x41 => some (hartSendSpec, hartSendBody)
  | 0x42 => some (hartRecvSpec, hartRecvBody)
  | _ => none

/-- The command of an OPCODE (11 R341, R342). -/
def commandOf (op : Nat) : CmdSpec × Body :=
  ((if op < 0x20 then commandLow op else commandHigh op)).getD (unknownSpec op, unknownBody)

/-- UNKNOWN_OPCODE (11 R341): a frame whose OPCODE is in the table after all is that command. -/
def execUnknownOpcode (opcode : BitVec 8) (c : Cmd) (s : State) : Out :=
  let (spec, body) := commandOf opcode.toNat
  .next (s.hostCmd spec body c)

/-- What a receive buffer held goes to the control core (10 R322). -/
def State.takeBuffer (s : State) : RxFrame → State
  | .cmd op m => s.takeLast (commandOf op.toNat).1 (commandOf op.toNat).2 m
  | .seg f words => s.takeSeg f words

/-- DEBUGGER_RESUME (08 R283): the periods of the task monitor resume where they stopped, and the core takes what
the receive buffers hold. -/
def execDebuggerResume (s : State) : Out :=
  if s.pw.halted then
    let s1 : State := { s with
      pw.halted := false, port.bufs := []
      wd.taskStart := s.wd.taskStart.map fun t => t + (s.time - s.pw.haltedAt) }
    .next (s1.each s.port.bufs State.takeBuffer)
  else .next s

/-- A frame for this module arrived (08 R274, 13 R416): from the root it serves a node's host-silence timer; one
that is addressed wakes a dozing module. -/
def State.swarmIn (s : State) (fromRoot addressed : Bool) : State :=
  let s1 := if s.isNode && s.hostUp && fromRoot then s.serveHs else s
  if addressed && s1.hostUp then s1.wake else s1

/-- The last segment of a message in some class arrived (12 R369, R371): its blocks are freed; whether the message
is whole, of `len` words, no segment of it having been discarded. -/
def State.endMsg (s : State) (clss : List SwClass) (src : Addr) (tag : BitVec 8) (len : Nat) (bcast : Bool) :
    State × Bool :=
  let mine (c : SwClass) (a : Addr) (g : BitVec 8) : Bool := clss.contains c && a == src && g == tag
  let held := ((s.sw.segs.filter fun x => mine x.cls x.src x.tag).map fun x => x.words.length).sum
  let cls := ((s.sw.segs.find? fun x => mine x.cls x.src x.tag).map (·.cls)).getD (clss.headD .control)
  let s1 := if bcast then s else s.took src cls (len - held)
  ({ s1 with
     sw.segs := s1.sw.segs.filter fun x => !mine x.cls x.src x.tag
     sw.lostMsgs := s1.sw.lostMsgs.filter fun x => !(clss.contains x.1 && x.2.1 == src) },
   !s.sw.lostMsgs.any fun x => mine x.1 x.2.1 x.2.2)

/-- SWARM_CMD_RECEIVED (12 R374, R378): the node runs the embedded command as one of its own, in the name of
its sender. -/
def execSwarmCmdReceived (src : Addr) (tag : BitVec 8) (bcast : Bool) (words : List Word) (s : State) : Out :=
  if !s.isNode || !s.swarmOn then .next s
  else
    let op := opcodeOf (wAt words 0)
    let r := (s.swarmIn (src == 0) (!bcast)).endMsg [classOfMb (routedMb op)] src tag words.length bcast
    if words.isEmpty || !r.2 || !r.1.swarmCore then .next r.1
    else
      let c := commandOf op
      let f : Frame := { mb := routedMb op, seq := tag, bulk := false }
      .next (r.1.wake.swarmCmd c.1 c.2 src f (frameCrc words) bcast ((wAt words 0).setWidth 24) (words.drop 1))

end Sys2Proof.Machine
end

