-- ==== Sys2Proof/Machine/SwarmRows.lean ====
section
/-! DEFINITION. What the swarm link brings: responses, events, results, triggers, heartbeats, ring breaks
and healing, ordered sets, time (12 R367 to R387, 09 R304). -/

namespace Sys2Proof.Machine

/-! ### Responses, events, results -/

/-- A port that is in service. -/
def State.portOn (s : State) (p : Port) : Bool := s.swarmOn && (s.swPort p).state != 0


/-- Whether a command waits for its own frame to leave, and not for a response. -/
def State.leavingKey (s : State) (key : Nat) : Bool := s.sw.leaving.any fun l => l.key == key

/-- SWARM_RSP_RECEIVED (12 R379): a late response, and one to a broadcast, is discarded. -/
def execSwarmRspReceived (src : Addr) (tag : BitVec 8) (words : List Word) (s : State) : Out :=
  if !s.isRoot || !s.swarmOn then .next s
  else
    let r := (s.swarmIn false true).endMsg [.control, .bulk] src tag words.length false
    let s1 := r.1
    if s1.leavingKey (routeKey tag) || !s1.swarmCore || !r.2 then .next s1
    else .next (State.complete { s1 with sw.waits := s1.sw.waits.filter fun x => x.1 != tag }
      (routeKey tag) .ok 0 (src.setWidth 32 :: words))

/-- SWARM_ROUTE_TIMEOUT (12 R379): TMO is over and no response came. -/
def execSwarmRouteTimeout (tag : BitVec 8) (s : State) : Out :=
  if s.sw.waits.any fun x => x.1 == tag && decide (x.2 ≤ s.time) then
    .next (State.complete { s with sw.waits := s.sw.waits.filter fun x => x.1 != tag }
      (routeKey tag) .timeout 0 [])
  else .next s

/-- The words of a REVACK (12 R381; log entry 14): how many records of the frame are accepted. -/
def revackWords (accepted : Nat) : List Word := [BitVec.ofNat 32 accepted]

/-- A record enters SW_REVQ, or is refused for a full queue (12 R381). -/
def State.relayEvent (s : State) (src : Addr) (r : EvRecord) : State :=
  if s.sw.revq.length < 256 then
    let s1 : State := { s with sw.revq := s.sw.revq ++ [(src, r)] }
    s1.raise 103 src.toNat 1 s1.swRevstatW 0 0
  else
    let s1 : State := { s with sw.holds := satInc s.sw.holds }
    if s1.spaced s1.sw.lastEv103 (10 * milli) then
      let t := s1.raise 103 src.toNat 2 s1.swRevstatW 0 0
      { t with sw.lastEv103 := some t.time }
    else s1

/-- SWARM_EVENT_RECEIVED (12 R381): SW_REVQ holds 256 records, and takes those of a frame that fit. -/
def execSwarmEventReceived (src : Addr) (tag : BitVec 8) (recs : List EvRecord) (s : State) : Out :=
  if !s.isRoot || !s.swarmOn then .next s
  else
    let r := (s.swarmIn false true).endMsg [.event] src tag (6 * recs.length) false
    if !r.1.swarmCore || !r.2 then .next r.1
    else
      let n := min recs.length (256 - r.1.sw.revq.length)
      .next ((r.1.each recs fun t e => t.relayEvent src e).sendMsg .control 3 false src tag (revackWords n))

/-- SWARM_REVACK_RECEIVED (12 R381, 09 R304): the first records are delivered, the refused ones kept. The answer to
a FOREIGN record comes in the same way (log entry 76). -/
def execSwarmRevackReceived (src : Addr) (tag : BitVec 8) (accepted : Nat) (s : State) : Out :=
  if !s.swarmOn then .next s
  else
    let s1 := (s.swarmIn (src == 0) true).took src .control 1
    if !s1.swarmCore then .next s1
    else if s1.sw.foreign.any fun x => x.1 == tag then
      .next { s1 with
        sw.foreign := s1.sw.foreign.filter fun x => x.1 != tag
        rcd.peerRef := if accepted = 0 then satInc s1.rcd.peerRef else s1.rcd.peerRef }
    else if s1.isNode then
      let s2 := s1.each (s1.sw.offer.take accepted) State.deliverEvent
      .next { s2 with sw.offer := s1.sw.offer.drop accepted }
    else .next s1

/-- The records of the enabled pending events leave for the root in an EVENT frame (12 R381). -/
def State.offerEvents (s : State) : State :=
  match s.readyRecords with
  | [] => { s with sw.offer := [] }
  | recs =>
    let tag := s.newTag
    State.sendMsg { s with sw.offer := recs, sw.tag := tag } .event 2 false 0 tag (recs.flatMap eventWords)

/-- REMOTE_EVENT_REOFFER (12 R381). -/
def execRemoteEventReoffer (s : State) : Out :=
  if s.isNode && s.swarmCore && s.sw.addrv && !s.sw.offer.isEmpty then .next s.offerEvents else .next s

/-- An entry as it enters at the root: its owner is the node, unless the node relayed it (12 R381). -/
def relayed (src : Addr) (e : QEntry) : QEntry := if e.src = 0 then { e with src := src } else e

/-- SWARM_RESULTS_RECEIVED (12 R381, 05 R173): backpressure acts as discard newest. -/
def execSwarmResultsReceived (src : Addr) (tag : BitVec 8) (stream : Bool) (entries : List QEntry) (s : State) : Out :=
  if !s.isRoot || !s.swarmOn then .next s
  else
    let r := (s.swarmIn false true).endMsg [if stream then .stream else .event] src tag
      (entries.map qsize).sum false
    if !r.1.hostUp || !r.2 then .next r.1
    else .next (r.1.each entries fun t e => t.putEntry stream (relayed src e))

/-- Up to 256 words of a node's own partition leave as RESULTS, as the credit of the class allows (12 R381). -/
def State.sendResults (s : State) (strm : Bool) : State :=
  let p := s.res.part strm
  let cls : SwClass := if strm then .stream else .event
  match s.upstream with
  | none => s
  | some q =>
    let x := s.swPort q
    let n := min 256 (16 * x.creditOf cls - 3)
    match p.head n with
    | [] => s
    | es =>
      if s.portUp q && !x.waiting.any (fun w => w.2.cls == cls) then
        let tag := s.newTag
        let s1 : State := { s with res := s.res.setPart strm (p.rest n), sw.tag := tag }
        (s1.afterTake strm).sendMsg cls 4 false 0 tag (entryWords es)
      else s

/-- What a node sends of its own accord (12 R381): the records of its events when none is unconfirmed,
and its results. -/
def State.nodeSends (s : State) : State :=
  if s.isNode && s.swarmCore && s.sw.addrv && s.feat 4 then
    let s1 :=
      if s.sw.offer.isEmpty && !s.readyRecords.isEmpty &&
          (match s.upstream with | some p => s.portUp p | none => false) then
        s.offerEvents
      else s
    (s1.sendResults false).sendResults true
  else s

/-! ### Triggers -/

/-- SWARM_TRIGGER_RECEIVED (12 R385, R386, 13 R416). -/
def execSwarmTriggerReceived (t : Trigger) (bcast : Bool) (s : State) : Out :=
  if !s.swarmOn then .next s
  else
    let s0 := s.swarmIn true (!bcast)
    let s1 := if bcast then s0 else s0.took 0 .control 4
    if !s1.hostUp then .next s1
    else if t.st.toNat ≤ s.sw.st.toNat then .next s1.missTrigger
    else .next (s1.armTrigger t)

/-- A channel is held at ST for a SNAP (12 R386, 04 R160, R161): its conversion is of the injected class, and
takes the place of an injection that still waits. -/
def State.snapChannel (s : State) (n : Ch) : State :=
  if s.schedNow n || !(s.modeOf n).isAi || !s.canConvert n then s
  else
    let s1 := s.inject n
    if (s1.chan n).ai.inj.isSome && !s.paused n .inj then s1.holdInj n else s1

/-- SWARM_TRIGGER_FIRE (12 R386, R387): at its ST. -/
def execSwarmTriggerFire (t : Trigger) (s : State) : Out :=
  if !s.swarmOn || !s.hostUp || !s.sw.trigs.contains t || decide (s.sw.st.toNat < t.st.toNat) then .next s
  else
    let s1 : State := { s with sw.trigs := s.sw.trigs.erase t }
    if s.isNode && !s.sw.synced then .next s1.missTrigger
    else
      let s2 := if t.capture && fld s1.res.cap.cfg 29 27 == 3 then s1.capTrigger s1.stampNow else s1
      let s3 : State := if t.pulse && s2.sw.syncEn then { s2 with sw.syncPulses := s2.sw.syncPulses + 1 } else s2
      .next (if t.snap then s3.each (allCh.filter fun n => bit t.mask n.val) State.snapChannel else s3)

/-! ### Heartbeat, enumeration -/

/-- HEARTBEAT_SEND (12 R380): never more often than once per 50 µs. -/
def execHeartbeatSend (s : State) : Out :=
  if s.isRoot && s.swarmOn && s.hostUp && s.feat 4 && s.sw.heartbeatDue &&
      s.spaced s.sw.lastHeartbeat (50 * micro) then
    let s1 : State := { s with sw.heartbeatDue := false, sw.lastHeartbeat := some s.time }
    .next (s1.sendMsg .control 6 true 0 s1.sw.tag [s1.sec.acc])
  else .next s

/-- HEARTBEAT_RECEIVED (12 R363, R380): it serves the timer, and brings the features again after an
activation. -/
def execHeartbeatReceived (rootFeatures : Word) (s : State) : Out :=
  if !s.isNode || !s.swarmOn then .next s
  else
    let s1 := s.swarmIn true false
    let s2 : State := { s1 with sw.rootFeatures := rootFeatures }
    if s2.swarmCore && s2.sw.addrv && !s2.pw.neg then 
      let s3 := s2.acceptFeatures (rootFeatures &&& s2.sec.offer)
      .next { s3 with port.rckNext := if s3.port.rckEn = s2.port.rckEn then s3.port.rckNext else some s3.port.rckEn }
    else .next s2

/-- A module that is asked who it is answers with its serial number and role (12 R375). -/
def State.answerAsk (s : State) (p : Port) : State :=
  s.sendEnum p 0 (.found s.sec.serial s.port.strap1 p 0)

/-- ENUM_RECEIVED (12 R375, R376). -/
def execEnumReceived (p : Port) (m : EnumMsg) (s : State) : Out :=
  if !s.portOn p then .next s
  else
    let s1 := (s.swarmIn true true).emit p (.credit .control (blocksOf (enumPayload m).length))
    if !s1.swarmCore then .next s1
    else if m = .ask then .next (s1.answerAsk p)
    else if s1.isNode then .next (s1.enumAtNode p m)
    else if s1.sw.enumBusy then .next (s1.enumAtRoot m)
    else .next s1

/-! ### Ring breaks and healing -/

/-- Frames that wait on one port go on to another (12 R372, R382): in the order of precedence. -/
def State.moveWaiting (s : State) (a b : Port) : State :=
  let ws := (s.swPort a).waiting
  ((s.modPort a fun x => { x with waiting := [] }).enqueue b ws).drainPort b

/-- A HEAL frame of this module (12 R370, R382). -/
def State.healFrame (s : State) : SwFrame :=
  { cls := .control, kind := 8, bcast := false, dst := 0, src := s.ownAddr, hops := 0, tag := s.sw.tag
    more := false, payload := [] }

/-- HEAL_RECEIVED (12 R382): D1 becomes the upstream port and HEAL goes on out of UP, up to the node whose UP
is down. -/
def execHealReceived (p : Port) (s : State) : Out :=
  if !s.portOn p then .next s
  else
    let s1 := (s.swarmIn true true).emit p (.credit .control (blocksOf 0))
    if !s1.isNode || !s1.swarmCore || p != 1 then .next s1
    else
      let s2 := s1.modPort 1 fun x => { x with use := 1 }
      let s3 : State := { s2 with sw.routes := s2.sw.routes.filter fun r => r.2 != 1 }
      let up := s3.portUp 0
      let s4 := s3.modPort 0 fun x => { x with use := if up then 2 else 3 }
      let s5 := s4.moveWaiting 0 1
      .next (if up then s5.sendOn 0 s5.healFrame else s5)

/-- A link reversed (12 R382). -/
def SwLink.flip (l : SwLink) : SwLink :=
  { l with node := l.parent, nodePort := l.port, parent := l.node, port := l.nodePort }

/-- A link of the ring is down, as the root learns of it (12 R382): healed through the root's standby port, or
reported. The links from the far end of the closure to the break turn round, and the broken one becomes the standby
link. -/
def State.ringBreak (s : State) (l : SwLink) : State :=
  let w := s.sw
  match w.ringEnds with
  | none => s
  | some (near, far) =>
    if near.1 != 0 || !s.portUp near.2 || w.healRo then
      State.raiseRing { s with sw.ring := 2 } l.parent (if near.1 == 0 && s.portUp near.2 then 1 + reportOnly else 1)
    else
      let turned := (w.path far.1).takeWhile fun a => a != l.node
      let turn (x : SwLink) : SwLink := if turned.contains x.node then x.flip else x
      let s1 := (s.raiseRing l.parent 1).sendOn near.2 s.healFrame
      let s2 := s1.modPort near.2 fun x => { x with use := 2 }
      State.raiseRing { s2 with
        sw.routes := w.routes.map fun r => if (w.path r.1).contains l.node then (r.1, near.2) else r
        sw.links := { node := far.1, nodePort := far.2, parent := 0, port := near.2, lat := l.lat } ::
          (w.links.filter fun x => x != l).map turn
        sw.ringEnds := some ((l.parent, l.port), (l.node, l.nodePort))
        sw.ring := 3 } l.parent 2

/-- Whether a link reported down by one end is known by its other end (12 R382). -/
def Swarm.sameLink (w : Swarm) (e f : Addr × Port) : Bool :=
  e == f || (w.links.any fun l => l.has e.1 e.2 && l.has f.1 f.2) ||
  match w.ringEnds with
  | some (x, y) => (e == x || e == y) && (f == x || f == y)
  | none => false

/-- The root learns that a link is down (12 R382): a second break of the ring isolates the nodes between, and is
reported. -/
def State.linkDown (s : State) (a : Addr) (p : Port) : State :=
  let w := s.sw
  let seen := w.broken.any fun b => w.sameLink b (a, p)
  let s1 : State := if w.broken.contains (a, p) then s else { s with sw.broken := w.broken ++ [(a, p)] }
  match w.ringEnds with
  | none => s1
  | some (near, far) =>
    if seen || w.ring = 0 then s1
    else if (a, p) = near ∨ (a, p) = far then
      if w.ring = 1 then State.raiseRing { s1 with sw.ring := 2 } near.1 1 else s1
    else match w.links.find? fun l => l.has a p with
      | none => s1
      | some l =>
        if !(w.path near.1 ++ w.path far.1).contains l.node then s1
        else if w.ring = 1 then s1.ringBreak l
        else State.raiseRing { s1 with sw.ring := 2 } l.parent 1

/-- The root learns that a link is up again (12 R382): once no link of the ring is down, the standby link is ring
standby at both ends, and RING reads closed. -/
def State.linkUp (s : State) (a : Addr) (p : Port) : State :=
  if !s.sw.broken.contains (a, p) then s
  else
    let s1 : State := { s with sw.broken := s.sw.broken.filter fun b => b != (a, p) }
    match s1.sw.ringEnds with
    | none => s1
    | some (near, far) =>
      if (s.sw.ring = 2 || s.sw.ring = 3) && s1.sw.broken.isEmpty then
        let s2 := s1.usePort near.1 near.2 3
        let s3 := if near.1 = 0 then s2 else s2.usePort far.1 far.2 3
        State.raiseRing { s3 with sw.ring := 1 } near.1 3
      else s1

/-- LINKSTATE_RECEIVED (12 R382). -/
def execLinkstateReceived (addr : Addr) (p : Port) (up : Bool) (s : State) : Out :=
  if !s.isRoot || !s.swarmOn then .next s
  else
    let s1 := (s.swarmIn false true).took addr .control 1
    if !s1.swarmCore then .next s1
    else .next (if up then s1.linkUp addr p else s1.linkDown addr p)

/-- A node tells the root of a change of a port (12 R382; the payload is the model's, log entry 14). -/
def State.tellLink (s : State) (p : Port) (up : Bool) : State :=
  if s.isRoot then if up then s.linkUp 0 p else s.linkDown 0 p
  else if s.sw.addrv then
    s.sendMsg .control 9 false 0 s.sw.tag [pk [(s.sw.addr.toNat, 0), (p.val, 16), (up.toNat, 31)]]
  else s

/-- PORT_DOWN (12 R382, R389): frames that wait are kept. -/
def execPortDown (p : Port) (s : State) : Out :=
  let st := (s.swPort p).state
  if !s.swarmOn || st = 0 || st = 1 then .next s
  else
    let s1 := s.modPort p fun x => { x with state := 1 }
    if st = 3 then .next (((s1.raisePort p 2).tellLink p false).settleLeft) else .next s1

/-- PORT_UP (12 R371, R382, R389). -/
def execPortUp (p : Port) (s : State) : Out :=
  let st := (s.swPort p).state
  if !s.swarmOn || st = 0 || st = 3 || st = 4 then .next s
  else
    let s1 := s.modPort p fun x => { x with state := 3, credit := fullCredit, errTimes := [] }
    .next (((s1.raisePort p 1).drainPort p).tellLink p true).settleLeft

/-! ### Ordered sets -/

/-- LINK_SET_RECEIVED (12 R367, R382): a port that was down trains. -/
def execLinkSetReceived (p : Port) (_content : Byte) (s : State) : Out :=
  if s.portOn p && (s.swPort p).state == 1 then .next (s.modPort p fun x => { x with state := 2 })
  else .next s

/-- LINK_SET_SEND (12 R367): role, state and port of the sender. -/
def execLinkSetSend (p : Port) (s : State) : Out :=
  if s.portOn p then
    .next (s.emit p (.link (BitVec.ofNat 8
      (s.port.strap1.toNat * 64 + (s.swPort p).state.toNat % 4 * 16 + p.val))))
  else .next s

/-- CREDIT_SET_RECEIVED (12 R371). -/
def execCreditSetReceived (p : Port) (cls : SwClass) (blocks : Nat) (s : State) : Out :=
  if !s.swarmOn || !s.portUp p then .next s
  else
    let full := fullCredit[swClassCode cls]'(classLt cls)
    let s1 := s.modPort p fun x => x.withCredit cls (min full (x.creditOf cls + blocks))
    .next ((s1.drain p cls).settleLeft)

/-- PD_REQ_SEND (12 R367). -/
def execPdReqSend (p : Port) (s : State) : Out :=
  if s.swarmOn && s.portUp p then
    let q := (s.swPort p).pdSeq + 1
    .next ((s.modPort p fun x => { x with pdSeq := q }).emit p (.pdReq q))
  else .next s

/-- PD_REQ_RECEIVED (12 R367). -/
def execPdReqReceived (p : Port) (seq : Byte) (turnaround : BitVec 24) (s : State) : Out :=
  if s.portOn p then .next (s.emit p (.pdRsp seq turnaround)) else .next s

/-- PD_RSP_RECEIVED (12 R383): times are in 0.25 ns. -/
def execPdRspReceived (p : Port) (seq : Byte) (turnaround roundTrip : Nat) (s : State) : Out :=
  if s.swarmOn && s.portUp p && seq == (s.swPort p).pdSeq then
    .next (s.modPort p fun x => { x with delay := BitVec.ofNat 16 ((roundTrip - turnaround) / 2) })
  else .next s

/-- The swarm time in 0.25 ns (12 R367, R383). -/
def State.timeQuarters (s : State) : Int := ((s.sw.st.toNat : Int) * 1000 + s.sw.frac) / 5

/-- SYNC_SEND (12 R367): the swarm time in 0.25 ns, on ports that lead away from the root. -/
def execSyncSend (p : Port) (s : State) : Out :=
  if s.swarmOn && s.portUp p && (s.swPort p).use == 2 then
    .next (s.emit p (.sync (BitVec.ofInt 48 s.timeQuarters)))
  else .next s

/-! ### Time -/

/-- Whether a comb on TB3 is active. -/
def State.onTb3 (s : State) : Bool :=
  match s.comb.active with
  | some c => c.hdr.tb == 3
  | none => false

/-- SYNCED clears (12 R384): counted, EV100; a comb on TB3 stalls after STALL_T (07 R248, `execTbStall`). -/
def State.loseSync (s : State) : State :=
  if !s.sw.synced then s
  else State.raiseSync { s with
    sw.synced := false, sw.goodSyncs := 0, sw.losses := satInc s.sw.losses, sw.lostAt := s.time } 1

/-- The offset of a SYNC in 0.25 ns (12 R383): the sender's time and the link delay against the swarm time
here, `sub` quarters of a ns into its unit of 50 ns. -/
def State.syncOffset (s : State) (p : Port) (sent : BitVec 48) (sub : Nat) : Int :=
  let own : Int := s.timeQuarters + sub
  (sent + BitVec.ofNat 48 (s.swPort p).delay.toNat - BitVec.ofInt 48 own).toInt

/-- SYNC_RECEIVED (12 R383, R384): the offset is slewed out. SYNCED clears beyond 1 µs, and sets after three
in a row within 100 ns; a comb on TB3 then resumes (07 R249). -/
def execSyncReceived (p : Port) (sent : BitVec 48) (sub : Nat) (s : State) : Out :=
  if !s.isNode || !s.swarmOn || s.upstream != some p || !s.portUp p then .next s
  else
    let d := s.syncOffset p sent sub
    let s1 : State := { s with sw.offset := BitVec.ofInt 24 d, sw.slew := 5 * d, sw.lastSync := s.time }
    if 4000 < d.natAbs then
      .next (State.loseSync { s1 with sw.goodSyncs := 0 })
    else if d.natAbs ≤ 400 then
      let n := s1.sw.goodSyncs + 1
      let s2 : State := { s1 with sw.goodSyncs := min n 3 }
      if 3 ≤ n && !s2.sw.synced then
        let s3 := State.raiseSync { s2 with sw.synced := true } 2
        .next (if s3.onTb3 && s3.combLive && (s3.comb.cond == .stalled || s3.comb.cond == .fallback) then s3.resume
          else s3)
      else .next s2
    else .next { s1 with sw.goodSyncs := 0 }

/-- SYNC_LOST (12 R384): no SYNC for 10 ms, or a measured offset beyond 1 µs, at which SYNC_RECEIVED has
already cleared SYNCED. -/
def execSyncLost (silent : Bool) (s : State) : Out :=
  if !s.isNode || !s.swarmOn then .next s
  else if if silent then decide (s.sw.lastSync + 10 * milli ≤ s.time)
      else decide (4000 < s.sw.offset.toInt.natAbs) then
    .next (State.loseSync { s with sw.goodSyncs := 0 })
  else .next s

/-- 50 ns pass for the swarm time (12 R383): a node adds up to 0.1 % of rate while an offset is slewed. -/
def State.swarmTick (s : State) : State :=
  if !s.swarmOn then s
  else
    let d := clampInt (-1) 1 s.sw.slew
    let f := s.sw.frac + d
    let units : Nat := if 1000 ≤ f then 2 else if f ≤ -1000 then 0 else 1
    { s with
      sw.st := s.sw.st + BitVec.ofNat 64 units
      sw.slew := s.sw.slew - d
      sw.frac := if units = 1 then f else 0 }

/-! ### Forwarding -/

/-- CREDIT_STARVATION (12 R372, R389). -/
def execCreditStarvation (p : Port) (cls : SwClass) (s : State) : Out :=
  if s.swarmOn && s.portUp p && (s.swPort p).waiting.any fun w => w.2.cls == cls then
    .next (s.raise 101 p.val (swClassCode cls + 1) (s.swPortW p) 0 0)
  else .next s

/-- A frame is discarded (12 R368): counted, and the 16th within 1 ms raises the port's event. -/
def State.discardFrame (s : State) (p : Port) : State :=
  let x := s.swPort p
  let times := (x.errTimes.filter fun t => decide (s.time < t + milli)) ++ [s.time]
  let burst := decide (16 ≤ times.length)
  let s1 := s.modPort p fun x => { x with errs := satInc x.errs, errTimes := if burst then [] else times }
  if burst then s1.raisePort p 4 else s1

/-- SWARM_FRAME_DISCARD (12 R368, R369): a segment takes its message with it, which the count of the frame
covers; `seg` is what its header said. -/
def execSwarmFrameDiscard (p : Port) (seg : Option (SwClass × Addr × BitVec 8)) (s : State) : Out :=
  if !s.portOn p then .next s
  else
    let s1 := s.discardFrame p
    match seg with
    | none => .next s1
    | some m => .next { s1 with
        sw.segs := s1.sw.segs.filter fun x => (x.cls, x.src, x.tag) != m
        sw.lostMsgs := s1.sw.lostMsgs.filter (fun x => x != m) ++ [m] }

/-- The port of a frame to an address that the route table does not hold: after a HEAL, the reversed UP port
leads to the nodes that lie beyond it (12 R382; log entry 16). -/
def State.forwardPort (s : State) (a : Addr) : Option Port :=
  match s.routeTo a with
  | some p => some p
  | none => if s.isNode && s.upstream == some 1 && (s.swPort 0).use == 2 then some 0 else none

/-- SWARM_FRAME_FORWARD (12 R370, R371, R373): a broadcast frame is taken here as well, by the row of what it
brings. -/
def execSwarmFrameForward (p : Port) (f : SwFrame) (s : State) : Out :=
  if !s.portOn p then .next s
  else if !kindFits f.kind.toNat f.cls then .next (s.discardFrame p)
  else
    let g : SwFrame := { f with hops := f.hops + 1 }
    if f.bcast then .next (s.forwardOn p (s.downstream.filter fun q => q != p) g)
    else if f.dst = s.ownAddr then .next s
    else match s.forwardPort f.dst with
      | some q => .next (s.forwardOn p [q] g)
      | none => .next ((s.freeBlocks (some p) f).modPort p fun x => { x with errs := satInc x.errs })

/-! ### Segments -/

/-- A message of which segments are held is discarded and counted (12 R369). -/
def State.dropSwSegs (s : State) (p : Port) (f : SwSeg → Bool) : State :=
  if s.sw.segs.any f then
    let s1 := s.modPort p fun x => { x with errs := satInc x.errs }
    { s1 with sw.segs := s1.sw.segs.filter fun x => !f x }
  else s

/-- SWARM_SEGMENT_RECEIVED (12 R369, R371, 08 R274, 13 R416): a new TAG of the same sender and class discards the
message held, as does a length beyond 4096 words; a segment of a discarded message is discarded. -/
def execSwarmSegmentReceived (p : Port) (cls : SwClass) (src : Addr) (tag : BitVec 8) (words : List Word)
    (s : State) : Out :=
  if !s.portOn p then .next s
  else
    let s0 := (s.swarmIn (src == 0) true).emit p (.credit cls (blocksOf words.length))
    let s1 := s0.dropSwSegs p fun x => x.src == src && x.cls == cls && x.tag != tag
    let same (x : SwSeg) : Bool := x.src == src && x.cls == cls && x.tag == tag
    let old := s1.sw.segs.find? same
    let m : SwSeg := { port := p, cls := cls, src := src, tag := tag
                       words := ((old.map (·.words)).getD []) ++ words
                       opened := (old.map (·.opened)).getD s.time }
    let s2 : State := { s1 with
      sw.segs := s1.sw.segs.filter (fun x => !same x) ++ [m]
      sw.lostMsgs := s1.sw.lostMsgs.filter fun x => !(x.1 == cls && x.2.1 == src && x.2.2 != tag) }
    if s1.sw.lostMsgs.contains (cls, src, tag) then .next s1
    else if 4096 < m.words.length then
      .next { s2.dropSwSegs p same with sw.lostMsgs := s2.sw.lostMsgs ++ [(cls, src, tag)] }
    else .next s2

/-- SWARM_SEGMENT_TIMEOUT (12 R369): 10 ms after the first segment. -/
def execSwarmSegmentTimeout (p : Port) (cls : SwClass) (src : Addr) (tag : BitVec 8) (s : State) : Out :=
  let late (x : SwSeg) : Bool := x.port == p && x.src == src && x.cls == cls && x.tag == tag &&
    decide (x.opened + 10 * milli ≤ s.time)
  if s.portOn p && s.sw.segs.any late then
    .next { s.dropSwSegs p late with sw.lostMsgs := s.sw.lostMsgs ++ [(cls, src, tag)] }
  else .next s

/-! ### Peer records -/

/-- FOREIGN_RECEIVED (09 R288, R304): stored as two records while the peer records at all; a REVACK tells the
origin whether it was (log entry 76). -/
def execForeignReceived (src : Addr) (tag : BitVec 8) (r : Record) (s : State) : Out :=
  if !s.swarmOn then .next s
  else
    let x := (s.swarmIn (src == 0) true).endMsg [.bulk] src tag 7 false
    let s0 := x.1
    if !s0.swarmCore || !x.2 then .next s0
    else if !s0.feat 9 || s0.recHealth == 2 || s0.rcd.full then
      .next (s0.sendMsg .control 3 false src tag (revackWords 0))
    else
      let s1 := s0.recordSpecial 0xF6 r.code (src.setWidth 16) r.index r.opsec
        (pk [(r.pcycle.toNat, 0), (r.source.toNat, 24)])
      let s2 := s1.recordSpecial 0xF7 r.subject (src.setWidth 16) r.p0 r.p1 r.p2
      .next (s2.sendMsg .control 3 false src tag (revackWords 1))

end Sys2Proof.Machine
end

