-- ==== Sys2Proof/Machine/Tap.lean ====
section
/-! DEFINITION. The TAP and the boundary register (14 R450). -/

namespace Sys2Proof.Machine

/-- EXTEST and CLAMP drive the host-zone lands, and HIGHZ floats them, while H_RSTn is held low (14 R450). -/
def Tap.control (t : Tap) (low : Bool) : Tap :=
  { t with
    drives := low && (t.instr == .extest || t.instr == .clamp)
    floats := low && t.instr == .highz }

/-- The TAP selects an instruction (14 R450). -/
def State.tapSelect (s : State) (i : TapInstr) : State :=
  { s with tap := Tap.control { s.tap with instr := i } s.pw.hrstLow }

/-- An instruction that takes control of the host-zone lands, and captures in any case (14 R450; log
entry 21). -/
def State.tapControl (s : State) (i : TapInstr) (lands : BitVec 65) : State :=
  { s with tap := Tap.control { s.tap with instr := i, bsr := lands } s.pw.hrstLow }

/-- H_TRSTN (14 R450). -/
def execHTrstn (s : State) : Out := .next (s.tapSelect .bypass)

/-- TAP_BYPASS (14 R450). -/
def execTapBypass (s : State) : Out := .next (s.tapSelect .bypass)

/-- TAP_IDCODE (14 R450). -/
def execTapIdcode (s : State) : Out := .next (s.tapSelect .idcode)

/-- IDCODE of stepping A (14 R450). -/
def idcode : Word := 0x032408D7#32

/-- TAP_SAMPLE_PRELOAD (14 R450): the lands are captured, and the values to drive are preloaded. -/
def execTapSamplePreload (lands preload : BitVec 65) (s : State) : Out :=
  let t := s.tapSelect .samplePreload
  .next { t with tap.bsr := lands, tap.preload := preload }

/-- TAP_EXTEST (14 R450). -/
def execTapExtest (lands : BitVec 65) (s : State) : Out := .next (s.tapControl .extest lands)

/-- TAP_CLAMP (14 R450). -/
def execTapClamp (lands : BitVec 65) (s : State) : Out := .next (s.tapControl .clamp lands)

/-- TAP_HIGHZ (14 R450). -/
def execTapHighz (lands : BitVec 65) (s : State) : Out := .next (s.tapControl .highz lands)

/-- The register that the TAP shifts out next, as a number (14 R450): BYPASS one bit of 0, IDCODE its 32
bits, otherwise the boundary register. -/
def State.tapRegister (s : State) : Nat :=
  match s.tap.instr with
  | .bypass => 0
  | .idcode => idcode.toNat
  | _ => s.tap.bsr.toNat

end Sys2Proof.Machine
end

