-- ==== Sys2Proof/Machine/Power.lean ====
section
/-! DEFINITION. VH, resets and the boot, field continuity, power states, the thermal envelope
(13 R391 to R425, 14 R435 to R437, R449, 16 R482, R486). -/

namespace Sys2Proof.Machine

/-! ### Slots at boot -/

/-- A slot found in a transfer at boot becomes INVALID (14 R435). -/
def Slot.settled (x : Slot) : Slot :=
  if x.state = .receiving ∨ x.state = .verifying then { x with state := .invalid } else x

/-- Whether a downgrade grant matches the image and the present COUNTER (14 R436). -/
def Slot.grantFits (x : Slot) (counter : BitVec 7) : Bool :=
  match x.grant with
  | some g => g.1 == fwDigest x.image && g.2 == counter
  | none => false

/-- The checks of a boot (14 R434, R436). An empty list of bytes in a VALID slot stands for the shipped image,
which the manual does not print and which verifies (log entry 1). -/
def Slot.boots (x : Slot) (counter : BitVec 7) : Bool :=
  x.state == .valid && (x.image.isEmpty || (verifyImage x.image).isNone) &&
  (decide (counter.toNat ≤ x.svn.toNat) || x.grantFits counter)

/-- A slot that fails the checks of a boot (14 R436). -/
def Slot.failed (x : Slot) : Slot := if x.state = .valid then { x with state := .invalid } else x

def Security.slotOf (x : Security) (b : Bool) : Slot := if b then x.slotB else x.slotA

def Security.withSlot (x : Security) (b : Bool) (y : Slot) : Security :=
  if b then { x with slotB := y } else { x with slotA := y }

/-- ID_FWVER with a slot running: its VERSION, and the slot in bit 7 (11 R353, 14 R433). -/
def Security.fwverOf (x : Security) (b : Bool) : Word := putBit (x.slotOf b).version 7 b

/-- The choice of a slot (14 R436, R437), with the events to raise: source, slot, code. -/
def Security.chooseSlot (x : Security) : Security × List (Fin 128 × Bool × Nat) :=
  let cut (b : Bool) : List (Fin 128 × Bool × Nat) :=
    if (x.slotOf b).settled = x.slotOf b then [] else [(112, b, 5)]
  let x1 : Security := { x with slotA := x.slotA.settled, slotB := x.slotB.settled }
  let back := x.trial && x.tried
  let x2 : Security :=
    if back then { x1 with activeB := !x.activeB, trial := false }
    else if x.trial then { x1 with tried := true }
    else x1
  let rolled : List (Fin 128 × Bool × Nat) := if back then [(113, x2.activeB, 3)] else []
  let evs := cut false ++ cut true ++ rolled
  let a := x2.activeB
  if (x2.slotOf a).boots x2.counter then
    ({ x2 with runB := a, recovery := false, fwver := x2.fwverOf a }, evs)
  else
    let x3 := x2.withSlot a (x2.slotOf a).failed
    if (x3.slotOf (!a)).boots x3.counter then
      ({ x3 with activeB := !a, runB := !a, trial := false, recovery := false
                 fwver := x3.fwverOf (!a) },
       evs ++ [(113, !a, 4)])
    else
      ({ x3.withSlot (!a) (x3.slotOf (!a)).failed with runB := a, recovery := true, fwver := 0 }, evs)

/-! ### Resetting the host zone -/

/-- The role that the straps select offers feature 4 or not (11 R349, 12 R362). -/
def offerFor (strap1 : BitVec 2) : Word :=
  if strap1 = 1 ∨ strap1 = 2 then featOfferReset ||| 0x10#32 else featOfferReset

/-- The level of a strap (10 R307), from its voltage in mV: none outside every band. -/
def strapLevel (mv : Nat) : Option (Fin 4) :=
  if 2600 < mv then some 0
  else if 1600 ≤ mv ∧ mv ≤ 2400 then some 1
  else if 250 ≤ mv ∧ mv ≤ 600 then some 2
  else if mv < 100 then some 3
  else none

/-- The straps after a boot (10 R307): decoded anew at power-on and H_RSTn. -/
def bootStrap (full : Bool) (mv : Nat) (old : BitVec 2) : BitVec 2 :=
  if !full then old
  else match strapLevel mv with
    | some k => BitVec.ofNat 2 k.val
    | none => 0

/-- The events of a strap (10 R307, 12 R362, 11 R361): SUBJECT the strap, CODE the level, or 4 outside every
band. -/
def strapEvents (k mv : Nat) (stored : BitVec 2) :
    List (Fin 128 × BitVec 16 × BitVec 16) :=
  let subject := BitVec.ofNat 16 k
  match strapLevel mv with
  | none => [(124, subject, 4)]
  | some v =>
    if v.val ≠ stored.toNat || (k == 1 && v.val == 3) then [(124, subject, BitVec.ofNat 16 v.val)] else []

/-- The host port after a reset (10 R310, R325 to R327, 11 R337, R355). -/
def HostPort.boot (p : HostPort) (full : Bool) (b : BootInput) : HostPort :=
  let s0 := bootStrap full b.strap0 p.strap0
  { HostPort.reset with
    strap0 := s0
    strap1 := bootStrap full b.strap1 p.strap1
    strapBad := if full then (strapLevel b.strap0).isNone || (strapLevel b.strap1).isNone else p.strapBad
    rckEn := s0.getLsbD 0
    rckAct := s0.getLsbD 0
    mode3 := s0.getLsbD 1
    csLow := p.csLow }

/-- The watchdogs after a reset (08 R274 to R281): counters since power-on and the evidence live in the
always-on domain. -/
def Watchdogs.boot (w : Watchdogs) (src : ResetSrc) (now : Nat) : Watchdogs :=
  if src = .powerOn then { Watchdogs.reset with hsLast := now }
  else { Watchdogs.reset with
    hsLast := now, hsExpiries := w.hsExpiries, wgFails := w.wgFails, wgRefused := w.wgRefused
    coreExpiries := w.coreExpiries, evid0 := w.evid0, evid1 := w.evid1, evid2 := w.evid2
    evidCause := w.evidCause, evalid := w.evalid }

/-- The recorder's volatile part after a reset (09 R294, R303): the log, its control block, the clear history
and the fault block stay. -/
def Recorder.boot (r : Recorder) (src : ResetSrc) : Recorder :=
  { r with
    shadow := [], intake := [], merges := []
    lost := if src = .powerOn then 0 else r.lost
    merged := if src = .powerOn then 0 else r.merged
    peer := 0, peerRef := 0, srcSel := BitVec.allOnes 128
    challenge := none, challengeAt := 0
    dropped := 0, dropFirst := 0, dropLast := 0, lastEv108 := none, stopped := false }

/-- The comb after a reset (07 R239, R242): the store and its mark stay, and the half with the mark is the one
that a PERSIST does not write; the banks, the load state, an armed swap and FBPER stay through a core-watchdog
reset and an activation. -/
def CombState.boot (c : CombState) (full : Bool) : CombState :=
  if full then { CombState.reset with
    store0 := c.store0, store1 := c.store1, mark := c.mark, actBank := c.mark.getD false }
  else { CombState.reset with
    bank0 := c.bank0, bank1 := c.bank1, actBank := c.actBank, active := c.active, next := c.next
    lstate := c.lstate, reason := c.reason, index := c.index, rxLen := c.rxLen, persist := c.persist
    store0 := c.store0, store1 := c.store1, mark := c.mark, armed := c.armed, wrapDue := c.wrapDue, safeHeld := c.safeHeld
    fbper := c.fbper, cgen := c.cgen, nextJob := c.nextJob, verdict := c.verdict }

/-- The comb that the dies run on through an activation reset (13 R419, R420): the counters of the host die
are at their reset values. -/
def CombState.bootRunning (c : CombState) : CombState :=
  { c with
    firstRun := true, late := 0, skipped := 0, stalls := 0, reversals := 0, applyConf := 0
    lastEv89 := none, lateSeen := [] }

/-- The swarm after a reset (12 R374): power-on and H_RSTn enable the ports of a root or node afresh; ports,
forwarding, routes and time go on through the others. DESIGN CHOICE (log entry 114): RING, NODES, SW_PATH and
SW_BUDGET stay with the route table that they describe. -/
def Swarm.boot (w : Swarm) (full : Bool) (strap1 : BitVec 2) : Swarm :=
  if full then
    let on : BitVec 3 := if strap1 = 1 ∨ strap1 = 2 then 1 else 0
    { Swarm.reset with ports := Vector.replicate 3 { SwPort.reset with state := on } }
  else { w with
    syncEn := false, healRo := false, enumBusy := false, trigs := [], missed := 0, revq := [], holds := 0
    lastEv103 := none, offer := [], leaving := [], waits := [], rootFeatures := 0, heartbeatDue := false
    lastHeartbeat := none, segs := [], kept := [] }

/-- The count in a slot of the operating seconds, where its complement and its CRC-16 agree (13 R422). -/
def opCount (ws : List Word) : Option Word :=
  let n := wAt ws 0
  if wAt ws 1 = ~~~n ∧ fld (wAt ws 2) 15 0 = (crc16 (wordsBytes [n, ~~~n])).toNat then some n else none

/-- The operating seconds that a power-on finds: the highest valid slot; with none, what it is given (13 R422,
08 R285). -/
def opFound (v : Vector (List Word) 8) (none : Word) : Word :=
  match v.toList.filterMap opCount with
  | [] => none
  | x :: xs => xs.foldl (fun m y => if m < y then y else m) x

/-- The newest copy of the power-cycle count that is good (13 R423). -/
def Power.cycleNow (p : Power) : Option CycleCopy :=
  if p.cycle0.good && (!p.cycle1.good || p.cycle1.gen < p.cycle0.gen) then some p.cycle0
  else if p.cycle1.good then some p.cycle1 else none

/-- The power-cycle count goes up by one, and the older copy takes it with the next generation (13 R423). With
no good copy the count goes on from the free value that is given (log entry 124). -/
def Power.countCycle (p : Power) (free : Word) : Power :=
  let c := p.cycleNow.getD { count := free, gen := 0, good := true }
  let n := satInc c.count
  let d : CycleCopy := { count := n, gen := c.gen + 1, good := true }
  if p.cycleNow = some p.cycle0 then { p with pcycle := n, cycle1 := d }
  else { p with pcycle := n, cycle0 := d }

/-- The counters in the ferroelectric memory as a boot finds them; at power-on the operating seconds go on from
the highest valid slot and the power cycles count (13 R422, R423, R409). -/
def Power.counters (p : Power) (src : ResetSrc) (b : BootInput) (f0 f1 : Word) : Power :=
  let q : Power := { p with
    opSlots := b.opSlots.foldl (fun v x => v.set x.1 x.2) p.opSlots
    cycle0 := { p.cycle0 with good := p.cycle0.good && !b.cycleFail.getLsbD 0 }
    cycle1 := { p.cycle1 with good := p.cycle1.good && !b.cycleFail.getLsbD 1 } }
  if src = .powerOn then Power.countCycle { q with opsec := opFound q.opSlots f0 } f1 else q

/-- Power after a reset (13 R402, R405, R413, R422 to R424, R400 by log entry 103): STANDBY, from BOOT. -/
def Power.boot (p : Power) (src : ResetSrc) (b : BootInput) (strap0 strap1 : BitVec 2) : Power :=
  let full := src.isFull
  { p with
    mode := .standby
    prev := .boot
    changes := 0
    cause := 1
    dstate := .d0
    neg := false
    waking := false
    rtol := 0
    ctol := 0
    envShed := false
    envOver := false
    envLevel := none
    vhPresent := true
    hholdOk := p.hholdOk || src = .powerOn
    xact := if full then
        bit p.cfg 30 && (match b.xinPpm with | some d => decide (d.natAbs ≤ 200) | none => false)
      else p.xact
    htemp := 0
    pmod := 0
    last := BitVec.ofNat 8 src.code
    hrst := if src = .powerOn then 0 else p.hrst
    act := if src = .powerOn then 0 else p.act
    resetSrc := none
    hrstLow := false
    window := none
    cut := none
    expired := false
    strap0Stored := strap0
    strap1Stored := strap1
    halted := false
    haltedAt := 0 }

/-- Identity and update after a reset (14 R436, R437, R449): the slot is chosen; a close of debug draws a new
identity key, the n-th free value. -/
def Security.boot (x : Security) (src : ResetSrc) (n : Nat) (strap1 : BitVec 2)
    (waits : List (Fin 128 × BitVec 16 × BitVec 16)) : Security :=
  let close := x.dbgOpen && src != .coreWd
  { x with
    offer := if x.recovery then 0 else offerFor strap1
    acc := 0
    rxBytes := 0
    activating := false
    authFail := if src = .powerOn then 0 else x.authFail
    chalDebug := none
    chalProv := none
    dbgOpen := x.dbgOpen && !close
    certGen := if close then x.certGen + 1 else x.certGen
    idPub := if close then Config.identityKey n else x.idPub
    attest := none
    attestReady := false
    pendingEvents := waits }

/-- The event controller as a boot starts it (11 R359, R360): EV126 alone enabled, nothing pending. -/
def Events.boot (e : Events) : Events :=
  { Events.reset with src := Vector.replicate 128 EvState.reset, clock := e.clock }

/-! ### Groups at step 8 -/

/-- What the host die held of a channel is gone at its reset (00 'Reset', 05 R180): counters, the command that
waits, the session of the modem. A die that runs the comb on keeps its HART windows (13 R419). -/
def Channel.hostReset (c : Channel) (runs : Bool) : Channel :=
  { c with
    inp := { c.inp with cosCount := 0, cosStamp := 0 }
    hart := { ChHart.reset with
      carrier := c.hart.carrier, hclip := c.hart.hclip
      winOpen := c.hart.winOpen && runs, closing := c.hart.closing && runs }
    noop := 0
    override := 0
    overridden := false
    window := none
    lastEv93 := none }

/-- A channel of a die that kept running through a boot (13 R411; log entry 111). -/
def Channel.kept (c : Channel) : Channel :=
  { c.hostReset false with
    actMode := if c.cfgBusy then c.cfg.mode else c.actMode
    cfgBusy := false
    pend := none }

/-- The conversion engine of a die that kept running through a host reset without RESTART (00 'Reset', 13 R406,
R407): the objects are at their reset values, the slices and their coefficients go on; a foreground run ends
(log entry 105). -/
def GrpConv.hostReset (c : GrpConv) : GrpConv :=
  GrpConv.recount { GrpConv.reset with
    refSettled := c.refSettled
    spare := if c.calState == 2 && c.faulty == 0 then 0 else c.spare
    faulty := c.faulty, residual := c.residual, winEnd := c.winEnd, working := c.working
    calLeft := c.calLeft, calBusy := c.calBusy, overlap := c.overlap, monWait := c.monWait, monBusy := c.monBusy
    injTimes := c.injTimes, coefLin := c.coefLin, coefOff := c.coefOff
    coefGain := c.coefGain }

/-- A group on REFIN goes back to its internal reference with the object (04 R137, R138): REF_SETTLED clears with
EV84, and VALID with it. -/
def State.hostResetConv (s : State) (g : Grp) : State :=
  let c := (s.group g).conv
  (if c.refSel == 1 && !c.fallback then s.loseRef g else s).modConv g GrpConv.hostReset

/-- The host die adopts the table of a die as its master copy (13 R411). -/
def State.adoptTable (s : State) (g : Grp) : State :=
  s.each (chOf g) fun t n =>
    let e := (t.group g).guard.copy[n.val % 8]'(Nat.mod_lt _ (by decide))
    t.modCh n fun c => { c with cfg := { c.cfg with safe := e.1, safeVal := e.2 } }

/-- A ready group without a hold takes its stored configuration (13 R412): a channel whose mode stays keeps its
state, and its count where the pair changes too (02 R38, R71). -/
def State.restoreConfig (s : State) (g : Grp) (store : Vector ChCfg 32) : State :=
  let s1 := s.each (chOf g) fun t n =>
    let k := store[n.val]
    let c := (t.chan n).cfg
    if c = k then t
    else if c.mode = k.mode then
      let u := t.modCh n fun x => { x with
        cfg := k
        cnt := if c.pairFn = k.pairFn then x.cnt
          else { freshCnt k.mode k.cntCfg with val := x.cnt.val, gateVal := x.cnt.val } }
      if k.mode.isAnalogue then u.restartFilter n else u
    else t.setCh n { Channel.reset with cfg := k, actMode := k.mode, cnt := freshCnt k.mode k.cntCfg }
  s1.writeGuard g

/-- The slices of a group that fail their check again (13 R407). -/
def failedSlices (b : BootInput) (g : Grp) : List Slice :=
  (List.finRange 5).filter fun k => b.sliceFail.getLsbD (5 * g.val + k.val)

/-- The guard copy of a group as a boot begins afresh: TBAD stays but for power-on and H_RSTn (08 R266). -/
def GrpGuard.fresh (x : GrpGuard) (full : Bool) : GrpGuard := { GrpGuard.reset with tbad := x.tbad && !full }

/-- A group with a die that is not ready, or that has failed for good: every channel OFF (08 R271, 13 R411); its
supply objects but for GRP_CNT are at their reset values (13 R398). -/
def State.groupAbsent (s : State) (g : Grp) (full : Bool) : State :=
  let s1 := s.each (chOf g) fun t n => t.setCh n Channel.reset
  s1.modGrp g fun x => { x with
    sup := { GrpSup.reset with uvlos := x.sup.uvlos, lows := x.sup.lows, warns := x.sup.warns }
    conv := .reset
    link := { GrpLink.reset with failed := x.link.failed }
    guard := x.guard.fresh full
    pos := .reset }

/-- A group of which the die comes up afresh: every channel OFF, no guard hold, and the class of its supply
(13 R393, R407, R411). -/
def State.groupFresh (s : State) (g : Grp) (full : Bool) (supply : SupplyClass × BitVec 16) : State :=
  let s1 := s.each (chOf g) fun t n => t.setCh n Channel.reset
  s1.modGrp g fun x => { x with
    sup := { x.sup.inClass supply.1 supply.2 with ready := true, recovering := false, shedLevel := none }
    conv := .reset
    link := .reset
    guard := x.guard.fresh full
    pos := .reset }

/-- The RESTART order, after power-on and H_RSTn (13 R407): the conversion engine starts afresh, the shares
of the comb are discarded (07 R239). -/
def State.restartOrder (s : State) (g : Grp) : State :=
  let s1 := (s.each (chOf g) State.killConv).loseRef g
  s1.modGrp g fun x => { x with conv := .reset, pos := .reset, link := { x.link with errs := 0 } }

/-- A group of which the die kept running: the STOP order, and after power-on or H_RSTn the RESTART order
(13 R407, R408, R411). -/
def State.groupKept (s : State) (g : Grp) (full : Bool) : State :=
  let s1 := s.each (chOf g) fun t n => t.modCh n Channel.kept
  let s2 := s1.modGrp g fun x => { x with
    link := { x.link with silent := false, extrap := false, entries := [], discPoll := 0, discStrm := 0 }
    guard := { x.guard with limitMicros := 50 } }
  let s3 := if full then s2.restartOrder g else s2.hostResetConv g
  s3.adoptTable g

/-- The guard copy of a ready group is rewritten or adopted, and verified, after power-on and H_RSTn (08 R260,
13 R407): TBAD with EV127 where it does not verify. -/
def State.verifyGuard (s : State) (g : Grp) (ok : Bool) : State :=
  let s1 := s.modGrp g fun x => { x with guard := { x.guard with tbad := !ok } }
  if ok then s1 else s1.fokRefresh.openFault

/-- One group at step 8 of the boot (13 R407, R409 to R412). -/
def State.bootGroup (s : State) (src : ResetSrc) (b : BootInput) (g : Grp) : State :=
  let x := s.group g
  let up := b.ready.getLsbD g.val
  let stored (t : State) : State :=
    if bit t.pw.cfg 31 && !(t.group g).guard.held && !t.sec.recovery then
      match t.pw.stored with
      | some c => t.restoreConfig g c
      | none => t
    else t
  let s1 :=
    if x.link.failed then
      if src.isFull && b.trained.getLsbD g.val then
        stored ((s.modLink g fun l => { l with failed := false }).groupFresh g src.isFull b.supply[g])
      else s.groupAbsent g src.isFull
    else if !up then s.groupAbsent g src.isFull
    else if x.sup.ready then stored (s.groupKept g src.isFull)
    else stored (s.groupFresh g src.isFull b.supply[g])
  let s2 := if src.isFull && s1.dieUp g then s1.verifyGuard g (b.verify.getLsbD g.val) else s1
  if src = .powerOn then s2.modSup g fun u => { u with uvlos := 0, lows := 0, warns := 0 } else s2

/-- A bank whose DIGEST no longer fits is discarded, with EV92 (07 R239). DESIGN CHOICE (log entry 120): COMB_LOAD then
reads REJECTED with REASON 2 and INDEX 0x1FFF. -/
def State.checkBanks (s : State) : State :=
  let c := s.comb
  let act := c.bankOf c.actBank
  let s1 :=
    if c.active.isSome && !digestOk act then
      (({ s with comb := { c with active := none, started := false } } : State).countGen s).noteRejected act 2 0x1FFF
    else s
  let d := s1.comb
  if d.lstate == .valid && !digestOk d.loading then
    ({ s1 with comb := { d with lstate := .rejected, reason := 2, index := 0x1FFF, next := none, armed := none } } :
      State).noteRejected d.loading 2 0x1FFF
  else s1

/-! ### The boot -/

/-- The POWER_ON record (09 R288, 13 R406). -/
def State.powerOnRecord (s : State) (src : ResetSrc) : State :=
  s.recordSpecial 0xF3 (BitVec.ofNat 16 src.code) (BitVec.ofNat 16 s.sec.runB.toNat) s.sec.fwver s.rcd.refused 0

/-- The registers of the host zone after a reset (13 R406, 00 'Reset'), and the events of the slot choice. -/
def State.resetHost (s : State) (src : ResetSrc) (b : BootInput) : State × List (Fin 128 × Bool × Nat) :=
  let full := src.isFull
  let port := s.port.boot full b
  let waits :=
    if full then
      strapEvents 0 b.strap0 s.pw.strap0Stored ++ strapEvents 1 b.strap1 s.pw.strap1Stored
    else s.sec.pendingEvents
  let pw := (s.pw.counters src b s.freeWord s.tookFree.freeWord).boot src b port.strap0 port.strap1
  let xin : List (Fin 128 × BitVec 16 × BitVec 16) :=
    if full && bit s.pw.cfg 30 && !pw.xact then [(127, 0, 0x30)] else []
  let (sec, evs) := s.sec.chooseSlot
  let sec1 := sec.boot src s.free port.strap1 (waits ++ xin)
  let comb := s.comb.boot full
  let t : State := { s with
    free := s.free + 2
    port := port
    pw := pw
    sec := sec1
    comb := comb
    res := .reset
    rcd := s.rcd.boot src
    ev := s.ev.boot
    wd := s.wd.boot src s.time
    safe := { SafeState.reset with
      cause := s.safe.cause, gen := s.safe.gen, safe := s.safe.safe && !full }
    sw := s.sw.boot full port.strap1
    tap := { s.tap with drives := false, floats := false } }
  (t, evs)

/-- The events of the slot choice and of the close of debug (14 R436, R437, R449, R452, 11 R361). -/
def State.raiseBoot (s : State) (evs : List (Fin 128 × Bool × Nat)) (closed : Bool) : State :=
  let s1 := s.each evs fun t e =>
    if e.1 = 112 then t.raiseSlot e.2.1 e.2.2
    else t.raise 113 e.2.1.toNat e.2.2 t.secFwslotW t.sec.fwver t.secSvnW
  let s2 := if closed then s1.raise 115 0 2 s1.secStatW 0 0 else s1
  if s2.sec.recovery then s2.faultOf 0x20 else s2

/-- The guards of the dies that a reset of the host die left without frames (08 R263, 13 R406): they took
over, and after a HOLD order their entries apply from now as the new T (08 R279). -/
def State.silentGuards (s : State) (src : ResetSrc) : State :=
  s.each allGrp fun t g =>
    let x := t.group g
    if !t.dieUp g then t
    else if src.isFull then
      if x.guard.limitMicros = 50 && !x.link.silent then t.takeover g 4 fun _ => true else t
    else if src = .coreWd then t.unfreeze g
    else t

/-- The boot after a reset outside field continuity (13 R402, R409 to R412): it ends in STANDBY; after an
activation whose continuity window ran out, in SAFE (13 R420, R405). -/
def State.boot (s : State) (src : ResetSrc) (b : BootInput) : State :=
  let closed := s.sec.dbgOpen && src != .coreWd
  let expired := src == .activation && s.pw.expired
  let (s1, evs) := (s.silentGuards src).resetHost src b
  let s2 := s1.each allGrp fun t g => t.bootGroup src b g
  let s3 : State := { s2 with
    safe.cause := if s2.anyHeld || expired then s2.safe.cause else 0
    safe.gen := if allGrp.any fun g => (s.group g).sup.ready && b.ready.getLsbD g.val then s2.safe.gen else 0
    comb.safeHeld := s2.comb.safeHeld && s2.anyHeld }
  let s4 := s3.allOutputsOff
  let toSafe := expired && !s4.sec.recovery
  let s5 : State := if toSafe then { s4 with comb := s.comb.bootRunning } else s4
  let s6 := ((s5.fokRefresh.bootRecorder b).powerOnRecord src).raiseBoot evs closed
  let s7 := s6.each allGrp fun t g =>
    let t1 := if (s.group g).link.failed && !(t.group g).link.failed then t.raiseLink g 7 else t
    let restarted := t.dieUp g && (src.isFull || !(s.group g).sup.ready)
    (if restarted then t1.each (failedSlices b g) fun u k => u.declareFaulty g k else t1).raiseHeld g
  let s8 := if src = .coreWd && s7.wd.evalid then
      s7.raise 79 0 s7.wd.evidCause.toNat s7.wd.evid0 s7.wd.evid1 s7.wd.evid2
    else s7
  let s9 := if src.isFull then s8 else s8.checkBanks
  let s10 := match s.pw.cut with
    | some w => s9.raise 123 0 2 w s9.safeStatW 0
    | none => s9
  let s11 := if toSafe then s10.enterMode .safe 3 else s10
  s11.raise 126 0 (if src = .activation then 2 else 1) s11.sec.offer s11.sec.fwver 0

/-- The length of the continuity window so far, in µs (13 R425). -/
def State.windowMicros (s : State) : Word :=
  BitVec.ofNat 32 ((s.time - s.pw.window.getD s.time) / micro)

/-- The boot into the new slot under field continuity (13 R418 to R420): the field dies go on; the port serves
windows; results, comb and swarm stay until the close. -/
def State.bootContinuity (s : State) (b : BootInput) : State :=
  let closed := s.sec.dbgOpen
  let (t, evs) := s.resetHost .activation b
  let s1 : State := { t with
    comb := s.comb.bootRunning
    safe := { s.safe with intFault := false, waggleOwed := false, cfg := SafeState.reset.cfg }
    res := { Results.reset with
      cfg := s.res.cfg, routeLo := s.res.routeLo, routeHi := s.res.routeHi, stampSel := s.res.stampSel
      policy := s.res.policy, wmPoll := s.res.wmPoll, wmStrm := s.res.wmStrm }
    wd := { t.wd with hsPeriod := s.wd.hsPeriod }
    pw := { t.pw with
      mode := if t.sec.recovery then .standby else .run
      prev := s.pw.prev
      cause := s.pw.cause
      window := s.pw.window
      envShed := s.pw.envShed
      envOver := s.pw.envOver
      envLevel := s.pw.envLevel } }
  let s2 := (s1.each allCh fun u n => u.modCh n fun c => c.hostReset true).each allGrp State.hostResetConv
  let s3 := ((s2.bootRecorder b).powerOnRecord .activation).raiseBoot evs closed
  let s4 := if s3.anyHeld && s3.safe.cause == 0xB then s3.raise 123 0 3 s3.windowMicros s3.safeStatW 0 else s3
  if s4.sec.recovery then s4.raise 126 0 2 s4.sec.offer s4.sec.fwver 0 else s4

/-- The source of a reset that ends now (13 R406): power-on from KEEP and after a loss of VH in a reset, and when
no other reset is in progress (log entry 19). -/
def State.bootSource (s : State) : ResetSrc :=
  if s.pw.mode = .keep then .powerOn else s.pw.resetSrc.getD .powerOn

/-- RESET_RELEASE (13 R402, R406, R409, R418). -/
def execResetRelease (b : BootInput) (s : State) : Out :=
  let src := s.bootSource
  if src = .activation && s.pw.window.isSome then .next (s.bootContinuity b) else .next (s.boot src b)

/-! ### Entering a reset -/

/-- The host die enters reset (13 R406): its intake and merge windows are lost unless they were written. -/
def State.enterReset (s : State) (src : ResetSrc) : State :=
  State.fokRefresh { s with
    pw.mode := .reset
    pw.resetSrc := some src
    pw.waking := false
    rcd.intake := []
    rcd.merges := [] }

/-- The STOP order on the links that carry frames (13 R408). -/
def State.stopOrder (s : State) : State :=
  s.stopComb.each allGrp fun t g =>
    if t.dieUp g then t.modGrp g fun x => { x with guard := { x.guard with limitMicros := 50 } } else t

/-- The length of a continuity window that ends now while nobody can tell it (13 R420). -/
def State.cutWindow (s : State) : State :=
  match s.pw.window with
  | some _ => { s with pw.cut := some s.windowMicros, pw.window := none }
  | none => s

/-- The extended silence limit of a continuity window ends: silence counts again (13 R408, R420). -/
def State.endWindowSilence (s : State) : State :=
  if s.pw.window.isNone then s else s.each allGrp fun t g => t.modLink g fun l => { l with silent := false }

/-- H_RSTN (13 R406, 16 R486): below 100 ns ignored, up to 1 µs either way (log entry 5). -/
def execHRstn (ns : Nat) (s : State) : Out :=
  if ns < 100 || !s.pw.vhPresent then .next s
  else
    let s1 := if ns < 1000 then s.tookFree else s
    if ns < 1000 && !s.freeBool then .next s1
    else
      let s2 : State := { s1.endWindowSilence.cutWindow.stopOrder with
        pw.hrst := satInc s1.pw.hrst
        pw.hrstLow := true
        tap := s1.tap.control true }
      .next (s2.enterReset .hRstn)

/-- CORE_WATCHDOG_RESET (08 R279, 09 R294): 2 ms after the NMI; the intake is drained before. -/
def execCoreWatchdogReset (tries : List Bool) (s : State) : Out :=
  if !s.hostUp || !s.sinceNmi (2 * milli) then .next s
  else .next (State.enterReset { s.drainIntake tries with pw.window := none } .coreWd)

/-- A group enters field continuity (13 R418 to R420, 07 R250): its silence limit is FC_HOLD, its HART
transactions are aborted, it extrapolates where the time base comes from another die, and the scheduled
channels of a LIVE comb go to their entries there. -/
def State.continueGroup (s : State) (g : Grp) : State :=
  let x := s.group g
  if !s.dieUp g || x.link.silent then s
  else
    let s1 := s.modGrp g fun x => { x with
      link := { x.link with silent := true }
      guard := { x.guard with limitMicros := fld s.pw.cfg 6 0 * 10000 } }
    let s2 := s1.each (chOf g) fun t n => t.modHart n fun h =>
      if h.phase == .idle then h else { h.stop with last := 4 }
    (s2.beginExtrap g).liveTakeover g

/-- ACTIVATION_RESET (13 R417, R418, 09 R294): the intake and the merge windows are written out. What had
arrived of a cell whose other results are still to come is lost with the memory of the host die (log entry 125). -/
def execActivationReset (tries : List Bool) (s : State) : Out :=
  if !s.sec.activating || !s.hostUp then .next s
  else
    let s1 : State := { s with pw.act := satInc s.pw.act }
    let running := s.pw.mode == .run || s.pw.mode == .doze
    if running && s.feat 8 then
      let s2 : State := { s1 with pw.window := some s1.time, pw.mode := .run, pw.waking := false }
      let s3 := (s2.each allGrp State.continueGroup).flushRecorder [] tries
      .next { s3 with
        pw.resetSrc := some .activation, rcd.intake := [], rcd.merges := []
        comb.jobs := s3.comb.jobs.map fun j => { j with got := [] } }
    else
      let s2 := if running then s1.safeTrigger 3
        else if s.pw.mode = .safe then s1 else s1.allOutputsOff
      .next (((s2.flushRecorder [] tries).stopComb).enterReset .activation)

/-! ### VH -/

/-- VH_WARNING (13 R392, R425): the level is seen through every reset, the event while the host die is up. -/
def execVhWarning (falling : Bool) (s : State) : Out :=
  if s.pw.vhWarn == falling then .next s
  else
    let s1 : State := { s with pw.vhWarn := falling }
    .next (if s1.hostUp then s1.raise 122 0 (if falling then 1 else 2) s1.pwrStatW 0 0 else s1)

/-- The hold-up work of the recorder (09 R294): REPEAT records, POWER_LOSS, after which the intake accepts
no entry, and the whole intake; then it stops. -/
def State.powerLoss (s : State) (tries : Tries) : State :=
  let last := s.intakeOf 0xF4 1 0 s.stampNow (BitVec.ofNat 32 s.heldEntries.length) 0
  let s1 := State.flushRecorder { s with rcd.stopped := true } [last] tries
  { s1 with rcd.intake := [] }

/-- A loss of VH ends a continuity window (13 R420). -/
def State.loseWindow (s : State) : State :=
  if s.pw.window.isSome && s.hostUp then
    { s.raise 123 0 2 s.windowMicros s.safeStatW 0 with pw.window := none }
  else s.cutWindow

/-- VH_KEEP (08 R264, 13 R392, R402, R406, R408, R420): in a reset or a boot the mode stays, the always-on domain
sends the KEEP order after what the guards did on their own, and a power-on reset follows. -/
def execVhKeep (tries : List Bool) (s : State) : Out :=
  if s.pw.mode == .keep || !s.pw.vhPresent then .next s
  else
    let down := s.pw.mode == .reset || s.pw.mode == .boot
    let s1 := s.loseWindow
    let s2 := if down then s1.silentGuards s1.bootSource else if s1.hostUp then s1.powerLoss tries else s1
    let s3 := s2.takeGroups (allGrp.filter fun g => s2.dieUp g) 5
    let s4 := s3.each allGrp fun t g =>
      t.modGrp g fun x => { x with guard := { x.guard with limitMicros := 0 } }
    .next (State.fokRefresh { s4 with
      pw.mode := if down then s.pw.mode else .keep
      pw.resetSrc := if down then some .powerOn else none
      pw.vhPresent := false, pw.vhWarn := true, pw.waking := false })

/-- HOLD_UP_END (13 R392): the host die, already in KEEP, stops. -/
def execHoldUpEnd (s : State) : Out := .next { s with pw.hholdOk := false }

/-- XIN_CLOCK_LOST (01 R24). -/
def execXinClockLost (s : State) : Out :=
  if s.pw.xact then .next (State.faultOf { s with pw.xact := false } 0x31) else .next s

/-- OPSEC_TICK (13 R422): counted while VH is present, and written into the next of the eight slots. -/
def execOpsecTick (s : State) : Out :=
  if !s.pw.vhPresent then .next s
  else
    let n := s.pw.opsec + 1
    .next { s with
      pw.opsec := n
      pw.opSlots := s.pw.opSlots.set (n.toNat % 8) (opSlot n) (Nat.mod_lt _ (by decide)) }

/-! ### The close of field continuity -/

/-- The channel of a result word (05 R163). -/
def entryCh (e : QEntry) : Ch := chNo (fld e.word 31 26)

/-- A group at the close (13 R421, 07 R250): the die adopts the relayed position and its link is open. -/
def State.closeGroup (s : State) (g : Grp) : State :=
  if !s.dieUp g then s
  else (s.adoptPos g).modGrp g fun y => { y with
    link := { y.link with silent := false, extrap := false, entries := [], discPoll := 0, discStrm := 0 }
    guard := { y.guard with limitMicros := 50 } }

/-- Put a kept entry among those of the cells before it and of lower tags. -/
def insertKept (x : DieEntry) : List DieEntry → List DieEntry
  | [] => [x]
  | y :: ys => if x.cell < y.cell then x :: y :: ys else y :: insertKept x ys

/-- What the working dies kept through field continuity, in the order in which the cells completed and a cell's
in tag order (13 R421, 05 R170). -/
def State.kept (s : State) : List DieEntry :=
  (allGrp.flatMap fun g => if s.dieUp g then (s.group g).link.entries else []).foldl
    (fun es e => insertKept e es) []

/-- The kept results of one cell, or a STAMP marker, enter (13 R421). -/
def State.putKept (s : State) (es : List DieEntry) : State :=
  match es with
  | [] => s
  | d :: _ =>
    if fld d.entry.word 31 26 < 32 then s.enterCell (es.map fun e => (entryCh e.entry, e))
    else s.putMarkerAt (fld d.entry.word 31 26) (fld d.entry.word 23 0) (d.entry.stamp.getD s.stampNow)

/-- Words discarded in field continuity are reported by a GAP marker in the partition concerned (13 R421,
05 R168). -/
def Partition.missed (p : Partition) (n : Nat) : Partition := { p with gap := min (p.gap + n) 0x7FFFFF }

/-- The kept results enter their partitions, and the discards of the dies stand in the next GAP markers
(13 R421). -/
def State.enterKept (s old : State) : State :=
  let es := old.kept
  let up := allGrp.filter fun g => old.dieUp g
  let s1 := s.each (es.map (·.cell)).eraseDups fun t k => t.putKept (es.filter fun e => e.cell == k)
  { s1 with
    res.poll := s1.res.poll.missed (up.map fun g => (old.group g).link.discPoll).sum
    res.strm := s1.res.strm.missed (up.map fun g => (old.group g).link.discStrm).sum }

/-- CONTINUITY_CLOSE (13 R418, R421). The results configuration of the old image serves the kept results;
then it is at its reset values (log entry 20). -/
def execContinuityClose (s : State) : Out :=
  if s.pw.window.isNone || !s.hostUp || s.pw.mode != .run then .next s
  else
    let len := s.windowMicros
    let s1 : State := { s with pw.window := none }
    let s2 := ((s1.each allGrp State.closeGroup).enterKept s).each (allGrp.filter fun g => s.dieUp g)
      State.raiseHeld
    let s3 : State := { s2 with
      wd.hsLast := s2.time
      res := { Results.reset with poll := s2.res.poll, strm := s2.res.strm, ovr := s2.res.ovr } }
    let s4 := s3.fokRefresh
    let s5 := s4.raise 123 0 1 len s4.safeStatW 0
    .next (s5.raise 126 0 2 s5.sec.offer s5.sec.fwver 0)

/-- Whether FC_HOLD has passed since a continuity window began (13 R420, R424). -/
def State.windowOver (s : State) : Bool :=
  match s.pw.window with
  | some t => decide (t + fld s.pw.cfg 6 0 * 10 * milli ≤ s.time)
  | none => false

/-- CONTINUITY_EXPIRY (13 R420, 11 R348): the guards apply their tables on their own; SAFE when the host die is up,
which else finds it at its boot. -/
def execContinuityExpiry (s : State) : Out :=
  if !s.windowOver then .next s
  else
    let len := s.windowMicros
    let gs := allGrp.filter fun g => s.dieUp g
    let s0 := s.takeGroups gs 9
    let s1 : State := { s0 with safe.cause := if s.anyHeld then s.safe.cause else 9 }
    let s2 := s1.each gs fun t g => t.modGrp g fun x => { x with guard := { x.guard with limitMicros := 50 } }
    let s3 : State := { s2 with pw.window := none }
    if !s.hostUp then .next { s3 with pw.cut := some len, pw.expired := true }
    else
      let s4 := s3.raise 123 0 2 len s3.safeStatW 0
      if s4.pw.mode = .run then
        let s5 := s4.enterMode .safe 3
        .next (s5.raise 126 0 2 s5.sec.offer s5.sec.fwver 0)
      else .next s4

/-! ### DOZE and SERVICE -/

/-- Whether something keeps the module in D0 (13 R415). -/
def State.keepsAwake (s : State) : Bool :=
  !s.port.outst.isEmpty || !s.port.rsp.isEmpty || s.port.winRsp.isSome || !s.evtReady.isEmpty ||
  !s.port.again.isEmpty || s.port.repCount != 0 || s.port.sel.isSome || s.pw.window.isSome ||
  s.comb.lstate == .verifying || s.sw.enumBusy ||
  (s.slot (!s.sec.runB)).state == .receiving || (s.slot (!s.sec.runB)).state == .verifying ||
  (allGrp.any fun g => (s.group g).conv.calState != 0) ||
  (allCh.any fun n => (s.chan n).hart.txBusy) || (!s.res.strm.entries.isEmpty && s.res.credit != 0)

/-- DOZE_ENTRY (13 R405, R415): no frame has been delivered for 1 ms. -/
def execDozeEntry (s : State) : Out :=
  if s.pw.mode == .run && s.pw.dstate != .d0 && s.hostUp && !s.keepsAwake &&
      decide (s.wd.hsLast + milli ≤ s.time) && decide (s.port.sentAt + milli ≤ s.time) then
    .next { s with pw.mode := .doze, pw.waking := false }
  else .next s

/-- WAKE_COMPLETE (13 R405, R416). -/
def execWakeComplete (s : State) : Out := .next s.wake

/-- POLICY_WAKE_TIMER (13 R416). -/
def execPolicyWakeTimer (s : State) : Out :=
  .next { s with pw.waking := s.pw.waking || s.pw.mode == .doze }

/-- SERVICE_SILENCE (13 R402, R404): no frame on the host port for 10 s. -/
def execServiceSilence (s : State) : Out :=
  if s.pw.mode == .service && s.hostUp && decide (s.port.heardAt + 10000 * milli ≤ s.time) then
    .next (s.allOutputsOff.stopComb.enterMode .standby 5)
  else .next s

/-! ### The envelope -/

/-- The recorder entry of a shedding that report only leaves out (16 R482). -/
def State.recordEnv (s : State) : State :=
  s.recordOnly 125 0 (BitVec.ofNat 16 (reportOnly + 3)) s.pwrStatW 0 0

/-- The next priority is shed for the envelope (16 R482). -/
def State.shedForEnv (s : State) : State :=
  if !s.feat 11 then s.recordEnv
  else
    let cand := s.sheddable allCh
    match s.lowestPri cand (s.pw.envLevel.getD 0) with
    | none => s
    | some p =>
      let now := cand.filter fun n => (s.cfgOf n).shedPri == p
      let (ro, act) := now.partition fun n => bit (s.cfgOf n).outPol 30
      let s1 := s.each act fun t n => t.shedChannel true n
      let s2 : State := { s1 with pw.envLevel := some (p + 1), pw.envShed := s1.pw.envShed || !act.isEmpty }
      if ro.isEmpty then s2 else s2.recordEnv

/-- ENVELOPE_EXCEEDED (16 R482, 13 R425). -/
def execEnvelopeExceeded (pmod : BitVec 16) (s : State) : Out :=
  if !s.hostUp || s.pw.window.isSome || s.pw.envOver || decide (pmod.toNat ≤ s.pw.env.toNat) then .next s
  else
    let s1 : State := { s with pw.pmod := pmod, pw.envOver := true }
    .next (s1.raise 125 0 3 s1.pwrStatW 0 0).shedForEnv

/-- ENVELOPE_SHED_STEP (16 R482). -/
def execEnvelopeShedStep (pmod : BitVec 16) (s : State) : Out :=
  if !s.hostUp || s.pw.window.isSome || !s.pw.envOver || decide (pmod.toNat ≤ s.pw.env.toNat) then .next s
  else .next (State.shedForEnv { s with pw.pmod := pmod })

/-- ENVELOPE_RESTORE (16 R482, 03 R115): the largest SHED_PRI first, in the sequence of each group. -/
def execEnvelopeRestore (pmod : BitVec 16) (s : State) : Out :=
  if !s.hostUp || s.pw.window.isSome || decide (s.pw.env.toNat ≤ pmod.toNat + 500) then .next s
  else
    let s0 : State := { s with pw.pmod := pmod }
    let shed := allCh.filter fun n => (s.chan n).out.shedEnv && !s.isOdd n
    if shed.isEmpty then .next { s0 with pw.envShed := false, pw.envOver := false, pw.envLevel := none }
    else
      let p := s.highestPri shed
      let now := shed.filter fun n => (s.cfgOf n).shedPri == p
      let s1 := s0.each now fun t n =>
        let t1 := t.modOutP n fun o => { o with shedEnv := false }
        if (t1.chan n).out.shedDie then t1 else t1.restoreChannel n
      let s2 := s1.each (allGrp.filter fun g => now.any fun n => grpOf n == g) fun t g =>
        let t1 := t.queueTurns g
        if t1.clearOn g then t1.staggerStep g else t1
      let last := now.length = shed.length
      .next (if last then { s2 with pw.envShed := false, pw.envOver := false, pw.envLevel := none }
        else { s2 with pw.envLevel := some p })

/-- HOST_DIE_OVERTEMP (13 R425). -/
def execHostDieOvertemp (hot : Bool) (temp : BitVec 8) (s : State) : Out :=
  if !s.hostUp then .next s
  else
    let s1 : State := { s with pw.htemp := temp }
    .next (s1.raise 125 0 (if hot then 1 else 2) s1.pwrStatW 0 0)

end Sys2Proof.Machine
end

