-- ==== Sys2Proof/Machine/Dispatch.lean ====
section
/-! DEFINITION. Each command and its meaning. -/

namespace Sys2Proof.Machine

/-- The effect of a command on everything but the queue. -/
def exec (i : Instr) (s : State) : Host.Outcome State Fault Refusal :=
  match i with
  | .hello c => Sys2Proof.Machine.execHello c s
  | .featAccept c => Sys2Proof.Machine.execFeatAccept c s
  | .getObj c => Sys2Proof.Machine.execGetObj c s
  | .setObj c => Sys2Proof.Machine.execSetObj c s
  | .getObjBlock c => Sys2Proof.Machine.execGetObjBlock c s
  | .setMode c => Sys2Proof.Machine.execSetMode c s
  | .chConfig c => Sys2Proof.Machine.execChConfig c s
  | .outWrite c => Sys2Proof.Machine.execOutWrite c s
  | .aoWrite c => Sys2Proof.Machine.execAoWrite c s
  | .evtAck c => Sys2Proof.Machine.execEvtAck c s
  | .evtRedeliver c => Sys2Proof.Machine.execEvtRedeliver c s
  | .evtMask c => Sys2Proof.Machine.execEvtMask c s
  | .combLoadBegin c => Sys2Proof.Machine.execCombLoadBegin c s
  | .combLoadData c => Sys2Proof.Machine.execCombLoadData c s
  | .combCommit c => Sys2Proof.Machine.execCombCommit c s
  | .combVerifyComplete => Sys2Proof.Machine.execCombVerifyComplete s
  | .combSwapArm c => Sys2Proof.Machine.execCombSwapArm c s
  | .combSwapCancel c => Sys2Proof.Machine.execCombSwapCancel c s
  | .combSwapStop c => Sys2Proof.Machine.execCombSwapStop c s
  | .adcCal c => Sys2Proof.Machine.execAdcCal c s
  | .adcCalSliceDone g k off gain lin => Sys2Proof.Machine.execAdcCalSliceDone g k off gain lin s
  | .adcCalRefTimeout g => Sys2Proof.Machine.execAdcCalRefTimeout g s
  | .captureArm c => Sys2Proof.Machine.execCaptureArm c s
  | .captureStop c => Sys2Proof.Machine.execCaptureStop c s
  | .captureRead c => Sys2Proof.Machine.execCaptureRead c s
  | .waggle c => Sys2Proof.Machine.execWaggle c s
  | .taskCheckin c => Sys2Proof.Machine.execTaskCheckin c s
  | .safeApply c => Sys2Proof.Machine.execSafeApply c s
  | .safeRelease c => Sys2Proof.Machine.execSafeRelease c s
  | .logRead c => Sys2Proof.Machine.execLogRead c s
  | .logReadShadow c => Sys2Proof.Machine.execLogReadShadow c s
  | .logReadClearHistory c => Sys2Proof.Machine.execLogReadClearHistory c s
  | .logReadFaultBlock c => Sys2Proof.Machine.execLogReadFaultBlock c s
  | .logClearChallenge c => Sys2Proof.Machine.execLogClearChallenge c s
  | .logClearChallengeLapse => Sys2Proof.Machine.execLogClearChallengeLapse s
  | .logClear c tries ctl => Sys2Proof.Machine.execLogClear c tries ctl s
  | .swarmEnumStart c => Sys2Proof.Machine.execSwarmEnumStart c s
  | .swarmEnumQuery c => Sys2Proof.Machine.execSwarmEnumQuery c s
  | .swarmRoute c => Sys2Proof.Machine.execSwarmRoute c s
  | .swarmRouteTimeout tag => Sys2Proof.Machine.execSwarmRouteTimeout tag s
  | .swarmTrigger c => Sys2Proof.Machine.execSwarmTrigger c s
  | .attestStart c => Sys2Proof.Machine.execAttestStart c s
  | .attestFetch c => Sys2Proof.Machine.execAttestFetch c s
  | .attestReady => Sys2Proof.Machine.execAttestReady s
  | .fwBegin c => Sys2Proof.Machine.execFwBegin c s
  | .fwData c => Sys2Proof.Machine.execFwData c s
  | .fwVerifyComplete => Sys2Proof.Machine.execFwVerifyComplete s
  | .fwActivate c => Sys2Proof.Machine.execFwActivate c s
  | .activationReset tries => Sys2Proof.Machine.execActivationReset tries s
  | .debugUnlockChallenge c => Sys2Proof.Machine.execDebugUnlockChallenge c s
  | .debugChallengeLapse provisioning => Sys2Proof.Machine.execDebugChallengeLapse provisioning s
  | .debugUnlock c => Sys2Proof.Machine.execDebugUnlock c s
  | .keyInstall c => Sys2Proof.Machine.execKeyInstall c s
  | .keyRevoke c => Sys2Proof.Machine.execKeyRevoke c s
  | .provLockSet c => Sys2Proof.Machine.execProvLockSet c s
  | .certInstall c => Sys2Proof.Machine.execCertInstall c s
  | .latencyTol c => Sys2Proof.Machine.execLatencyTol c s
  | .hartSend c => Sys2Proof.Machine.execHartSend c s
  | .hartRecv c => Sys2Proof.Machine.execHartRecv c s
  | .unknownOpcode opcode c => Sys2Proof.Machine.execUnknownOpcode opcode c s
  | .winrd seq first count => Sys2Proof.Machine.execWinrd seq first count s
  | .credit grant => Sys2Proof.Machine.execCredit grant s
  | .lockoutClear f ch rest => Sys2Proof.Machine.execLockoutClear f ch rest s
  | .itripClear f ch rest => Sys2Proof.Machine.execItripClear f ch rest s
  | .miswireRetest f ch rest => Sys2Proof.Machine.execMiswireRetest f ch rest s
  | .relearn f ch rest => Sys2Proof.Machine.execRelearn f ch rest s
  | .wgEnArm f period => Sys2Proof.Machine.execWgEnArm f period s
  | .refselWrite f g sel => Sys2Proof.Machine.execRefselWrite f g sel s
  | .aiFilterWrite f ch filt w => Sys2Proof.Machine.execAiFilterWrite f ch filt w s
  | .rckEnWrite f en => Sys2Proof.Machine.execRckEnWrite f en s
  | .watchdogPeriodWrite f waggle w => Sys2Proof.Machine.execWatchdogPeriodWrite f waggle w s
  | .taskEnable f w => Sys2Proof.Machine.execTaskEnable f w s
  | .chSafeWrite f ch val w => Sys2Proof.Machine.execChSafeWrite f ch val w s
  | .selectFall cs1 busy => Sys2Proof.Machine.execSelectFall cs1 busy s
  | .selectRise cs1 words => Sys2Proof.Machine.execSelectRise cs1 words s
  | .hostFrameRejected words => Sys2Proof.Machine.execHostFrameRejected words s
  | .moduleFrameDelivered => Sys2Proof.Machine.execModuleFrameDelivered s
  | .resetRelease b => Sys2Proof.Machine.execResetRelease b s
  | .hRstn ns => Sys2Proof.Machine.execHRstn ns s
  | .hTrstn => Sys2Proof.Machine.execHTrstn s
  | .tapBypass => Sys2Proof.Machine.execTapBypass s
  | .tapIdcode => Sys2Proof.Machine.execTapIdcode s
  | .tapSamplePreload lands preload => Sys2Proof.Machine.execTapSamplePreload lands preload s
  | .tapExtest lands => Sys2Proof.Machine.execTapExtest lands s
  | .tapClamp lands => Sys2Proof.Machine.execTapClamp lands s
  | .tapHighz lands => Sys2Proof.Machine.execTapHighz lands s
  | .vhWarning falling => Sys2Proof.Machine.execVhWarning falling s
  | .vhKeep tries => Sys2Proof.Machine.execVhKeep tries s
  | .holdUpEnd => Sys2Proof.Machine.execHoldUpEnd s
  | .xinClockLost => Sys2Proof.Machine.execXinClockLost s
  | .opsecTick => Sys2Proof.Machine.execOpsecTick s
  | .fieldLinkFrameError g => Sys2Proof.Machine.execFieldLinkFrameError g s
  | .fieldLinkSilence g => Sys2Proof.Machine.execFieldLinkSilence g s
  | .fieldLinkRestored g => Sys2Proof.Machine.execFieldLinkRestored g s
  | .fieldDieFailure g => Sys2Proof.Machine.execFieldDieFailure g s
  | .dieSupervisorTrip g => Sys2Proof.Machine.execDieSupervisorTrip g s
  | .guardGenMismatch g verifies => Sys2Proof.Machine.execGuardGenMismatch g verifies s
  | .guardCrcCheck g verifies => Sys2Proof.Machine.execGuardCrcCheck g verifies s
  | .modeChangeComplete ch sensorOk => Sys2Proof.Machine.execModeChangeComplete ch sensorOk s
  | .terminalMonitorConversion ch m => Sys2Proof.Machine.execTerminalMonitorConversion ch m s
  | .terminalCrossing ch millivolts microamps held => Sys2Proof.Machine.execTerminalCrossing ch millivolts microamps held s
  | .debounceExpired ch => Sys2Proof.Machine.execDebounceExpired ch s
  | .wireBreakDeclared ch => Sys2Proof.Machine.execWireBreakDeclared ch s
  | .wireBreakEnd ch => Sys2Proof.Machine.execWireBreakEnd ch s
  | .namurFaultDeclared ch short => Sys2Proof.Machine.execNamurFaultDeclared ch short s
  | .namurFaultEnd ch => Sys2Proof.Machine.execNamurFaultEnd ch s
  | .countEdge ch both rising dt => Sys2Proof.Machine.execCountEdge ch both rising dt s
  | .indexEdge ch => Sys2Proof.Machine.execIndexEdge ch s
  | .freqGateExpired ch n span => Sys2Proof.Machine.execFreqGateExpired ch n span s
  | .countEdgeTimeout ch => Sys2Proof.Machine.execCountEdgeTimeout ch s
  | .mainsLockAcquired ch phase freq vrms => Sys2Proof.Machine.execMainsLockAcquired ch phase freq vrms s
  | .mainsHoldoverEnter ch => Sys2Proof.Machine.execMainsHoldoverEnter ch s
  | .mainsLockResumed ch => Sys2Proof.Machine.execMainsLockResumed ch s
  | .mainsLockLost ch => Sys2Proof.Machine.execMainsLockLost ch s
  | .loopOverload ch => Sys2Proof.Machine.execLoopOverload ch s
  | .loopRestart ch => Sys2Proof.Machine.execLoopRestart ch s
  | .loopOpenDetected ch => Sys2Proof.Machine.execLoopOpenDetected ch s
  | .loopLeakDetected ch => Sys2Proof.Machine.execLoopLeakDetected ch s
  | .limiterActive ch => Sys2Proof.Machine.execLimiterActive ch s
  | .limiterReleased ch => Sys2Proof.Machine.execLimiterReleased ch s
  | .inrushWindowEnd ch => Sys2Proof.Machine.execInrushWindowEnd ch s
  | .governorStep g milliamps => Sys2Proof.Machine.execGovernorStep g milliamps s
  | .groupCurrentMeanUpdate g milliamps => Sys2Proof.Machine.execGroupCurrentMeanUpdate g milliamps s
  | .pwmPeriodStart ch millivolts => Sys2Proof.Machine.execPwmPeriodStart ch millivolts s
  | .thermalTripAbs ch => Sys2Proof.Machine.execThermalTripAbs ch s
  | .thermalTripDt ch => Sys2Proof.Machine.execThermalTripDt ch s
  | .tsensFail ch => Sys2Proof.Machine.execTsensFail ch s
  | .retryDue ch => Sys2Proof.Machine.execRetryDue ch s
  | .retryCountClear ch => Sys2Proof.Machine.execRetryCountClear ch s
  | .shortGndDetected ch => Sys2Proof.Machine.execShortGndDetected ch s
  | .overloadDetected ch => Sys2Proof.Machine.execOverloadDetected ch s
  | .openLoadCondition ch milliamps => Sys2Proof.Machine.execOpenLoadCondition ch milliamps s
  | .openloadOnTimeout ch => Sys2Proof.Machine.execOpenloadOnTimeout ch s
  | .reverseCurrentDetected ch atIlim => Sys2Proof.Machine.execReverseCurrentDetected ch atIlim s
  | .rbMismatchDetected ch => Sys2Proof.Machine.execRbMismatchDetected ch s
  | .wiredDetected a b => Sys2Proof.Machine.execWiredDetected a b s
  | .openloadOffDetected ch => Sys2Proof.Machine.execOpenloadOffDetected ch s
  | .shortVfOffDetected ch => Sys2Proof.Machine.execShortVfOffDetected ch s
  | .imbalDetected ch => Sys2Proof.Machine.execImbalDetected ch s
  | .autoDiagPulse ch => Sys2Proof.Machine.execAutoDiagPulse ch s
  | .diagPulseEnd ch high => Sys2Proof.Machine.execDiagPulseEnd ch high s
  | .learnBaseline ch norm => Sys2Proof.Machine.execLearnBaseline ch norm s
  | .learnComparison ch norm => Sys2Proof.Machine.execLearnComparison ch norm s
  | .shedStep g => Sys2Proof.Machine.execShedStep g s
  | .shedRestoreStep g => Sys2Proof.Machine.execShedRestoreStep g s
  | .vfWarnFall g vf => Sys2Proof.Machine.execVfWarnFall g vf s
  | .vfWarnRise g vf => Sys2Proof.Machine.execVfWarnRise g vf s
  | .vfLowFall g vf => Sys2Proof.Machine.execVfLowFall g vf s
  | .uvloFall g vf => Sys2Proof.Machine.execUvloFall g vf s
  | .vfRecovery g vf => Sys2Proof.Machine.execVfRecovery g vf s
  | .staggerSwitchOn g => Sys2Proof.Machine.execStaggerSwitchOn g s
  | .vfHighChange g high vf => Sys2Proof.Machine.execVfHighChange g high vf s
  | .fieldLogicPowerDown g => Sys2Proof.Machine.execFieldLogicPowerDown g s
  | .fieldDieReady g cls vf => Sys2Proof.Machine.execFieldDieReady g cls vf s
  | .spareRotation g off gain => Sys2Proof.Machine.execSpareRotation g off gain s
  | .internalMonitorConversion g vf tdie refUv cj => Sys2Proof.Machine.execInternalMonitorConversion g vf tdie refUv cj s
  | .refSettled g => Sys2Proof.Machine.execRefSettled g s
  | .refinMonitorCheck g inRange => Sys2Proof.Machine.execRefinMonitorCheck g inRange s
  | .conversionComplete ch m => Sys2Proof.Machine.execConversionComplete ch m s
  | .aiOpenDetected ch => Sys2Proof.Machine.execAiOpenDetected ch s
  | .aiLeadDetected ch => Sys2Proof.Machine.execAiLeadDetected ch s
  | .aiISenseTrip ch => Sys2Proof.Machine.execAiISenseTrip ch s
  | .freeRateConversion ch => Sys2Proof.Machine.execFreeRateConversion ch s
  | .injectTimer ch => Sys2Proof.Machine.execInjectTimer ch s
  | .injectPwmEdge ch => Sys2Proof.Machine.execInjectPwmEdge ch s
  | .injectHold ch => Sys2Proof.Machine.execInjectHold ch s
  | .nonanalogueResultTick ch => Sys2Proof.Machine.execNonanalogueResultTick ch s
  | .railSlot ch millivolts tone => Sys2Proof.Machine.execRailSlot ch millivolts tone s
  | .railSlotInserted ch millivolts tone => Sys2Proof.Machine.execRailSlotInserted ch millivolts tone s
  | .aoMeasUpdate ch m => Sys2Proof.Machine.execAoMeasUpdate ch m s
  | .aoLimitDetected ch => Sys2Proof.Machine.execAoLimitDetected ch s
  | .miswireDetected ch => Sys2Proof.Machine.execMiswireDetected ch s
  | .miswireRetestEnd ch driven => Sys2Proof.Machine.execMiswireRetestEnd ch driven s
  | .aoThermalTrip ch => Sys2Proof.Machine.execAoThermalTrip ch s
  | .aoThermalRestart ch => Sys2Proof.Machine.execAoThermalRestart ch s
  | .hartTransmitStart ch => Sys2Proof.Machine.execHartTransmitStart ch s
  | .hartTransmitEnd ch => Sys2Proof.Machine.execHartTransmitEnd ch s
  | .hartCarrierChange ch on => Sys2Proof.Machine.execHartCarrierChange ch on s
  | .hartFrameReceived ch frame => Sys2Proof.Machine.execHartFrameReceived ch frame s
  | .hartReplyTimeout ch => Sys2Proof.Machine.execHartReplyTimeout ch s
  | .nop idx => Sys2Proof.Machine.execNop idx s
  | .hold idx => Sys2Proof.Machine.execHold idx s
  | .convert idx => Sys2Proof.Machine.execConvert idx s
  | .sample idx => Sys2Proof.Machine.execSample idx s
  | .apply idx => Sys2Proof.Machine.execApply idx s
  | .outSet idx => Sys2Proof.Machine.execOutSet idx s
  | .outPulse idx => Sys2Proof.Machine.execOutPulse idx s
  | .outPulseEnd ch => Sys2Proof.Machine.execOutPulseEnd ch s
  | .diag idx => Sys2Proof.Machine.execDiag idx s
  | .aoSet idx => Sys2Proof.Machine.execAoSet idx s
  | .rail idx loads => Sys2Proof.Machine.execRail idx loads s
  | .hartWin idx => Sys2Proof.Machine.execHartWin idx s
  | .stamp idx => Sys2Proof.Machine.execStamp idx s
  | .trigOut idx => Sys2Proof.Machine.execTrigOut idx s
  | .calWin idx => Sys2Proof.Machine.execCalWin idx s
  | .injRes idx => Sys2Proof.Machine.execInjRes idx s
  | .event idx => Sys2Proof.Machine.execEvent idx s
  | .combPeriodWrap micros => Sys2Proof.Machine.execCombPeriodWrap micros s
  | .combExchange => Sys2Proof.Machine.execCombExchange s
  | .tbStall => Sys2Proof.Machine.execTbStall s
  | .safeEntryApply ch copyOk => Sys2Proof.Machine.execSafeEntryApply ch copyOk s
  | .hostSilenceExpiry => Sys2Proof.Machine.execHostSilenceExpiry s
  | .waggleTimeout => Sys2Proof.Machine.execWaggleTimeout s
  | .coreWatchdogExpiry pc cause => Sys2Proof.Machine.execCoreWatchdogExpiry pc cause s
  | .coreWatchdogReset tries => Sys2Proof.Machine.execCoreWatchdogReset tries s
  | .guardHoldExpiry => Sys2Proof.Machine.execGuardHoldExpiry s
  | .dieOvertemp g => Sys2Proof.Machine.execDieOvertemp g s
  | .fokDelayExpired g => Sys2Proof.Machine.execFokDelayExpired g s
  | .taskPeriodEnd k => Sys2Proof.Machine.execTaskPeriodEnd k s
  | .recordWrite first second => Sys2Proof.Machine.execRecordWrite first second s
  | .mergeWindowClose source code subject => Sys2Proof.Machine.execMergeWindowClose source code subject s
  | .swarmCmdReceived src tag bcast words => Sys2Proof.Machine.execSwarmCmdReceived src tag bcast words s
  | .swarmRspReceived src tag words => Sys2Proof.Machine.execSwarmRspReceived src tag words s
  | .swarmEventReceived src tag recs => Sys2Proof.Machine.execSwarmEventReceived src tag recs s
  | .swarmRevackReceived src tag accepted => Sys2Proof.Machine.execSwarmRevackReceived src tag accepted s
  | .remoteEventReoffer => Sys2Proof.Machine.execRemoteEventReoffer s
  | .swarmResultsReceived src tag stream entries => Sys2Proof.Machine.execSwarmResultsReceived src tag stream entries s
  | .swarmTriggerReceived t bcast => Sys2Proof.Machine.execSwarmTriggerReceived t bcast s
  | .swarmTriggerFire t => Sys2Proof.Machine.execSwarmTriggerFire t s
  | .heartbeatSend => Sys2Proof.Machine.execHeartbeatSend s
  | .heartbeatReceived rootFeatures => Sys2Proof.Machine.execHeartbeatReceived rootFeatures s
  | .enumReceived p m => Sys2Proof.Machine.execEnumReceived p m s
  | .healReceived p => Sys2Proof.Machine.execHealReceived p s
  | .linkstateReceived addr p up => Sys2Proof.Machine.execLinkstateReceived addr p up s
  | .foreignReceived src tag r => Sys2Proof.Machine.execForeignReceived src tag r s
  | .swarmFrameForward p f => Sys2Proof.Machine.execSwarmFrameForward p f s
  | .swarmFrameDiscard p seg => Sys2Proof.Machine.execSwarmFrameDiscard p seg s
  | .swarmSegmentTimeout p cls src tag => Sys2Proof.Machine.execSwarmSegmentTimeout p cls src tag s
  | .linkSetReceived p content => Sys2Proof.Machine.execLinkSetReceived p content s
  | .linkSetSend p => Sys2Proof.Machine.execLinkSetSend p s
  | .creditSetReceived p cls blocks => Sys2Proof.Machine.execCreditSetReceived p cls blocks s
  | .pdReqSend p => Sys2Proof.Machine.execPdReqSend p s
  | .pdReqReceived p seq turnaround => Sys2Proof.Machine.execPdReqReceived p seq turnaround s
  | .pdRspReceived p seq turnaround roundTrip => Sys2Proof.Machine.execPdRspReceived p seq turnaround roundTrip s
  | .syncSend p => Sys2Proof.Machine.execSyncSend p s
  | .syncReceived p sent sub => Sys2Proof.Machine.execSyncReceived p sent sub s
  | .syncLost silent => Sys2Proof.Machine.execSyncLost silent s
  | .portDown p => Sys2Proof.Machine.execPortDown p s
  | .portUp p => Sys2Proof.Machine.execPortUp p s
  | .creditStarvation p cls => Sys2Proof.Machine.execCreditStarvation p cls s
  | .dozeEntry => Sys2Proof.Machine.execDozeEntry s
  | .wakeComplete => Sys2Proof.Machine.execWakeComplete s
  | .policyWakeTimer => Sys2Proof.Machine.execPolicyWakeTimer s
  | .serviceSilence => Sys2Proof.Machine.execServiceSilence s
  | .continuityClose => Sys2Proof.Machine.execContinuityClose s
  | .continuityExpiry => Sys2Proof.Machine.execContinuityExpiry s
  | .authLockoutEnd => Sys2Proof.Machine.execAuthLockoutEnd s
  | .envelopeExceeded pmod => Sys2Proof.Machine.execEnvelopeExceeded pmod s
  | .envelopeShedStep pmod => Sys2Proof.Machine.execEnvelopeShedStep pmod s
  | .envelopeRestore pmod => Sys2Proof.Machine.execEnvelopeRestore pmod s
  | .hostDieOvertemp hot temp => Sys2Proof.Machine.execHostDieOvertemp hot temp s
  | .switchCooled ch => Sys2Proof.Machine.execSwitchCooled ch s
  | .uvloRise g => Sys2Proof.Machine.execUvloRise g s
  | .vflChange present => Sys2Proof.Machine.execVflChange present s
  | .debuggerHalt => Sys2Proof.Machine.execDebuggerHalt s
  | .debuggerResume => Sys2Proof.Machine.execDebuggerResume s
  | .hostSegmentReceived f words => Sys2Proof.Machine.execHostSegmentReceived f words s
  | .swarmSegmentReceived p cls src tag words => Sys2Proof.Machine.execSwarmSegmentReceived p cls src tag words s

end Sys2Proof.Machine
end

