-- ==== Sys2Proof/Machine/Tick.lean ====
section
/-! DEFINITION. What happens when 50 ns pass and no command waits (log entry 2): time, the swarm time, the
mains trackers, the time base of the comb, late cells, the slices that come free, the generations of the
two-half values, and what a node sends. -/

namespace Sys2Proof.Machine

/-- Cells that are late and SKIPPABLE are skipped (07 R246). -/
def State.skipCells (s : State) : State :=
  match s.comb.active with
  | some c => if s.cellsRun then s.skipLate c else s
  | none => s

/-- The supervisor context may serve the core watchdog: the operating seconds and the stamp are latched (08
R279). -/
def State.serveCore (s : State) : State :=
  if s.hostUp && !s.pw.halted && s.wd.nmi.isNone && Config.served s.time then
    { s with wd.svcOpsec := s.pw.opsec, wd.svcStamp := s.stampNow }
  else s

/-- A port that is up sends a CREDIT set of every class at least every 10 µs (12 R367). -/
def State.creditTick (s : State) : State :=
  if s.swarmOn && s.time % (10 * micro) == 0 then
    s.each (allPorts.filter s.portUp) fun t p => t.each allClasses fun u c => u.emit p (.credit c 0)
  else s

/-- A FOREIGN frame that stays unanswered for 10 ms is lost and counts as refused (09 R304, 12 R369). DESIGN CHOICE
(log entry 76): the time. -/
def State.foreignTick (s : State) : State :=
  let old := s.sw.foreign.filter fun x => decide (x.2 + 10 * milli ≤ s.time)
  if old.isEmpty then s
  else { s with
    sw.foreign := s.sw.foreign.filter fun x => !old.contains x
    rcd.peerRef := satAdd s.rcd.peerRef old.length }

/-- Every 10 ms the host die measures its temperature and estimates the dissipation (13 R424, 16 R481). -/
def State.senseHost (s : State) : State :=
  if s.hostUp && s.time % (10 * milli) == 0 then
    { s with pw.htemp := Config.hostTemp s.time, pw.pmod := Config.dissipation s.time }
  else s

/-- 50 ns pass (09 R304, 02 R74, 04 R122, R134, 07 R214, R218, R246, 12 R381, R383). -/
def State.tick (s : State) : State :=
  let s1 := State.swarmTick { s with time := s.time + 1 }
  let s2 := (s1.each allCh State.mainsTick).combTick.skipCells
  let s3 := (s2.each allGrp State.endSide).each allGrp State.serveGroup
  (((s3.countGen s).countSt s).serveCore).senseHost.foreignTick.creditTick.nodeSends

end Sys2Proof.Machine
end

