-- ==== Sys2Proof/Safety.lean ====
section
/-! DEFINITION. What counts as a safe state of the block, and the words in which statements say what a
command does: when a message is accepted, what its answer is, what raising an event may change. -/

namespace Sys2Proof.Machine

/-! ### Promises of every state -/

/-- The enable bits keep their fixed values: EV126 enabled, sources that are never raised disabled
(11 R360). -/
def State.enablesFixed (s : State) : Bool :=
  s.ev.en.getLsbD 126 && ((List.range 128).filter neverRaised).all fun k => !s.ev.en.getLsbD k

/-- The TAP drives or floats the host-zone lands only while H_RSTn is held low (14 R450). -/
def State.tapHeld (s : State) : Bool := !(s.tap.drives || s.tap.floats) || s.pw.hrstLow

/-- The sources that are always recorded stay selected (09 R290). -/
def State.recordsForced (s : State) : Bool := s.rcd.srcSel &&& forcedSrc == forcedSrc

/-- The promises that every step keeps. -/
def State.Inv (s : State) : Prop :=
  s.enablesFixed = true ∧ s.tapHeld = true ∧ s.recordsForced = true

/-- A step runs safely: it answers a next state that keeps the promises. -/
def State.StepSafe (s : State) : Prop := ∃ t, step s = .next t ∧ t.Inv

/-! ### Messages -/

/-- s with the last frame of a message taken (10 R317, R324): the timers are served, the module is awake, and the
segments held of the mailbox are gone. -/
def State.received (s : State) (f : Frame) : State :=
  let s1 := s.accept.supersede f
  { s1 with port.segs := s1.port.segs.filter fun x => x.frame != f }

/-- The CRC word of the last frame of a message (10 R316). -/
def State.crcOf (s : State) (op : Nat) (m : Cmd) : Word := frameCrc (s.lastFrame op m)

/-- The frame of a message is the one that the receive logic waits for, and brings what the segments held of the
message leave of it (10 R311 to R324, 11 R338). -/
def State.wholeIn (s : State) (op : Nat) (m : Cmd) : Bool :=
  let full := cmdWord op m.args :: m.words
  let held := s.heldOf m.frame
  s.portOpen && (s.frameIn ((s.lastFrame op m).headD 0)).2 && !s.port.lostMsgs.contains m.frame &&
  decide (full.length ≤ 4096) && held ++ lastPart held full == full

/-- The host port takes a message of a command and the control core carries it out (10 R311 to R324, 11 R334 to
R347): its frame is whole, the core is not halted, or the waggle answers in its place (08 R283), no continuity
window is open, the frame repeats no command, the mailbox has room, and the command passes the checks before its
own. -/
def State.accepts (s : State) (c : CmdSpec) (m : Cmd) : Bool :=
  let t := s.received m.frame
  s.wholeIn c.op m && (!s.pw.halted || c.op == 0x20) && (t.keptFor m.frame (s.crcOf c.op m)).isNone &&
  !t.repeatsOutst .host m.frame (s.crcOf c.op m) && t.pw.window.isNone &&
  decide ((t.outstanding true m.frame.mb).length < mbLimit m.frame.mb) &&
  (t.refusal .host c m.frame.mb m.args m.words).isNone

/-- t is u with the response to a message that reached s on its way (11 R340): nothing else differs but the list
of outstanding commands. -/
def State.answers (s u t : State) (m : Cmd) (op : Nat) (st : Status) (detail : Nat) (ws : List Word) : Prop :=
  t = { u with port := { u.port with
    rsp := u.port.rsp ++ [{ mb := m.frame.mb, seq := m.frame.seq, bulk := m.frame.bulk, crc := s.crcOf op m
                            counts := true
                            words := pk [(op, 24), (st.code, 16), (u.pw.mode.code, 13), (detail % 8192, 0)] :: ws }]
    outst := t.port.outst } }

/-- The message of a SET_OBJ. -/
def writeMsg (f : Frame) (i : Nat) (w : Word) : Cmd := { frame := f, args := BitVec.ofNat 24 i, words := [w] }

/-- The host port takes a SET_OBJ of an object. -/
def State.acceptsWrite (s : State) (f : Frame) (i : Nat) (w : Word) : Bool :=
  s.accepts setObjSpec (writeMsg f i w)

/-- t is u with the answer OK to a SET_OBJ that reached s on its way, which carries what the object reads in u (11
R342). -/
def State.written (s u t : State) (f : Frame) (i : Nat) (w : Word) : Prop :=
  State.answers s u t (writeMsg f i w) 0x04 .ok 0 (u.objects [i])

/-- t is u with a message that reached s outstanding, which waits for some work (11 R335). -/
def State.awaits (s u t : State) (m : Cmd) (op key : Nat) : Prop :=
  t = { u with port := { u.port with
    outst := u.port.outst ++ [{ sender := .host, frame := m.frame, crc := s.crcOf op m, opcode := BitVec.ofNat 8 op
                                key := key, answered := false, bcast := false }] } }

/-! ### Frames -/

/-- t is s but for what raising events and recording change: the event controller, the recorder, and whether
the module is waking. -/
def State.logsOver (s t : State) : Prop :=
  t = { s with ev := t.ev, rcd := t.rcd, pw := { s.pw with waking := t.pw.waking } }

/-- t is s but for some channels and what raising events changes. -/
def State.touches (s t : State) (chs : List Ch) : Prop :=
  (∀ n, n ∉ chs → t.chan n = s.chan n) ∧ ({ s with ch := t.ch } : State).logsOver t

/-- t is s but for some channels, some groups and what raising events changes. -/
def State.touchesGrp (s t : State) (chs : List Ch) (gs : List Grp) : Prop :=
  (∀ n, n ∉ chs → t.chan n = s.chan n) ∧ (∀ g, g ∉ gs → t.group g = s.group g) ∧
  ({ s with ch := t.ch, grp := t.grp } : State).logsOver t

/-- A source is pending and undelivered with a code (11 R359). -/
def State.pendingWith (t : State) (k : Fin 128) (code : Nat) : Prop :=
  t.ev.src[k.val].pending = true ∧ t.ev.src[k.val].undel = true ∧ t.ev.src[k.val].code = BitVec.ofNat 16 code

/-- A field die is in service and its link speaks: what it detects reaches the host die at once. -/
def State.inTouch (s : State) (g : Grp) : Bool :=
  s.hostUp && s.dieUp g && !(s.group g).link.silent && !(s.group g).link.failed

/-- A channel that carries its own configuration, on a die that is in touch (02 R43). -/
def State.heard (s : State) (n : Ch) : Bool := !s.isOdd n && s.inTouch (grpOf n)

/-- The cell x of an index and an action, which concerns die g alone, is what that die starts now, late or on
time (07 R217, R226, R246): d is first among its due cells, its time has come, the cell before it is 8 field
ticks away, its resources are free, E has reached H, and no other die has a cell due. -/
def State.startsOn (s : State) (late : Bool) (action idx : Nat) (x : Cell) (g : Grp) (d : DueCell) : Prop :=
  ∃ cb rest, s.comb.active = some cb ∧ cb.cells[idx]? = some x ∧ x.action.toNat = action ∧ x.forDies [g] = x ∧
    s.cellsRun = true ∧ s.exchangeDue = false ∧ (s.group g).pos.due = d :: rest ∧ d.idx = idx ∧
    d.due ≤ s.time ∧ d.isLate s.time cb.hdr.jitter = late ∧
    (∀ t, (s.group g).pos.last = some t → t + 8 ≤ 4 * s.time) ∧
    ((s.group g).pos.h : Int) ≤ (s.group g).pos.e ∧ s.resourcesFree g x = true ∧
    ∀ k, k ≠ g → (s.group k).pos.due = []

/-- A cell that a die starts now, on time: not past by more than JITTER, and not passed in a jump. -/
def State.dueOn (s : State) (action idx : Nat) (x : Cell) (g : Grp) (d : DueCell) : Prop :=
  s.startsOn false action idx x g d

/-- A cell that a die starts now, late. -/
def State.lateOn (s : State) (action idx : Nat) (x : Cell) (g : Grp) (d : DueCell) : Prop :=
  s.startsOn true action idx x g d

/-- s with the cell x started on die g (07 R226, R227): its claims run, it is due no longer. -/
def State.cellStarted (s : State) (g : Grp) (x : Cell) : State :=
  match s.comb.active with
  | some cb => ((s.keepSeen cb).beginCell g x).keepSeen cb
  | none => s

/-- The stamp of a cell at an extended position (05 R169). -/
def State.stampAt (s : State) (pos : Nat) : Word :=
  match s.comb.active with
  | some cb => stampOf pos cb.per
  | none => 0

/-- t is s with a bit of CH_FAULT of channel n set (02 R37): its 0 to 1 change has raised the channel fault
event with the code of the bit, and nothing else differs. -/
def State.faults (s t : State) (n : Ch) (b : Nat) : Prop :=
  (t.chan n).fault = (s.chan n).fault ||| bitW b ∧
  (bit (s.chan n).fault b = false →
    t.pendingWith (srcNo n.val) (b + if (s.chan n).guard.held then 0x4000 else 0)) ∧
  ∃ f, ({ s.modCh n (fun x => { x with fault := f }) with ev := s.ev } : State).logsOver t

/-- t is s with channel n tripped on a bit of CH_FAULT (03 R102, R104, 08 R259): off for the rest of the guard's
hold; in TRIP_WAIT with its timer started while the policy acts and a retry remains; else locked off. -/
def State.trips (s t : State) (n : Ch) (b : Nat) : Prop :=
  bit (t.chan n).fault b = true ∧ (t.chan n).out.duty = 0 ∧
  ((s.chan n).guard.held = true → (t.chan n).out.ps = .off ∧ (t.chan n).guard.tripped = true) ∧
  ((s.chan n).guard.held = false → bit (s.cfgOf n).outPol 31 = false →
    (s.chan n).out.retryUsed.toNat < fld (s.cfgOf n).outPol 23 20 →
    (t.chan n).out.ps = .tripWait ∧ (t.chan n).out.cmdOn = (s.chan n).out.cmdOn ∧
      (t.chan n).out.due = s.time + fld (s.cfgOf n).outPol 19 10 * 10 * milli) ∧
  ((s.chan n).guard.held = false → (bit (s.cfgOf n).outPol 31 = true ∨
      fld (s.cfgOf n).outPol 23 20 ≤ (s.chan n).out.retryUsed.toNat) →
    (t.chan n).out.ps = .lockedOff ∧ (t.chan n).out.cmdOn = false ∧ bit (t.chan n).fault 31 = true) ∧
  s.touches t [n, mateOf n]

end Sys2Proof.Machine
end

