-- ==== Sys2Proof/Certificates/Slice0/Obligations.lean ====
section
/-! DEFINITION. The statements for the provers, each a proposition about the model. -/

open Sys2Proof Sys2Proof.Machine

/-- A step runs the command at the front of the queue. (11 R335 (commands are taken in the order of delivery)) -/
def Obligations.StepRunsFront : Prop :=
  ∀ (c : Instr) (s : State), step { s with pending := c :: s.pending } = exec c s

/-- No command changes the queue of waiting commands; with an empty queue 50 ns pass (the model's own choice, log
entry 2). (11 R335, 07 (time base), 12 R381) -/
def Obligations.QueueKept : Prop :=
  (∀ (c : Instr) (s t : State), exec c s = .next t → t.pending = s.pending) ∧
  (∀ s : State, s.pending = [] → ∃ t, step s = .next t ∧ t.time = s.time + 1 ∧ t.pending = [])

/-- Every command answers a next state in every state: no ordinary operand stops the block. (11 R341 (a failing
status has no effect), 09 (rows of the opcode table)) -/
def Obligations.EveryCommandRuns : Prop :=
  ∀ (c : Instr) (s : State), ∃ t, exec c s = .next t

/-- The state after reset keeps the promises of every state. (11 R360, 14 R450, 09 R290) -/
def Obligations.InvAtReset : Prop :=
  State.reset.Inv

/-- Every step keeps the fixed enable bits, the TAP's hold and the forced recorder sources. (11 R360, 14 R450, 09
R290) -/
def Obligations.InvKeptByStep : Prop :=
  ∀ s t : State, s.Inv → step s = .next t → t.Inv

/-- The registers after reset that no reset of the host die has passed; a power-on boot ends in STANDBY with EV126
pending. (11 R348, 11 R359, 11 R360, 02 R32, 03 R80, 05 R178, 07 R235, 08 R252, 13 R402, 13 R409, 09 R288, 10
R307) -/
def Obligations.ResetValues : Prop :=
  (State.reset.pending = [] ∧ State.reset.port.outst = [] ∧ State.reset.pw.neg = false ∧
  State.reset.ev.en = 1#128 <<< 126 ∧ State.reset.pendingWith 126 1 ∧
  (∀ k : Fin 128, k ≠ 126 → State.reset.ev.src[k.val].pending = false) ∧
  (∀ n : Ch, (State.reset.chan n).cfg.mode = .off ∧ (State.reset.chan n).actMode = .off ∧
    (State.reset.chan n).out.ps = .off ∧ (State.reset.chan n).fault = 0 ∧
    (State.reset.chan n).cfg.inCfg = 0x0200000A#32 ∧ (State.reset.chan n).cfg.inThr = 0x00960032#32 ∧
    (State.reset.chan n).cfg.outCfg = 0x085190F0#32 ∧ (State.reset.chan n).cfg.outLim = 0x06400032#32 ∧
    (State.reset.chan n).cfg.safe = 0) ∧
  State.reset.res.credit = 0 ∧ State.reset.comb.active = none ∧ State.reset.comb.lstate = .empty) ∧
  (∃ t, exec (.resetRelease { strap0 := 3000, strap1 := 3000, xinPpm := some 0, ready := 0xF#4,
                                trained := 0, sliceFail := 0, verify := 0xF#4, slots := [], ctlFail := 0,
                                faultCopies := [], supply := Vector.replicate 4 ({ uvlo := false, low := false, warn := false, high := false }, 24000),
                                opSlots := [], cycleFail := 0 }) State.reset = .next t ∧
    t.pw.mode = .standby ∧ t.pw.neg = false ∧ t.isRoot = false ∧ t.isNode = false ∧
    t.pw.pcycle = State.reset.pw.pcycle + 1 ∧ t.pendingWith 126 1 ∧
    (t.rcd.intake.map (·.source)) = [0xF3, 126])

/-- HELLO answers identity and offer; FEAT_ACCEPT locks an offered set; an opcode outside the table changes nothing.
(11 R342, 11 R348, 05 R178, 10 R310, 11 R341) -/
def Obligations.FirstContact : Prop :=
  (∀ (s : State) (c : Cmd), s.accepts helloSpec c = true → ∃ t, exec (.hello c) s = .next t ∧
    State.answers s (s.received c.frame) t c 0x01 .ok 0
      ((s.received c.frame).objects [0x00, 0x01, 0x10, 0x11, 0x12, 0x13, 0x04, 0x05, 0x06, 0x07])) ∧
  (∀ (s : State) (c : Cmd) (set : Word), s.accepts featAcceptSpec c = true → c.words = [set, 0, 0, 0] →
    set &&& ~~~s.sec.offer = 0 → (bit set 0 = true → bit set 8 = false ∧ bit set 3 = false) →
    s.pw.mode = .standby → (∀ e ∈ s.sec.pendingEvents, e.1 ≠ 126) →
    ∃ u t, exec (.featAccept c) s = .next t ∧ State.answers s u t c 0x02 .ok 0 [set, 0, 0, 0] ∧
      u.sec.acc = set ∧ u.pw.neg = true ∧ u.res.credit = 0 ∧ u.ev.src[126].pending = false ∧
      (bit set 2 = false → u.port.rckEn = false) ∧ u.ch = s.ch) ∧
  (∀ (s : State) (op : BitVec 8) (c : Cmd), commandLow op.toNat = none → commandHigh op.toNat = none →
    s.accepts (unknownSpec op.toNat) c = true →
    ∃ t, exec (.unknownOpcode op c) s = .next t ∧
      State.answers s (s.received c.frame) t c op.toNat .unknownOpcode 0 [])

/-- GET_OBJ and GET_OBJ_BLOCK return values at one instant; reading SW_TIME_LO latches SW_TIME_HI. (11 R342, 11
R345, 11 R352, 10 R333) -/
def Obligations.ObjectRead : Prop :=
  (∀ (s : State) (c : Cmd) (v : Word), s.accepts getObjSpec c = true →
    (s.received c.frame).readObj (objIndex c.args) = some v →
    ∃ t, exec (.getObj c) s = .next t ∧
      (objIndex c.args ≠ 0xD08 → objIndex c.args ≠ 0xD09 →
        State.answers s (s.received c.frame) t c 0x03 .ok 0 [v, 0]) ∧
      (objIndex c.args = 0xD08 →
        State.answers s { s.received c.frame with
            port.stShadow := (s.received c.frame).readObj 0xD09, port.stLgen := s.port.stGen } t c 0x03 .ok 0
          [v, pk [(s.port.stGen.toNat, 8), (s.port.stGen.toNat, 0)]]) ∧
      (∀ h, objIndex c.args = 0xD09 → s.port.stShadow = some h →
        State.answers s { s.received c.frame with port.stShadow := none } t c 0x03 .ok 0
          [h, pk [(1, 16), (s.port.stLgen.toNat, 8), (s.port.stGen.toNat, 0)]])) ∧
  (∀ (s : State) (c : Cmd) (i e : Nat) (n : Word), s.accepts getObjBlockSpec c = true → objIndex c.args = i →
    c.words = [n] → 1 ≤ n.toNat → n.toNat ≤ 1024 → rangeEnd i = some e → i + n.toNat ≤ e →
    i ≠ 0x95A → i ≠ 0xD0C → (i + n.toNat ≤ 0xD08 ∨ 0xD09 < i) →
    ∃ t, exec (.getObjBlock c) s = .next t ∧
      State.answers s (s.received c.frame) t c 0x05 .ok 0
        ((s.received c.frame).objects ((List.range n.toNat).map (i + ·))))

/-- SET_OBJ answers what the object then reads; CH_FAULT clears the bits written 1; a reserved index is RANGE. (02
R37, 11 R342, 11 R352, 01 R29) -/
def Obligations.ObjectWrite : Prop :=
  (∀ (s u : State) (c : Cmd) (w : Word), s.accepts setObjSpec c = true → c.words = [w] →
    (s.received c.frame).setObject .host (objIndex c.args) w = .ok u →
    ∃ t, exec (.setObj c) s = .next t ∧
      State.answers s u t c 0x04 .ok 0 (u.objects [objIndex c.args])) ∧
  (∀ (s : State) (c : Cmd) (w : Word) (n : Ch), s.accepts setObjSpec c = true → c.words = [w] →
    objIndex c.args = chIndex n 0x03 → s.isOdd n = false → s.dieUp (grpOf n) = true →
    (s.group (grpOf n)).link.silent = false → s.failedCh n = false → (s.chan n).cfgBusy = false →
    ((s.chan n).actMode = .off ∨ (s.chan n).actMode.isDigital = true) →
    ∃ u t, exec (.setObj c) s = .next t ∧
      State.answers s u t c 0x04 .ok 0 [(s.chan n).fault &&& ~~~w] ∧
      u = (s.received c.frame).modCh n fun x => { x with fault := x.fault &&& ~~~w }) ∧
  (∀ (s : State) (c : Cmd) (w : Word), s.accepts setObjSpec c = true → c.words = [w] →
    0x300 ≤ objIndex c.args → objIndex c.args < 0x400 →
    ∃ t, exec (.setObj c) s = .next t ∧ State.answers s (s.received c.frame) t c 0x04 .range 0 [])

/-- SET_MODE moves between STANDBY, RUN and SERVICE; LATENCY_TOL sets the tolerances and the power state. (13 R402,
13 R403, 13 R405, 13 R413) -/
def Obligations.ModeCommands : Prop :=
  (∀ (s : State) (c : Cmd), s.accepts setModeSpec c = true → s.pw.mode = .standby → arg c.args 2 0 = 3 →
    ∃ u t, exec (.setMode c) s = .next t ∧ State.answers s u t c 0x06 .ok 0 [] ∧ u.pw.prev = .standby ∧
      (s.anyHeld = false → u.pw.mode = .run ∧ u.pw.cause = 2 ∧ u.pendingWith 120 3) ∧
      (s.anyHeld = true → u.pw.mode = .safe ∧ u.pw.cause = 6 ∧ u.pendingWith 120 5)) ∧
  (∀ (s : State) (c : Cmd), s.accepts setModeSpec c = true → s.pw.mode = .standby → arg c.args 2 0 = 6 →
    ∃ u t, exec (.setMode c) s = .next t ∧ State.answers s u t c 0x06 .ok 0 [] ∧
      u.pw.mode = .service ∧ u.pw.prev = .standby ∧ u.ch = s.ch) ∧
  (∀ (s : State) (c : Cmd), s.accepts setModeSpec c = true → (s.pw.mode = .run ∨ s.pw.mode = .doze) →
    arg c.args 2 0 = 2 →
    ∃ u t, exec (.setMode c) s = .next t ∧ State.answers s u t c 0x06 .ok 0 [] ∧
      u.pw.mode = .standby ∧ u.pw.prev = .run ∧ u.comb.started = false ∧
      ∀ n, (s.chan n).guard.held = false → (s.chan n).actMode.isSwitch = true →
        (s.chan n).out.ps ≠ .lockedOff → (u.chan n).out.cmdOn = false) ∧
  (∀ (s : State) (c : Cmd) (a b : Word), s.accepts latencyTolSpec c = true → c.words = [a, b] →
    ∃ u t, exec (.latencyTol c) s = .next t ∧
      State.answers s u t c 0x40 .ok 0 [BitVec.ofNat 32 (chosenState a b).code] ∧
      u.pw.rtol = a ∧ u.pw.ctol = b ∧ u.ch = s.ch ∧ u.comb = s.comb)

/-- EVT_ACK acknowledges delivered sources only, REDELIVER marks undelivered, EVT_MASK writes the enables. (11 R342,
11 R359, 11 R360) -/
def Obligations.EventCommands : Prop :=
  (∀ (s : State) (c : Cmd), s.accepts evtAckSpec { c with args := withArg c.args 0 0 0 } = true →
    ∃ u t, exec (.evtAck c) s = .next t ∧
      State.answers s u t { c with args := withArg c.args 0 0 0 } 0x0A .ok 0 [u.evtPendW 0, u.evtPendW 1, u.evtPendW 2, u.evtPendW 3] ∧
      u = { s.received c.frame with ev := { s.ev with src := u.ev.src } } ∧
      ∀ k : Fin 128, u.ev.src[k.val] =
        if (mask128 c.words).getLsbD k.val = true ∧ s.ev.src[k.val].undel = false ∧ k ≠ 126
        then { s.ev.src[k.val] with pending := false } else s.ev.src[k.val]) ∧
  (∀ (s : State) (c : Cmd), s.accepts evtAckSpec { c with args := withArg c.args 0 0 1 } = true →
    ∃ u t, exec (.evtRedeliver c) s = .next t ∧
      State.answers s u t { c with args := withArg c.args 0 0 1 } 0x0A .ok 0 [u.evtPendW 0, u.evtPendW 1, u.evtPendW 2, u.evtPendW 3] ∧
      u = { s.received c.frame with ev := { s.ev with src := u.ev.src } } ∧
      ∀ k : Fin 128, u.ev.src[k.val] =
        if s.ev.src[k.val].pending = true ∧ s.ev.en.getLsbD k.val = true
        then { s.ev.src[k.val] with undel := true } else s.ev.src[k.val]) ∧
  (∀ (s : State) (c : Cmd), s.accepts evtMaskSpec c = true →
    ∃ u t, exec (.evtMask c) s = .next t ∧
      State.answers s u t c 0x0B .ok 0 [u.evtEnW 0, u.evtEnW 1, u.evtEnW 2, u.evtEnW 3] ∧
      u = { s.received c.frame with ev := { s.ev with en := u.ev.en } } ∧
      ∀ k : Fin 128, u.ev.en.getLsbD k.val =
        (decide (k = 126) || (!neverRaised k.val && (mask128 c.words).getLsbD k.val)))

/-- CH_CONFIG that keeps the mode writes its words at once; a mode change waits for its completion. (02 R40, 11
R335, 11 R344) -/
def Obligations.ChannelConfig : Prop :=
  (∀ (s : State) (c : Cmd) (n : Ch) (l : List (Nat × Word)), s.accepts chConfigSpec c = true →
    n = chNo (arg c.args 4 0) → l = maskWords (wAt c.words 0) (c.words.drop 1) → wAt c.words 0 ≠ 0 →
    s.isOdd n = false → (s.received c.frame).configChecks n l = [] →
    ∃ u t, exec (.chConfig c) s = .next t ∧ u = (s.received c.frame).applyConfig n l ∧
      (((s.received c.frame).configLeft n l).mode = (s.chan n).cfg.mode →
        State.answers s u t c 0x07 .ok 0 [u.chModeW n]) ∧
      (((s.received c.frame).configLeft n l).mode ≠ (s.chan n).cfg.mode →
        State.awaits s u t c 0x07 (configKey n) ∧ (u.chan n).cfgBusy = true ∧ (u.chan n).fault = 0 ∧
        (u.chan n).actMode = .off ∧ (u.chan n).cfg = (s.received c.frame).configLeft n l)) ∧
  (∀ (s : State) (n : Ch) (ok : Bool), (s.chan n).cfgBusy = true → s.dieUp (grpOf n) = true →
    ∃ t, exec (.modeChangeComplete n ok) s = .next t ∧
      (t.chan n).cfgBusy = false ∧ (t.chan n).actMode = (s.chan n).cfg.mode ∧
      ∀ m, m ≠ n → m ≠ mateOf n → t.chan m = s.chan m)

/-- OUT_WRITE and AO_WRITE on a free channel act at once and answer entry by entry. (03 R82, 03 R98, 06 R188, 07
R230, 11 R343) -/
def Obligations.OutputCommands : Prop :=
  (∀ (s : State) (c : Cmd) (n : Ch) (w : Word), s.accepts outWriteSpec c = true → c.words = [bitW n.val, w] →
    s.isOdd n = false → (s.chan n).actMode.isSwitch = true → (s.chan n).cfgBusy = false →
    (s.chan n).guard.held = false → (s.chan n).out.ps ≠ .lockedOff → s.failedCh n = false →
    s.dieUp (grpOf n) = true → (s.group (grpOf n)).link.silent = false →
    s.scheduled n = false → s.armedSchedules n = false → fld w 31 30 ≤ 1 → fld w 13 0 ≤ 10000 →
    ∃ u t, exec (.outWrite c) s = .next t ∧
      State.answers s u t c 0x08 .ok 0 [bitW n.val, 0x00FFFFFF#32, 0xFFFFFFFF#32] ∧
      (fld w 31 30 = 0 → (u.chan n).out.cmdOn = false ∧ (u.chan n).out.ps.isOn = false) ∧
      (fld w 31 30 = 1 → (u.chan n).out.cmdOn = true ∧ (u.chan n).out.cmdDuty = 10000)) ∧
  (∀ (s : State) (c : Cmd) (n : Ch) (w : Word), s.accepts aoWriteSpec c = true → c.words = [bitW n.val, w] →
    s.isOdd n = false → (s.chan n).actMode.isAo = true → (s.chan n).cfgBusy = false →
    (s.chan n).guard.held = false → (s.chan n).ao.blocked = false →
    s.codeWaits n (w.setWidth 16) = false →
    s.failedCh n = false → s.dieUp (grpOf n) = true → (s.group (grpOf n)).link.silent = false →
    s.scheduled n = false → s.armedSchedules n = false →
    ∃ u t, exec (.aoWrite c) s = .next t ∧
      State.answers s u t c 0x09 .ok 0 [bitW n.val, 0x00FFFFFF#32, 0xFFFFFFFF#32] ∧
      (u.chan n).ao.code = w.setWidth 16 ∧ ∀ m, m ≠ n → u.chan m = s.chan m)

/-- COMB_LOAD_BEGIN, _DATA and COMB_COMMIT receive an image; COMB_VERIFY_COMPLETE makes it VALID or REJECTED. (07
R235, 07 R236, 11 R342) -/
def Obligations.CombLoading : Prop :=
  (∀ (s : State) (c : Cmd) (w : Word), s.accepts combLoadBeginSpec c = true → c.words = [w] →
    272 ≤ w.toNat → w.toNat ≤ 65888 → s.comb.lstate ≠ .verifying → s.comb.armed = none →
    ∃ u t, exec (.combLoadBegin c) s = .next t ∧ State.answers s u t c 0x10 .ok 0 [] ∧
      u.comb.lstate = .receiving ∧ u.comb.loading = [] ∧ u.comb.rxLen = w.toNat ∧
      u.comb.active = s.comb.active ∧ u.ch = s.ch) ∧
  (∀ (s : State) (c : Cmd) (off n : Word) (ws : List Word), s.accepts combLoadDataSpec c = true →
    c.words = off :: n :: ws → s.comb.lstate = .receiving → off.toNat = s.comb.loading.length →
    1 ≤ n.toNat → n.toNat ≤ 4088 → off.toNat + n.toNat ≤ s.comb.rxLen →
    ∃ u t, exec (.combLoadData c) s = .next t ∧
      State.answers s u t c 0x11 .ok 0 [BitVec.ofNat 32 (off.toNat + n.toNat)] ∧
      u.comb.loading = s.comb.loading ++ (wordsBytes ws).take n.toNat ∧
      u.comb.active = s.comb.active ∧ u.ch = s.ch) ∧
  (∀ (s : State) (c : Cmd), s.accepts combCommitSpec c = true → s.comb.lstate = .receiving →
    s.comb.rxLen ≤ s.comb.loading.length →
    ∃ u t, exec (.combCommit c) s = .next t ∧ State.awaits s u t c 0x12 commitKey ∧
      u.comb.lstate = .verifying ∧ u.comb.persist = decide (arg c.args 0 0 = 1) ∧
      u.comb.verdict = (s.received c.frame).verifyComb s.comb.loading ∧
      u.comb.active = s.comb.active ∧ u.ch = s.ch) ∧
  (∀ (s : State), s.comb.lstate = .verifying → s.hostUp = true → s.comb.verdict = none →
    ∃ t, exec .combVerifyComplete s = .next t ∧ t.comb.lstate = .valid ∧
      t.comb.next = some (decodeComb s.comb.loading) ∧ t.comb.active = s.comb.active ∧ t.ch = s.ch) ∧
  (∀ (s : State) (st : Status) (r : BitVec 4) (i : BitVec 13), s.comb.lstate = .verifying →
    s.hostUp = true → s.comb.verdict = some (st, r, i) →
    ∃ t, exec .combVerifyComplete s = .next t ∧ t.comb.lstate = .rejected ∧ t.comb.reason = r ∧
      t.comb.index = i ∧ t.pendingWith 92 r.toNat ∧ t.comb.active = s.comb.active ∧ t.ch = s.ch)

/-- COMB_SWAP arms, cancels and stops; COMB_EXCHANGE, COMB_PERIOD_WRAP and TB_STALL move the comb from period to
period. (07 R217, 07 R240, 07 R241, 07 R242, 07 R248, 11 R342) -/
def Obligations.CombChanges : Prop :=
  (∀ (s : State) (b : Bool), s.comb.armed = some b → s.hostUp = true →
    (s.combLive = false ∨ s.comb.cond = .stalled ∨ s.exchangeDue = true) →
    ∃ t, exec .combExchange s = .next t ∧ t.comb.armed = none ∧
      t.comb.active = (if b then s.comb.next else none) ∧
      t.comb.actBank = (if b then !s.comb.actBank else s.comb.actBank) ∧
      t.comb.late = 0 ∧ t.comb.skipped = 0 ∧ t.comb.stalls = 0 ∧ t.comb.reversals = 0 ∧
      t.comb.applyConf = 0 ∧ t.pendingWith 88 (if b then 1 else 2)) ∧
  (∀ (s : State), s.combLive = true → s.comb.cond ≠ .stalled → s.exchangeDue = false →
    exec .combExchange s = .next s) ∧
  (∀ (s : State) (micros : Word) (c : Comb), s.comb.active = some c → s.cellsRun = true →
    s.wraps c s.posGrp = true →
    ∃ t, exec (.combPeriodWrap micros) s = .next t ∧ t.comb.fbper = micros ∧
      wrapLimit (s.group s.posGrp).pos.h c.per + 1 ≤ (t.group s.posGrp).pos.h ∧
      (s.comb.armed.isSome = true →
        (t.group s.posGrp).pos.h = wrapLimit (s.group s.posGrp).pos.h c.per + 1) ∧
      t.comb.wrapDue = s.comb.armed.isSome ∧ t.comb.active = s.comb.active ∧ t.ch = s.ch) ∧
  (∀ (s : State) (c : Comb), s.comb.active = some c → c.hdr.tb ≠ 0 → s.combLive = true →
    (s.comb.cond = .normal ∨ s.comb.cond = .reversed) → s.hostUp = true →
    (c.hdr.tb = 1 → ∀ m l, s.comb.moves = m :: l → m.1 + c.hdr.stallT * milli ≤ s.time) →
    (c.hdr.tb = 2 → (s.chan c.source).mains.lock = false) →
    (c.hdr.tb = 3 → s.sw.synced = false ∧ s.sw.lostAt + c.hdr.stallT * milli ≤ s.time) →
    ∃ t, exec .tbStall s = .next t ∧ t.comb.stalls = satInc s.comb.stalls ∧ t.pendingWith 90 1 ∧
      (c.hdr.stallact = 0 → t.comb.cond = .stalled) ∧
      (c.hdr.stallact = 1 → c.hdr.tb = 3 → t.comb.cond = .fallback) ∧
      (c.hdr.stallact = 2 → t.comb.cond = .stalled ∧ t.comb.safeHeld = true)) ∧
  (∀ (s : State) (c : Cmd) (x : Comb), s.accepts combSwapSpec { c with args := withArg c.args 1 0 0 } = true →
    arg c.args 1 0 ≤ 2 → s.comb.lstate = .valid → s.comb.next = some x →
    (s.received c.frame).sourceFits x = true → (s.received c.frame).orderModeFail x = none →
    ∃ u t, exec (.combSwapArm c) s = .next t ∧ State.answers s u t { c with args := withArg c.args 1 0 0 } 0x13 .ok 0 [u.combStatW] ∧
      u = { s.received c.frame with comb.armed := some true, comb.wrapDue := false }) ∧
  (∀ (s : State) (c : Cmd), s.accepts combSwapSpec { c with args := withArg c.args 1 0 1 } = true →
    arg c.args 1 0 ≤ 2 →
    ∃ u t, exec (.combSwapCancel c) s = .next t ∧ State.answers s u t { c with args := withArg c.args 1 0 1 } 0x13 .ok 0 [u.combStatW] ∧
      u = { s.received c.frame with comb.armed := none, comb.wrapDue := false }) ∧
  (∀ (s : State) (c : Cmd), s.accepts combSwapSpec { c with args := withArg c.args 1 0 2 } = true →
    arg c.args 1 0 ≤ 2 →
    ∃ u t, exec (.combSwapStop c) s = .next t ∧ State.answers s u t { c with args := withArg c.args 1 0 2 } 0x13 .ok 0 [u.combStatW] ∧
      u = { s.received c.frame with comb.armed := some false, comb.wrapDue := false })

/-- NOP, APPLY, OUT_SET, OUT_PULSE, OUT_PULSE_END, DIAG and INJ_RES on time: what each does to its channel. (07
R223, 07 R226, 07 R231, 07 R234, 03 R110) -/
def Obligations.OutputCells : Prop :=
  (∀ (s : State) (idx : Nat) (c : Cell) (g : Grp) (d : DueCell), s.dueOn 0x00 idx c g d →
    exec (.nop idx) s = .next (s.cellStarted g c)) ∧
  (∀ (s : State) (idx : Nat) (c : Cell) (g : Grp) (d : DueCell), s.dueOn 0x0E idx c g d →
    exec (.injRes idx) s = .next (s.cellStarted g c)) ∧
  (∀ (s : State) (idx : Nat) (c : Cell) (g : Grp) (d : DueCell) (n : Ch) (p : PendCmd),
    s.dueOn 0x04 idx c g d → c.mask = bitW n.val → s.isOdd n = false → s.meets false n = .run →
    (s.modeOf n).isSwitch = true → (s.chan n).pend = some p → s.tooSoon n p = false →
    (s.chan n).out.polOn = false →
    ∃ t, exec (.apply idx) s = .next t ∧ (t.chan n).pend = none ∧ (t.chan n).out.cmdOn = p.on ∧
      (t.chan n).out.cmdDuty = (if p.on then p.duty else 0) ∧
      (p.on = false → (t.chan n).out.ps = .off) ∧
      (s.cellStarted g c).touchesGrp t [n, mateOf n] [grpOf n]) ∧
  (∀ (s : State) (idx : Nat) (c : Cell) (g : Grp) (d : DueCell) (n : Ch), s.dueOn 0x05 idx c g d →
    c.mask = bitW n.val → s.isOdd n = false → s.meets false n = .run →
    ∃ t, exec (.outSet idx) s = .next t ∧ (t.chan n).out.cmdOn = bit c.arg 31 ∧
      (t.chan n).out.cmdDuty = (if bit c.arg 31 then BitVec.ofNat 14 (fld c.arg 13 0) else 0) ∧
      (t.chan n).pend = (s.chan n).pend ∧ (s.cellStarted g c).touchesGrp t [n, mateOf n] [grpOf n]) ∧
  (∀ (s : State) (idx : Nat) (c : Cell) (g : Grp) (d : DueCell) (n : Ch), s.dueOn 0x06 idx c g d →
    c.mask = bitW n.val → s.isOdd n = false → s.meets false n = .run →
    ∃ t, exec (.outPulse idx) s = .next t ∧ (t.chan n).out.cmdOn = (s.chan n).out.cmdOn ∧
      (bit c.arg 31 = true → (s.chan n).out.ps = .off → s.readyOn n = true →
        (t.chan n).out.ps.isOn = true ∧ (t.chan n).out.pulse = some true) ∧
      (bit c.arg 31 = false → (s.chan n).out.ps.isOn = true →
        (t.chan n).out.ps = .off ∧ (t.chan n).out.pulse = some false) ∧
      (s.cellStarted g c).touchesGrp t [n, mateOf n] [grpOf n]) ∧
  (∀ (s : State) (idx : Nat) (c : Cell) (g : Grp) (d : DueCell) (n : Ch), s.dueOn 0x07 idx c g d →
    c.mask = bitW n.val → s.isOdd n = false → s.meets false n = .run → (s.chan n).out.ps = .on →
    (s.cfgOf n).inductive = false →
    ∃ t, exec (.diag idx) s = .next t ∧ (t.chan n).out.diag = true ∧
      (s.cellStarted g c).touches t [n, mateOf n]) ∧
  (∀ (s : State) (n : Ch), (s.chan n).out.pulse.isSome = true → (s.modeOf n).isSwitch = true →
    (s.chan n).guard.held = false → s.dieUp (grpOf n) = true →
    ∃ t, exec (.outPulseEnd n) s = .next t ∧ (t.chan n).out.pulse = none ∧
      ((s.chan n).out.cmdOn = false → (s.chan n).out.ps ≠ .lockedOff → (t.chan n).out.ps = .off) ∧
      ((s.chan n).out.cmdOn = true → (s.chan n).out.ps = .off → s.readyOn n = true →
        (t.chan n).out.ps.isOn = true) ∧
      ((s.chan n).out.cmdOn = true → (s.chan n).out.ps = .off → s.readyOn n = false →
        (t.chan n).out.ps = .pend) ∧
      s.touchesGrp t [n, mateOf n] [grpOf n])

/-- HOLD, CONVERT, SAMPLE and CAL_WIN on time: samples, conversions under way, a calibration window. (04 R122, 04
R123, 04 R124, 04 R134, 05 R169) -/
def Obligations.InputCells : Prop :=
  (∀ (s : State) (idx : Nat) (c : Cell) (g : Grp) (d : DueCell) (n : Ch), s.dueOn 0x01 idx c g d →
    c.mask = bitW n.val → s.isOdd n = false → s.meets true n = .run → (s.modeOf n).isAnalogue = true →
    (s.chan n).ai.req = none →
    ∃ t, exec (.hold idx) s = .next t ∧ (t.chan n).ai.held = true ∧
      (t.group (grpOf n)).conv.overrun =
        (if (s.chan n).ai.held then satInc (s.group (grpOf n)).conv.overrun
         else (s.group (grpOf n)).conv.overrun) ∧
      (s.cellStarted g c).touchesGrp t [n] [grpOf n]) ∧
  (∀ (s : State) (idx : Nat) (c : Cell) (g : Grp) (d : DueCell) (n : Ch) (r : ConvReq),
    s.dueOn 0x02 idx c g d → c.mask = bitW n.val → s.isOdd n = false → s.meets true n = .run →
    (s.modeOf n).isAnalogue = true → (s.chan n).ai.req = none → s.comb.jobs = [] →
    r = { cls := .comb, stamp := s.stampAt d.pos, job := some s.comb.nextJob } →
    ∃ t, exec (.convert idx) s = .next t ∧
      ((t.chan n).ai.req = some r ∨ (t.chan n).ai.busy = some r) ∧
      t.comb.nextJob = s.comb.nextJob + 1 ∧ ∀ m, (t.chan m).out = (s.chan m).out ∧
        (t.chan m).ao = (s.chan m).ao ∧ (t.chan m).cfg = (s.chan m).cfg) ∧
  (∀ (s : State) (idx : Nat) (c : Cell) (g : Grp) (d : DueCell) (n : Ch) (r : ConvReq),
    s.dueOn 0x03 idx c g d → c.mask = bitW n.val → s.isOdd n = false → s.meets true n = .run →
    (s.modeOf n).isAnalogue = true → (s.chan n).ai.req = none → (s.chan n).ai.held = false →
    s.comb.jobs = [] → r = { cls := .comb, stamp := s.stampAt d.pos, job := some s.comb.nextJob } →
    ∃ t, exec (.sample idx) s = .next t ∧
      ((t.chan n).ai.req = some r ∨ (t.chan n).ai.busy = some r) ∧
      t.comb.nextJob = s.comb.nextJob + 1 ∧ ∀ m, (t.chan m).out = (s.chan m).out ∧
        (t.chan m).ao = (s.chan m).ao ∧ (t.chan m).cfg = (s.chan m).cfg) ∧
  (∀ (s : State) (idx : Nat) (c : Cell) (g : Grp) (d : DueCell) (k : Grp), s.dueOn 0x0D idx c g d →
    240000 ≤ c.ticks → k = grpNo c.lead.toNat → s.dieUp k = true →
    ∃ t, exec (.calWin idx) s = .next t ∧
      (t.group k).conv.winEnd = max (s.group k).conv.winEnd (s.time + c.ticks / 4) ∧
      ∀ m, (t.chan m).out = (s.chan m).out ∧ (t.chan m).ao = (s.chan m).ao ∧
        (t.chan m).cfg = (s.chan m).cfg)

/-- AO_SET, RAIL and HART_WIN on time: codes, rails between two voltages, HART windows. (06 R189, 06 R190, 06 R196,
06 R210, 06 R212, 07 R223) -/
def Obligations.AnalogueCells : Prop :=
  (∀ (s : State) (idx : Nat) (c : Cell) (g : Grp) (d : DueCell) (n : Ch) (k : BitVec 16),
    s.dueOn 0x08 idx c g d → c.mask = bitW n.val → s.isOdd n = false → s.meets false n = .run →
    bit c.arg 31 = true → k = BitVec.ofNat 16 (fld c.arg 15 0) → s.codeWaits n k = false →
    ∃ t, exec (.aoSet idx) s = .next t ∧ (t.chan n).ao.code = k ∧ (t.chan n).pend = (s.chan n).pend ∧
      (s.cellStarted g c).touchesGrp t [n] [grpOf n]) ∧
  (∀ (s : State) (idx : Nat) (c : Cell) (g : Grp) (d : DueCell) (n : Ch) (p : PendCmd),
    s.dueOn 0x08 idx c g d → c.mask = bitW n.val → s.isOdd n = false → s.meets false n = .run →
    (s.modeOf n).isAo = true → bit c.arg 31 = false → (s.chan n).pend = some p → s.tooSoon n p = false →
    s.codeWaits n p.code = false →
    ∃ t, exec (.aoSet idx) s = .next t ∧ (t.chan n).ao.code = p.code ∧ (t.chan n).pend = none ∧
      (s.cellStarted g c).touchesGrp t [n] [grpOf n]) ∧
  (∀ (s : State) (idx : Nat) (c : Cell) (g : Grp) (d : DueCell) (n : Ch) (ls : List RailLoad)
      (l : RailLoad), s.dueOn 0x09 idx c g d → c.mask = bitW n.val → s.isOdd n = false →
    s.meets false n = .run → ls.find? (fun x => x.ch == n) = some l → (s.chan n).ao.rail ≤ s.railLimit n →
    ∃ t, exec (.rail idx ls) s = .next t ∧
      min (s.chan n).ao.rail (s.railReach n (s.railTarget n l.millivolts l.tone)) ≤ (t.chan n).ao.rail ∧
      (t.chan n).ao.rail ≤ max (s.chan n).ao.rail (s.railReach n (s.railTarget n l.millivolts l.tone)) ∧
      (t.chan n).ao.rail ≤ s.railLimit n ∧
      (t.chan n).hart.hclip =
        (bit (s.cfgOf n).hart 31 && decide ((s.railLimit n : Int) < l.tone + 1200)) ∧
      ∀ m, m ≠ n → t.chan m = s.chan m) ∧
  (∀ (s : State) (idx : Nat) (c : Cell) (g : Grp) (d : DueCell) (n : Ch), s.dueOn 0x0A idx c g d →
    c.mask = bitW n.val → s.isOdd n = false → s.meets false n = .run →
    ∃ t, exec (.hartWin idx) s = .next t ∧
      (bit c.arg 0 = true → (t.chan n).hart.winOpen = true) ∧
      (bit c.arg 0 = false → (s.chan n).hart.phase ≠ .sending → (t.chan n).hart.winOpen = false) ∧
      (bit c.arg 0 = false → (s.chan n).hart.phase = .sending →
        (t.chan n).hart.closing = true ∧ (t.chan n).hart.winOpen = (s.chan n).hart.winOpen) ∧
      (s.cellStarted g c).touches t [n])

/-- STAMP, TRIG_OUT and EVENT on time; a late SKIPPABLE cell is skipped and counted, a late MANDATORY one runs. (05
R168, 05 R169, 05 R184, 07 R223, 09 R288, 07 R226, 07 R245, 07 R246) -/
def Obligations.MarkerAndLateCells : Prop :=
  (∀ (s : State) (idx : Nat) (c : Cell) (g : Grp) (d : DueCell) (e : QEntry), s.dueOn 0x0B idx c g d →
    s.linkOpen (grpNo c.lead.toNat) = true → s.anyRouted false = true → s.anyRouted true = false →
    e = { cls := .comb, word := markerW 50 (fld c.arg 23 0), stamp := some (s.stampAt d.pos), src := 0 } →
    s.res.poll.fill + s.res.poll.need e 0 ≤ s.res.sizeOf false →
    ∃ t, exec (.stamp idx) s = .next t ∧ t.res.poll.entries.getLast? = some e ∧
      t.res.strm = s.res.strm ∧ t.ch = s.ch) ∧
  (∀ (s : State) (idx : Nat) (c : Cell) (g : Grp) (d : DueCell), s.dueOn 0x0C idx c g d →
    ∃ t, exec (.trigOut idx) s = .next t ∧ t.ch = s.ch ∧
      (bit c.arg 0 = true → fld s.res.cap.cfg 29 27 = 3 → s.linkOpen (grpNo c.lead.toNat) = true →
        s.res.cap.state = .armed → s.res.cap.ring = false →
        t.res.cap.state = .triggered ∧ t.res.cap.tstamp = s.stampAt d.pos) ∧
      (bit c.arg 1 = true → s.sw.syncEn = true → s.hostUp = true → s.leadUp c = true →
        t.sw.syncPulses = s.sw.syncPulses + 1)) ∧
  (∀ (s : State) (idx : Nat) (c : Cell) (g : Grp) (d : DueCell), s.dueOn 0x0F idx c g d →
    s.hostUp = true → s.leadUp c = true → s.rcd.stopped = false → s.rcd.intake.length < 255 →
    ∃ t, exec (.event idx) s = .next t ∧
      t = { s.cellStarted g c with rcd.intake := s.rcd.intake ++
        [s.intakeOf 0xF5 (BitVec.ofNat 16 (fld c.arg 15 0)) (BitVec.ofNat 16 idx) (s.stampAt d.pos)
          s.combIdW 0] }) ∧
  (∀ (s : State) (idx : Nat) (c : Cell) (g : Grp) (d : DueCell), s.lateOn 0x05 idx c g d →
    c.skip = true → s.hostUp = true → (s.group g).pos.due = [d] → (d.pos, d.idx) ∉ s.comb.lateSeen →
    s.comb.jobs = [] →
    ∃ t, exec (.outSet idx) s = .next t ∧ t.ch = s.ch ∧ t.comb.skipped = satInc s.comb.skipped ∧
      t.comb.late = s.comb.late ∧ (t.group g).pos.due = [] ∧
      (s.spaced s.comb.lastEv89 (10 * milli) = true → t.pendingWith 89 2)) ∧
  (∀ (s : State) (idx : Nat) (c : Cell) (g : Grp) (d : DueCell) (n : Ch), s.lateOn 0x05 idx c g d →
    c.skip = false → s.hostUp = true → (d.pos, d.idx) ∉ s.comb.lateSeen → c.mask = bitW n.val →
    s.isOdd n = false → s.meets false n = .run →
    ∃ t, exec (.outSet idx) s = .next t ∧ t.comb.late = satInc s.comb.late ∧
      t.comb.skipped = s.comb.skipped ∧ (t.chan n).out.cmdOn = bit c.arg 31 ∧
      (s.spaced s.comb.lastEv89 (10 * milli) = true → t.pendingWith 89 1))

/-- Calibrations of the slices, and the references of the groups. (04 R127, 04 R129, 04 R130, 04 R133, 04 R134, 04
R135, 04 R128, 04 R137, 04 R138, 04 R139, 13 R398) -/
def Obligations.CalibrationAndReferences : Prop :=
  (∀ (s : State) (c : Cmd), s.accepts adcCalSpec c = true → groupsOf (arg c.args 3 0) ≠ [] →
    (∀ g ∈ groupsOf (arg c.args 3 0), s.dieUp g = true ∧ (s.group g).link.silent = false) →
    ∃ u t, exec (.adcCal c) s = .next t ∧ State.answers s u t c 0x18 .ok 0 [] ∧
      (∀ n, u.chan n = { s.chan n with ai := (u.chan n).ai }) ∧
      (∀ g ∈ groupsOf (arg c.args 3 0), (s.group g).conv.calState = 0 →
        (u.group g).conv.calState = (if (s.group g).conv.refSettled then 2 else 1) ∧
        (u.group g).conv.calDone = 0) ∧
      ∀ g, g ∉ groupsOf (arg c.args 3 0) → u.group g = s.group g) ∧
  (∀ (s : State) (g : Grp) (k : Slice) (off gain : Int) (lin : List Int), s.dieUp g = true →
    s.hostUp = true → (s.group g).conv.calState = 2 → s.calWaits g = false →
    (s.group g).conv.faulty.getLsbD k.val = false → (s.group g).conv.calDone.getLsbD k.val = false →
    ((s.group g).conv.spare.toNat = k.val ∨ (s.group g).conv.released = some k) →
    sliceFails off gain = false →
    ∃ t, exec (.adcCalSliceDone g k off gain lin) s = .next t ∧
      (t.group g).conv.coefOff[k.val] = off ∧ (t.group g).conv.coefGain[k.val] = gain ∧
      (t.group g).conv.coefLin[k.val] = lin ∧
      ((∀ j : Slice, j = k ∨ (s.group g).conv.calDone.getLsbD j.val = true ∨
          (s.group g).conv.faulty.getLsbD j.val = true) →
        (t.group g).conv.calState = 0 ∧ (t.group g).conv.calRuns = (s.group g).conv.calRuns + 1 ∧
        t.pendingWith 85 1) ∧
      (∀ n, t.chan n = { s.chan n with ai := (t.chan n).ai }) ∧ ∀ h, h ≠ g → t.group h = s.group h) ∧
  (∀ (s : State) (g : Grp), (s.group g).conv.calState = 1 → s.hostUp = true →
    ∃ t, exec (.adcCalRefTimeout g) s = .next t ∧ (t.group g).conv.calState = 0 ∧
      (t.group g).conv.calOutcome = 2 ∧ t.pendingWith 85 2 ∧ s.touchesGrp t [] [g]) ∧
  (∀ (s : State) (g : Grp) (k : Slice) (off gain : Int), s.dieUp g = true →
    (s.group g).conv.spare.toNat = k.val → (s.group g).conv.calState ≠ 2 →
    ∃ t, exec (.spareRotation g off gain) s = .next t ∧
      (sliceFails off gain = false →
        (t.group g).conv.turns = (s.group g).conv.turns + 1 ∧
        (t.group g).conv.spare.toNat = (k.val + 1) % 5 ∧
        ((s.group g).conv.calRo = false →
          (t.group g).conv.coefOff[k.val] = stepTo (s.group g).conv.coefOff[k.val] off 500 ∧
          (t.group g).conv.coefGain[k.val] = stepTo (s.group g).conv.coefGain[k.val] gain 5000) ∧
        ((s.group g).conv.faulty = 0 → (s.group g).conv.released = none → 0 < s.busyCount g →
          (t.group g).conv.inserv = 31) ∧
        (∀ n, t.chan n = { s.chan n with ai := (t.chan n).ai }) ∧ ∀ h, h ≠ g → t.group h = s.group h) ∧
      (sliceFails off gain = true → (t.group g).conv.faulty.getLsbD k.val = true ∧
        (t.group g).conv.spare = 7 ∧
        (s.hostUp = true → t.pendingWith 85 (if (t.group g).conv.healthy < 4 then 4 else 3)))) ∧
  (∀ (s : State) (g : Grp), s.dieUp g = true → s.hostUp = true → (s.group g).conv.refSettled = false →
    ((s.group g).conv.refSel ≠ 1 ∨ (s.group g).conv.fallback = true) →
    ∃ t, exec (.refSettled g) s = .next t ∧ (t.group g).conv.refSettled = true ∧
      (t.group g).conv.calState = (if (s.group g).conv.calState = 1 then 2 else (s.group g).conv.calState) ∧
      t.pendingWith 84 1 ∧ s.touchesGrp t [] [g]) ∧
  (∀ (s : State) (g : Grp), s.dieUp g = true → s.hostUp = true → (s.group g).conv.refSel = 1 →
    (s.group g).conv.fallback = false →
    ∃ t, exec (.refinMonitorCheck g false) s = .next t ∧ (t.group g).conv.fallback = true ∧
      (t.group g).conv.refFault = true ∧ (t.group g).conv.refSettled = false ∧ t.pendingWith 84 3 ∧
      (∀ n, grpOf n = g → (s.modeOf n).isAnalogue = true → (t.chan n).inp.valid = false) ∧
      s.touchesGrp t (chOf g) [g]) ∧
  (∀ (s : State) (g : Grp), s.dieUp g = true → s.hostUp = true → (s.group g).conv.refSel = 1 →
    (s.group g).conv.fallback = false →
    ∃ t, exec (.refinMonitorCheck g true) s = .next t ∧ (t.group g).conv.refSettled = true ∧
      s.touchesGrp t [] [g]) ∧
  (∀ (s : State) (g : Grp) (vf tdie cj : BitVec 16) (ref : BitVec 24), s.dieUp g = true →
    (s.group g).link.silent = false → s.monitorReady g = true →
    ∃ t, exec (.internalMonitorConversion g vf tdie ref cj) s = .next t ∧ (t.group g).sup.vf = vf ∧
      (t.group g).sup.tdie = tdie ∧ (t.group g).conv.cjt = cj ∧ (t.group g).conv.cjValid = true ∧
      ((s.vfReady g = true ∨ vf.toNat < 13500) → t.ch = s.ch) ∧ ∀ h, h ≠ g → t.group h = s.group h)

/-- CONVERSION_COMPLETE gives the code of its input; free, injected and non-analogue results start and end. (04
R122, 04 R138, 04 R142, 04 R157, 04 R160, 04 R161, 05 R163, 05 R166, 05 R180) -/
def Obligations.Conversions : Prop :=
  (∀ (s : State) (n : Ch) (m : ConvMeas) (x : Int) (r : ConvReq), (s.chan n).ai.busy = some r →
    (s.chan n).ai.void = false → r.job = none → (s.chan n).ai.req = none → s.canConvert n = true →
    (s.group (grpOf n)).conv.refSettled = true → (s.modeOf n).isAi = true → s.resOpen n m = false →
    s.linear n m = true → s.quantity n m = (s, x) → overRange (s.cfgOf n) (s.modeOf n) x 4 = false →
    fld (s.cfgOf n).aiFilt 29 28 = 0 → (s.cfgOf n).ftype = 0 → (s.cfgOf n).osr = 1 →
    s.linkOpen (grpOf n) = true →
    ∃ t, exec (.conversionComplete n m) s = .next t ∧ (t.chan n).inp.valid = true ∧
      (t.chan n).ai.busy = none ∧
      (t.chan n).window = some (resultW n.val false false (alignCode (fld s.res.cfg 31 30 == 1) 18
        (codeOf (signedForm (s.cfgOf n) (s.modeOf n)) 18 x (fullScale (s.cfgOf n) (s.modeOf n))))) ∧
      ∀ k, k ≠ n → t.chan k = { s.chan k with ai := (t.chan k).ai }) ∧
  (∀ (s : State) (n : Ch) (r : ConvReq), s.canConvert n = true → s.schedNow n = false →
    fld (s.cfgOf n).aiTrig 31 30 = 0 → (s.chan n).ai.req = none → (s.chan n).ai.busy = none →
    s.paused n .free = false → r = { cls := .free, stamp := s.stampNow, job := none } →
    ∃ t, exec (.freeRateConversion n) s = .next t ∧
      ((t.chan n).ai.req = some r ∨ (t.chan n).ai.busy = some r) ∧ t = { s with ch := t.ch, grp := t.grp } ∧
      (∀ k, t.chan k = { s.chan k with ai := (t.chan k).ai }) ∧
      ∀ g, g ≠ grpOf n → t.group g = s.group g) ∧
  (∀ (s : State) (n : Ch), s.canConvert n = true → s.schedNow n = false →
    fld (s.cfgOf n).aiTrig 31 30 = 1 → s.paused n .inj = false →
    ∃ t, exec (.injectTimer n) s = .next t ∧ (t.chan n).ai.inj = some s.stampNow ∧
      ((s.chan n).ai.inj.isSome = true →
        (t.group (grpOf n)).conv.injDrop = satInc (s.group (grpOf n)).conv.injDrop) ∧
      s.touchesGrp t [n] [grpOf n]) ∧
  (∀ (s : State) (n p : Ch), s.canConvert n = true → s.schedNow n = false →
    fld (s.cfgOf n).aiTrig 31 30 = 2 → p = chNo (fld (s.cfgOf n).aiTrig 27 23) →
    (s.modeOf p).isSwitch = true → (s.cfgOf p).pwm = true → (s.chan p).out.ps.isOn = true →
    (s.chan p).out.duty ≠ 0 → (s.chan p).out.duty ≠ 10000 → s.paused n .inj = false →
    ∃ t, exec (.injectPwmEdge n) s = .next t ∧ (t.chan n).ai.inj = some s.stampNow ∧
      s.touchesGrp t [n] [grpOf n]) ∧
  (∀ (s : State) (n : Ch) (r : ConvReq), s.canConvert n = true → s.schedNow n = false →
    (s.chan n).ai.inj.isSome = true → s.convWaits n = false → s.hostUp = true →
    r = { cls := .inj, stamp := s.stampNow, job := none } →
    ∃ t, exec (.injectHold n) s = .next t ∧ (t.chan n).ai.inj = none ∧
      ((t.chan n).ai.req = some r ∨ (t.chan n).ai.busy = some r) ∧
      (s.injReserve (grpOf n) ≤ (s.recentInj (grpOf n)).length →
        (t.group (grpOf n)).conv.injLate = satInc (s.group (grpOf n)).conv.injLate ∧
        (s.spaced (s.group (grpOf n)).conv.lastEv86 (10 * milli) = true → t.pendingWith 86 1)) ∧
      (∀ k, t.chan k = { s.chan k with ai := (t.chan k).ai }) ∧
      ∀ g, g ≠ grpOf n → t.group g = s.group g) ∧
  (∀ (s : State) (n : Ch), (s.modeOf n).isNonAnalogue = true → s.schedNow n = false → s.isOdd n = false →
    s.supplied n = true → s.linkOpen (grpOf n) = true →
    ∃ t, exec (.nonanalogueResultTick n) s = .next t ∧
      (t.chan n).window = some (if s.modeOf n = .count then s.countValue n
        else resultW n.val false false (s.plainData n)) ∧ ∀ m, m ≠ n → t.chan m = s.chan m)

/-- CAPTURE_ARM empties and arms the buffer, the stop flag idles it, CAPTURE_READ returns its words. (05 R183, 05
R185, 11 R342) -/
def Obligations.CaptureCommands : Prop :=
  (∀ (s : State) (c : Cmd), s.accepts captureArmSpec { c with args := withArg c.args 0 0 0 } = true →
    fld s.res.cap.cfg 29 27 ≠ 0 → (s.res.cap.ring = false → fld s.res.cap.cfg 16 9 = 0) →
    s.triggerFits = true →
    ∃ u t, exec (.captureArm c) s = .next t ∧ State.answers s u t { c with args := withArg c.args 0 0 0 } 0x19 .ok 0 [u.capStatW] ∧
      u = { s.received c.frame with res.cap := { s.res.cap with
        state := .armed, wrapped := false, words := [], toGo := 0, tidx := 0, tstamp := 0 } }) ∧
  (∀ (s : State) (c : Cmd), s.accepts captureArmSpec { c with args := withArg c.args 0 0 1 } = true →
    ∃ u t, exec (.captureStop c) s = .next t ∧ State.answers s u t { c with args := withArg c.args 0 0 1 } 0x19 .ok 0 [u.capStatW] ∧
      u = { s.received c.frame with res.cap.state := .idle }) ∧
  (∀ (s : State) (c : Cmd) (i n : Word), s.accepts captureReadSpec c = true → c.words = [i, n] →
    1 ≤ n.toNat → n.toNat ≤ 1024 → s.res.cap.state ≠ .armed → s.res.cap.state ≠ .triggered →
    i.toNat < s.res.cap.words.length →
    ∃ t, exec (.captureRead c) s = .next t ∧
      State.answers s (s.received c.frame) t c 0x1A .ok 0
        (BitVec.ofNat 32 ((s.res.cap.words.drop i.toNat).take n.toNat).length ::
          (s.res.cap.words.drop i.toNat).take n.toNat))

/-- The waggle, its time-out and its arming; the check-ins of the tasks, their enables and the end of a period. (08
R274, 08 R275, 08 R276, 08 R277, 08 R284, 08 R280, 08 R281) -/
def Obligations.WaggleAndTasks : Prop :=
  (∀ (s : State) (c : Cmd) (w : Word), s.accepts waggleSpec c = true → c.words = [w] → s.wd.wgEn = true →
    s.wd.wgPeriod.toNat * milli ≤ 4 * (s.time - s.wd.wgStart) →
    ∃ u t, exec (.waggle c) s = .next t ∧
      (w = s.waggleToken → State.answers s u t c 0x20 .ok 0 [u.wd.wgChal, u.wd.wgCount] ∧
        u.wd.wgCount = s.wd.wgCount + 1 ∧ u.wd.wgStart = s.time ∧ u.safe.waggleOwed = false ∧
        u.wd.wgPeriod = s.wd.wgSet.getD s.wd.wgPeriod ∧ u.wd.wgSet = none ∧ u.ch = s.ch) ∧
      (w ≠ s.waggleToken → State.answers s u t c 0x20 .denied 0 [] ∧
        u.wd.wgFails = satInc s.wd.wgFails ∧ u.wd.wgLastFail = 3 ∧ u.wd.wgCount = s.wd.wgCount)) ∧
  (∀ (s : State), s.wd.wgEn = true → s.hostUp = true →
    s.wd.wgStart + s.wd.wgPeriod.toNat * milli ≤ s.time →
    ∃ t, exec .waggleTimeout s = .next t ∧ t.wd.wgFails = satInc s.wd.wgFails ∧ t.wd.wgLastFail = 1 ∧
      t.wd.wgStart = s.time ∧
      ((s.pw.mode = .run ∨ s.pw.mode = .doze) → t.pw.mode = .safe ∧ t.pendingWith 77 1 ∧
        t.safe.waggleOwed = true)) ∧
  (∀ (s : State) (f : Frame) (p : BitVec 14),
    s.acceptsWrite f 0xB03 (putBit (p.setWidth 32) 31 true) = true → s.wd.wgEn = false →
    1 ≤ p.toNat → p.toNat ≤ 10000 →
    ∃ u t, exec (.wgEnArm f p) s = .next t ∧ State.written s u t f 0xB03 (putBit (p.setWidth 32) 31 true) ∧ u.wd.wgEn = true ∧
      u.wd.wgPeriod = p ∧ u.wd.wgStart = s.time ∧ u.ch = s.ch) ∧
  (∀ (s : State) (f : Frame) (w : Word), s.acceptsWrite f 0xB02 w = true → 1 ≤ fld w 19 0 →
    fld w 19 0 ≤ 600000 → (s.wd.wgEn = true → s.inWindow = true) →
    ∃ u t, exec (.watchdogPeriodWrite f false w) s = .next t ∧ State.written s u t f 0xB02 w ∧
      u = { s.received f with wd := { (s.received f).wd with
        hsSet := some (BitVec.ofNat 20 (fld w 19 0)) } }) ∧
  (∀ (s : State) (f : Frame) (w : Word), s.acceptsWrite f 0xB03 w = true → 1 ≤ fld w 13 0 →
    fld w 13 0 ≤ 10000 → (s.wd.wgEn = true → s.inWindow = true) → bit w 31 = s.wd.wgEn →
    ∃ u t, exec (.watchdogPeriodWrite f true w) s = .next t ∧ State.written s u t f 0xB03 w ∧
      (s.wd.wgEn = true → u = { s.received f with wd := { (s.received f).wd with
        wgSet := some (BitVec.ofNat 14 (fld w 13 0)) } }) ∧
      (s.wd.wgEn = false → u = { s.received f with wd := { (s.received f).wd with
        wgPeriod := BitVec.ofNat 14 (fld w 13 0) } })) ∧
  (∀ (s : State) (c : Cmd) (k : Fin 16), s.accepts taskCheckinSpec c = true → arg c.args 3 0 = k.val →
    s.wd.taskEn.getLsbD k.val = true →
    ∃ u t, exec (.taskCheckin c) s = .next t ∧ State.answers s u t c 0x21 .ok 0 [] ∧
      u.wd.checkins = s.wd.checkins.set k.val (s.wd.checkins[k.val] + 1) ∧ u.ch = s.ch) ∧
  (∀ (s : State) (f : Frame) (w : Word), s.acceptsWrite f 0xB10 w = true → s.feat 7 = true →
    ∃ u t, exec (.taskEnable f w) s = .next t ∧ State.written s u t f 0xB10 w ∧
      u.wd.taskEn = w.setWidth 16 ∧ u.wd.taskStrict = bit w 31 ∧ u.ch = s.ch) ∧
  (∀ (s : State) (k : Fin 16), s.feat 7 = true → s.wd.taskEn.getLsbD k.val = true →
    s.pw.halted = false → s.hostUp = true → s.taskEnd k ≤ s.time →
    ∃ t, exec (.taskPeriodEnd k) s = .next t ∧ t.wd.taskStart = s.wd.taskStart.set k.val (s.taskEnd k) ∧
      t.wd.checkins = s.wd.checkins.set k.val 0 ∧
      (s.wd.checkins[k.val] = 0 → t.wd.taskMiss.getLsbD k.val = true ∧ t.pendingWith 78 1) ∧
      (s.wd.checkins[k.val] = 1 → t = { s with
        wd.checkins := s.wd.checkins.set k.val 0
        wd.taskStart := s.wd.taskStart.set k.val (s.taskEnd k) }) ∧
      (2 ≤ s.wd.checkins[k.val] → t.wd.taskExtra.getLsbD k.val = true ∧
        t.wd.taskMiss = s.wd.taskMiss ∧ (s.wd.taskStrict = true → t.pendingWith 78 2)) ∧
      t.ch = s.ch)

/-- SAFE_APPLY takes channels and keeps their commands, SAFE_RELEASE releases them, CH_SAFE is copied to the guard.
(08 R256, 08 R257, 08 R261, 08 R266, 08 R267) -/
def Obligations.SafeCommands : Prop :=
  (∀ (s : State) (c : Cmd), s.accepts safeApplySpec c = true → (s.pw.mode = .run ∨ s.pw.mode = .doze) →
    arg c.args 3 0 = 15 → (∀ g, (s.group g).guard.tbad = false) →
    ∃ u t, exec (.safeApply c) s = .next t ∧ State.answers s u t c 0x22 .ok 0 [u.safeStatW] ∧
      u.pw.mode = .safe ∧ (∀ n, s.takes n = true → (u.chan n).guard.held = true ∧
        (u.chan n).guard.applied = false ∧ (u.chan n).guard.cmdOn = (s.chan n).out.cmdOn ∧
        (u.chan n).guard.cmdDuty = (s.chan n).out.cmdDuty) ∧
      ∀ n, s.takes n = false → u.chan n = s.chan n) ∧
  (∀ (s : State) (c : Cmd), s.accepts safeApplySpec c = true → arg c.args 3 0 ≠ 0 → arg c.args 3 0 ≠ 15 →
    (∀ g, (s.group g).guard.tbad = false) →
    ∃ u t, exec (.safeApply c) s = .next t ∧ State.answers s u t c 0x22 .ok 0 [u.safeStatW] ∧
      u.pw.mode = (s.received c.frame).pw.mode ∧
      (∀ n, s.takes n = true → grpOf n ∈ groupsOf (arg c.args 3 0) → (u.chan n).guard.held = true) ∧
      ∀ n, s.takes n = false ∨ grpOf n ∉ groupsOf (arg c.args 3 0) → u.chan n = s.chan n) ∧
  (∀ (s : State) (c : Cmd), s.accepts safeReleaseSpec c = true → s.pw.mode = .safe →
    (∀ g ∈ groupsOf (arg c.args 3 0), s.releaseDenied g = false) →
    (∀ g, (s.group g).guard.held = true → g ∈ groupsOf (arg c.args 3 0)) →
    ∃ u t, exec (.safeRelease c) s = .next t ∧ State.answers s u t c 0x23 .ok 0 [u.safeStatW] ∧
      u.pw.mode = .run ∧ (∀ g, (u.group g).guard.held = false) ∧
      ∀ n, (s.group (grpOf n)).guard.held = true → (u.chan n).guard.held = false) ∧
  (∀ (s : State) (f : Frame) (n : Ch) (w : Word), s.acceptsWrite f (chIndex n 0x1E) w = true →
    s.isOdd n = false → (s.received f).wordChecks n (s.withWordOf n 0x1E w) 0x1E w = [] →
    (s.received f).leaveChecks n (s.withWordOf n 0x1E w) = [] → s.failedCh n = false →
    (s.chan n).cfgBusy = false → s.dieUp (grpOf n) = true → (s.group (grpOf n)).link.silent = false →
    ∃ u t, exec (.chSafeWrite f n false w) s = .next t ∧ State.written s u t f (chIndex n 0x1E) w ∧
      (u.chan n).cfg.safe = mix (s.chan n).cfg.safe w (chMask 0x1E) ∧ u.safe.gen = s.safe.gen + 1 ∧
      (u.group (grpOf n)).guard.gen = u.safe.gen ∧
      (u.group (grpOf n)).guard.copy[n.val % 8]'(Nat.mod_lt _ (by decide)) =
        ((u.chan n).cfg.safe, (u.chan n).cfg.safeVal) ∧ ∀ m, m ≠ n → u.chan m = s.chan m)

/-- SAFE_ENTRY_APPLY, the checks of the guards' copies, GUARD_HOLD_EXPIRY and FOK_DELAY_EXPIRED. (08 R254, 08 R258,
08 R260, 08 R273, 08 R279, 08 R282) -/
def Obligations.GuardEntries : Prop :=
  (∀ (s : State) (n : Ch), (s.chan n).guard.held = true → (s.chan n).guard.applied = false →
    (s.chan n).guard.frozen = false → (s.chan n).cfgBusy = false → s.dieUp (grpOf n) = true →
    (s.chan n).guard.t + fld (s.entryOf n).1 9 0 * 10 * milli ≤ s.time →
    (s.modeOf n).isSwitch = true → (s.chan n).out.ps ≠ .lockedOff → (s.group (grpOf n)).guard.tbad = false →
    ∃ t, exec (.safeEntryApply n true) s = .next t ∧
      (fld (s.entryOf n).1 31 30 = 0 →
        (t.chan n).out.ps = .off ∧ (t.chan n).out.cmdOn = false ∧ (t.chan n).guard.applied = true ∧
        s.touchesGrp t [n, mateOf n] [grpOf n]) ∧
      (fld (s.entryOf n).1 31 30 = 2 →
        (t.chan n) = { s.chan n with guard := { (s.chan n).guard with applied := true, frozen := false } } ∧
        s.touchesGrp t [n] [grpOf n])) ∧
  (∀ (s : State) (n : Ch), (s.chan n).guard.held = true → s.dieUp (grpOf n) = true →
    ∃ t, exec (.safeEntryApply n false) s = .next t ∧ (t.group (grpOf n)).guard.tbad = true ∧
      (t.group (grpOf n)).guard.fok = false ∧ ∀ m, grpOf m = grpOf n → (s.chan m).guard.held = true → (s.chan m).cfgBusy = false →
        (s.modeOf m).isSwitch = true → (s.chan m).out.ps ≠ .lockedOff → (t.chan m).out.cmdOn = false) ∧
  (∀ (s : State) (g : Grp), s.guardReached g = true →
    (∃ t, exec (.guardGenMismatch g true) s = .next t ∧
      (t.group g).guard = { (s.group g).guard with copy := s.masterTable g, gen := s.safe.gen } ∧
      s.touchesGrp t [] [g]) ∧
    (∃ t, exec (.guardCrcCheck g true) s = .next t ∧
      (t.group g).guard = { (s.group g).guard with copy := s.masterTable g, gen := s.safe.gen } ∧
      s.touchesGrp t [] [g]) ∧
    (∃ t, exec (.guardGenMismatch g false) s = .next t ∧ (t.group g).guard.tbad = true ∧
      t.ev.src[127].pending = true ∧ t.safe.intFault = true) ∧
    (∃ t, exec (.guardCrcCheck g false) s = .next t ∧ (t.group g).guard.tbad = true ∧
      t.ev.src[127].pending = true ∧ t.safe.intFault = true)) ∧
  (∀ (s : State) (d : Nat), s.wd.nmi = some d → d + 150 * milli ≤ s.time →
    ∃ t, exec .guardHoldExpiry s = .next t ∧ ∀ n,
    ((s.group (grpOf n)).guard.limitMicros = 150000 → (s.group (grpOf n)).link.failed = false →
      t.chan n = if (s.chan n).guard.frozen then
        { s.chan n with guard := { (s.chan n).guard with frozen := false, t := s.time } } else s.chan n) ∧
    (((s.group (grpOf n)).guard.limitMicros ≠ 150000 ∨ (s.group (grpOf n)).link.failed = true) →
      t.chan n = s.chan n)) ∧
  (∀ (s : State) (g : Grp) (n : Ch), (s.group g).guard.held = true → grpOf n = g →
    (s.chan n).guard.held = true → (s.chan n).guard.t + fld s.safe.cfg 9 0 * 10 * milli ≤ s.time →
    ∃ t, exec (.fokDelayExpired g) s = .next t ∧ (t.group g).guard = { (s.group g).guard with fok := false } ∧
      s.touchesGrp t [] [g])

/-- HOST_SILENCE_EXPIRY, CORE_WATCHDOG_EXPIRY and DIE_OVERTEMP take the outputs. (08 R261, 08 R265, 08 R269, 08
R274, 08 R279) -/
def Obligations.SafeTriggers : Prop :=
  (∀ (s : State), (s.pw.mode = .run ∨ s.pw.mode = .doze) → s.hostUp = true → s.pw.window = none →
    s.wd.hsLast + s.wd.hsPeriod.toNat * 100 * micro ≤ s.time →
    ∃ t, exec .hostSilenceExpiry s = .next t ∧ t.wd.hsExpiries = satInc s.wd.hsExpiries ∧
      t.pendingWith 76 1 ∧ t.pw.mode = .safe ∧
      (∀ n, s.takes n = true → (t.chan n).guard.held = true) ∧
      (s.feat 0 = true → ∀ n, s.takes n = true → (s.chan n).cfgBusy = false →
        (s.modeOf n).isSwitch = true → (t.chan n).out.cmdOn = false)) ∧
  (∀ (s : State) (pc : Word) (cause : BitVec 8), s.hostUp = true → s.pw.halted = false →
    ∃ t, exec (.coreWatchdogExpiry pc cause) s = .next t ∧
      t.wd.coreExpiries = satInc s.wd.coreExpiries ∧ t.wd.evid0 = pc ∧ t.wd.evidCause = cause ∧
      t.wd.evid1 = s.wd.svcOpsec ∧ t.wd.evid2 = s.wd.svcStamp ∧ t.wd.evalid = true ∧ t.wd.nmi = some s.time ∧ t.comb.started = false ∧ t.pw.mode = s.pw.mode ∧
      ∀ n, s.takes n = true → s.dieUp (grpOf n) = true → (s.group (grpOf n)).link.silent = false →
        (t.chan n).guard.held = true ∧ (t.chan n).guard.frozen = true) ∧
  (∀ (s : State) (g : Grp), s.dieUp g = true → s.hostUp = true →
    ∃ t, exec (.dieOvertemp g) s = .next t ∧ t.pendingWith (srcNo (68 + g.val)) 4 ∧
      (bit s.safe.cfg 30 = true → bit s.safe.cfg 28 = false → s.pw.mode = .run →
        t.pw.mode = .safe ∧ ∀ n, s.takes n = true → (t.chan n).guard.held = true))

/-- HART_SEND to HART_REPLY_TIMEOUT: a transaction from the request to its reply or its time-out. (06 R206, 06 R208,
06 R209, 06 R210, 06 R211, 11 R342) -/
def Obligations.HartRows : Prop :=
  (∀ (s : State) (c : Cmd) (n : Ch) (k : Word) (ws : List Word), s.accepts hartSendSpec c = true →
    n = chNo (arg c.args 4 0) → c.words = k :: ws → 1 ≤ k.toNat → k.toNat ≤ 255 →
    bit (s.cfgOf n).hart 31 = true → (s.chan n).guard.held = false → (s.chan n).ao.blocked = false →
    (s.chan n).cfgBusy = false → (s.chan n).hart.txBusy = false → s.inTouch (grpOf n) = true →
    ∃ u t, exec (.hartSend c) s = .next t ∧ State.answers s u t c 0x41 .ok 0 [] ∧
      u = (s.received c.frame).modHart n fun h => { h with
        txBusy := true, phase := .queued, tx := (wordsBytes ws).take k.toNat }) ∧
  (∀ (s : State) (c : Cmd) (n : Ch) (f : HartFrame), s.accepts hartRecvSpec c = true →
    n = chNo (arg c.args 4 0) → (s.chan n).guard.held = false → (s.chan n).cfgBusy = false →
    s.inTouch (grpOf n) = true → (s.chan n).hart.rx = some f →
    ∃ u t, exec (.hartRecv c) s = .next t ∧
      State.answers s u t c 0x42 .ok 0
        (pk [(f.pre.toNat, 8), (f.bytes.length, 0)] :: markWords f.marks ++ packBytes f.bytes) ∧
      u = (s.received c.frame).modHart n fun h => { h with rx := none }) ∧
  (∀ (s : State) (n : Ch), s.hartLive n = true → (s.chan n).hart.phase = .queued → s.windowOpen n = true →
    (s.chan n).hart.carrier = false →
    exec (.hartTransmitStart n) s = .next (s.modHart n fun h => { h with
      phase := .sending, tx := List.replicate (s.cfgOf n).preamble 0xFF#8 ++ h.tx })) ∧
  (∀ (s : State) (n : Ch), (s.chan n).hart.phase = .sending →
    exec (.hartTransmitEnd n) s = .next (s.modHart n fun h => { h with
      phase := .waiting, tx := [], winOpen := h.winOpen && !h.closing, closing := false })) ∧
  (∀ (s : State) (n : Ch) (on : Bool), s.hartLive n = true → (s.chan n).hart.phase ≠ .sending →
    exec (.hartCarrierChange n on) s = .next (s.modHart n fun h => { h with carrier := on })) ∧
  (∀ (s : State) (n : Ch) (f : HartFrame), s.hartLive n = true → s.inTouch (grpOf n) = true →
    f.bytes.length ≤ 255 → f.marks.length ≤ 255 → 2 ≤ f.pre.toNat →
    ∃ t, exec (.hartFrameReceived n f) s = .next t ∧ s.touches t [n] ∧
      ((s.chan n).hart.phase = .waiting → (t.chan n).hart.phase = .idle ∧
        (t.chan n).hart.txBusy = false ∧ (t.chan n).hart.rx = some f ∧
        (t.chan n).hart.last = (if frameErrors f = 0 then 1 else 2) ∧
        t.pendingWith 87 (if frameErrors f = 0 then 1 else 2)) ∧
      ((s.chan n).hart.phase = .idle → bit (s.cfgOf n).hart 29 = true →
        (t.chan n).hart.rx = some f ∧ t.pendingWith 87 6)) ∧
  (∀ (s : State) (n : Ch), s.hartLive n = true → s.inTouch (grpOf n) = true →
    (s.chan n).hart.phase = .waiting → (s.chan n).hart.carrier = false →
    ∃ t, exec (.hartReplyTimeout n) s = .next t ∧ s.touches t [n] ∧ (t.chan n).hart.phase = .idle ∧
      (t.chan n).hart.txBusy = false ∧ (t.chan n).hart.last = 3 ∧ t.pendingWith 87 3)

/-- RECORD_WRITE writes the oldest entry with the next INDEX, skips a bad slot, or refuses; a merge window gives
REPEAT. (09 R286, 09 R288, 09 R291, 09 R295, 09 R297, 09 R302) -/
def Obligations.RecordEngine : Prop :=
  (∀ (s : State) (e : Intake) (es : List Intake) (a b : Bool) (k : Nat), s.rcd.intake = e :: es →
    (a || b) = true → s.recHealth ≠ 2 → s.trySlot = some k →
    ∃ t, exec (.recordWrite a b) s = .next t ∧ t.rcd.slots = putSlot k (recordWords s.rcd.next e) s.rcd.slots ∧
      t.rcd.next = s.rcd.next + 1 ∧ t.rcd.slot = k + 1 ∧ t.rcd.written = s.rcd.written + 1 ∧ es <+: t.rcd.intake ∧
      t.ch = s.ch ∧ t.grp = s.grp ∧ t.comb = s.comb ∧ t.res = s.res) ∧
  (∀ (s : State) (e : Intake) (es : List Intake) (k : Nat), s.rcd.intake = e :: es → s.trySlot = some k →
    s.hostUp = true →
    ∃ t, exec (.recordWrite false false) s = .next t ∧ t.rcd.slots = s.rcd.slots ∧ t.rcd.next = s.rcd.next ∧
      k / 64 ∈ t.rcd.bad ∧ e :: es <+: t.rcd.intake ∧ t.pendingWith 106 1 ∧ t.ch = s.ch ∧ t.comb = s.comb) ∧
  (∀ (s : State) (e : Intake) (es : List Intake) (a b : Bool), s.rcd.intake = e :: es →
    s.recHealth ≠ 2 → s.trySlot = none → s.hostUp = true →
    ∃ t, exec (.recordWrite a b) s = .next t ∧ t.rcd.slots = s.rcd.slots ∧ t.rcd.next = s.rcd.next ∧
      t.rcd.refused = satInc s.rcd.refused ∧ t.rcd.full = true ∧
      (s.rcd.full = false → t.pendingWith 105 1) ∧ t.ch = s.ch ∧ t.comb = s.comb) ∧
  (∀ (s : State) (m : MergeWin), m ∈ s.rcd.merges → m.opened + 1000 * milli ≤ s.time →
    (s.rcd.merges.find? fun x => x.source == m.source && x.code == m.code && x.subject == m.subject) = some m →
    ∃ t, exec (.mergeWindowClose m.source m.code m.subject) s = .next t ∧
      t.rcd.merges = s.rcd.merges.erase m ∧ t.rcd.slots = s.rcd.slots ∧
      (m.count = 0 → t.rcd.intake = s.rcd.intake) ∧
      (m.count ≠ 0 → s.rcd.stopped = false → s.rcd.intake.length < 255 →
        t.rcd.intake = s.rcd.intake ++ [repeatEntry s m]) ∧
      t = { s with rcd := t.rcd })

/-- LOG_READ returns records of the log from REC_BASE on, of the shadow, the clear history, or the fault block. (09
R298, 09 R301, 09 R302, 11 R342) -/
def Obligations.LogReading : Prop :=
  (∀ (s : State) (c m : Cmd) (a b : Word) (l : List (List Word)), c.words = [a, b] →
    m = { c with words := withSel c.words 0 } → s.accepts logReadSpec m = true →
    1 ≤ fld b 6 0 → fld b 6 0 ≤ 120 → l = s.rcd.select s.rcd.log a (fld b 6 0) →
    ∃ u t, exec (.logRead c) s = .next t ∧ u = (s.received c.frame).readLog ∧
      State.answers s u t m 0x28 .ok 0 (BitVec.ofNat 32 l.length :: l.flatten) ∧
      (s.rcd.corrupt = [] → u = s.received c.frame)) ∧
  (∀ (s : State) (c m : Cmd) (a b : Word) (l : List (List Word)), c.words = [a, b] →
    m = { c with words := withSel c.words 1 } → s.accepts logReadSpec m = true →
    1 ≤ fld b 6 0 → fld b 6 0 ≤ 120 → l = s.rcd.select s.rcd.shadow a (fld b 6 0) →
    ∃ t, exec (.logReadShadow c) s = .next t ∧
      State.answers s (s.received c.frame) t m 0x28 .ok 0 (BitVec.ofNat 32 l.length :: l.flatten)) ∧
  (∀ (s : State) (c m : Cmd) (a b : Word) (l : List (List Word)), c.words = [a, b] →
    m = { c with words := withSel c.words 2 } → s.accepts logReadSpec m = true → l = s.rcd.clears.map clearWords →
    ∃ t, exec (.logReadClearHistory c) s = .next t ∧
      State.answers s (s.received c.frame) t m 0x28 .ok 0 (BitVec.ofNat 32 l.length :: l.flatten)) ∧
  (∀ (s : State) (c m : Cmd) (a b : Word) (v : FaultBlock), c.words = [a, b] →
    m = { c with words := withSel c.words 3 } → s.accepts logReadSpec m = true → faultVote s.rcd.copies = some v →
    ∃ u t, exec (.logReadFaultBlock c) s = .next t ∧
      u = { s.received c.frame with rcd := { s.rcd with
        bad := v.bad, faults := v.faults, copies := Vector.replicate 3 v } } ∧
      State.answers s u t m 0x28 .ok 0 (BitVec.ofNat 32 (blockEntries v).length :: (blockEntries v).flatten))

/-- LOG_CLEAR_CHALLENGE opens a challenge of 60 s; LOG_CLEAR clears the log on a signature of an owner key. (09
R299, 09 R300, 09 R301, 11 R342) -/
def Obligations.LogCommands : Prop :=
  (∀ (s : State) (c : Cmd), s.accepts logClearChallengeSpec c = true →
    ∃ u t nonce, exec (.logClearChallenge c) s = .next t ∧ nonce.length = 4 ∧
      State.answers s u t c 0x29 .ok 0 (nonce ++ [s.rcd.next]) ∧
      u.rcd = { s.rcd with challenge := some (nonce, s.rcd.next), challengeAt := s.time } ∧ u.ch = s.ch) ∧
  (∀ (s : State), s.rcd.challengeAt + 60000 * milli ≤ s.time →
    exec .logClearChallengeLapse s = .next { s with rcd.challenge := none }) ∧
  (∀ (s : State) (c : Cmd) (nonce : List Word) (tries : List Bool), s.accepts logClearSpec c = true →
    s.sec.lockout = false → s.rcd.challenge = some (nonce, s.rcd.next) → s.recHealth ≠ 2 →
    ∃ u t, exec (.logClear c tries true) s = .next t ∧ u.rcd.challenge = none ∧ u.ch = s.ch ∧
      (s.ownerSigned (arg c.args 7 0) 1 (Config.sha384
          (s.clearMessage s.rcd.next nonce (BitVec.ofNat 8 (arg c.args 7 0)))) (sigBytes c.words) = true →
        State.answers s u t c 0x2A .ok 0 [u.rcd.base] ∧ u.rcd.clearSeq = s.rcd.clearSeq + 1 ∧
        u.rcd.clearKey = BitVec.ofNat 8 (arg c.args 7 0) ∧ u.pendingWith 107 1 ∧ u.sec.consec = 0) ∧
      (s.ownerSigned (arg c.args 7 0) 1 (Config.sha384
          (s.clearMessage s.rcd.next nonce (BitVec.ofNat 8 (arg c.args 7 0)))) (sigBytes c.words) = false →
        State.answers s u t c 0x2A .denied 0 [] ∧ u.rcd.slots = s.rcd.slots ∧ u.rcd.base = s.rcd.base ∧
        u.rcd.clearSeq = s.rcd.clearSeq ∧ u.sec.authFail = satInc s.sec.authFail))

/-- SWARM_ENUM, SWARM_ROUTE and SWARM_TRIGGER on the root. (12 R375, 12 R377, 12 R378, 12 R379, 12 R385, 11 R342) -/
def Obligations.SwarmCommands : Prop :=
  (∀ (s : State) (c : Cmd) (w : Word), s.accepts swarmEnumSpec { c with args := withArg c.args 1 0 0 } = true →
    arg c.args 1 0 ≤ 1 → c.words = [w] → 500 ≤ w.toNat → w.toNat ≤ 100000 → s.isRoot = true →
    s.sw.enumBusy = false →
    ((s.portUp 1 = true ∨ s.portUp 2 = true) →
      ∃ u t, exec (.swarmEnumStart c) s = .next t ∧
        State.awaits s u t { c with args := withArg c.args 1 0 0 } 0x30 enumKey ∧
        u.sw.enumBusy = true ∧ u.sw.budget = w.setWidth 17 ∧ u.sw.nodes = 0 ∧ u.sw.refused = 0 ∧
        u.sw.routes = [] ∧ u.sw.links = [] ∧ u.ch = s.ch ∧ u.comb = s.comb) ∧
    ((∀ p : Port, p ≠ 0 → (s.swPort p).state.toNat ≤ 2) →
      ∃ u t, exec (.swarmEnumStart c) s = .next t ∧
        State.answers s u t { c with args := withArg c.args 1 0 0 } 0x30 .ok 0 [0, 0, 0] ∧
        u.sw.enumBusy = false ∧ u.pendingWith 102 1 ∧ u.ch = s.ch ∧ u.comb = s.comb)) ∧
  (∀ (s : State) (c : Cmd), s.accepts swarmEnumSpec { c with args := withArg c.args 1 0 1 } = true →
    arg c.args 1 0 ≤ 1 →
    ∃ t, exec (.swarmEnumQuery c) s = .next t ∧
      State.answers s (s.received c.frame) t { c with args := withArg c.args 1 0 1 } 0x30 .ok 0
        [s.swStatW, s.swPortW 0, s.swPortW 1, s.swPortW 2, s.sw.lat.setWidth 32]) ∧
  (∀ (s : State) (c : Cmd) (w v : Word) (ws : List Word), s.accepts swarmRouteSpec c = true →
    c.words = w :: v :: ws → s.isRoot = true → bit w 12 = false → fld w 31 16 ≤ 1000 →
    w.setWidth 12 ≠ (0 : Addr) → (s.routeTo (w.setWidth 12)).isSome = true →
    ∃ u t, exec (.swarmRoute c) s = .next t ∧ State.awaits s u t c 0x31 (routeKey (s.sw.tag + 1)) ∧
      u = State.sendMsg { s.received c.frame with sw := { (s.received c.frame).sw with
        tag := s.sw.tag + 1
        waits := s.sw.waits ++ [(s.sw.tag + 1,
          s.time + (if fld w 31 16 = 0 then 100 else fld w 31 16) * milli)] } }
        (classOfMb (routedMb (opcodeOf v))) 0 false (w.setWidth 12) (s.sw.tag + 1) (v :: ws)) ∧
  (∀ (s : State) (tag : BitVec 8) (d : Nat) (o : Outst), (tag, d) ∈ s.sw.waits → d ≤ s.time →
    (s.port.outst.find? fun x => x.key == routeKey tag && !x.answered) = some o → o.sender = .host →
    o.opcode = 0x31 →
    ∃ t, exec (.swarmRouteTimeout tag) s = .next t ∧
      t.port.rsp = s.port.rsp ++ [{ mb := o.frame.mb, seq := o.frame.seq, bulk := o.frame.bulk
                                    crc := o.crc, counts := true
                                    words := [s.rspWord 0x31 .timeout 0] }] ∧
      t.ch = s.ch ∧ t.sw = { s.sw with waits := s.sw.waits.filter fun x => x.1 != tag }) ∧
  (∀ (s : State) (c : Cmd) (a b m : Word) (d : BitVec 64), s.accepts swarmTriggerSpec c = true →
    c.words = [a, b, m] → s.isRoot = true → arg c.args 12 0 = 0 → arg c.args 15 13 ≠ 0 →
    d = a.setWidth 64 ||| (b.setWidth 64 <<< 32) → s.sw.latOf 0 = 0 → s.sw.trigs.length < 8 →
    s.sw.st.toNat + 2000 ≤ d.toNat → d.toNat ≤ s.sw.st.toNat + 1200000000 →
    ∃ u t, exec (.swarmTrigger c) s = .next t ∧ State.answers s u t c 0x32 .ok 0 [] ∧
      u.sw.trigs = s.sw.trigs ++ [{ st := d, capture := c.args.getLsbD 13, pulse := c.args.getLsbD 14
                                    snap := c.args.getLsbD 15, mask := m }] ∧ u.ch = s.ch)

/-- FW_BEGIN to FW_ACTIVATE on the slot that does not run; ATTEST START, ATTEST_READY and FETCH. (14 R434, 14 R435,
14 R439, 14 R440, 11 R342, 14 R443, 14 R444) -/
def Obligations.FirmwareAndAttest : Prop :=
  (∀ (s : State) (c : Cmd) (w : Word), s.accepts fwBeginSpec c = true → c.words = [w] → 416 ≤ w.toNat →
    w.toNat ≤ 655712 → s.sec.trial = false → s.sec.activating = false →
    (s.slot (!s.sec.runB)).state ≠ .verifying →
    ∃ u t, exec (.fwBegin c) s = .next t ∧ State.answers s u t c 0x39 .ok 0 [u.secFwslotW] ∧
      (u.slot (!s.sec.runB)).state = .receiving ∧ (u.slot (!s.sec.runB)).image = [] ∧
      (u.slot (!s.sec.runB)).len = w.toNat ∧ u.slot s.sec.runB = s.slot s.sec.runB ∧ u.ch = s.ch) ∧
  (∀ (s : State) (c : Cmd) (off n : Word) (ws : List Word), s.accepts fwDataSpec c = true →
    c.words = off :: n :: ws → (s.slot (!s.sec.runB)).state = .receiving →
    off.toNat = (s.slot (!s.sec.runB)).image.length → 1 ≤ n.toNat → n.toNat ≤ 4088 →
    off.toNat + n.toNat ≤ (s.slot (!s.sec.runB)).len →
    ∃ u t, exec (.fwData c) s = .next t ∧
      (u.slot (!s.sec.runB)).image = (s.slot (!s.sec.runB)).image ++ (wordsBytes ws).take n.toNat ∧
      u.slot s.sec.runB = s.slot s.sec.runB ∧ u.ch = s.ch ∧
      (off.toNat + n.toNat < (s.slot (!s.sec.runB)).len →
        State.answers s u t c 0x3A .ok 0 [BitVec.ofNat 32 (off.toNat + n.toNat)]) ∧
      (off.toNat + n.toNat = (s.slot (!s.sec.runB)).len → State.awaits s u t c 0x3A imageKey ∧
        (u.slot (!s.sec.runB)).state = .verifying)) ∧
  (∀ (s : State), (s.slot (!s.sec.runB)).state = .verifying → s.hostUp = true →
    ∃ t, exec .fwVerifyComplete s = .next t ∧ t.slot s.sec.runB = s.slot s.sec.runB ∧ t.ch = s.ch ∧
      (verifyImage (s.slot (!s.sec.runB)).image = none →
        (t.slot (!s.sec.runB)).state = .valid ∧ t.pendingWith 112 1) ∧
      (∀ st code, verifyImage (s.slot (!s.sec.runB)).image = some (st, code) →
        (t.slot (!s.sec.runB)).state = .invalid ∧ t.pendingWith 112 code)) ∧
  (∀ (s : State) (c : Cmd), s.accepts fwActivateSpec c = true → arg c.args 0 0 = 0 →
    (s.slot (!s.sec.runB)).state = .valid → (s.slot (!s.sec.runB)).svn.toNat ≤ 64 →
    s.sec.counter.toNat ≤ (s.slot (!s.sec.runB)).svn.toNat → s.activationBusy = false →
    ∃ u t, exec (.fwActivate c) s = .next t ∧
      State.answers s u t c 0x3B .ok 0 [u.secFwslotW, (s.slot (!s.sec.runB)).versionW] ∧
      u.sec.activeB = !s.sec.runB ∧ u.sec.trial = true ∧ u.sec.tried = false ∧ u.sec.activating = true ∧
      u.sec.counter = s.sec.counter ∧ u.pendingWith 113 1 ∧ u.ch = s.ch) ∧
  (∀ (s : State) (c : Cmd), s.accepts attestSpec { c with args := withArg c.args 0 0 0 } = true →
    s.sec.dbgOpen = false →
    ∃ u t r, exec (.attestStart c) s = .next t ∧ State.answers s u t { c with args := withArg c.args 0 0 0 } 0x38 .ok 0 [] ∧
      u.sec.attest = some r ∧ r.length = 312 ∧ u.sec.attestReady = false ∧ u.ch = s.ch) ∧
  (∀ (s : State) (c : Cmd) (r : List Byte), s.accepts attestSpec { c with args := withArg c.args 0 0 1 } = true →
    s.sec.attest = some r →
    ∃ u t, exec (.attestFetch c) s = .next t ∧ u.sec = s.sec ∧ u.ch = s.ch ∧
      (s.sec.attestReady = true → State.answers s u t { c with args := withArg c.args 0 0 1 } 0x38 .ok 0 (BitVec.ofNat 32 312 :: packBytes r)) ∧
      (s.sec.attestReady = false → ∃ d, d ≤ 40 ∧ State.answers s u t { c with args := withArg c.args 0 0 1 } 0x38 .busy d [])) ∧
  (∀ (s : State), s.sec.attest.isSome = true → s.sec.attestReady = false → s.hostUp = true →
    ∃ t, exec .attestReady s = .next t ∧ t.sec.attestReady = true ∧ t.sec.attest = s.sec.attest ∧
      t.pendingWith 114 1 ∧ t.ch = s.ch)

/-- KEY_INSTALL, KEY_REVOKE, PROV_LOCK_SET and CERT_INSTALL in SERVICE. (14 R429, 14 R430, 14 R431, 14 R432, 14
R446) -/
def Obligations.ProvisionRows : Prop :=
  (∀ (s : State) (c : Cmd) (a : BitVec 24), a = withArg c.args 3 2 0 →
    s.accepts keyProvisionSpec { c with args := a } = true → s.sec.provLock = false →
    s.sec.owners[arg a 1 0 % 4]'(Nat.mod_lt _ (by decide)) = none → arg a 15 8 = 0xFF → arg a 7 4 ≠ 0 →
    ∃ u t, exec (.keyInstall c) s = .next t ∧ u.ch = s.ch ∧
      (Config.keyOnCurve ((wordsBytes (c.words.take 25)).take 97) = true →
        u.sec.owners[arg a 1 0 % 4]'(Nat.mod_lt _ (by decide)) =
          some { key := (wordsBytes (c.words.take 25)).take 97, perm := BitVec.ofNat 4 (arg a 7 4) } ∧
        State.answers s u t { c with args := a } 0x3E .ok 0 [ownerW (u.sec.owners[arg a 1 0 % 4]'(Nat.mod_lt _ (by decide)))]) ∧
      (Config.keyOnCurve ((wordsBytes (c.words.take 25)).take 97) = false →
        u.sec = s.sec ∧ State.answers s u t { c with args := a } 0x3E .range 0 [])) ∧
  (∀ (s : State) (c : Cmd) (a : BitVec 24) (nonce : List Word), a = withArg c.args 3 2 1 →
    s.accepts keyProvisionSpec { c with args := a } = true → s.sec.lockout = false →
    s.sec.provLock = false → arg a 7 4 = 0 → arg a 15 8 = arg a 1 0 → s.sec.chalProv = some nonce →
    ∃ u t, exec (.keyRevoke c) s = .next t ∧ u.sec.chalProv = none ∧ u.ch = s.ch ∧
      (s.ownerSigned (arg a 1 0) 0 (Config.sha384 (s.provMessage nonce 1 (arg a 1 0) 0 (arg a 1 0) []))
          (wordsBytes (c.words.take 24)) = true →
        u.sec.owners[arg a 1 0 % 4]'(Nat.mod_lt _ (by decide)) = none ∧ u.sec.consec = 0 ∧
        State.answers s u t { c with args := a } 0x3E .ok 0 [ownerW none]) ∧
      (s.ownerSigned (arg a 1 0) 0 (Config.sha384 (s.provMessage nonce 1 (arg a 1 0) 0 (arg a 1 0) []))
          (wordsBytes (c.words.take 24)) = false →
        u.sec.owners = s.sec.owners ∧ u.sec.authFail = satInc s.sec.authFail ∧
        State.answers s u t { c with args := a } 0x3E .denied 0 [])) ∧
  (∀ (s : State) (c : Cmd) (a : BitVec 24), a = withArg c.args 3 2 2 →
    s.accepts keyProvisionSpec { c with args := a } = true → s.sec.provLock = false → arg a 7 4 = 0 →
    arg a 15 8 = 0xFF →
    ∃ u t, exec (.provLockSet c) s = .next t ∧ u.sec.provLock = true ∧ u.sec.owners = s.sec.owners ∧
      State.answers s u t { c with args := a } 0x3E .ok 0 [ownerW (s.sec.owners[arg a 1 0 % 4]'(Nat.mod_lt _ (by decide)))]) ∧
  (∀ (s : State) (c : Cmd) (a : BitVec 24), a = withArg c.args 3 2 3 →
    s.accepts keyProvisionSpec { c with args := a } = true → arg a 7 4 = 0 → arg a 15 8 = 0xFF →
    s.sec.dbgOpen = false →
    ∃ u t, exec (.certInstall c) s = .next t ∧ u.sec.owners = s.sec.owners ∧
      (s.certFits (wordsBytes (c.words.take 64)) = true →
        u.sec.cert = some (wordsBytes (c.words.take 64)) ∧
        State.answers s u t { c with args := a } 0x3E .ok 0 [ownerW (s.sec.owners[arg a 1 0 % 4]'(Nat.mod_lt _ (by decide)))]) ∧
      (s.certFits (wordsBytes (c.words.take 64)) = false →
        u.sec = s.sec ∧ State.answers s u t { c with args := a } 0x3E .denied 0 []))

/-- DEBUG_UNLOCK_CHALLENGE, its lapse, DEBUG_UNLOCK and the end of the lockout. (14 R432, 14 R446, 14 R447, 14 R448) -/
def Obligations.DebugRows : Prop :=
  (∀ (s : State) (c : Cmd), s.accepts debugUnlockChallengeSpec c = true →
    ∃ u t nonce, exec (.debugUnlockChallenge c) s = .next t ∧ nonce.length = 4 ∧
      State.answers s u t c 0x3C .ok 0 nonce ∧
      (arg c.args 0 0 = 0 → u.sec = { s.sec with chalDebug := some nonce, debugAt := s.time }) ∧
      (arg c.args 0 0 ≠ 0 → u.sec = { s.sec with chalProv := some nonce, provAt := s.time }) ∧ u.ch = s.ch) ∧
  (∀ (s : State), s.sec.provAt + 60000 * milli ≤ s.time →
    exec (.debugChallengeLapse true) s = .next { s with sec.chalProv := none }) ∧
  (∀ (s : State), s.sec.debugAt + 60000 * milli ≤ s.time →
    exec (.debugChallengeLapse false) s = .next { s with sec.chalDebug := none }) ∧
  (∀ (s : State) (c : Cmd) (nonce : List Word), s.accepts debugUnlockSpec c = true → s.sec.lockout = false →
    s.wd.wgEn = false → s.sec.dbgOpen = false → s.sec.chalDebug = some nonce → arg c.args 7 0 = 0xFE →
    arg c.args 15 8 = 1 →
    ∃ u t, exec (.debugUnlock c) s = .next t ∧ u.sec.chalDebug = none ∧
      (Config.ecdsaOk (Config.fusedKey 2) (Config.sha384 (s.unlockMessage nonce 0xFE 1))
          (sigBytes c.words) = true →
        State.answers s u t c 0x3D .ok 0 [] ∧ u.sec.dbgOpen = true ∧ u.sec.dbgEver = true ∧
        u.sec.owners = Vector.replicate 4 none ∧ u.sec.cert = none ∧ u.sec.chalProv = none ∧
        u.wd.wgSecret = 0 ∧ u.rcd.challenge = none ∧ u.pendingWith 115 1) ∧
      (Config.ecdsaOk (Config.fusedKey 2) (Config.sha384 (s.unlockMessage nonce 0xFE 1))
          (sigBytes c.words) = false →
        State.answers s u t c 0x3D .denied 0 [] ∧ u.sec.dbgOpen = false ∧ u.sec.owners = s.sec.owners ∧
        u.sec.authFail = satInc s.sec.authFail)) ∧
  (∀ (s : State), s.sec.lockout = true → 60 ≤ (s.pw.opsec - s.sec.lockedAt).toNat →
    exec .authLockoutEnd s = .next { s with sec.lockout := false, sec.consec := 7 })

/-- WINRD answers one instant of the windows with its shadow; CREDIT adds to the stream credit up to its maximum.
(05 R178, 10 R315, 10 R328, 10 R329, 10 R331, 10 R332) -/
def Obligations.WindowAndCredit : Prop :=
  (∀ (s : State) (q : BitVec 8) (a : BitVec 6) (n : BitVec 7), s.portOpen = true → s.port.sel = some false →
    s.port.rx = .hunt → s.port.busy = false →
    ∃ t, exec (.winrd q a n) s = .next t ∧ t.ch = s.ch ∧ t.comb = s.comb ∧ t.ev = s.ev ∧ t.port.rx = .tail ∧
      ((n = 0 ∨ 64 < a.toNat + n.toNat) →
        t.port.winRsp = some (q, [winWord true false s.comb.cgen s.port.lgen a n])) ∧
      (n ≠ 0 → a.toNat + n.toNat ≤ 64 → a.toNat ≤ 0x30 → 0x30 < a.toNat + n.toNat →
        t.port.shadow = some s.posHiW ∧ t.port.lgen = s.comb.cgen ∧
        t.port.winRsp = some (q, winWord false false s.comb.cgen s.comb.cgen a n ::
          ((List.range n.toNat).map (a.toNat + ·)).map s.accept.windowW)) ∧
      (n ≠ 0 → a.toNat + n.toNat ≤ 64 → (a.toNat + n.toNat ≤ 0x30 ∨ 0x31 < a.toNat) →
        t.port.shadow = s.port.shadow ∧
        t.port.winRsp = some (q, winWord false false s.comb.cgen s.port.lgen a n ::
          ((List.range n.toNat).map (a.toNat + ·)).map s.accept.windowW))) ∧
  (∀ (s : State) (q : BitVec 8) (a : BitVec 6) (n : BitVec 7), s.portOpen = true → s.port.sel = some true →
    s.port.rx = .hunt → s.port.busy = false →
    ∃ t, exec (.winrd q a n) s = .next t ∧ t.port.winRsp = s.port.winRsp ∧
      t.port.cnt.hdr = satInc s.port.cnt.hdr ∧ t.port.rx = .drop ∧ t.ch = s.ch) ∧
  (∀ (s : State) (grant : BitVec 24), s.portOpen = true → s.feat 6 = true → s.port.sel = some true →
    s.port.rx = .hunt → s.port.busy = false →
    ∃ t, exec (.credit grant) s = .next t ∧
      t.res.credit.toNat = min (s.res.credit.toNat + grant.toNat) 0xFFFFFF ∧
      t = { s.accept with res := { s.res with credit := t.res.credit } })

/-- SELECT_FALL opens an exchange and chooses the frame, SELECT_RISE ends it, a delivered frame leaves. (05 R178, 10
R313, 10 R318, 10 R320, 10 R321, 10 R323, 11 R335, 11 R337) -/
def Obligations.Exchanges : Prop :=
  (∀ (s : State) (cs1 : Bool), s.portOpen = true → s.port.csLow = 0 → s.pw.mode ≠ .doze →
    s.port.again = [] → s.port.repCount = 0 → s.port.bufs.length < 2 →
    ∃ t, exec (.selectFall cs1 none) s = .next t ∧ t.port.sel = some cs1 ∧ t.port.rx = .hunt ∧
      t.port.busy = false ∧ t.port.csLow = csBit cs1 ∧
      (∀ q ws, cs1 = false → s.port.winRsp = some (q, ws) → t.port.tx = [.winrsp q ws]) ∧
      (∀ r, cs1 = false → s.port.winRsp = none → s.readyRecords = [] →
        (s.port.rsp.find? fun x => x.mb == 0) = some r → t.port.tx = [.rsp r s.port.sent0]) ∧
      (∀ e es, cs1 = true → s.feat 6 = true → s.res.strm.head (min s.res.credit.toNat 1024) = e :: es →
        t.port.tx = [.strm s.port.strmSeq (e :: es)] ∧
        t.res.credit = s.res.credit - BitVec.ofNat 24 (((e :: es).map qsize).sum) ∧
        t.res.strm.entries = (s.res.strm.rest (min s.res.credit.toNat 1024)).entries) ∧
      t.ch = s.ch) ∧
  (∀ (s : State) (cs1 : Bool) (k : BitVec 16), s.portOpen = true → s.port.csLow = 0 → s.pw.mode ≠ .doze →
    ∃ t rest, exec (.selectFall cs1 (some (.backlog k))) s = .next t ∧ t.port.busy = true ∧
      t.port.tx = .busy (if k = 0 then 1 else k) :: rest ∧ t.port.cnt.busyWords = s.port.cnt.busyWords + 1 ∧
      t.ch = s.ch) ∧
  (∀ (s : State) (cs1 : Bool) (b : Option BusyCause), s.portOpen = true → s.port.csLow = csBit (!cs1) →
    ∃ t, exec (.selectFall cs1 b) s = .next t ∧ t.port.csLow = 3 ∧
      t.port.cnt.selcol = satInc s.port.cnt.selcol ∧ t.port.repFlags.getLsbD 6 = true ∧
      t.port.sel = s.port.sel ∧ t.port.tx = s.port.tx) ∧
  (∀ (s : State) (cs1 : Bool), s.port.sel = some cs1 →
    ∃ t, exec (.selectRise cs1 []) s = .next t ∧ t.port.sel = none ∧ t.port.rx = .idle ∧
      t.port.tx = [] ∧ t.port.csLow = s.port.csLow &&& ~~~(csBit cs1) ∧
      t.port.again = s.port.again ++
        (s.port.tx.filter fun x => x.isReport || x.isEvt || x.isStrm).map (fun x => (cs1, x)) ∧
      ((s.port.rx = .body ∨ s.port.rx = .check) → s.port.rxWords ≠ [] →
        t.port.cnt.short = satInc s.port.cnt.short ∧ t.port.repFlags.getLsbD 4 = true) ∧
      (s.port.rx ≠ .body → s.port.rx ≠ .check → t.port.cnt = s.port.cnt ∧ t.port.repFlags = s.port.repFlags) ∧
      t.ch = s.ch) ∧
  (∀ (s : State) (cs1 : Bool) (h : Word) (l : List Word), s.port.sel = some cs1 → s.port.rx = .hunt →
    s.port.busy = false → h ≠ 0 → hostHeaderOk cs1 h = true → l.length ≤ fld h 10 0 →
    ∃ t, exec (.selectRise cs1 (h :: l)) s = .next t ∧ t.port.sel = none ∧
      t.port.cnt.short = satInc s.port.cnt.short ∧ t.port.repFlags.getLsbD 4 = true ∧ t.ch = s.ch) ∧
  (∀ (s : State) (r : Rsp) (first : Nat) (rest : List TxItem), s.port.tx = .rsp r first :: rest →
    r.words.length ≤ first + 1024 → r.counts = true → r.mb = 0 →
    ∃ t, exec .moduleFrameDelivered s = .next t ∧ t.port.tx = rest ∧ t.port.rsp = s.port.rsp.erase r ∧
      t.port.kept0 = keepRsp s.port.kept0 r ∧ t.port.sent0 = 0 ∧
      (∀ o, (s.port.outst.find? fun o => o.sender == .host && o.answered && o.frame.mb == r.mb &&
          o.frame.seq == r.seq && o.crc == r.crc) = some o →
        t.port.outst = s.port.outst.erase o) ∧ t.ch = s.ch ∧ t.ev = s.ev) ∧
  (∀ (s : State) (q : BitVec 8) (es : List QEntry) (rest : List TxItem),
    s.port.tx = .strm q es :: rest →
    exec .moduleFrameDelivered s = .next { s with port.tx := rest, port.sentAt := s.time })

/-- HOST_FRAME_REJECTED counts and reports each error; HOST_SEGMENT_RECEIVED holds segments in order. (10 R315, 10
R316, 10 R317, 10 R319, 10 R321, 10 R323, 10 R327, 11 R338) -/
def Obligations.ReceiveErrors : Prop :=
  (∀ (s : State) (cs1 : Bool) (h : Word), s.portOpen = true → s.port.sel = some cs1 → s.port.rx = .hunt →
    s.port.segs = [] → s.port.lostMsgs = [] → h ≠ 0 → bit h 24 = true →
    (s.port.busy = false → hostHeaderOk cs1 h = false → ∃ t, exec (.hostFrameRejected [h]) s = .next t ∧
      t.port.cnt.hdr = satInc s.port.cnt.hdr ∧ t.port.rx = .drop ∧ t.port.repFlags = s.port.repFlags ||| 0x08#7 ∧
      t.port.repCount = satInc s.port.repCount ∧ t.ch = s.ch) ∧
    (∀ l x, l.length = fld h 10 0 → s.port.busy = false → hostHeaderOk cs1 h = true → x ≠ frameCrc (h :: l) →
      ∃ t, exec (.hostFrameRejected (h :: (l ++ [x]))) s = .next t ∧ t.port.cnt.crc = satInc s.port.cnt.crc ∧
      t.port.rx = .drop ∧ t.port.repFlags = s.port.repFlags ||| 0x20#7 ∧
      t.port.repCount = satInc s.port.repCount ∧ t.ch = s.ch) ∧
    (∀ l x, l.length = fld h 10 0 → s.port.busy = true →
      ∃ t, exec (.hostFrameRejected (h :: (l ++ [x]))) s = .next t ∧
      t.port.cnt.busy = satInc s.port.cnt.busy ∧ t.port.rx = .drop ∧
      t.port.repFlags = s.port.repFlags ||| 0x02#7 ∧
      t.port.repCount = satInc s.port.repCount ∧ (x = frameCrc (h :: l) → t.wd.hsLast = s.time) ∧ t.ch = s.ch)) ∧
  (∀ (s : State) (w : Word), s.portOpen = true → s.port.rx = .tail → w ≠ 0 →
    (s.port.trailed = false → ∃ t, exec (.hostFrameRejected [w]) s = .next t ∧
      t.port.cnt.trail = satInc s.port.cnt.trail ∧ t.port.repFlags = s.port.repFlags ||| 0x04#7 ∧
      t.port.trailed = true ∧ t.ch = s.ch) ∧
    (s.port.trailed = true → exec (.hostFrameRejected [w]) s = .next s)) ∧
  (∀ (s : State) (f : Frame) (ws : List Word), s.portOpen = true → s.port.sel = some false →
    s.port.rx = .hunt → s.port.busy = false → s.pw.halted = false →
    hostHeaderOk false (cmdHeader f false ws.length) = true →
    ∃ t, exec (.hostSegmentReceived f ws) s = .next t ∧ t.wd.hsLast = s.time ∧ t.ch = s.ch ∧ t.port.rx = .tail ∧
      ((∀ x ∈ s.port.segs, x.frame.mb ≠ f.mb) → f ∉ s.port.lostMsgs → ws.length ≤ 4096 →
        t.port.segs = s.port.segs ++ [{ frame := f, words := ws }]) ∧
      (∀ h, s.port.segs = [h] → h.frame = f → s.port.lostMsgs = [] → (h.words ++ ws).length ≤ 4096 →
        t.port.segs = [{ frame := f, words := h.words ++ ws }]) ∧
      (∀ h, s.port.segs = [h] → h.frame = f → s.port.lostMsgs = [] → 4096 < (h.words ++ ws).length →
        t.port.segs = [] ∧ t.port.lostMsgs = [f] ∧ t.port.cnt.seg = satInc s.port.cnt.seg) ∧
      (s.port.segs = [] → f ∈ s.port.lostMsgs → t.port.segs = [] ∧ t.port.cnt.seg = s.port.cnt.seg))

/-- The rows that write one register: lockout, sense path, mis-wiring, learning, reference, filter, return clock.
(03 R105, 03 R113, 04 R139, 04 R148, 04 R156, 06 R197, 10 R310, 11 R352) -/
def Obligations.RegisterRows : Prop :=
  (∀ (s : State) (f : Frame) (n : Ch) (w : Word), s.isOdd n = false → s.inTouch (grpOf n) = true →
    (s.chan n).cfgBusy = false → s.acceptsWrite f (chIndex n 0x03) (putBit w 31 true) = true →
    (∃ u t, exec (.lockoutClear f n w) s = .next t ∧ State.written s u t f (chIndex n 0x03) (putBit w 31 true) ∧
      (u.chan n).fault = (s.chan n).fault &&& ~~~(putBit w 31 true) ∧
      ((s.modeOf n).isSwitch = true → (s.chan n).out.ps = .lockedOff →
        (u.chan n).out.ps = .off ∧ (u.chan n).out.cmdOn = false ∧ (u.chan n).out.retryUsed = 0) ∧
      (s.received f).touches u [n, mateOf n]) ∧
    (∃ u t, exec (.itripClear f n w) s = .next t ∧ State.written s u t f (chIndex n 0x03) (putBit w 31 true) ∧
      (u.chan n).fault = (s.chan n).fault &&& ~~~(putBit w 31 true) ∧
      (s.modeOf n = .aiI → (u.chan n).ai.senseOpen = false) ∧
      (s.received f).touches u [n, mateOf n])) ∧
  (∀ (s : State) (f : Frame) (n : Ch) (w : Word), s.isOdd n = false → s.inTouch (grpOf n) = true →
    (s.chan n).cfgBusy = false → s.acceptsWrite f (chIndex n 0x03) (putBit w 29 true) = true →
    ∃ u t, exec (.miswireRetest f n w) s = .next t ∧ State.written s u t f (chIndex n 0x03) (putBit w 29 true) ∧
      (u.chan n).fault = (s.chan n).fault &&& ~~~(putBit w 29 true) ∧
      ((s.modeOf n).isAo = true → (s.chan n).ao.miswire = true → (u.chan n).ao.retest = true) ∧
      (s.received f).touches u [n, mateOf n]) ∧
  (∀ (s : State) (f : Frame) (n : Ch) (w v : Word), v = putBit w 30 true → s.isOdd n = false →
    s.inTouch (grpOf n) = true → (s.chan n).cfgBusy = false → s.acceptsWrite f (chIndex n 0x16) v = true →
    (s.received f).wordChecks n (s.withWordOf n 0x16 v) 0x16 v = [] →
    (s.received f).leaveChecks n (s.withWordOf n 0x16 v) = [] →
    ∃ u t, exec (.relearn f n w) s = .next t ∧ State.written s u t f (chIndex n 0x16) v ∧
      (u.chan n).out.learned = false ∧ (u.chan n).out.base = 0 ∧ (s.received f).touches u [n]) ∧
  (∀ (s : State) (f : Frame) (g : Grp) (k : BitVec 2), k.toNat ≤ 1 →
    s.acceptsWrite f (0x900 + 0x10 * g.val) (k.setWidth 32) = true →
    ((s.group g).conv.refSel ≠ k ∨ (s.group g).conv.fallback = true) →
    ∃ u t, exec (.refselWrite f g k) s = .next t ∧ State.written s u t f (0x900 + 0x10 * g.val) (k.setWidth 32) ∧
      (u.group g).conv.refSel = k ∧ (u.group g).conv.fallback = false ∧
      (u.group g).conv.refSettled = false ∧
      ((s.group g).conv.refSettled = true → u.pendingWith 84 2) ∧ ∀ h, h ≠ g → u.group h = s.group h) ∧
  (∀ (s : State) (f : Frame) (n : Ch) (filt : Bool) (w : Word) (off : Nat),
    off = (if filt then 0x18 else 0x17) → s.isOdd n = false → s.inTouch (grpOf n) = true →
    (s.chan n).cfgBusy = false → (s.modeOf n).isAi = true → s.comb.jobs = [] →
    s.acceptsWrite f (chIndex n off) w = true →
    (s.received f).wordChecks n (s.withWordOf n off w) off w = [] →
    (s.received f).leaveChecks n (s.withWordOf n off w) = [] →
    ∃ u t, exec (.aiFilterWrite f n filt w) s = .next t ∧ State.written s u t f (chIndex n off) w ∧
      (u.chan n).ai.filt = Filt.reset ∧ (u.chan n).inp.valid = false ∧
      (u.chan n).cfg = s.withWordOf n off w ∧ (s.received f).touches u [n]) ∧
  (∀ (s : State) (f : Frame) (en : Bool), s.acceptsWrite f 0x200 (putBit 0 31 en) = true →
    (en = true → s.feat 2 = true) →
    ∃ u t, exec (.rckEnWrite f en) s = .next t ∧ State.written s u t f 0x200 (putBit 0 31 en) ∧
      u = { s.received f with port := { (s.received f).port with rckEn := en } })

/-- The TAP instructions: what each selects, captures and shifts, and when the lands are driven. (14 R450) -/
def Obligations.TapRows : Prop :=
  (∀ s : State, exec .hTrstn s = exec .tapBypass s) ∧
  (∀ s : State, ∃ t, exec .tapBypass s = .next t ∧ t.tapRegister = 0 ∧ t.tap.instr = .bypass ∧
    t.tap.drives = false ∧ t.tap.floats = false ∧ t = { s with tap := t.tap }) ∧
  (∀ s : State, ∃ t, exec .tapIdcode s = .next t ∧ t.tapRegister = 0x032408D7 ∧
    t.tap.drives = false ∧ t.tap.floats = false ∧ t = { s with tap := t.tap }) ∧
  (∀ (s : State) (l p : BitVec 65), ∃ t, exec (.tapSamplePreload l p) s = .next t ∧
    t.tapRegister = l.toNat ∧ t.tap.preload = p ∧ t.tap.drives = false ∧ t.tap.floats = false ∧
    t = { s with tap := t.tap }) ∧
  (∀ (s : State) (l : BitVec 65), ∃ t, exec (.tapExtest l) s = .next t ∧ t.tapRegister = l.toNat ∧
    t.tap.instr = .extest ∧ t.tap.drives = s.pw.hrstLow ∧ t.tap.floats = false ∧
    t = { s with tap := t.tap }) ∧
  (∀ (s : State) (l : BitVec 65), ∃ t, exec (.tapClamp l) s = .next t ∧ t.tap.instr = .clamp ∧
    t.tap.drives = s.pw.hrstLow ∧ t.tap.floats = false ∧ t = { s with tap := t.tap }) ∧
  (∀ (s : State) (l : BitVec 65), ∃ t, exec (.tapHighz l) s = .next t ∧ t.tap.instr = .highz ∧
    t.tap.floats = s.pw.hrstLow ∧ t.tap.drives = false ∧ t = { s with tap := t.tap })

/-- Entering a reset, its release, the loss and return of VH. (01 R24, 08 R264, 09 R294, 13 R392, 13 R402, 13 R406,
13 R409, 13 R422, 16 R486) -/
def Obligations.ResetRows : Prop :=
  (∀ (s : State) (ns : Nat), s.pw.vhPresent = true → s.pw.mode ≠ .keep → 1000 ≤ ns →
    ∃ t, exec (.hRstn ns) s = .next t ∧ t.pw.mode = .reset ∧ t.pw.resetSrc = some .hRstn ∧
      t.pw.hrstLow = true ∧ t.pw.hrst = satInc s.pw.hrst ∧ t.comb.started = false ∧
      ∀ n, t.chan n = { s.chan n with window := (t.chan n).window }) ∧
  (∀ (s : State) (ns : Nat), ns < 100 → exec (.hRstn ns) s = .next s) ∧
  (∀ (s : State) (d : Nat) (tries : List Bool), s.hostUp = true → s.wd.nmi = some d → d + 2 * milli ≤ s.time →
    ∃ t, exec (.coreWatchdogReset tries) s = .next t ∧ t.pw.mode = .reset ∧ t.pw.resetSrc = some .coreWd ∧
      t.rcd.intake = [] ∧ t.ch = s.ch) ∧
  (∀ (s : State) (b : BootInput), s.bootSource ≠ .activation →
    ∃ t, exec (.resetRelease b) s = .next t ∧ t.pw.mode = .standby ∧ t.pw.prev = .boot ∧
      t.pw.neg = false ∧ t.sec.acc = 0 ∧ t.res = Results.reset ∧ t.pw.resetSrc = none ∧
      t.pw.hrstLow = false ∧ t.pw.last = BitVec.ofNat 8 s.bootSource.code ∧ t.pendingWith 126 1 ∧
      (s.bootSource ≠ .powerOn → t.pw.pcycle = s.pw.pcycle) ∧
      (∀ c, s.bootSource = .powerOn → b.cycleFail = 0 → s.pw.cycleNow = some c → t.pw.pcycle = satInc c.count)) ∧
  (∀ (s : State) (tries : List Bool), s.pw.mode ≠ .reset → s.pw.mode ≠ .boot → s.pw.mode ≠ .keep →
    s.pw.vhPresent = true → ∃ t, exec (.vhKeep tries) s = .next t ∧ t.pw.mode = .keep ∧ t.pw.vhPresent = false ∧ t.pw.window = none ∧
      (∀ g, (t.group g).guard.limitMicros = 0) ∧
      (∀ n, s.takes n = true → s.dieUp (grpOf n) = true → (t.chan n).guard.held = true) ∧
      (s.hostUp = true → t.rcd.stopped = true ∧ t.rcd.intake = [])) ∧
  (∀ (s : State) (tries : List Bool), s.pw.mode = .reset → s.pw.vhPresent = true →
    ∃ t, exec (.vhKeep tries) s = .next t ∧ t.pw.mode = .reset ∧ t.bootSource = .powerOn ∧ t.pw.vhPresent = false ∧
      ∀ g, (t.group g).guard.limitMicros = 0) ∧
  (∀ (s : State) (falling : Bool), s.hostUp = true → s.pw.vhWarn ≠ falling →
    ∃ t, exec (.vhWarning falling) s = .next t ∧ t.pw.vhWarn = falling ∧
      t.pendingWith 122 (if falling then 1 else 2) ∧ t.ch = s.ch ∧ t.comb = s.comb) ∧
  (∀ (s : State), exec .holdUpEnd s = .next { s with pw.hholdOk := false }) ∧
  (∀ (s : State), s.pw.xact = true → s.hostUp = true →
    ∃ t, exec .xinClockLost s = .next t ∧ t.pw.xact = false ∧ t.pendingWith 127 0x31 ∧
      t.safe.intFault = true) ∧
  (∀ (s : State), s.pw.vhPresent = true → ∃ t, exec .opsecTick s = .next t ∧ t.pw.opsec = s.pw.opsec + 1 ∧
    t.pw.opSlots[(s.pw.opsec + 1).toNat % 8]'(Nat.mod_lt _ (by decide)) = opSlot (s.pw.opsec + 1) ∧
    t = { s with pw := { s.pw with opsec := t.pw.opsec, opSlots := t.pw.opSlots } })

/-- ACTIVATION_RESET with and without field continuity, CONTINUITY_CLOSE and CONTINUITY_EXPIRY. (11 R348, 13 R405,
13 R417, 13 R418, 13 R420, 13 R421) -/
def Obligations.Continuity : Prop :=
  (∀ (s : State) (tries : List Bool), s.sec.activating = true → s.hostUp = true → s.pw.mode = .standby →
    ∃ t, exec (.activationReset tries) s = .next t ∧ t.pw.mode = .reset ∧ t.pw.resetSrc = some .activation ∧
      t.pw.act = satInc s.pw.act ∧ t.rcd.intake = [] ∧
      ∀ n, (s.modeOf n).isSwitch = true → (s.chan n).guard.held = false →
        (s.chan n).out.ps ≠ .lockedOff → (t.chan n).out.cmdOn = false) ∧
  (∀ (s : State) (tries : List Bool), s.sec.activating = true → s.hostUp = true → s.pw.mode = .run → s.feat 8 = false →
    ∃ t, exec (.activationReset tries) s = .next t ∧ t.pw.mode = .reset ∧ t.pw.resetSrc = some .activation ∧
      ∀ n, s.takes n = true → (t.chan n).guard.held = true) ∧
  (∀ (s : State) (tries : List Bool), s.sec.activating = true → s.hostUp = true → s.pw.mode = .run → s.feat 8 = true →
    s.comb.active = none →
    ∃ t, exec (.activationReset tries) s = .next t ∧ t.pw.mode = .run ∧ t.pw.window = some s.time ∧
      t.pw.resetSrc = some .activation ∧
      ∀ n, (t.chan n).out = (s.chan n).out ∧ (t.chan n).ao = (s.chan n).ao ∧
        (t.chan n).guard = (s.chan n).guard ∧ (t.chan n).loop = (s.chan n).loop) ∧
  (∀ (s : State) (w : Nat), s.pw.window = some w → s.hostUp = true → s.pw.mode = .run →
    ∃ t, exec .continuityClose s = .next t ∧ t.pw.window = none ∧ t.pw.mode = .run ∧
      t.pendingWith 123 1 ∧ t.pendingWith 126 2 ∧ t.res.cfg = Results.reset.cfg ∧
      ∀ n, (t.chan n).out = (s.chan n).out ∧ (t.chan n).ao = (s.chan n).ao ∧
        (t.chan n).guard = (s.chan n).guard) ∧
  (∀ (s : State) (w : Nat), s.pw.window = some w → s.hostUp = true → s.pw.mode = .run →
    w + fld s.pw.cfg 6 0 * 10 * milli ≤ s.time →
    ∃ t, exec .continuityExpiry s = .next t ∧ t.pw.window = none ∧ t.pw.mode = .safe ∧
      t.pendingWith 123 2 ∧ t.pendingWith 126 2 ∧
      ∀ n, s.takes n = true → s.dieUp (grpOf n) = true → (t.chan n).guard.held = true) ∧
  (∀ (s : State) (w : Nat), s.pw.window = some w → s.hostUp = false →
    w + fld s.pw.cfg 6 0 * 10 * milli ≤ s.time →
    ∃ t, exec .continuityExpiry s = .next t ∧ t.pw.window = none ∧ t.pw.expired = true ∧
      t.pw.cut = some s.windowMicros ∧
      ∀ n, s.takes n = true → s.dieUp (grpOf n) = true → (t.chan n).guard.held = true) ∧
  (∀ (s : State) (b : BootInput), s.bootSource = .activation → s.pw.window = none → s.pw.expired = true →
    ∃ t, exec (.resetRelease b) s = .next t ∧ t.pendingWith 126 2 ∧
      (t.sec.recovery = false → t.pw.mode = .safe ∧ t.pw.prev = .standby ∧ t.pw.cause = 3 ∧ t.pendingWith 120 5))

/-- Errors, silence, return and failure of a field die and its link. (01 R12, 01 R14, 01 R28, 01 R29, 07 R250, 08
R263) -/
def Obligations.FieldLinks : Prop :=
  (∀ (s : State) (g : Grp),
    ∃ t, exec (.fieldLinkFrameError g) s = .next t ∧ (t.group g).link.errs = (s.group g).link.errs + 1 ∧
      (s.hostUp = true → 15 ≤ ((s.group g).link.errTimes.filter fun x => decide (s.time < x + milli)).length →
        t.pendingWith (srcNo (72 + g.val)) 1) ∧ s.touchesGrp t [] [g]) ∧
  (∀ (s : State) (g : Grp), (s.group g).link.silent = false → (s.group g).link.failed = false →
    (s.group g).sup.ready = true → (s.group g).guard.limitMicros = 50 → s.comb.jobs = [] →
    ∃ t, exec (.fieldLinkSilence g) s = .next t ∧ (t.group g).link.silent = true ∧
      (s.hostUp = true → t.ev.src[(srcNo (72 + g.val)).val].pending = true) ∧
      ((s.group g).link.stopped = false →
        ∀ n, grpOf n = g → s.takes n = true → (t.chan n).guard.held = true) ∧
      (∀ n, grpOf n ≠ g → t.chan n = s.chan n) ∧ ∀ h, h ≠ g → t.group h = s.group h) ∧
  (∀ (s : State) (g : Grp), (s.group g).link.silent = true → s.dieUp g = true → s.hostUp = true →
    s.pw.window = none →
    ∃ t, exec (.fieldLinkRestored g) s = .next t ∧ (t.group g).link.silent = false ∧
      (t.group g).link.events = [] ∧ t.pendingWith (srcNo (72 + g.val)) 6 ∧ t.ch = s.ch ∧
      (s.comb.active = none → s.touchesGrp t [] [g])) ∧
  (∀ (s : State) (g : Grp), (s.group g).link.failed = false → (s.group g).sup.ready = true →
    s.hostUp = true → s.pw.window = none → s.comb.jobs = [] →
    ∃ t, exec (.fieldDieFailure g) s = .next t ∧ (t.group g).link.failed = true ∧
      t.pendingWith (srcNo (72 + g.val)) 4 ∧
      (∀ n, grpOf n = g → (t.chan n).out.ps.isOn = false ∧ (t.chan n).ao.code = 0 ∧
        (t.chan n).loop.on = false ∧ (t.chan n).guard.held = false) ∧
      (s.comb.active = none → s.touchesGrp t (chOf g) [g])) ∧
  (∀ (s : State) (g : Grp), s.dieUp g = true → s.comb.jobs = [] →
    ∃ t, exec (.dieSupervisorTrip g) s = .next t ∧ (t.group g).link.stopped = true ∧
      (t.group g).guard.fok = false ∧
      (∀ n, grpOf n = g → (t.chan n).out.ps.isOn = false ∧ (t.chan n).ao.code = 0 ∧
        (t.chan n).loop.on = false) ∧ s.touchesGrp t (chOf g) [g])

/-- The detections that set one bit of CH_FAULT: each sets its bit and raises the channel fault event. (02 R37, 02
R77, 03 R94, 03 R96, 03 R108, 03 R109, 04 R145, 06 R195, 08 R259, 11 R361) -/
def Obligations.ChannelFaults : Prop :=
  ∀ (s : State) (n : Ch), s.heard n = true →
    (s.supplied n = true → (s.modeOf n = .aiRes ∨ (s.modeOf n = .aiTc ∧ bit (s.cfgOf n).aiCfg 27 = true)) →
      ∃ t, exec (.aiOpenDetected n) s = .next t ∧ s.faults t n 29) ∧
    (s.supplied n = true → (s.pairOf n = .rtd3 ∨ s.pairOf n = .rtd4) →
      ∃ t, exec (.aiLeadDetected n) s = .next t ∧ s.faults t n 28) ∧
    (s.modeOf n = .loopPwr → (s.chan n).loop.on = true →
      (∃ t, exec (.loopOpenDetected n) s = .next t ∧ s.faults t n 6) ∧
      ((s.chan n).cfg.loopMate ≠ 0 → ∃ t, exec (.loopLeakDetected n) s = .next t ∧ s.faults t n 7)) ∧
    ((s.modeOf n).isSwitch = true → ∃ t, exec (.tsensFail n) s = .next t ∧ s.faults t n 28) ∧
    (s.steadyOn n = true →
      (∃ t, exec (.shortGndDetected n) s = .next t ∧ s.faults t n 27) ∧
      (∃ t, exec (.overloadDetected n) s = .next t ∧ s.faults t n 26) ∧
      (∀ ma : Int, (s.cfgOf n).inductive = true → ma < s.openLoadMa n →
        ∃ t, exec (.openLoadCondition n ma) s = .next t ∧ s.faults t n 25) ∧
      (∃ t, exec (.reverseCurrentDetected n false) s = .next t ∧ s.faults t n 23)) ∧
    (s.offState n = true → s.modeOf n = .doHs →
      (bit (s.cfgOf n).outDiag 24 = true →
        ∃ t, exec (.openloadOffDetected n) s = .next t ∧ s.faults t n 24) ∧
      (∃ t, exec (.shortVfOffDetected n) s = .next t ∧ s.faults t n 23)) ∧
    (s.onState n = true → s.pairOf n = .parallel →
      ∃ t, exec (.imbalDetected n) s = .next t ∧ s.faults t n 19) ∧
    (s.modeOf n = .aoV → (s.chan n).ao.blocked = false →
      ∃ t, exec (.aoLimitDetected n) s = .next t ∧ s.faults t n 27)

/-- TERMINAL_CROSSING, DEBOUNCE_EXPIRED, wire breaks and NAMUR faults on digital inputs. (02 R49, 02 R50, 02 R53, 02
R55, 02 R56, 02 R58, 02 R61, 02 R63, 02 R69) -/
def Obligations.DigitalInputs : Prop :=
  (∀ (s : State) (n : Ch) (mv ua : Int) (k : Nat) (level cls : Bool), s.heard n = true →
    (s.chan n).cfgBusy = false → (s.modeOf n = .di ∨ s.modeOf n = .diNamur) →
    level = s.levelOf n mv ua → cls = s.currentClass n ua →
    (s.classed n = true → cls = false → exec (.terminalCrossing n mv ua k) s =
      .next (s.modIn n fun i => { i with raw := level, inClass := false, run := none })) ∧
    ((s.classed n = false ∨ cls = true) → (s.chan n).inp.valid = true → level = (s.chan n).inp.deb →
      exec (.terminalCrossing n mv ua k) s =
        .next (s.modIn n fun i => { i with raw := level, inClass := cls, run := none })) ∧
    ((s.classed n = false ∨ cls = true) → (s.chan n).inp.valid = true → level ≠ (s.chan n).inp.deb →
      fld (s.cfgOf n).inCfg 7 0 ≠ 0 →
      exec (.terminalCrossing n mv ua k) s = .next (s.modIn n fun i => { i with
        raw := level, inClass := cls
        run := some (if level = i.raw then i.run.getD (s.stampNow, s.nocomb) else (s.stampNow, s.nocomb)) }))) ∧
  (∀ (s : State) (n : Ch) (mv ua : Int) (k : Nat), s.heard n = true → (s.chan n).cfgBusy = false →
    s.modeOf n = .count → s.levelOf n mv ua ≠ (s.chan n).inp.raw → k < fld (s.cfgOf n).cntCfg 7 0 →
    16 ≤ ((s.chan n).inp.shorts.filter fun t => decide (s.time < t + milli)).length →
    ∃ t, exec (.terminalCrossing n mv ua k) s = .next t ∧
      (t.chan n).fault = (s.chan n).fault ||| bitW 3 ∧ s.touches t [n]) ∧
  (∀ (s : State) (n : Ch) (r : Word × Bool), s.heard n = true →
    (s.modeOf n = .di ∨ s.modeOf n = .diNamur) → s.supplied n = true →
    (s.chan n).inp.run = some r → (s.chan n).inp.brk = false → (s.chan n).inp.short = false →
    (s.chan n).inp.valid = true →
    ∃ t, exec (.debounceExpired n) s = .next t ∧ (t.chan n).inp.run = none ∧
      (t.chan n).inp.deb = (s.chan n).inp.raw ∧
      (t.chan n).inp.state = ((s.chan n).inp.raw != (s.cfgOf n).invert) ∧
      ((t.chan n).inp.state = (s.chan n).inp.state → (t.chan n).inp.cosCount = (s.chan n).inp.cosCount) ∧
      ((t.chan n).inp.state ≠ (s.chan n).inp.state →
        (t.chan n).inp.cosCount = (s.chan n).inp.cosCount + 1 ∧ (t.chan n).inp.cosStamp = r.1 ∧
        (fld (s.cfgOf n).inCfg 29 28 = 3 →
          t.pendingWith (srcNo (32 + n.val)) (if (t.chan n).inp.state then 1 else 2))) ∧
      ∀ m, m ≠ n → t.chan m = s.chan m) ∧
  (∀ (s : State) (n : Ch), s.heard n = true → s.modeOf n = .di → s.supplied n = true →
    (bit (s.cfgOf n).inCfg 27 = true →
      ∃ t, exec (.wireBreakDeclared n) s = .next t ∧ (t.chan n).inp.brk = true ∧
        (t.chan n).inp.valid = false ∧ (t.chan n).inp.run = none ∧
        (t.chan n).inp.state = (s.chan n).inp.state ∧
        (t.chan n).fault = (s.chan n).fault ||| bitW 0 ∧ s.touches t [n]) ∧
    ((s.chan n).inp.brk = true →
      ∃ t, exec (.wireBreakEnd n) s = .next t ∧ (t.chan n).inp.brk = false ∧ (t.chan n).inp.valid = true ∧
        (t.chan n).inp.state = ((s.chan n).inp.deb != (s.cfgOf n).invert) ∧
        ∀ m, m ≠ n → t.chan m = s.chan m)) ∧
  (∀ (s : State) (n : Ch), s.heard n = true → s.modeOf n = .diNamur → s.supplied n = true →
    (∀ short, ∃ t, exec (.namurFaultDeclared n short) s = .next t ∧ (t.chan n).inp.brk = !short ∧
        (t.chan n).inp.short = short ∧ (t.chan n).inp.valid = false ∧ (t.chan n).inp.run = none ∧
        (fld (s.cfgOf n).inCfg 17 16 = 0 → (t.chan n).inp.state = (s.cfgOf n).invert) ∧
        (fld (s.cfgOf n).inCfg 17 16 = 1 → (t.chan n).inp.state = !(s.cfgOf n).invert) ∧
        (2 ≤ fld (s.cfgOf n).inCfg 17 16 → (t.chan n).inp.state =
          ((s.chan n).inp.lastValid.getD (s.chan n).inp.deb != (s.cfgOf n).invert)) ∧
        (t.chan n).inp.cosCount = (s.chan n).inp.cosCount ∧
        (t.chan n).fault = (s.chan n).fault ||| (if short then bitW 1 else bitW 0) ∧ s.touches t [n]) ∧
    (((s.chan n).inp.brk = true ∨ (s.chan n).inp.short = true) →
      ∃ t, exec (.namurFaultEnd n) s = .next t ∧ (t.chan n).inp.brk = false ∧ (t.chan n).inp.short = false ∧
        (t.chan n).inp.valid = true ∧
        (t.chan n).inp.state = ((s.chan n).inp.deb != (s.cfgOf n).invert) ∧
        ∀ m, m ≠ n → t.chan m = s.chan m))

/-- COUNT_EDGE, INDEX_EDGE, the gate and the time-out of counting, and the terminal monitor. (02 R47, 02 R48, 02
R66, 02 R67, 02 R68, 03 R94) -/
def Obligations.Counting : Prop :=
  (∀ (s : State) (n : Ch) (rising : Bool) (dt : Nat), s.heard n = true → s.modeOf n = .count →
    s.isSource n = false → s.pairOf n = .none → fld (s.cfgOf n).cntCfg 27 24 = 0 →
    ∃ t, exec (.countEdge n false rising dt) s = .next t ∧
      (t.chan n).cnt.val = (s.chan n).cnt.val +
        (if fld (s.cfgOf n).cntCfg 23 22 = 3 ∨ fld (s.cfgOf n).cntCfg 23 22 = (if rising then 1 else 2)
         then 1 else 0) ∧
      (rising = true → (s.chan n).cnt.edges ≠ 0 → dt < 0xFFFFFFFF →
        (t.chan n).cnt.per = BitVec.ofNat 32 dt) ∧
      (rising = false → (t.chan n).cnt.per = (s.chan n).cnt.per) ∧ ∀ m, m ≠ n → t.chan m = s.chan m) ∧
  (∀ (s : State) (n : Ch) (rising : Bool) (dt : Nat), s.heard n = true → s.modeOf n = .count →
    s.isSource n = false → s.pairOf n = .quad →
    (∃ t, exec (.countEdge n true rising dt) s = .next t ∧
      (t.chan n).fault = (s.chan n).fault ||| bitW 2 ∧ (t.chan n).cnt = (s.chan n).cnt ∧
      ∀ m, m ≠ n → m ≠ mateOf n → t.chan m = s.chan m) ∧
    (fld (s.cfgOf n).cntCfg 21 20 = 2 →
      ∃ t, exec (.countEdge n false rising dt) s = .next t ∧ (t.chan n).inp.raw = rising ∧
        (t.chan n).cnt.val = (if (rising != (s.chan (mateOf n)).inp.deb) != bit (s.cfgOf n).cntCfg 19
          then (s.chan n).cnt.val + 1 else (s.chan n).cnt.val - 1) ∧ ∀ m, m ≠ n → t.chan m = s.chan m)) ∧
  (∀ (s : State) (n p : Ch), s.modeOf n = .count → s.dieUp (grpOf n) = true → s.pairOf n = .none →
    fld (s.cfgOf n).cntCfg 27 24 = 2 → s.indexedBy n = [p] → fld (s.cfgOf p).cntCfg 17 16 = 1 →
    (s.chan p).cnt.lastIdx = none → s.isSource p = false →
    ∃ t, exec (.indexEdge n) s = .next t ∧ (t.chan p).cnt.per = (s.chan p).cnt.val ∧
      (t.chan p).cnt.val = 0 ∧ (t.chan n).inp.raw = true ∧ ∀ m, m ≠ n → m ≠ p → t.chan m = s.chan m) ∧
  (∀ (s : State) (n : Ch) (k span : Nat), s.heard n = true → s.modeOf n = .count →
    (∀ a : Nat, s.pairOf n = .none → 2 ≤ k → 0 < span → a = (k - 1) * 80000000000 →
      exec (.freqGateExpired n k span) s = .next (s.modCh n fun x => { x with cnt := { x.cnt with
        freq := BitVec.ofInt 32 (roundDiv (Config.tieUp a span) a span), gateVal := x.cnt.val } })) ∧
    (s.pairOf n = .none → fld (s.cfgOf n).cntCfg 27 24 = 0 →
      exec (.countEdgeTimeout n) s = .next (s.modCh n fun x => { x with cnt := { x.cnt with
        freq := 0, per := 0xFFFFFFFF#32, edges := 0 } }))) ∧
  (∀ (s : State) (n : Ch) (m : ChMeas), s.heard n = true → (s.chan n).cfgBusy = false →
    s.isSource n = false → s.monitorReady (grpOf n) = true →
    ∃ t, exec (.terminalMonitorConversion n m) s = .next t ∧ (t.chan n).termv = m.termv ∧
      (t.chan n).tvValid = true ∧
      ((s.modeOf n).isSwitch = true → (t.chan n).out.tj = m.tj ∧ (t.chan n).out.dtc = m.dtc ∧
        ((s.chan n).out.diag = false → (t.chan n).out.iload =
          (if s.pairOf n = .parallel then m.iload + (s.chan (mateOf n)).out.own else m.iload)) ∧
        ((s.chan n).out.diag = true → (t.chan n).out.iload = (s.chan n).out.iload)) ∧
      ((-35000 ≤ m.termv.toInt * 2 ∧ m.termv.toInt * 2 ≤ 45000) → (t.chan n).fault = (s.chan n).fault) ∧
      ((m.termv.toInt * 2 < -35000 ∨ 45000 < m.termv.toInt * 2) →
        (t.chan n).fault = (s.chan n).fault ||| bitW 8) ∧ ∀ k, k ≠ n → t.chan k = s.chan k)

/-- Mains lock, hold-over and loss; overload and restart of a loop supply. (02 R73, 02 R74, 02 R76, 02 R77) -/
def Obligations.MainsAndLoops : Prop :=
  (∀ (s : State) (n : Ch) (phase freq vrms : BitVec 16), s.heard n = true → s.modeOf n = .mainsSense →
    s.isSource n = false →
    ((s.chan n).mains.lock = false →
      ∃ t, exec (.mainsLockAcquired n phase freq vrms) s = .next t ∧ (t.chan n).mains.lock = true ∧
        (t.chan n).mains.holdover = false ∧ (t.chan n).mains.phase = phase ∧
        (t.chan n).mains.freq = freq ∧ (t.chan n).mains.vrms = vrms ∧
        (t.chan n).inp.valid = s.supplied n ∧ ∀ m, m ≠ n → t.chan m = s.chan m) ∧
    ((s.chan n).mains.lock = true →
      ∃ t, exec (.mainsHoldoverEnter n) s = .next t ∧ (t.chan n).mains.holdover = true ∧
        (t.chan n).mains.lock = true ∧ s.touches t [n]) ∧
    ((s.chan n).mains.holdover = true →
      (∃ t, exec (.mainsLockResumed n) s = .next t ∧ (t.chan n).mains.holdover = false ∧
        (t.chan n).mains.lock = (s.chan n).mains.lock ∧ s.touches t [n]) ∧
      (∃ t, exec (.mainsLockLost n) s = .next t ∧ (t.chan n).mains.lock = false ∧
        (t.chan n).mains.holdover = false ∧ (t.chan n).inp.valid = false ∧
        (t.chan n).fault = (s.chan n).fault ||| bitW 4 ∧ ∀ m, m ≠ n → t.chan m = s.chan m))) ∧
  (∀ (s : State) (n : Ch), s.heard n = true → s.modeOf n = .loopPwr →
    ((s.chan n).loop.on = true →
      ∃ t, exec (.loopOverload n) s = .next t ∧ (t.chan n).loop.on = false ∧ (t.chan n).loop.ovlOff = true ∧
        (t.chan n).loop.iloop = 0 ∧ (t.chan n).fault = (s.chan n).fault ||| bitW 5 ∧ s.touches t [n]) ∧
    ((s.chan n).loop.ovlOff = true → (s.group (grpOf n)).sup.uvlo = false → (s.group (grpOf n)).sup.low = false →
      ∃ t, exec (.loopRestart n) s = .next t ∧ (t.chan n).loop.on = true ∧ (t.chan n).loop.ovlOff = false ∧
        s.touchesGrp t [n] [grpOf n]))

/-- The limiter, the inrush window, the governor, the group's mean current and the PWM period. (03 R83, 03 R84, 03
R86, 03 R87, 03 R88, 03 R98, 03 R103) -/
def Obligations.Limiter : Prop :=
  (∀ (s : State) (n : Ch), s.onState n = true →
    ((s.chan n).out.ps = .on → ∃ t, exec (.limiterActive n) s = .next t ∧ (t.chan n).out.ps = .limit ∧
      (t.chan n).out.duty = (s.chan n).out.duty ∧ s.touches t [n, mateOf n]) ∧
    ((s.chan n).out.ps = .limit → ∃ t, exec (.limiterReleased n) s = .next t ∧ (t.chan n).out.ps = .on ∧
      (t.chan n).out.duty = (s.chan n).out.duty ∧ s.touches t [n, mateOf n]) ∧
    ((s.chan n).out.ps = .inrush → (s.chan n).out.frozen = false →
      ∃ t, exec (.inrushWindowEnd n) s = .next t ∧ (t.chan n).out.ps = .on ∧
        (t.chan n).out.duty =
          onDuty (s.cfgOf n) (s.chan n).out (s.chan n).guard.held (s.group (grpOf n)).sup.vf.toNat ∧
        s.touches t [n, mateOf n]) ∧
    (s.isOdd n = false → ∃ t, exec (.retryCountClear n) s = .next t ∧ (t.chan n).out.retryUsed = 0 ∧
      (t.chan n).out.defer = 0 ∧ (t.chan n).out.ps = (s.chan n).out.ps ∧ s.touches t [n, mateOf n])) ∧
  (∀ (s : State) (g : Grp) (ma : Nat), ∃ t, exec (.governorStep g ma) s = .next t ∧ s.touches t (chOf g) ∧
    ∀ n, grpOf n = g → s.onState n = true → (s.chan n).out.ps = .inrush → (s.chan n).out.frozen = false →
      (18000 ≤ ma → (t.chan n).out.inrMa =
        max (fld (s.cfgOf n).outLim 7 0 * 10) ((s.chan n).out.inrMa - 50)) ∧
      (ma < 17000 → (t.chan n).out.inrMa =
        min (fld (s.cfgOf n).outLim 29 20 * 10) ((s.chan n).out.inrMa + 50)) ∧
      (17000 ≤ ma → ma < 18000 → t.chan n = s.chan n)) ∧
  (∀ (s : State) (g : Grp) (ma : Nat), s.hostUp = true →
    (6000 < ma → (s.group g).sup.meanOver = false →
      ∃ t, exec (.groupCurrentMeanUpdate g ma) s = .next t ∧ (t.group g).sup.meanOver = true ∧
        t.pendingWith (srcNo (68 + g.val)) 1 ∧ s.touchesGrp t [] [g]) ∧
    (ma ≤ 5700 → ∃ t, exec (.groupCurrentMeanUpdate g ma) s = .next t ∧
      (t.group g).sup.meanOver = false ∧ t.ev = s.ev ∧ s.touchesGrp t [] [g]) ∧
    (5700 < ma → (ma ≤ 6000 ∨ (s.group g).sup.meanOver = true) →
      exec (.groupCurrentMeanUpdate g ma) s = .next s)) ∧
  (∀ (s : State) (n : Ch) (mv : Nat), s.steadyOn n = true → (s.cfgOf n).pwm = true →
    (s.chan n).guard.held = false → ∃ t, exec (.pwmPeriodStart n mv) s = .next t ∧
      (t.chan n).out.duty = onDuty (s.cfgOf n) (s.chan n).out false mv ∧
      (t.chan n).out.ps = (s.chan n).out.ps ∧ s.touches t [n, mateOf n])

/-- Open-load conditions, off-pulses, cross-wiring and learning: what each diagnosis does. (03 R91, 03 R108, 03
R109, 03 R110, 03 R111, 03 R113) -/
def Obligations.Diagnostics : Prop :=
  (∀ (s : State) (n : Ch), s.steadyOn n = true → s.heard n = true →
    (∀ ma : Int, (s.cfgOf n).inductive = false → ma < s.openLoadMa n →
      ∃ t, exec (.openLoadCondition n ma) s = .next t ∧
      (t.chan n).out.olCond = true ∧ (t.chan n).fault = (s.chan n).fault ∧ s.touches t [n, mateOf n]) ∧
    ((s.chan n).out.olCond = true → ∃ t, exec (.openloadOnTimeout n) s = .next t ∧
      (t.chan n).out.olCond = false ∧ (t.chan n).fault = (s.chan n).fault ||| bitW 25 ∧
      s.touches t [n, mateOf n])) ∧
  (∀ (s : State) (n : Ch), s.onState n = true → s.heard n = true →
    ((s.chan n).out.ps = .on → (s.chan n).out.olCond = true → s.schedNow n = false → (s.chan n).guard.held = false →
      bit (s.cfgOf n).outDiag 23 = true → (s.cfgOf n).inductive = false →
      ∃ t, exec (.autoDiagPulse n) s = .next t ∧ (t.chan n).out.diag = true ∧
        (t.chan n).out.ps = .on ∧ s.touches t [n, mateOf n]) ∧
    (∀ high, (s.chan n).out.diag = true →
      ∃ t, exec (.diagPulseEnd n high) s = .next t ∧ (t.chan n).out.diag = false ∧
        (t.chan n).out.olCond = false ∧ (t.chan n).out.ps = (s.chan n).out.ps ∧
        (t.chan n).fault = (s.chan n).fault |||
          (if high then bitW 23 else if (s.chan n).out.olCond then bitW 25 else 0) ∧
        s.touches t [n, mateOf n])) ∧
  (∀ (s : State) (a b : Ch), s.heard a = true → s.heard b = true → (s.modeOf a).isSwitch = true →
    (s.modeOf b).isSwitch = true → a ≠ b →
    ∃ t, exec (.wiredDetected a b) s = .next t ∧ (t.chan a).out.partner.toNat = b.val ∧
      (t.chan b).out.partner.toNat = a.val ∧ (t.chan a).fault = (s.chan a).fault ||| bitW 22 ∧
      (t.chan b).fault = (s.chan b).fault ||| bitW 22 ∧ s.touches t [a, b]) ∧
  (∀ (s : State) (n : Ch), s.offState n = true → s.heard n = true → s.modeOf n = .doPp →
    ∃ t, exec (.shortVfOffDetected n) s = .next t ∧ (t.chan n).out.lowOff = true ∧
      (t.chan n).fault = (s.chan n).fault ||| bitW 23 ∧ s.touches t [n, mateOf n]) ∧
  (∀ (s : State) (n : Ch) (norm : BitVec 16), s.feat 10 = true → s.steadyOn n = true → s.heard n = true →
    (s.chan n).guard.held = false →
    ((s.chan n).out.learned = false → ∃ t, exec (.learnBaseline n norm) s = .next t ∧
      (t.chan n).out.base = norm ∧ (t.chan n).out.learned = true ∧ s.touches t [n]) ∧
    ((s.chan n).out.learned = true → (s.chan n).out.base ≠ 0 →
      ∃ t, exec (.learnComparison n norm) s = .next t ∧
        (t.chan n).out.drift = BitVec.ofInt 8 (driftOf 0 norm (s.chan n).out.base) ∧
        (t.chan n).fault = (s.chan n).fault |||
          (if (s.cfgOf n).driftPct.toNat < (driftOf 0 norm (s.chan n).out.base).natAbs then bitW 21 else 0) ∧
        s.touches t [n]))

/-- Thermal trips, reverse current at ILIM, a read-back mismatch, and the decision of a retry. (01 R17, 03 R95, 03
R96, 03 R97, 03 R98, 03 R102, 03 R104, 03 R105, 03 R108, 08 R259) -/
def Obligations.Trips : Prop :=
  (∀ (s : State) (n : Ch), s.heard n = true → s.onState n = true →
    (bit (s.chan n).fault 28 = false → ∃ t, exec (.thermalTripAbs n) s = .next t ∧ s.trips t n 30 ∧
      (t.chan n).out.cool = false) ∧
    (bit (s.chan n).fault 28 = true → exec (.thermalTripAbs n) s = .next s) ∧
    (∃ t, exec (.thermalTripDt n) s = .next t ∧ s.trips t n 29 ∧ (t.chan n).out.cool = false) ∧
    (s.steadyOn n = true → ∃ t, exec (.reverseCurrentDetected n true) s = .next t ∧ s.trips t n 23) ∧
    (s.steadyOn n = true → (s.chan n).out.diag = false →
      ∃ t, exec (.rbMismatchDetected n) s = .next t ∧ (t.chan n).out.ps = .lockedOff ∧
        (t.chan n).out.cmdOn = false ∧ (t.chan n).fault = (s.chan n).fault ||| bitW 18 ||| bitW 31 ∧
        s.touches t [n, mateOf n])) ∧
  (∀ (s : State) (n : Ch), s.heard n = true → (s.modeOf n).isSwitch = true →
    (s.chan n).out.ps = .tripWait → s.pw.window = none → (s.chan n).guard.held = false →
    (s.chan n).out.polOn = false → (s.chan n).out.due ≤ s.time →
    (s.vfReady (grpOf n) = false →
      ∃ t, exec (.retryDue n) s = .next t ∧ (t.chan n).out.ps = .tripWait ∧
        (t.chan n).out.heldRetry = true ∧ s.touches t [n, mateOf n]) ∧
    (s.vfReady (grpOf n) = true →
      ∃ t, exec (.retryDue n) s = .next t ∧ s.touchesGrp t [n, mateOf n] [grpOf n] ∧
        (s.cooled n = true → (t.chan n).out.retryUsed = satInc (s.chan n).out.retryUsed ∧
          (t.chan n).out.defer = 0 ∧
          (s.schedNow n = false → (t.chan n).out.ps.isOn = true) ∧
          (s.schedNow n = true → (t.chan n).out.polOn = true ∧ (t.chan n).out.ps = .tripWait)) ∧
        (s.cooled n = false → (s.chan n).out.defer ≠ 7 →
          (t.chan n).out.ps = .tripWait ∧ (t.chan n).out.defer = (s.chan n).out.defer + 1 ∧
          (t.chan n).out.due = s.time + fld (s.cfgOf n).outPol 19 10 * 10 * milli) ∧
        (s.cooled n = false → (s.chan n).out.defer = 7 →
          (t.chan n).out.ps = .lockedOff ∧ (t.chan n).out.cmdOn = false ∧
          bit (t.chan n).fault 31 = true)))

/-- SHED_STEP, SHED_RESTORE_STEP, SWITCH_COOLED and the module's envelope. (01 R17, 03 R97, 03 R114, 03 R115, 13
R425, 16 R482) -/
def Obligations.Shedding : Prop :=
  (∀ (s : State) (g : Grp), s.feat 11 = true → (s.group g).link.failed = false → s.pw.window = none →
    (s.lowestPri (s.sheddable (chOf g)) ((s.group g).sup.shedLevel.getD 0) = none →
      exec (.shedStep g) s = .next s) ∧
    (∀ p, s.lowestPri (s.sheddable (chOf g)) ((s.group g).sup.shedLevel.getD 0) = some p →
      ∃ t, exec (.shedStep g) s = .next t ∧ (t.group g).sup.shedLevel = some (p + 1) ∧
        (∀ n ∈ s.sheddable (chOf g), (s.cfgOf n).shedPri = p → bit (t.chan n).fault 20 = true ∧
          (bit (s.cfgOf n).outPol 30 = false → (t.chan n).out.ps = .shed ∧ (t.chan n).out.shedDie = true ∧
            (t.chan n).out.cmdOn = (s.chan n).out.cmdOn ∧
            ((s.chan n).out.hostOn = true → (t.chan n).overridden = true)) ∧
          (bit (s.cfgOf n).outPol 30 = true → (t.chan n).out = (s.chan n).out)) ∧
        (∀ n ∈ s.sheddable (chOf g), (s.cfgOf n).shedPri ≠ p → t.chan n = s.chan n) ∧
        ∀ n, grpOf n ≠ g → t.chan n = s.chan n)) ∧
  (∀ (s : State) (g : Grp) (l : List Ch), (s.group g).link.failed = false → s.pw.window = none →
    l = (chOf g).filter (fun n => (s.chan n).out.shedDie && !s.isOdd n) →
    (l = [] → ∃ t, exec (.shedRestoreStep g) s = .next t ∧ (t.group g).sup.shedLevel = none ∧
      s.touchesGrp t [] [g]) ∧
    (l ≠ [] → s.hostUp = true → ∃ t, exec (.shedRestoreStep g) s = .next t ∧
      t.pendingWith (srcNo (68 + g.val)) 3 ∧
      (∀ n ∈ l, (s.cfgOf n).shedPri = s.highestPri l → (t.chan n).out.shedDie = false ∧
        ((s.chan n).out.shedEnv = false → (s.chan n).out.ps = .shed →
          (t.chan n).out.polOn = true ∨ (t.chan n).out.ps.isOn = true)) ∧
      ∀ n, grpOf n ≠ g → t.chan n = s.chan n)) ∧
  (∀ (s : State) (n : Ch), s.heard n = true → (s.modeOf n).isSwitch = true →
    ∃ t, exec (.switchCooled n) s = .next t ∧ (t.chan n).out.cool = true ∧
      ((s.chan n).out.ps = .pend → s.vfReady (grpOf n) = true → (s.group (grpOf n)).sup.recovering = false →
        (s.chan n).guard.held = false → (s.chan n).out.turn = false → (s.pairOf n ≠ .parallel ∨ (s.chan (mateOf n)).out.cool = true) →
        (t.chan n).out.ps.isOn = true) ∧
      ∀ m, grpOf m ≠ grpOf n → t.chan m = s.chan m) ∧
  (∀ (s : State) (pmod : BitVec 16), s.hostUp = true → s.pw.window = none →
    (s.pw.env.toNat < pmod.toNat → s.feat 11 = true →
      ∃ t, exec (if s.pw.envOver then .envelopeShedStep pmod else .envelopeExceeded pmod) s = .next t ∧
        t.pw.pmod = pmod ∧ t.pw.envOver = true ∧
        (s.pw.envOver = false → t.pendingWith 125 3) ∧
        ∀ p, s.lowestPri (s.sheddable allCh) (s.pw.envLevel.getD 0) = some p →
          t.pw.envLevel = some (p + 1) ∧ ∀ n ∈ s.sheddable allCh, (s.cfgOf n).shedPri = p →
            bit (s.cfgOf n).outPol 30 = false →
            (t.chan n).out.ps = .shed ∧ (t.chan n).out.shedEnv = true ∧
              (t.chan n).out.cmdOn = (s.chan n).out.cmdOn) ∧
    (s.pw.env.toNat < pmod.toNat → s.feat 11 = false →
      (s.pw.envOver = false → ∃ t, exec (.envelopeExceeded pmod) s = .next t ∧ t.pw.envOver = true ∧
        t.pendingWith 125 3 ∧ t.ch = s.ch) ∧
      (s.pw.envOver = true → ∃ t, exec (.envelopeShedStep pmod) s = .next t ∧ t.pw.pmod = pmod ∧
        t.ch = s.ch)) ∧
    (pmod.toNat + 500 < s.pw.env.toNat → (∀ n, (s.chan n).out.shedEnv = false) →
      exec (.envelopeRestore pmod) s = .next { s with
        pw.pmod := pmod, pw.envShed := false, pw.envOver := false, pw.envLevel := none }))

/-- The thresholds of VF, the staggered sequence, power-down and return of a field die, VFL. (03 R116, 03 R117, 03
R118, 03 R119, 13 R391, 13 R393, 13 R395, 13 R396, 13 R397, 13 R424) -/
def Obligations.Supply : Prop :=
  (∀ (s : State) (g : Grp) (vf : BitVec 16), s.inTouch g = true →
    (∀ up, up = decide (13500 ≤ vf.toNat) →
      ((s.group g).sup.warn = false → ∃ t, exec (.vfWarnFall g vf) s = .next t ∧
        (t.group g).sup.warn = true ∧ (t.group g).sup.warns = satInc (s.group g).sup.warns ∧
        (t.group g).sup.vf = vf ∧ (t.group g).sup.above = up ∧ t.pendingWith (srcNo (64 + g.val)) 1 ∧
        (∀ n, grpOf n ≠ g → t.chan n = s.chan n) ∧
        (s.vfReady g = true ∨ up = false → (t.group g).sup =
          { (s.group g).sup with vf := vf, above := up, warn := true, warns := satInc (s.group g).sup.warns } ∧
          s.touchesGrp t [] [g])) ∧
      ((s.group g).sup.warn = true → (s.group g).sup.low = false → (s.group g).sup.uvlo = false →
        ∃ t, exec (.vfWarnRise g vf) s = .next t ∧ (t.group g).sup.warn = false ∧ (t.group g).sup.vf = vf ∧
          (t.group g).sup.above = up ∧ t.pendingWith (srcNo (64 + g.val)) 2 ∧
          (∀ n, grpOf n ≠ g → t.chan n = s.chan n) ∧
          (s.vfReady g = true ∨ up = false → (t.group g).sup =
            { (s.group g).sup with vf := vf, above := up, warn := false } ∧ s.touchesGrp t [] [g])) ∧
      (∀ high, (s.group g).sup.high ≠ high → ∃ t, exec (.vfHighChange g high vf) s = .next t ∧
        (t.group g).sup.high = high ∧ (t.group g).sup.vf = vf ∧ (t.group g).sup.above = up ∧
        t.pendingWith (srcNo (64 + g.val)) (if high then 6 else 7) ∧
        (∀ n, grpOf n ≠ g → t.chan n = s.chan n) ∧
        (s.vfReady g = true ∨ up = false → (t.group g).sup =
          { (s.group g).sup with vf := vf, above := up, high := high } ∧ s.touchesGrp t [] [g]))) ∧
    ((s.group g).sup.low = false → ∃ t, exec (.vfLowFall g vf) s = .next t ∧
      (t.group g).sup.low = true ∧ (t.group g).sup.lows = satInc (s.group g).sup.lows ∧
      t.pendingWith (srcNo (64 + g.val)) 3 ∧
      (∀ n, grpOf n = g → s.onState n = true → (s.chan n).out.ps = .inrush → (t.chan n).out.frozen = true ∧
        (t.chan n).out.inrMa = fld (s.cfgOf n).outLim 7 0 * 10) ∧ s.touchesGrp t (chOf g) [g]) ∧
    ((s.group g).sup.uvlo = false → ∃ t, exec (.uvloFall g vf) s = .next t ∧
      (t.group g).sup.uvlo = true ∧ (t.group g).sup.dark = true ∧ (t.group g).sup.low = true ∧ (t.group g).sup.vfup = false ∧
      (t.group g).sup.uvlos = satInc (s.group g).sup.uvlos ∧ t.pendingWith (srcNo (64 + g.val)) 4 ∧
      (∀ n, grpOf n = g → s.isOdd n = false → (s.modeOf n).isSwitch = true →
        ((s.chan n).out.ps.isOn = true ∨ (s.chan n).out.ps = .pend) →
        (t.chan n).out.ps = .uvloOff ∧ (t.chan n).out.cmdOn = (s.chan n).out.cmdOn) ∧
      (∀ n, grpOf n = g → (t.chan n).inp.valid = false) ∧ s.touchesGrp t (chOf g) [g]) ∧
    (∃ t, exec (.uvloRise g) s = .next t ∧
      (t.group g).sup = { (s.group g).sup with uvlo := false, vfup := true } ∧ t.ev = s.ev ∧
      s.touchesGrp t [] [g]) ∧
    ((s.group g).sup.low = true → ∃ t, exec (.vfRecovery g vf) s = .next t ∧
      (t.group g).sup.low = false ∧ (t.group g).sup.uvlo = false ∧ (t.group g).sup.dark = false ∧
      (t.group g).sup.above = true ∧ (t.group g).sup.vfup = true ∧ (t.group g).sup.vf = vf ∧ t.pendingWith (srcNo (64 + g.val)) 5 ∧
      (∀ n, grpOf n ≠ g → t.chan n = s.chan n)) ∧
    (∀ n, (s.group g).sup.recovering = true → s.clearOn g = true → s.nextTurn g = some n →
      (s.modeOf n).isSwitch = true →
      (s.chan n).out.ps ≠ .tripWait → ∃ t, exec (.staggerSwitchOn g) s = .next t ∧
        (t.chan n).out.ps.isOn = true ∧ ∀ m, grpOf m ≠ g → t.chan m = s.chan m) ∧
    (∃ t, exec (.fieldLogicPowerDown g) s = .next t ∧ (t.group g).sup.ready = false ∧
      (s.comb.active = none → s.comb.jobs = [] → (t.group g).guard.fok = false ∧
        (t.group g).conv.refSettled = false ∧ (∀ n, grpOf n = g → (t.chan n).tvValid = false ∧
          (t.chan n).inp.valid = false ∧
          (s.pairOf n ≠ .parallel → (s.chan n).out.ps = .tripWait → (t.chan n).out.ps = .tripWait)) ∧
        ∀ n, grpOf n ≠ g → t.chan n = s.chan n))) ∧
  (∀ (s : State) (g : Grp) (cls : SupplyClass) (vf : BitVec 16), (s.group g).sup.ready = false →
    (s.group g).link.failed = false → s.hostUp = true →
    ∃ t, exec (.fieldDieReady g cls vf) s = .next t ∧ (t.group g).sup.ready = true ∧
      (t.group g).link.silent = false ∧ (t.group g).sup.uvlo = cls.uvlo ∧
      (t.group g).sup.low = (cls.low || cls.uvlo) ∧ (t.group g).sup.vf = vf ∧
      (t.group g).guard.copy = s.masterTable g ∧ t.ev = s.ev ∧
      ∀ n, (t.chan n).out.ps = (s.chan n).out.ps ∧ (t.chan n).cfg = (s.chan n).cfg) ∧
  (∀ (s : State) (present : Bool), exec (.vflChange present) s = .next { s with pw.vflOk := present })

/-- Rails, measurements, mis-wiring and the thermal backstop of analogue outputs; the AI_I sense trip. (04 R148, 06
R189, 06 R190, 06 R191, 06 R193, 06 R195, 06 R197, 06 R198) -/
def Obligations.AnalogueRows : Prop :=
  (∀ (s : State) (n : Ch) (mv tone : Int), s.railServed n = true →
    ∀ lo hi, lo = min (min (s.chan n).ao.rail (s.railLimit n)) (s.railReach n (s.railTarget n mv tone)) →
    hi = max (min (s.chan n).ao.rail (s.railLimit n)) (s.railReach n (s.railTarget n mv tone)) →
    (s.schedNow n = false → ∃ t, exec (.railSlot n mv tone) s = .next t ∧
      lo ≤ (t.chan n).ao.rail ∧ (t.chan n).ao.rail ≤ hi ∧ (t.chan n).ao.rail ≤ s.railLimit n ∧
      (t.chan n).hart.hclip = (bit (s.cfgOf n).hart 31 && decide ((s.railLimit n : Int) < tone + 1200)) ∧
      (t.chan n).ao.code = (s.chan n).ao.code ∧ t.ev = s.ev ∧ ∀ m, m ≠ n → t.chan m = s.chan m) ∧
    (s.schedNow n = true → (s.chan n).ao.railAt + 200 * micro ≤ s.time →
      ∃ t, exec (.railSlotInserted n mv tone) s = .next t ∧
      lo ≤ (t.chan n).ao.rail ∧ (t.chan n).ao.rail ≤ hi ∧ (t.chan n).ao.rail ≤ s.railLimit n ∧
      (t.chan n).ao.inserted = satInc (s.chan n).ao.inserted ∧
      (t.chan n).ao.code = (s.chan n).ao.code ∧ t.ev = s.ev ∧ ∀ m, m ≠ n → t.chan m = s.chan m)) ∧
  (∀ (s : State) (n : Ch), s.heard n = true → (s.modeOf n).isAo = true →
    (∀ m : AoMeas, ∃ t, exec (.aoMeasUpdate n m) s = .next t ∧
      (t.chan n).ao.readback = BitVec.ofInt 16 (clampInt (-32768) 32767 m.mean) ∧
      (t.chan n).ao.rloop =
        rloopOf (s.modeOf n) (if m.settled then (s.chan n).ao.settle m else (s.chan n).ao) m ∧
      (t.chan n).ao.code = (s.chan n).ao.code ∧
      (s.modeOf n = .aoISrc → (s.chan n).ao.blocked = false → (s.chan n).ao.off = false →
        s.supplied n = true → m.railAtLimit = true →
        (m.mean + 24) * 65535 < ((s.chan n).ao.code.toNat * 24000 : Nat) →
        (t.chan n).ao.compl = true ∧ bit (t.chan n).fault 31 = true ∧
        (1000 * 65535 ≤ (s.chan n).ao.code.toNat * 24000 → m.mean < 100 →
          bit (t.chan n).fault 30 = true)) ∧
      s.touches t [n]) ∧
    (∃ t, exec (.miswireDetected n) s = .next t ∧ (t.chan n).ao.blocked = true ∧
      (t.chan n).ao.miswire = true ∧ (s.modeOf n = .aoISrc → (t.chan n).ao.rail = 2500) ∧
      (t.chan n).fault = (s.chan n).fault ||| bitW 29 ∧ s.touches t [n]) ∧
    ((s.chan n).ao.retest = true → (s.chan n).ao.miswire = true →
      (∃ t, exec (.miswireRetestEnd n true) s = .next t ∧ (t.chan n).ao.miswire = true ∧
        (t.chan n).ao.retest = false ∧ (t.chan n).fault = (s.chan n).fault ||| bitW 29 ∧ s.touches t [n]) ∧
      (∃ t, exec (.miswireRetestEnd n false) s = .next t ∧ (t.chan n).ao.miswire = false ∧
        (t.chan n).ao.retest = false ∧ s.touchesGrp t (chOf (grpOf n)) [grpOf n])) ∧
    (∃ t, exec (.aoThermalTrip n) s = .next t ∧ (t.chan n).ao.blocked = true ∧ (t.chan n).ao.therm = true ∧
      (t.chan n).fault = (s.chan n).fault ||| bitW 28 ∧ s.touches t [n]) ∧
    ((s.chan n).ao.therm = true → ∃ t, exec (.aoThermalRestart n) s = .next t ∧
      (t.chan n).ao.therm = false ∧ s.touchesGrp t (chOf (grpOf n)) [grpOf n])) ∧
  (∀ (s : State) (n : Ch), s.heard n = true → s.modeOf n = .aiI → (s.chan n).ai.senseOpen = false →
    ∃ t, exec (.aiISenseTrip n) s = .next t ∧ (t.chan n).ai.senseOpen = true ∧
      (t.chan n).inp.valid = false ∧ (t.chan n).fault = (s.chan n).fault ||| bitW 31 ∧ s.touches t [n])

/-- Messages over the swarm: routed commands and responses, event records, results. (05 R173, 09 R304, 12 R374, 12
R378, 12 R379, 12 R381) -/
def Obligations.SwarmMessages : Prop :=
  (∀ (s : State) (src : Addr) (tag : BitVec 8) (w v : Word), s.isNode = true → s.swarmCore = true →
    s.pw.window = none → opcodeOf w = 3 → (∀ k ∈ s.sw.kept, k.1 ≠ src) →
    (∀ o ∈ s.port.outst, o.sender = .host) → (∀ x ∈ s.sw.lostMsgs, x.2.1 ≠ src) →
    ∀ u, u = (((s.swarmIn (src == 0) true).endMsg [.control] src tag 1 false).1).wake →
    u.refusal (.swarm src) getObjSpec 0 (w.setWidth 24) [] = none →
    objIndex (w.setWidth 24) ≠ 0xD08 → objIndex (w.setWidth 24) ≠ 0xD09 →
    u.readObj (objIndex (w.setWidth 24)) = some v →
    ∃ t, exec (.swarmCmdReceived src tag false [w]) s = .next t ∧ t.ch = s.ch ∧ t.comb = s.comb ∧
      t.ev = s.ev ∧ t.port.outst = s.port.outst ∧ (src = 0 → t.wd.hsLast = s.time) ∧
      ∃ r, t.sw.kept = s.sw.kept ++ [(src, r)] ∧ r.seq = tag ∧
        r.words = [u.rspWord 0x03 .ok 0, v, 0]) ∧
  (∀ (s : State) (src : Addr) (tag : BitVec 8) (ws : List Word) (o : Outst), s.isRoot = true →
    s.swarmCore = true → s.leavingKey (routeKey tag) = false → (∀ x ∈ s.sw.lostMsgs, x.2.1 ≠ src) →
    (s.port.outst.find? fun x => x.key == routeKey tag && !x.answered) = some o → o.sender = .host →
    o.opcode = 0x31 →
    ∃ t, exec (.swarmRspReceived src tag ws) s = .next t ∧
      t.port.rsp = s.port.rsp ++ [{ mb := o.frame.mb, seq := o.frame.seq, bulk := o.frame.bulk, crc := o.crc,
                                    counts := true, words := t.rspWord 0x31 .ok 0 :: src.setWidth 32 :: ws }] ∧
      t.ch = s.ch ∧ t.comb = s.comb) ∧
  (∀ (s : State) (src : Addr) (tag : BitVec 8) (recs : List EvRecord) (n : Nat), s.isRoot = true →
    s.swarmCore = true → (∀ x ∈ s.sw.lostMsgs, x.2.1 ≠ src) → n = 256 - s.sw.revq.length →
    ∃ t, exec (.swarmEventReceived src tag recs) s = .next t ∧
      t.sw.revq = s.sw.revq ++ (recs.take n).map (fun r => (src, r)) ∧
      t.sw.holds = satAdd s.sw.holds (recs.length - n) ∧ t.ch = s.ch ∧
      (recs ≠ [] → recs.length ≤ n → t.pendingWith 103 1) ∧
      (recs ≠ [] → n = 0 → s.spaced s.sw.lastEv103 (10 * milli) = true → t.pendingWith 103 2)) ∧
  (∀ (s : State) (src : Addr) (tag : BitVec 8), s.isNode = true → s.swarmCore = true →
    ((∀ x ∈ s.sw.foreign, x.1 ≠ tag) →
      (∀ k : Fin 128, s.sw.offer = [s.eventRecord k] → ∃ t, exec (.swarmRevackReceived src tag 1) s = .next t ∧
        t.sw.offer = [] ∧ t.ev.src[k.val].undel = false ∧ t.ev.src[k.val].raises = 0 ∧
        (∀ j : Fin 128, j ≠ k → t.ev.src[j.val] = s.ev.src[j.val]) ∧ t.ch = s.ch) ∧
      (∃ t, exec (.swarmRevackReceived src tag 0) s = .next t ∧ t.sw.offer = s.sw.offer ∧ t.ev = s.ev ∧
        t.ch = s.ch)) ∧
    (∀ d, (tag, d) ∈ s.sw.foreign →
      (∃ t, exec (.swarmRevackReceived src tag 0) s = .next t ∧ t.rcd.peerRef = satInc s.rcd.peerRef ∧
        (∀ x ∈ t.sw.foreign, x.1 ≠ tag) ∧ t.sw.offer = s.sw.offer ∧ t.ch = s.ch) ∧
      (∃ t, exec (.swarmRevackReceived src tag 1) s = .next t ∧ t.rcd = s.rcd ∧
        (∀ x ∈ t.sw.foreign, x.1 ≠ tag) ∧ t.sw.offer = s.sw.offer ∧ t.ch = s.ch)) ∧
    (s.sw.addrv = true → s.sw.offer ≠ [] → ∃ t, exec .remoteEventReoffer s = .next t ∧
      t.sw.offer = s.readyRecords ∧ t.ev = s.ev ∧ t.ch = s.ch)) ∧
  (∀ (s : State) (src : Addr) (tag : BitVec 8) (e : QEntry), s.isRoot = true → s.swarmOn = true →
    s.hostUp = true → (∀ x ∈ s.sw.lostMsgs, x.2.1 ≠ src) →
    s.res.poll.fill + s.res.poll.need (relayed src e) 0 ≤ s.res.sizeOf false →
    ∃ t, exec (.swarmResultsReceived src tag false [e]) s = .next t ∧
      t.res.poll.entries = (s.res.poll.enter (relayed src e) 0).entries ∧ t.res.strm = s.res.strm ∧
      t.ch = s.ch ∧ t.comb = s.comb)

/-- Triggers of the swarm and heartbeats. (05 R184, 08 R274, 12 R380, 12 R385, 12 R386) -/
def Obligations.SwarmBeats : Prop :=
  (∀ (s : State) (x : Trigger) (bcast : Bool), s.swarmOn = true → s.hostUp = true →
    (s.sw.st.toNat < x.st.toNat → s.sw.trigs.length < 8 →
      ∃ t, exec (.swarmTriggerReceived x bcast) s = .next t ∧ t.sw.trigs = s.sw.trigs ++ [x] ∧
        t.sw.missed = s.sw.missed ∧ t.ch = s.ch ∧ t.ev = s.ev) ∧
    (s.sw.st.toNat < x.st.toNat → 8 ≤ s.sw.trigs.length →
      ∃ t, exec (.swarmTriggerReceived x bcast) s = .next t ∧ t.sw.trigs = s.sw.trigs ∧
        t.sw.missed = satInc s.sw.missed ∧ t.ch = s.ch) ∧
    (x.st.toNat ≤ s.sw.st.toNat →
      ∃ t, exec (.swarmTriggerReceived x bcast) s = .next t ∧ t.sw.trigs = s.sw.trigs ∧
        t.sw.missed = satInc s.sw.missed ∧ t.pendingWith 100 3 ∧ t.ch = s.ch)) ∧
  (∀ (s : State) (x : Trigger), s.swarmOn = true → s.hostUp = true → x ∈ s.sw.trigs →
    x.st.toNat ≤ s.sw.st.toNat → x.snap = false →
    ((s.isNode = false ∨ s.sw.synced = true) →
      ∃ t, exec (.swarmTriggerFire x) s = .next t ∧ t.sw.trigs = s.sw.trigs.erase x ∧
        t.sw.syncPulses = (if x.pulse = true ∧ s.sw.syncEn = true then s.sw.syncPulses + 1
          else s.sw.syncPulses) ∧
        (x.capture = true → fld s.res.cap.cfg 29 27 = 3 → s.res.cap.state = .armed →
          t.res.cap.state ≠ .armed ∧ t.res.cap.tstamp = s.stampNow) ∧
        (x.capture = false → t.res = s.res) ∧ t.ch = s.ch) ∧
    (s.isNode = true → s.sw.synced = false →
      ∃ t, exec (.swarmTriggerFire x) s = .next t ∧ t.sw.trigs = s.sw.trigs.erase x ∧
        t.sw.missed = satInc s.sw.missed ∧ t.pendingWith 100 3 ∧ t.res = s.res ∧ t.ch = s.ch)) ∧
  (∀ (s : State), s.isRoot = true → s.swarmOn = true → s.hostUp = true → s.feat 4 = true →
    s.sw.heartbeatDue = true →
    (s.spaced s.sw.lastHeartbeat (50 * micro) = true →
      ∃ t, exec .heartbeatSend s = .next t ∧ t.sw.heartbeatDue = false ∧
        t.sw.lastHeartbeat = some s.time ∧ t.ch = s.ch ∧ t.ev = s.ev) ∧
    (s.spaced s.sw.lastHeartbeat (50 * micro) = false → exec .heartbeatSend s = .next s)) ∧
  (∀ (s : State) (w : Word), s.isNode = true → s.swarmOn = true → s.hostUp = true → s.pw.neg = true →
    ∃ t, exec (.heartbeatReceived w) s = .next t ∧ t.wd.hsLast = s.time ∧ t.sw.rootFeatures = w ∧
      t.ch = s.ch ∧ t.ev = s.ev ∧ t.sec = s.sec)

/-- Enumeration, healing, link state, and ports that go down and up. (12 R363, 12 R375, 12 R376, 12 R377, 12 R382,
12 R389) -/
def Obligations.SwarmWiring : Prop :=
  (∀ (s : State) (q : Port) (a : Addr) (p : Port) (rest : List (Addr × Port)) (sn : Vector Word 4) (far : Port)
    (d : BitVec 16), s.isRoot = true → s.swarmCore = true → s.portOn q = true → s.sw.enumBusy = true →
    s.sw.walk = (a, p) :: rest →
    ((∀ x ∈ s.sw.serials, x.2 ≠ sn) → s.sw.skip = [] →
      (∀ lat, lat = s.sw.latOf a + (if a = 0 then (s.swPort p).delay.toNat / 4 else 320 + d.toNat / 4) →
        (lat ≤ s.sw.budget.toNat → s.sw.nodes ≠ 4095 →
          ∃ t, exec (.enumReceived q (.found sn 2 far d)) s = .next t ∧ t.sw.nodes = s.sw.nodes + 1 ∧
            t.sw.routes = s.sw.routes ++ [(s.sw.nodes + 1, if a = 0 then p else (s.routeTo a).getD p)] ∧
            t.sw.links = s.sw.links ++ [{ node := s.sw.nodes + 1, nodePort := far, parent := a, port := p,
                                          lat := BitVec.ofNat 17 lat }] ∧
            t.sw.serials = s.sw.serials ++ [(s.sw.nodes + 1, sn)] ∧
            t.sw.maxLat.toNat = max s.sw.maxLat.toNat lat ∧ t.ch = s.ch ∧ t.ev = s.ev) ∧
        (s.sw.budget.toNat < lat → ∀ c k l, rest = (c, k) :: l → c ≠ 0 →
          ∃ t, exec (.enumReceived q (.found sn 2 far d)) s = .next t ∧ t.sw.nodes = s.sw.nodes ∧
            t.sw.refused = satInc s.sw.refused ∧ t.sw.routes = s.sw.routes ∧ t.pendingWith 102 2 ∧
            t.ch = s.ch)) ∧
      (∀ c k l, rest = (c, k) :: l → c ≠ 0 →
        ∃ t, exec (.enumReceived q (.found sn 1 far d)) s = .next t ∧ t.sw.nodes = s.sw.nodes ∧
          t.sw.refused = satInc s.sw.refused ∧ t.sw.routes = s.sw.routes ∧ t.pendingWith 102 3 ∧ t.ch = s.ch)) ∧
    (∀ (b : Addr) (role : BitVec 2), a = 0 → b ≠ 0 → (s.sw.serials.find? fun x => x.2 == sn) = some (b, sn) →
      ∃ t, exec (.enumReceived q (.found sn role far d)) s = .next t ∧ t.sw.ring = 1 ∧
        t.sw.ringEnds = some ((0, p), (b, far)) ∧ (t.swPort p).use = 3 ∧ t.sw.nodes = s.sw.nodes ∧
        t.sw.routes = s.sw.routes ∧ t.ch = s.ch) ∧
    (rest = [] → ∃ t, exec (.enumReceived q .nothing) s = .next t ∧ t.sw.enumBusy = false ∧
      t.pendingWith 102 1 ∧ t.sw.routes = s.sw.routes ∧ t.ch = s.ch ∧
      ∀ o, (s.port.outst.find? fun x => x.key == enumKey && !x.answered) = some o → o.sender = .host →
        o.opcode = 0x30 →
        t.port.rsp = s.port.rsp ++ [{ mb := o.frame.mb, seq := o.frame.seq, bulk := o.frame.bulk, crc := o.crc,
                                      counts := true, words := t.rspWord 0x30 .ok 0 :: t.enumWords }])) ∧
  (∀ (s : State) (q : Port) (a : Addr) (st : BitVec 64) (f : Word) (lat : BitVec 17) (hops : BitVec 12),
    s.isNode = true → s.swarmCore = true → s.portOn q = true →
    ∃ t, exec (.enumReceived q (.assign a st f lat hops)) s = .next t ∧ t.sw.addr = a ∧
      t.sw.addrv = true ∧ t.sw.lat = lat ∧ t.sw.hops = hops ∧ t.sec.acc = f &&& s.sec.offer ∧
      t.pw.neg = true ∧ (s.comb.active = none → t.sw.st = st) ∧
      (s.sw.addrv = true → s.sw.addr ≠ a → t.pendingWith 102 5)) ∧
  (∀ (s : State), s.isNode = true → s.swarmCore = true → s.portOn 1 = true →
    ∃ t, exec (.healReceived 1) s = .next t ∧ (t.swPort 1).use = 1 ∧
      (t.swPort 0).use = (if s.portUp 0 then 2 else 3) ∧ t.ch = s.ch ∧ t.ev = s.ev) ∧
  (∀ (s : State) (a : Addr) (p : Port), s.isRoot = true → s.swarmCore = true →
    ((a, p) ∉ s.sw.broken → s.sw.ringEnds = none → ∃ t, exec (.linkstateReceived a p false) s = .next t ∧
      t.sw.broken = s.sw.broken ++ [(a, p)] ∧ t.ch = s.ch ∧ t.ev = s.ev) ∧
    (∀ near far, s.sw.broken = [] → s.sw.ring = 1 → s.sw.ringEnds = some (near, far) →
      ((a, p) = near ∨ (a, p) = far → ∃ t, exec (.linkstateReceived a p false) s = .next t ∧ t.sw.ring = 2 ∧
        t.sw.broken = [(a, p)] ∧ t.pendingWith 99 1 ∧ t.ch = s.ch) ∧
      (∀ l, (a, p) ≠ near → (a, p) ≠ far → (s.sw.links.find? fun x => x.has a p) = some l →
        l.node ∈ s.sw.path near.1 ++ s.sw.path far.1 → near.1 = 0 → s.portUp near.2 = true →
        s.sw.healRo = false →
        ∃ t, exec (.linkstateReceived a p false) s = .next t ∧ t.sw.ring = 3 ∧
          t.sw.ringEnds = some ((l.parent, l.port), (l.node, l.nodePort)) ∧ (t.swPort near.2).use = 2 ∧
          t.pendingWith 99 2 ∧ t.ch = s.ch)) ∧
    (s.sw.broken = [(a, p)] → (s.sw.ring = 2 ∨ s.sw.ring = 3) → s.sw.ringEnds ≠ none →
      ∃ t, exec (.linkstateReceived a p true) s = .next t ∧ t.sw.ring = 1 ∧ t.sw.broken = [] ∧
        t.pendingWith 99 3 ∧ t.ch = s.ch)) ∧
  (∀ (s : State) (p : Port), s.swarmOn = true → s.hostUp = true →
    (s.portUp p = true → ∃ t, exec (.portDown p) s = .next t ∧ (t.swPort p).state = 1 ∧
      t.pendingWith (srcNo (96 + p.val)) 2 ∧ t.ch = s.ch ∧
      ∀ q, q ≠ p → (t.swPort q).state = (s.swPort q).state) ∧
    (((s.swPort p).state = 1 ∨ (s.swPort p).state = 2) →
      ∃ t, exec (.portUp p) s = .next t ∧ (t.swPort p).state = 3 ∧
        t.pendingWith (srcNo (96 + p.val)) 1 ∧ t.ch = s.ch ∧
        ∀ q, q ≠ p → (t.swPort q).state = (s.swPort q).state))

/-- Frames, segments and ordered sets of the swarm, peer records, and the swarm time. (09 R304, 12 R367, 12 R368, 12
R369, 12 R370, 12 R371, 12 R372, 12 R373, 12 R383, 12 R384, 12 R389) -/
def Obligations.SwarmFrames : Prop :=
  (∀ (s : State) (p q : Port) (f : SwFrame), s.portOn p = true → kindFits f.kind.toNat f.cls = true →
    f.bcast = false → f.dst ≠ s.ownAddr → s.forwardPort f.dst = some q → s.portUp q = true →
    (∀ k, ∀ x ∈ (s.swPort k).waiting, x.2.cls ≠ f.cls) →
    (frameBlocks f ≤ (s.swPort q).creditOf f.cls →
      ∃ t, exec (.swarmFrameForward p f) s = .next t ∧
        t.sw.out = s.sw.out ++ [(q, .frame { f with hops := f.hops + 1 }), (p, .credit f.cls (frameBlocks f))] ∧
        (t.swPort q).creditOf f.cls = (s.swPort q).creditOf f.cls - frameBlocks f ∧ t.ch = s.ch ∧ t.ev = s.ev) ∧
    ((s.swPort q).creditOf f.cls < frameBlocks f →
      ∃ t, exec (.swarmFrameForward p f) s = .next t ∧ t.sw.out = s.sw.out ∧
        (t.swPort q).waiting = (s.swPort q).waiting ++ [(some p, { f with hops := f.hops + 1 })] ∧
        t.ch = s.ch ∧ t.ev = s.ev)) ∧
  (∀ (s : State) (p : Port), s.portOn p = true →
    (∃ t, exec (.swarmFrameDiscard p none) s = .next t ∧ (t.swPort p).errs = satInc (s.swPort p).errs ∧
      t.sw.out = s.sw.out ∧ t.sw.segs = s.sw.segs ∧ t.ch = s.ch) ∧
    (∀ (c : SwClass) (src : Addr) (tag : BitVec 8) (ws : List Word),
      (∃ t, exec (.swarmFrameDiscard p (some (c, src, tag))) s = .next t ∧
        (t.swPort p).errs = satInc (s.swPort p).errs ∧ (c, src, tag) ∈ t.sw.lostMsgs ∧
        (∀ x ∈ t.sw.segs, (x.cls, x.src, x.tag) ≠ (c, src, tag)) ∧ t.ch = s.ch) ∧
      ((∀ x ∈ s.sw.segs, x.src ≠ src) → ws.length ≤ 4096 →
        ((∀ x ∈ s.sw.lostMsgs, x.2.1 ≠ src) →
          ∃ t, exec (.swarmSegmentReceived p c src tag ws) s = .next t ∧ t.ch = s.ch ∧ t.ev = s.ev ∧
            t.sw.segs = s.sw.segs ++ [{ port := p, cls := c, src := src, tag := tag, words := ws, opened := s.time }] ∧
            t.sw.out = s.sw.out ++ [(p, .credit c (blocksOf ws.length))] ∧ t.sw.lostMsgs = s.sw.lostMsgs) ∧
        ((c, src, tag) ∈ s.sw.lostMsgs →
          ∃ t, exec (.swarmSegmentReceived p c src tag ws) s = .next t ∧ t.sw.segs = s.sw.segs ∧
            t.sw.lostMsgs = s.sw.lostMsgs ∧ t.ch = s.ch ∧ t.ev = s.ev)) ∧
      (∀ h, s.sw.segs = [h] → h.src = src → h.cls = c → h.tag = tag → (h.words ++ ws).length ≤ 4096 →
        (∀ x ∈ s.sw.lostMsgs, x.2.1 ≠ src) →
        ∃ t, exec (.swarmSegmentReceived p c src tag ws) s = .next t ∧ t.ch = s.ch ∧ t.ev = s.ev ∧
          t.sw.segs = [{ port := p, cls := c, src := src, tag := tag, words := h.words ++ ws, opened := h.opened }]) ∧
      (∀ h, s.sw.segs = [h] → h.port = p → h.src = src → h.cls = c → h.tag = tag →
        h.opened + 10 * milli ≤ s.time →
        ∃ t, exec (.swarmSegmentTimeout p c src tag) s = .next t ∧ t.sw.segs = [] ∧
          (t.swPort p).errs = satInc (s.swPort p).errs ∧ (c, src, tag) ∈ t.sw.lostMsgs ∧
          t.ch = s.ch ∧ t.ev = s.ev)) ∧
    ((s.swPort p).state = 1 → ∀ b, exec (.linkSetReceived p b) s =
      .next (s.modPort p fun x => { x with state := 2 })) ∧
    (exec (.linkSetSend p) s = .next { s with sw := { s.sw with out := s.sw.out ++ [(p, .link (BitVec.ofNat 8
      (s.port.strap1.toNat * 64 + (s.swPort p).state.toNat % 4 * 16 + p.val)))] } }) ∧
    (∀ seq ta, exec (.pdReqReceived p seq ta) s =
      .next { s with sw := { s.sw with out := s.sw.out ++ [(p, .pdRsp seq ta)] } })) ∧
  (∀ (s : State) (src : Addr) (tag : BitVec 8) (r : Record), s.swarmCore = true →
    (∀ x ∈ s.sw.lostMsgs, x.2.1 ≠ src) →
    (s.feat 9 = true → s.recHealth ≠ 2 → s.rcd.full = false → s.rcd.stopped = false → s.rcd.intake.length < 254 →
      ∃ t, exec (.foreignReceived src tag r) s = .next t ∧
        t.rcd.intake.map (fun e => (e.source, e.code, e.p0)) =
          s.rcd.intake.map (fun e => (e.source, e.code, e.p0)) ++
          [(0xF6, r.code, r.index), (0xF7, r.subject, r.p0)] ∧ t.ch = s.ch ∧ t.ev = s.ev) ∧
    (s.feat 9 = false → ∃ t, exec (.foreignReceived src tag r) s = .next t ∧ t.rcd = s.rcd ∧ t.ch = s.ch ∧
      t.ev = s.ev)) ∧
  (∀ (s : State) (p : Port), s.swarmOn = true → s.portUp p = true →
    (∀ (c : SwClass) (n : Nat), (s.swPort p).waiting = [] → s.sw.leaving = [] →
      ∃ t, exec (.creditSetReceived p c n) s = .next t ∧ (t.swPort p).creditOf c =
        min (fullCredit[swClassCode c]'(classLt c)) ((s.swPort p).creditOf c + n) ∧ t.ch = s.ch) ∧
    (∃ t, exec (.pdReqSend p) s = .next t ∧ (t.swPort p).pdSeq = (s.swPort p).pdSeq + 1 ∧
      t.sw.out = s.sw.out ++ [(p, .pdReq ((s.swPort p).pdSeq + 1))] ∧ t.ch = s.ch) ∧
    (∀ ta rt, exec (.pdRspReceived p (s.swPort p).pdSeq ta rt) s =
      .next (s.modPort p fun x => { x with delay := BitVec.ofNat 16 ((rt - ta) / 2) })) ∧
    ((s.swPort p).use = 2 → exec (.syncSend p) s = .next { s with sw := { s.sw with
      out := s.sw.out ++ [(p, .sync (BitVec.ofInt 48 (((s.sw.st.toNat : Int) * 1000 + s.sw.frac) / 5)))] } }) ∧
    (s.isNode = true → s.upstream = some p → s.hostUp = true →
      ∀ (sent : BitVec 48) (sub : Nat) (d : Int), d = s.syncOffset p sent sub →
      (d.natAbs ≤ 400 → s.sw.goodSyncs = 2 → s.sw.synced = false →
        ∃ t, exec (.syncReceived p sent sub) s = .next t ∧ t.sw.synced = true ∧
          t.sw.offset = BitVec.ofInt 24 d ∧ t.pendingWith 100 2) ∧
      (400 < d.natAbs → d.natAbs ≤ 4000 → ∃ t, exec (.syncReceived p sent sub) s = .next t ∧
        t.sw.synced = s.sw.synced ∧ t.sw.goodSyncs = 0 ∧ t.sw.offset = BitVec.ofInt 24 d ∧ t.ch = s.ch) ∧
      (4000 < d.natAbs → s.sw.synced = true → ∃ t, exec (.syncReceived p sent sub) s = .next t ∧
        t.sw.synced = false ∧ t.sw.losses = satInc s.sw.losses ∧ t.pendingWith 100 1))) ∧
  (∀ (s : State) (silent : Bool), s.isNode = true → s.swarmOn = true → s.hostUp = true →
    s.sw.synced = true → (silent = true → s.sw.lastSync + 10 * milli ≤ s.time) →
    (silent = false → 4000 < s.sw.offset.toInt.natAbs) →
    ∃ t, exec (.syncLost silent) s = .next t ∧ t.sw.synced = false ∧ t.sw.goodSyncs = 0 ∧
      t.sw.losses = satInc s.sw.losses ∧ t.pendingWith 100 1) ∧
  (∀ (s : State) (p : Port) (c : SwClass) (o : Option Port) (f : SwFrame), s.swarmOn = true → s.hostUp = true →
    s.portUp p = true → (o, f) ∈ (s.swPort p).waiting → f.cls = c →
    ∃ t, exec (.creditStarvation p c) s = .next t ∧ t.pendingWith 101 (swClassCode c + 1) ∧ s.logsOver t)

/-- DOZE_ENTRY, waking, SERVICE_SILENCE, the host die's temperature, a debugger's halt. (08 R283, 13 R402, 13 R404,
13 R405, 13 R415, 13 R416, 13 R425) -/
def Obligations.PowerRows : Prop :=
  (∀ s : State, s.pw.mode = .run → s.pw.dstate ≠ .d0 → s.hostUp = true → s.keepsAwake = false →
    s.wd.hsLast + milli ≤ s.time → s.port.sentAt + milli ≤ s.time →
    exec .dozeEntry s = .next { s with pw := { s.pw with mode := .doze, waking := false } }) ∧
  (∀ s : State, (s.pw.mode ≠ .run ∨ s.pw.dstate = .d0 ∨ s.keepsAwake = true ∨
      s.time < s.wd.hsLast + milli ∨ s.time < s.port.sentAt + milli) →
    exec .dozeEntry s = .next s) ∧
  (∀ s : State, s.pw.mode = .doze →
    exec .policyWakeTimer s = .next { s with pw := { s.pw with waking := true } } ∧
    exec .wakeComplete s = .next { s with pw := { s.pw with mode := .run, waking := false } }) ∧
  (∀ s : State, s.pw.mode ≠ .doze → exec .wakeComplete s = .next s ∧ exec .policyWakeTimer s = .next s) ∧
  (∀ s : State, s.pw.mode = .service → s.hostUp = true →
    s.port.heardAt + 10000 * milli ≤ s.time →
    ∃ t, exec .serviceSilence s = .next t ∧ t.pw.mode = .standby ∧ t.pw.prev = .service ∧
      t.pw.cause = 5 ∧ t.comb.started = false ∧ t.pendingWith 120 2 ∧
      ∀ n, (s.chan n).guard.held = false → (s.chan n).actMode.isSwitch = true →
        (s.chan n).out.ps ≠ .lockedOff → (t.chan n).out.cmdOn = false) ∧
  (∀ (s : State) (hot : Bool) (temp : BitVec 8), s.hostUp = true →
    ∃ t, exec (.hostDieOvertemp hot temp) s = .next t ∧ t.pw.htemp = temp ∧
      t.pendingWith 125 (if hot then 1 else 2) ∧
      State.logsOver { s with pw := { s.pw with htemp := temp } } t) ∧
  (∀ s : State, s.hostUp = true →
    (s.sec.dbgOpen = true → s.pw.halted = false → exec .debuggerHalt s =
      .next { s with pw := { s.pw with halted := true, haltedAt := s.time } }) ∧
    ((s.sec.dbgOpen = false ∨ s.pw.halted = true) → exec .debuggerHalt s = .next s)) ∧
  (∀ s : State,
    (s.pw.halted = true → s.port.bufs = [] → exec .debuggerResume s = .next { s with
      pw := { s.pw with halted := false }
      wd := { s.wd with taskStart := s.wd.taskStart.map fun x => x + (s.time - s.pw.haltedAt) } }) ∧
    (s.pw.halted = false → exec .debuggerResume s = .next s))

/-- A rejected image leaves the active bank, the comb's position and its counters as they are. (07 R238) -/
def Obligations.RejectedImage : Prop :=
  (∀ (s : State) (st : Status) (r : BitVec 4) (i : BitVec 13), s.comb.verdict = some (st, r, i) →
    ∃ t, exec .combVerifyComplete s = .next t ∧ t.comb.actBank = s.comb.actBank ∧
      t.comb.active = s.comb.active ∧ t.comb.bank0 = s.comb.bank0 ∧ t.comb.bank1 = s.comb.bank1 ∧
      (∀ g, (t.group g).pos = (s.group g).pos) ∧ t.comb.late = s.comb.late ∧
      t.comb.skipped = s.comb.skipped ∧ t.comb.stalls = s.comb.stalls ∧
      t.comb.reversals = s.comb.reversals ∧ t.comb.applyConf = s.comb.applyConf) ∧
  (∀ (s : State) (c : Cmd), ∃ t, exec (.combCommit c) s = .next t ∧ t.comb.actBank = s.comb.actBank ∧
      t.comb.active = s.comb.active ∧ t.comb.bank0 = s.comb.bank0 ∧ t.comb.bank1 = s.comb.bank1 ∧
      (∀ g, (t.group g).pos = (s.group g).pos) ∧ t.comb.late = s.comb.late ∧
      t.comb.skipped = s.comb.skipped ∧ t.comb.stalls = s.comb.stalls ∧
      t.comb.reversals = s.comb.reversals ∧ t.comb.applyConf = s.comb.applyConf)

/-- A command that its mode does not allow changes nothing: it serves the host-silence timer, is counted, and
answers the mode. (11 R347) -/
def Obligations.WrongState : Prop :=
  ∀ (i : Instr) (c : CmdSpec) (body : Body) (m : Cmd) (s u : State),
    (∀ x, exec i x = .next (x.hostCmd c body m)) → c.op < 256 → u = s.received m.frame →
    s.wholeIn c.op m = true → (s.pw.halted = false ∨ c.op = 0x20) → u.keptFor m.frame (s.crcOf c.op m) = none →
    u.repeatsOutst .host m.frame (s.crcOf c.op m) = false → u.pw.window = none →
    (u.outstanding true m.frame.mb).length < mbLimit m.frame.mb →
    u.refusal .host c m.frame.mb m.args m.words = some .wrongState →
    (∀ t st d r, body .host m.args m.words u = (t, .now st d r) → Status.wrongState.rank ≤ st.rank) →
    u.wd = s.wd.serveHs s.time ∧
    ∃ t, exec i s = .next t ∧ State.answers s
      { u with port := { u.port with cnt := { u.port.cnt with wrongState := satInc u.port.cnt.wrongState } } }
      t m c.op .wrongState 0 (if c.op = 0x12 then [u.combLoadW] else [])

/-- Below UVLO every on-state and PEND channel of the group goes to UVLO_OFF and keeps its commanded state. (03
R118) -/
def Obligations.UvloOff : Prop :=
  ∀ (s : State) (g : Grp) (vf : BitVec 16), s.dieUp g = true → (s.group g).sup.uvlo = false →
    ∃ t, exec (.uvloFall g vf) s = .next t ∧ ∀ n, grpOf n = g → (s.modeOf n).isSwitch = true →
      ((s.chan n).out.ps.isOn = true ∨ (s.chan n).out.ps = .pend) →
      (t.chan n).out.ps = .uvloOff ∧ (t.chan n).out.duty = 0 ∧
      (s.isOdd n = false → (t.chan n).out.cmdOn = (s.chan n).out.cmdOn ∧
        (t.chan n).out.cmdDuty = (s.chan n).out.cmdDuty)
end

