-- ==== Sys2Proof/Laws/State.lean ====
section
/-! SUPPORT. What each update of the state leaves and what it writes: one lemma for each field and update. -/

namespace Sys2Proof.Machine

variable (s : State)

/-! ### setCh -/

@[simp] theorem State.setCh_time (n : Ch) (c : Channel) : (s.setCh n c).time = s.time := rfl
@[simp] theorem State.setCh_free (n : Ch) (c : Channel) : (s.setCh n c).free = s.free := rfl
@[simp] theorem State.setCh_grp (n : Ch) (c : Channel) : (s.setCh n c).grp = s.grp := rfl
@[simp] theorem State.setCh_comb (n : Ch) (c : Channel) : (s.setCh n c).comb = s.comb := rfl
@[simp] theorem State.setCh_res (n : Ch) (c : Channel) : (s.setCh n c).res = s.res := rfl
@[simp] theorem State.setCh_ev (n : Ch) (c : Channel) : (s.setCh n c).ev = s.ev := rfl
@[simp] theorem State.setCh_rcd (n : Ch) (c : Channel) : (s.setCh n c).rcd = s.rcd := rfl
@[simp] theorem State.setCh_port (n : Ch) (c : Channel) : (s.setCh n c).port = s.port := rfl
@[simp] theorem State.setCh_wd (n : Ch) (c : Channel) : (s.setCh n c).wd = s.wd := rfl
@[simp] theorem State.setCh_safe (n : Ch) (c : Channel) : (s.setCh n c).safe = s.safe := rfl
@[simp] theorem State.setCh_sw (n : Ch) (c : Channel) : (s.setCh n c).sw = s.sw := rfl
@[simp] theorem State.setCh_pw (n : Ch) (c : Channel) : (s.setCh n c).pw = s.pw := rfl
@[simp] theorem State.setCh_sec (n : Ch) (c : Channel) : (s.setCh n c).sec = s.sec := rfl
@[simp] theorem State.setCh_tap (n : Ch) (c : Channel) : (s.setCh n c).tap = s.tap := rfl
@[simp] theorem State.setCh_pending (n : Ch) (c : Channel) : (s.setCh n c).pending = s.pending := rfl

/-! ### modCh -/

@[simp] theorem State.modCh_time (n : Ch) (f : Channel → Channel) : (s.modCh n f).time = s.time := rfl
@[simp] theorem State.modCh_free (n : Ch) (f : Channel → Channel) : (s.modCh n f).free = s.free := rfl
@[simp] theorem State.modCh_grp (n : Ch) (f : Channel → Channel) : (s.modCh n f).grp = s.grp := rfl
@[simp] theorem State.modCh_comb (n : Ch) (f : Channel → Channel) : (s.modCh n f).comb = s.comb := rfl
@[simp] theorem State.modCh_res (n : Ch) (f : Channel → Channel) : (s.modCh n f).res = s.res := rfl
@[simp] theorem State.modCh_ev (n : Ch) (f : Channel → Channel) : (s.modCh n f).ev = s.ev := rfl
@[simp] theorem State.modCh_rcd (n : Ch) (f : Channel → Channel) : (s.modCh n f).rcd = s.rcd := rfl
@[simp] theorem State.modCh_port (n : Ch) (f : Channel → Channel) : (s.modCh n f).port = s.port := rfl
@[simp] theorem State.modCh_wd (n : Ch) (f : Channel → Channel) : (s.modCh n f).wd = s.wd := rfl
@[simp] theorem State.modCh_safe (n : Ch) (f : Channel → Channel) : (s.modCh n f).safe = s.safe := rfl
@[simp] theorem State.modCh_sw (n : Ch) (f : Channel → Channel) : (s.modCh n f).sw = s.sw := rfl
@[simp] theorem State.modCh_pw (n : Ch) (f : Channel → Channel) : (s.modCh n f).pw = s.pw := rfl
@[simp] theorem State.modCh_sec (n : Ch) (f : Channel → Channel) : (s.modCh n f).sec = s.sec := rfl
@[simp] theorem State.modCh_tap (n : Ch) (f : Channel → Channel) : (s.modCh n f).tap = s.tap := rfl
@[simp] theorem State.modCh_pending (n : Ch) (f : Channel → Channel) : (s.modCh n f).pending = s.pending := rfl

/-! ### modOut -/

@[simp] theorem State.modOut_time (n : Ch) (f : ChOut → ChOut) : (s.modOut n f).time = s.time := rfl
@[simp] theorem State.modOut_free (n : Ch) (f : ChOut → ChOut) : (s.modOut n f).free = s.free := rfl
@[simp] theorem State.modOut_grp (n : Ch) (f : ChOut → ChOut) : (s.modOut n f).grp = s.grp := rfl
@[simp] theorem State.modOut_comb (n : Ch) (f : ChOut → ChOut) : (s.modOut n f).comb = s.comb := rfl
@[simp] theorem State.modOut_res (n : Ch) (f : ChOut → ChOut) : (s.modOut n f).res = s.res := rfl
@[simp] theorem State.modOut_ev (n : Ch) (f : ChOut → ChOut) : (s.modOut n f).ev = s.ev := rfl
@[simp] theorem State.modOut_rcd (n : Ch) (f : ChOut → ChOut) : (s.modOut n f).rcd = s.rcd := rfl
@[simp] theorem State.modOut_port (n : Ch) (f : ChOut → ChOut) : (s.modOut n f).port = s.port := rfl
@[simp] theorem State.modOut_wd (n : Ch) (f : ChOut → ChOut) : (s.modOut n f).wd = s.wd := rfl
@[simp] theorem State.modOut_safe (n : Ch) (f : ChOut → ChOut) : (s.modOut n f).safe = s.safe := rfl
@[simp] theorem State.modOut_sw (n : Ch) (f : ChOut → ChOut) : (s.modOut n f).sw = s.sw := rfl
@[simp] theorem State.modOut_pw (n : Ch) (f : ChOut → ChOut) : (s.modOut n f).pw = s.pw := rfl
@[simp] theorem State.modOut_sec (n : Ch) (f : ChOut → ChOut) : (s.modOut n f).sec = s.sec := rfl
@[simp] theorem State.modOut_tap (n : Ch) (f : ChOut → ChOut) : (s.modOut n f).tap = s.tap := rfl
@[simp] theorem State.modOut_pending (n : Ch) (f : ChOut → ChOut) : (s.modOut n f).pending = s.pending := rfl

/-! ### modIn -/

@[simp] theorem State.modIn_time (n : Ch) (f : ChIn → ChIn) : (s.modIn n f).time = s.time := rfl
@[simp] theorem State.modIn_free (n : Ch) (f : ChIn → ChIn) : (s.modIn n f).free = s.free := rfl
@[simp] theorem State.modIn_grp (n : Ch) (f : ChIn → ChIn) : (s.modIn n f).grp = s.grp := rfl
@[simp] theorem State.modIn_comb (n : Ch) (f : ChIn → ChIn) : (s.modIn n f).comb = s.comb := rfl
@[simp] theorem State.modIn_res (n : Ch) (f : ChIn → ChIn) : (s.modIn n f).res = s.res := rfl
@[simp] theorem State.modIn_ev (n : Ch) (f : ChIn → ChIn) : (s.modIn n f).ev = s.ev := rfl
@[simp] theorem State.modIn_rcd (n : Ch) (f : ChIn → ChIn) : (s.modIn n f).rcd = s.rcd := rfl
@[simp] theorem State.modIn_port (n : Ch) (f : ChIn → ChIn) : (s.modIn n f).port = s.port := rfl
@[simp] theorem State.modIn_wd (n : Ch) (f : ChIn → ChIn) : (s.modIn n f).wd = s.wd := rfl
@[simp] theorem State.modIn_safe (n : Ch) (f : ChIn → ChIn) : (s.modIn n f).safe = s.safe := rfl
@[simp] theorem State.modIn_sw (n : Ch) (f : ChIn → ChIn) : (s.modIn n f).sw = s.sw := rfl
@[simp] theorem State.modIn_pw (n : Ch) (f : ChIn → ChIn) : (s.modIn n f).pw = s.pw := rfl
@[simp] theorem State.modIn_sec (n : Ch) (f : ChIn → ChIn) : (s.modIn n f).sec = s.sec := rfl
@[simp] theorem State.modIn_tap (n : Ch) (f : ChIn → ChIn) : (s.modIn n f).tap = s.tap := rfl
@[simp] theorem State.modIn_pending (n : Ch) (f : ChIn → ChIn) : (s.modIn n f).pending = s.pending := rfl

/-! ### modAi -/

@[simp] theorem State.modAi_time (n : Ch) (f : ChAi → ChAi) : (s.modAi n f).time = s.time := rfl
@[simp] theorem State.modAi_free (n : Ch) (f : ChAi → ChAi) : (s.modAi n f).free = s.free := rfl
@[simp] theorem State.modAi_grp (n : Ch) (f : ChAi → ChAi) : (s.modAi n f).grp = s.grp := rfl
@[simp] theorem State.modAi_comb (n : Ch) (f : ChAi → ChAi) : (s.modAi n f).comb = s.comb := rfl
@[simp] theorem State.modAi_res (n : Ch) (f : ChAi → ChAi) : (s.modAi n f).res = s.res := rfl
@[simp] theorem State.modAi_ev (n : Ch) (f : ChAi → ChAi) : (s.modAi n f).ev = s.ev := rfl
@[simp] theorem State.modAi_rcd (n : Ch) (f : ChAi → ChAi) : (s.modAi n f).rcd = s.rcd := rfl
@[simp] theorem State.modAi_port (n : Ch) (f : ChAi → ChAi) : (s.modAi n f).port = s.port := rfl
@[simp] theorem State.modAi_wd (n : Ch) (f : ChAi → ChAi) : (s.modAi n f).wd = s.wd := rfl
@[simp] theorem State.modAi_safe (n : Ch) (f : ChAi → ChAi) : (s.modAi n f).safe = s.safe := rfl
@[simp] theorem State.modAi_sw (n : Ch) (f : ChAi → ChAi) : (s.modAi n f).sw = s.sw := rfl
@[simp] theorem State.modAi_pw (n : Ch) (f : ChAi → ChAi) : (s.modAi n f).pw = s.pw := rfl
@[simp] theorem State.modAi_sec (n : Ch) (f : ChAi → ChAi) : (s.modAi n f).sec = s.sec := rfl
@[simp] theorem State.modAi_tap (n : Ch) (f : ChAi → ChAi) : (s.modAi n f).tap = s.tap := rfl
@[simp] theorem State.modAi_pending (n : Ch) (f : ChAi → ChAi) : (s.modAi n f).pending = s.pending := rfl

/-! ### modAo -/

@[simp] theorem State.modAo_time (n : Ch) (f : ChAo → ChAo) : (s.modAo n f).time = s.time := rfl
@[simp] theorem State.modAo_free (n : Ch) (f : ChAo → ChAo) : (s.modAo n f).free = s.free := rfl
@[simp] theorem State.modAo_grp (n : Ch) (f : ChAo → ChAo) : (s.modAo n f).grp = s.grp := rfl
@[simp] theorem State.modAo_comb (n : Ch) (f : ChAo → ChAo) : (s.modAo n f).comb = s.comb := rfl
@[simp] theorem State.modAo_res (n : Ch) (f : ChAo → ChAo) : (s.modAo n f).res = s.res := rfl
@[simp] theorem State.modAo_ev (n : Ch) (f : ChAo → ChAo) : (s.modAo n f).ev = s.ev := rfl
@[simp] theorem State.modAo_rcd (n : Ch) (f : ChAo → ChAo) : (s.modAo n f).rcd = s.rcd := rfl
@[simp] theorem State.modAo_port (n : Ch) (f : ChAo → ChAo) : (s.modAo n f).port = s.port := rfl
@[simp] theorem State.modAo_wd (n : Ch) (f : ChAo → ChAo) : (s.modAo n f).wd = s.wd := rfl
@[simp] theorem State.modAo_safe (n : Ch) (f : ChAo → ChAo) : (s.modAo n f).safe = s.safe := rfl
@[simp] theorem State.modAo_sw (n : Ch) (f : ChAo → ChAo) : (s.modAo n f).sw = s.sw := rfl
@[simp] theorem State.modAo_pw (n : Ch) (f : ChAo → ChAo) : (s.modAo n f).pw = s.pw := rfl
@[simp] theorem State.modAo_sec (n : Ch) (f : ChAo → ChAo) : (s.modAo n f).sec = s.sec := rfl
@[simp] theorem State.modAo_tap (n : Ch) (f : ChAo → ChAo) : (s.modAo n f).tap = s.tap := rfl
@[simp] theorem State.modAo_pending (n : Ch) (f : ChAo → ChAo) : (s.modAo n f).pending = s.pending := rfl

/-! ### modHart -/

@[simp] theorem State.modHart_time (n : Ch) (f : ChHart → ChHart) : (s.modHart n f).time = s.time := rfl
@[simp] theorem State.modHart_free (n : Ch) (f : ChHart → ChHart) : (s.modHart n f).free = s.free := rfl
@[simp] theorem State.modHart_grp (n : Ch) (f : ChHart → ChHart) : (s.modHart n f).grp = s.grp := rfl
@[simp] theorem State.modHart_comb (n : Ch) (f : ChHart → ChHart) : (s.modHart n f).comb = s.comb := rfl
@[simp] theorem State.modHart_res (n : Ch) (f : ChHart → ChHart) : (s.modHart n f).res = s.res := rfl
@[simp] theorem State.modHart_ev (n : Ch) (f : ChHart → ChHart) : (s.modHart n f).ev = s.ev := rfl
@[simp] theorem State.modHart_rcd (n : Ch) (f : ChHart → ChHart) : (s.modHart n f).rcd = s.rcd := rfl
@[simp] theorem State.modHart_port (n : Ch) (f : ChHart → ChHart) : (s.modHart n f).port = s.port := rfl
@[simp] theorem State.modHart_wd (n : Ch) (f : ChHart → ChHart) : (s.modHart n f).wd = s.wd := rfl
@[simp] theorem State.modHart_safe (n : Ch) (f : ChHart → ChHart) : (s.modHart n f).safe = s.safe := rfl
@[simp] theorem State.modHart_sw (n : Ch) (f : ChHart → ChHart) : (s.modHart n f).sw = s.sw := rfl
@[simp] theorem State.modHart_pw (n : Ch) (f : ChHart → ChHart) : (s.modHart n f).pw = s.pw := rfl
@[simp] theorem State.modHart_sec (n : Ch) (f : ChHart → ChHart) : (s.modHart n f).sec = s.sec := rfl
@[simp] theorem State.modHart_tap (n : Ch) (f : ChHart → ChHart) : (s.modHart n f).tap = s.tap := rfl
@[simp] theorem State.modHart_pending (n : Ch) (f : ChHart → ChHart) : (s.modHart n f).pending = s.pending := rfl

/-! ### modGuard -/

@[simp] theorem State.modGuard_time (n : Ch) (f : ChGuard → ChGuard) : (s.modGuard n f).time = s.time := rfl
@[simp] theorem State.modGuard_free (n : Ch) (f : ChGuard → ChGuard) : (s.modGuard n f).free = s.free := rfl
@[simp] theorem State.modGuard_grp (n : Ch) (f : ChGuard → ChGuard) : (s.modGuard n f).grp = s.grp := rfl
@[simp] theorem State.modGuard_comb (n : Ch) (f : ChGuard → ChGuard) : (s.modGuard n f).comb = s.comb := rfl
@[simp] theorem State.modGuard_res (n : Ch) (f : ChGuard → ChGuard) : (s.modGuard n f).res = s.res := rfl
@[simp] theorem State.modGuard_ev (n : Ch) (f : ChGuard → ChGuard) : (s.modGuard n f).ev = s.ev := rfl
@[simp] theorem State.modGuard_rcd (n : Ch) (f : ChGuard → ChGuard) : (s.modGuard n f).rcd = s.rcd := rfl
@[simp] theorem State.modGuard_port (n : Ch) (f : ChGuard → ChGuard) : (s.modGuard n f).port = s.port := rfl
@[simp] theorem State.modGuard_wd (n : Ch) (f : ChGuard → ChGuard) : (s.modGuard n f).wd = s.wd := rfl
@[simp] theorem State.modGuard_safe (n : Ch) (f : ChGuard → ChGuard) : (s.modGuard n f).safe = s.safe := rfl
@[simp] theorem State.modGuard_sw (n : Ch) (f : ChGuard → ChGuard) : (s.modGuard n f).sw = s.sw := rfl
@[simp] theorem State.modGuard_pw (n : Ch) (f : ChGuard → ChGuard) : (s.modGuard n f).pw = s.pw := rfl
@[simp] theorem State.modGuard_sec (n : Ch) (f : ChGuard → ChGuard) : (s.modGuard n f).sec = s.sec := rfl
@[simp] theorem State.modGuard_tap (n : Ch) (f : ChGuard → ChGuard) : (s.modGuard n f).tap = s.tap := rfl
@[simp] theorem State.modGuard_pending (n : Ch) (f : ChGuard → ChGuard) : (s.modGuard n f).pending = s.pending := rfl

/-! ### setGrp -/

@[simp] theorem State.setGrp_time (g : Grp) (x : Group) : (s.setGrp g x).time = s.time := rfl
@[simp] theorem State.setGrp_free (g : Grp) (x : Group) : (s.setGrp g x).free = s.free := rfl
@[simp] theorem State.setGrp_ch (g : Grp) (x : Group) : (s.setGrp g x).ch = s.ch := rfl
@[simp] theorem State.setGrp_comb (g : Grp) (x : Group) : (s.setGrp g x).comb = s.comb := rfl
@[simp] theorem State.setGrp_res (g : Grp) (x : Group) : (s.setGrp g x).res = s.res := rfl
@[simp] theorem State.setGrp_ev (g : Grp) (x : Group) : (s.setGrp g x).ev = s.ev := rfl
@[simp] theorem State.setGrp_rcd (g : Grp) (x : Group) : (s.setGrp g x).rcd = s.rcd := rfl
@[simp] theorem State.setGrp_port (g : Grp) (x : Group) : (s.setGrp g x).port = s.port := rfl
@[simp] theorem State.setGrp_wd (g : Grp) (x : Group) : (s.setGrp g x).wd = s.wd := rfl
@[simp] theorem State.setGrp_safe (g : Grp) (x : Group) : (s.setGrp g x).safe = s.safe := rfl
@[simp] theorem State.setGrp_sw (g : Grp) (x : Group) : (s.setGrp g x).sw = s.sw := rfl
@[simp] theorem State.setGrp_pw (g : Grp) (x : Group) : (s.setGrp g x).pw = s.pw := rfl
@[simp] theorem State.setGrp_sec (g : Grp) (x : Group) : (s.setGrp g x).sec = s.sec := rfl
@[simp] theorem State.setGrp_tap (g : Grp) (x : Group) : (s.setGrp g x).tap = s.tap := rfl
@[simp] theorem State.setGrp_pending (g : Grp) (x : Group) : (s.setGrp g x).pending = s.pending := rfl

/-! ### modGrp -/

@[simp] theorem State.modGrp_time (g : Grp) (f : Group → Group) : (s.modGrp g f).time = s.time := rfl
@[simp] theorem State.modGrp_free (g : Grp) (f : Group → Group) : (s.modGrp g f).free = s.free := rfl
@[simp] theorem State.modGrp_ch (g : Grp) (f : Group → Group) : (s.modGrp g f).ch = s.ch := rfl
@[simp] theorem State.modGrp_comb (g : Grp) (f : Group → Group) : (s.modGrp g f).comb = s.comb := rfl
@[simp] theorem State.modGrp_res (g : Grp) (f : Group → Group) : (s.modGrp g f).res = s.res := rfl
@[simp] theorem State.modGrp_ev (g : Grp) (f : Group → Group) : (s.modGrp g f).ev = s.ev := rfl
@[simp] theorem State.modGrp_rcd (g : Grp) (f : Group → Group) : (s.modGrp g f).rcd = s.rcd := rfl
@[simp] theorem State.modGrp_port (g : Grp) (f : Group → Group) : (s.modGrp g f).port = s.port := rfl
@[simp] theorem State.modGrp_wd (g : Grp) (f : Group → Group) : (s.modGrp g f).wd = s.wd := rfl
@[simp] theorem State.modGrp_safe (g : Grp) (f : Group → Group) : (s.modGrp g f).safe = s.safe := rfl
@[simp] theorem State.modGrp_sw (g : Grp) (f : Group → Group) : (s.modGrp g f).sw = s.sw := rfl
@[simp] theorem State.modGrp_pw (g : Grp) (f : Group → Group) : (s.modGrp g f).pw = s.pw := rfl
@[simp] theorem State.modGrp_sec (g : Grp) (f : Group → Group) : (s.modGrp g f).sec = s.sec := rfl
@[simp] theorem State.modGrp_tap (g : Grp) (f : Group → Group) : (s.modGrp g f).tap = s.tap := rfl
@[simp] theorem State.modGrp_pending (g : Grp) (f : Group → Group) : (s.modGrp g f).pending = s.pending := rfl

/-! ### modSup -/

@[simp] theorem State.modSup_time (g : Grp) (f : GrpSup → GrpSup) : (s.modSup g f).time = s.time := rfl
@[simp] theorem State.modSup_free (g : Grp) (f : GrpSup → GrpSup) : (s.modSup g f).free = s.free := rfl
@[simp] theorem State.modSup_ch (g : Grp) (f : GrpSup → GrpSup) : (s.modSup g f).ch = s.ch := rfl
@[simp] theorem State.modSup_comb (g : Grp) (f : GrpSup → GrpSup) : (s.modSup g f).comb = s.comb := rfl
@[simp] theorem State.modSup_res (g : Grp) (f : GrpSup → GrpSup) : (s.modSup g f).res = s.res := rfl
@[simp] theorem State.modSup_ev (g : Grp) (f : GrpSup → GrpSup) : (s.modSup g f).ev = s.ev := rfl
@[simp] theorem State.modSup_rcd (g : Grp) (f : GrpSup → GrpSup) : (s.modSup g f).rcd = s.rcd := rfl
@[simp] theorem State.modSup_port (g : Grp) (f : GrpSup → GrpSup) : (s.modSup g f).port = s.port := rfl
@[simp] theorem State.modSup_wd (g : Grp) (f : GrpSup → GrpSup) : (s.modSup g f).wd = s.wd := rfl
@[simp] theorem State.modSup_safe (g : Grp) (f : GrpSup → GrpSup) : (s.modSup g f).safe = s.safe := rfl
@[simp] theorem State.modSup_sw (g : Grp) (f : GrpSup → GrpSup) : (s.modSup g f).sw = s.sw := rfl
@[simp] theorem State.modSup_pw (g : Grp) (f : GrpSup → GrpSup) : (s.modSup g f).pw = s.pw := rfl
@[simp] theorem State.modSup_sec (g : Grp) (f : GrpSup → GrpSup) : (s.modSup g f).sec = s.sec := rfl
@[simp] theorem State.modSup_tap (g : Grp) (f : GrpSup → GrpSup) : (s.modSup g f).tap = s.tap := rfl
@[simp] theorem State.modSup_pending (g : Grp) (f : GrpSup → GrpSup) : (s.modSup g f).pending = s.pending := rfl

/-! ### modLink -/

@[simp] theorem State.modLink_time (g : Grp) (f : GrpLink → GrpLink) : (s.modLink g f).time = s.time := rfl
@[simp] theorem State.modLink_free (g : Grp) (f : GrpLink → GrpLink) : (s.modLink g f).free = s.free := rfl
@[simp] theorem State.modLink_ch (g : Grp) (f : GrpLink → GrpLink) : (s.modLink g f).ch = s.ch := rfl
@[simp] theorem State.modLink_comb (g : Grp) (f : GrpLink → GrpLink) : (s.modLink g f).comb = s.comb := rfl
@[simp] theorem State.modLink_res (g : Grp) (f : GrpLink → GrpLink) : (s.modLink g f).res = s.res := rfl
@[simp] theorem State.modLink_ev (g : Grp) (f : GrpLink → GrpLink) : (s.modLink g f).ev = s.ev := rfl
@[simp] theorem State.modLink_rcd (g : Grp) (f : GrpLink → GrpLink) : (s.modLink g f).rcd = s.rcd := rfl
@[simp] theorem State.modLink_port (g : Grp) (f : GrpLink → GrpLink) : (s.modLink g f).port = s.port := rfl
@[simp] theorem State.modLink_wd (g : Grp) (f : GrpLink → GrpLink) : (s.modLink g f).wd = s.wd := rfl
@[simp] theorem State.modLink_safe (g : Grp) (f : GrpLink → GrpLink) : (s.modLink g f).safe = s.safe := rfl
@[simp] theorem State.modLink_sw (g : Grp) (f : GrpLink → GrpLink) : (s.modLink g f).sw = s.sw := rfl
@[simp] theorem State.modLink_pw (g : Grp) (f : GrpLink → GrpLink) : (s.modLink g f).pw = s.pw := rfl
@[simp] theorem State.modLink_sec (g : Grp) (f : GrpLink → GrpLink) : (s.modLink g f).sec = s.sec := rfl
@[simp] theorem State.modLink_tap (g : Grp) (f : GrpLink → GrpLink) : (s.modLink g f).tap = s.tap := rfl
@[simp] theorem State.modLink_pending (g : Grp) (f : GrpLink → GrpLink) : (s.modLink g f).pending = s.pending := rfl

/-! ### modConv -/

@[simp] theorem State.modConv_time (g : Grp) (f : GrpConv → GrpConv) : (s.modConv g f).time = s.time := rfl
@[simp] theorem State.modConv_free (g : Grp) (f : GrpConv → GrpConv) : (s.modConv g f).free = s.free := rfl
@[simp] theorem State.modConv_ch (g : Grp) (f : GrpConv → GrpConv) : (s.modConv g f).ch = s.ch := rfl
@[simp] theorem State.modConv_comb (g : Grp) (f : GrpConv → GrpConv) : (s.modConv g f).comb = s.comb := rfl
@[simp] theorem State.modConv_res (g : Grp) (f : GrpConv → GrpConv) : (s.modConv g f).res = s.res := rfl
@[simp] theorem State.modConv_ev (g : Grp) (f : GrpConv → GrpConv) : (s.modConv g f).ev = s.ev := rfl
@[simp] theorem State.modConv_rcd (g : Grp) (f : GrpConv → GrpConv) : (s.modConv g f).rcd = s.rcd := rfl
@[simp] theorem State.modConv_port (g : Grp) (f : GrpConv → GrpConv) : (s.modConv g f).port = s.port := rfl
@[simp] theorem State.modConv_wd (g : Grp) (f : GrpConv → GrpConv) : (s.modConv g f).wd = s.wd := rfl
@[simp] theorem State.modConv_safe (g : Grp) (f : GrpConv → GrpConv) : (s.modConv g f).safe = s.safe := rfl
@[simp] theorem State.modConv_sw (g : Grp) (f : GrpConv → GrpConv) : (s.modConv g f).sw = s.sw := rfl
@[simp] theorem State.modConv_pw (g : Grp) (f : GrpConv → GrpConv) : (s.modConv g f).pw = s.pw := rfl
@[simp] theorem State.modConv_sec (g : Grp) (f : GrpConv → GrpConv) : (s.modConv g f).sec = s.sec := rfl
@[simp] theorem State.modConv_tap (g : Grp) (f : GrpConv → GrpConv) : (s.modConv g f).tap = s.tap := rfl
@[simp] theorem State.modConv_pending (g : Grp) (f : GrpConv → GrpConv) : (s.modConv g f).pending = s.pending := rfl

/-! ### modPos -/

@[simp] theorem State.modPos_time (g : Grp) (f : DiePos → DiePos) : (s.modPos g f).time = s.time := rfl
@[simp] theorem State.modPos_free (g : Grp) (f : DiePos → DiePos) : (s.modPos g f).free = s.free := rfl
@[simp] theorem State.modPos_ch (g : Grp) (f : DiePos → DiePos) : (s.modPos g f).ch = s.ch := rfl
@[simp] theorem State.modPos_comb (g : Grp) (f : DiePos → DiePos) : (s.modPos g f).comb = s.comb := rfl
@[simp] theorem State.modPos_res (g : Grp) (f : DiePos → DiePos) : (s.modPos g f).res = s.res := rfl
@[simp] theorem State.modPos_ev (g : Grp) (f : DiePos → DiePos) : (s.modPos g f).ev = s.ev := rfl
@[simp] theorem State.modPos_rcd (g : Grp) (f : DiePos → DiePos) : (s.modPos g f).rcd = s.rcd := rfl
@[simp] theorem State.modPos_port (g : Grp) (f : DiePos → DiePos) : (s.modPos g f).port = s.port := rfl
@[simp] theorem State.modPos_wd (g : Grp) (f : DiePos → DiePos) : (s.modPos g f).wd = s.wd := rfl
@[simp] theorem State.modPos_safe (g : Grp) (f : DiePos → DiePos) : (s.modPos g f).safe = s.safe := rfl
@[simp] theorem State.modPos_sw (g : Grp) (f : DiePos → DiePos) : (s.modPos g f).sw = s.sw := rfl
@[simp] theorem State.modPos_pw (g : Grp) (f : DiePos → DiePos) : (s.modPos g f).pw = s.pw := rfl
@[simp] theorem State.modPos_sec (g : Grp) (f : DiePos → DiePos) : (s.modPos g f).sec = s.sec := rfl
@[simp] theorem State.modPos_tap (g : Grp) (f : DiePos → DiePos) : (s.modPos g f).tap = s.tap := rfl
@[simp] theorem State.modPos_pending (g : Grp) (f : DiePos → DiePos) : (s.modPos g f).pending = s.pending := rfl

/-! ### tookFree -/

@[simp] theorem State.tookFree_time : (s.tookFree).time = s.time := rfl
@[simp] theorem State.tookFree_ch : (s.tookFree).ch = s.ch := rfl
@[simp] theorem State.tookFree_grp : (s.tookFree).grp = s.grp := rfl
@[simp] theorem State.tookFree_comb : (s.tookFree).comb = s.comb := rfl
@[simp] theorem State.tookFree_res : (s.tookFree).res = s.res := rfl
@[simp] theorem State.tookFree_ev : (s.tookFree).ev = s.ev := rfl
@[simp] theorem State.tookFree_rcd : (s.tookFree).rcd = s.rcd := rfl
@[simp] theorem State.tookFree_port : (s.tookFree).port = s.port := rfl
@[simp] theorem State.tookFree_wd : (s.tookFree).wd = s.wd := rfl
@[simp] theorem State.tookFree_safe : (s.tookFree).safe = s.safe := rfl
@[simp] theorem State.tookFree_sw : (s.tookFree).sw = s.sw := rfl
@[simp] theorem State.tookFree_pw : (s.tookFree).pw = s.pw := rfl
@[simp] theorem State.tookFree_sec : (s.tookFree).sec = s.sec := rfl
@[simp] theorem State.tookFree_tap : (s.tookFree).tap = s.tap := rfl
@[simp] theorem State.tookFree_pending : (s.tookFree).pending = s.pending := rfl

/-! ### modPort -/

@[simp] theorem State.modPort_time (p : Port) (f : SwPort → SwPort) : (s.modPort p f).time = s.time := rfl
@[simp] theorem State.modPort_free (p : Port) (f : SwPort → SwPort) : (s.modPort p f).free = s.free := rfl
@[simp] theorem State.modPort_ch (p : Port) (f : SwPort → SwPort) : (s.modPort p f).ch = s.ch := rfl
@[simp] theorem State.modPort_grp (p : Port) (f : SwPort → SwPort) : (s.modPort p f).grp = s.grp := rfl
@[simp] theorem State.modPort_comb (p : Port) (f : SwPort → SwPort) : (s.modPort p f).comb = s.comb := rfl
@[simp] theorem State.modPort_res (p : Port) (f : SwPort → SwPort) : (s.modPort p f).res = s.res := rfl
@[simp] theorem State.modPort_ev (p : Port) (f : SwPort → SwPort) : (s.modPort p f).ev = s.ev := rfl
@[simp] theorem State.modPort_rcd (p : Port) (f : SwPort → SwPort) : (s.modPort p f).rcd = s.rcd := rfl
@[simp] theorem State.modPort_port (p : Port) (f : SwPort → SwPort) : (s.modPort p f).port = s.port := rfl
@[simp] theorem State.modPort_wd (p : Port) (f : SwPort → SwPort) : (s.modPort p f).wd = s.wd := rfl
@[simp] theorem State.modPort_safe (p : Port) (f : SwPort → SwPort) : (s.modPort p f).safe = s.safe := rfl
@[simp] theorem State.modPort_pw (p : Port) (f : SwPort → SwPort) : (s.modPort p f).pw = s.pw := rfl
@[simp] theorem State.modPort_sec (p : Port) (f : SwPort → SwPort) : (s.modPort p f).sec = s.sec := rfl
@[simp] theorem State.modPort_tap (p : Port) (f : SwPort → SwPort) : (s.modPort p f).tap = s.tap := rfl
@[simp] theorem State.modPort_pending (p : Port) (f : SwPort → SwPort) : (s.modPort p f).pending = s.pending := rfl

/-! ### emit -/

@[simp] theorem State.emit_time (p : Port) (o : SwOut) : (s.emit p o).time = s.time := rfl
@[simp] theorem State.emit_free (p : Port) (o : SwOut) : (s.emit p o).free = s.free := rfl
@[simp] theorem State.emit_ch (p : Port) (o : SwOut) : (s.emit p o).ch = s.ch := rfl
@[simp] theorem State.emit_grp (p : Port) (o : SwOut) : (s.emit p o).grp = s.grp := rfl
@[simp] theorem State.emit_comb (p : Port) (o : SwOut) : (s.emit p o).comb = s.comb := rfl
@[simp] theorem State.emit_res (p : Port) (o : SwOut) : (s.emit p o).res = s.res := rfl
@[simp] theorem State.emit_ev (p : Port) (o : SwOut) : (s.emit p o).ev = s.ev := rfl
@[simp] theorem State.emit_rcd (p : Port) (o : SwOut) : (s.emit p o).rcd = s.rcd := rfl
@[simp] theorem State.emit_port (p : Port) (o : SwOut) : (s.emit p o).port = s.port := rfl
@[simp] theorem State.emit_wd (p : Port) (o : SwOut) : (s.emit p o).wd = s.wd := rfl
@[simp] theorem State.emit_safe (p : Port) (o : SwOut) : (s.emit p o).safe = s.safe := rfl
@[simp] theorem State.emit_pw (p : Port) (o : SwOut) : (s.emit p o).pw = s.pw := rfl
@[simp] theorem State.emit_sec (p : Port) (o : SwOut) : (s.emit p o).sec = s.sec := rfl
@[simp] theorem State.emit_tap (p : Port) (o : SwOut) : (s.emit p o).tap = s.tap := rfl
@[simp] theorem State.emit_pending (p : Port) (o : SwOut) : (s.emit p o).pending = s.pending := rfl

/-! ### Reading after writing -/

@[simp] theorem State.chan_setCh_same (n : Ch) (c : Channel) : (s.setCh n c).chan n = c := by
  simp [State.chan, State.setCh]

@[simp] theorem State.chan_setCh_ne {n m : Ch} (c : Channel) (h : m ≠ n) : (s.setCh n c).chan m = s.chan m := by
  have h' : n.val ≠ m.val := fun e => h (Fin.ext e.symm)
  simp [State.chan, State.setCh, h']

@[simp] theorem State.group_setGrp_same (g : Grp) (x : Group) : (s.setGrp g x).group g = x := by
  simp [State.group, State.setGrp]

@[simp] theorem State.group_setGrp_ne {g k : Grp} (x : Group) (h : k ≠ g) :
    (s.setGrp g x).group k = s.group k := by
  have h' : g.val ≠ k.val := fun e => h (Fin.ext e.symm)
  simp [State.group, State.setGrp, h']

@[simp] theorem State.swPort_modPort_same (p : Port) (f : SwPort → SwPort) :
    (s.modPort p f).swPort p = f (s.swPort p) := by
  simp [State.swPort, State.modPort]

@[simp] theorem State.swPort_modPort_ne {p q : Port} (f : SwPort → SwPort) (h : q ≠ p) :
    (s.modPort p f).swPort q = s.swPort q := by
  have h' : p.val ≠ q.val := fun e => h (Fin.ext e.symm)
  simp [State.swPort, State.modPort, h']

@[simp] theorem State.chan_modCh_same (n : Ch) (f : Channel → Channel) : (s.modCh n f).chan n =
    f (s.chan n) := State.chan_setCh_same ..
@[simp] theorem State.chan_modCh_ne {n m : Ch} (f : Channel → Channel) (h : m ≠ n) :
    (s.modCh n f).chan m = s.chan m := State.chan_setCh_ne _ _ h
@[simp] theorem State.chan_modOut_same (n : Ch) (f : ChOut → ChOut) : (s.modOut n f).chan n =
    { s.chan n with out := f (s.chan n).out } := State.chan_setCh_same ..
@[simp] theorem State.chan_modOut_ne {n m : Ch} (f : ChOut → ChOut) (h : m ≠ n) :
    (s.modOut n f).chan m = s.chan m := State.chan_setCh_ne _ _ h
@[simp] theorem State.chan_modIn_same (n : Ch) (f : ChIn → ChIn) : (s.modIn n f).chan n =
    { s.chan n with inp := f (s.chan n).inp } := State.chan_setCh_same ..
@[simp] theorem State.chan_modIn_ne {n m : Ch} (f : ChIn → ChIn) (h : m ≠ n) :
    (s.modIn n f).chan m = s.chan m := State.chan_setCh_ne _ _ h
@[simp] theorem State.chan_modAi_same (n : Ch) (f : ChAi → ChAi) : (s.modAi n f).chan n =
    { s.chan n with ai := f (s.chan n).ai } := State.chan_setCh_same ..
@[simp] theorem State.chan_modAi_ne {n m : Ch} (f : ChAi → ChAi) (h : m ≠ n) :
    (s.modAi n f).chan m = s.chan m := State.chan_setCh_ne _ _ h
@[simp] theorem State.chan_modAo_same (n : Ch) (f : ChAo → ChAo) : (s.modAo n f).chan n =
    { s.chan n with ao := f (s.chan n).ao } := State.chan_setCh_same ..
@[simp] theorem State.chan_modAo_ne {n m : Ch} (f : ChAo → ChAo) (h : m ≠ n) :
    (s.modAo n f).chan m = s.chan m := State.chan_setCh_ne _ _ h
@[simp] theorem State.chan_modHart_same (n : Ch) (f : ChHart → ChHart) : (s.modHart n f).chan n =
    { s.chan n with hart := f (s.chan n).hart } := State.chan_setCh_same ..
@[simp] theorem State.chan_modHart_ne {n m : Ch} (f : ChHart → ChHart) (h : m ≠ n) :
    (s.modHart n f).chan m = s.chan m := State.chan_setCh_ne _ _ h
@[simp] theorem State.chan_modGuard_same (n : Ch) (f : ChGuard → ChGuard) : (s.modGuard n f).chan n =
    { s.chan n with guard := f (s.chan n).guard } := State.chan_setCh_same ..
@[simp] theorem State.chan_modGuard_ne {n m : Ch} (f : ChGuard → ChGuard) (h : m ≠ n) :
    (s.modGuard n f).chan m = s.chan m := State.chan_setCh_ne _ _ h
@[simp] theorem State.group_modOut (n : Ch) (f : ChOut → ChOut) (g : Grp) : (s.modOut n f).group g = s.group g := rfl
@[simp] theorem State.group_modCh (n : Ch) (f : Channel → Channel) (g : Grp) : (s.modCh n f).group g = s.group g := rfl
@[simp] theorem State.group_modIn (n : Ch) (f : ChIn → ChIn) (g : Grp) : (s.modIn n f).group g = s.group g := rfl
@[simp] theorem State.group_modAi (n : Ch) (f : ChAi → ChAi) (g : Grp) : (s.modAi n f).group g = s.group g := rfl
@[simp] theorem State.group_modAo (n : Ch) (f : ChAo → ChAo) (g : Grp) : (s.modAo n f).group g = s.group g := rfl
@[simp] theorem State.group_modHart (n : Ch) (f : ChHart → ChHart) (g : Grp) : (s.modHart n f).group g = s.group g := rfl
@[simp] theorem State.group_modGuard (n : Ch) (f : ChGuard → ChGuard) (g : Grp) : (s.modGuard n f).group g = s.group g := rfl
@[simp] theorem State.group_modGrp_same (g : Grp) (f : Group → Group) : (s.modGrp g f).group g =
    f (s.group g) := State.group_setGrp_same ..
@[simp] theorem State.group_modGrp_ne {g k : Grp} (f : Group → Group) (h : k ≠ g) :
    (s.modGrp g f).group k = s.group k := State.group_setGrp_ne _ _ h
@[simp] theorem State.chan_modGrp (g : Grp) (f : Group → Group) (n : Ch) : (s.modGrp g f).chan n = s.chan n := rfl
@[simp] theorem State.group_modSup_same (g : Grp) (f : GrpSup → GrpSup) : (s.modSup g f).group g =
    { s.group g with sup := f (s.group g).sup } := State.group_setGrp_same ..
@[simp] theorem State.group_modSup_ne {g k : Grp} (f : GrpSup → GrpSup) (h : k ≠ g) :
    (s.modSup g f).group k = s.group k := State.group_setGrp_ne _ _ h
@[simp] theorem State.chan_modSup (g : Grp) (f : GrpSup → GrpSup) (n : Ch) : (s.modSup g f).chan n = s.chan n := rfl
@[simp] theorem State.group_modLink_same (g : Grp) (f : GrpLink → GrpLink) : (s.modLink g f).group g =
    { s.group g with link := f (s.group g).link } := State.group_setGrp_same ..
@[simp] theorem State.group_modLink_ne {g k : Grp} (f : GrpLink → GrpLink) (h : k ≠ g) :
    (s.modLink g f).group k = s.group k := State.group_setGrp_ne _ _ h
@[simp] theorem State.chan_modLink (g : Grp) (f : GrpLink → GrpLink) (n : Ch) : (s.modLink g f).chan n = s.chan n := rfl
@[simp] theorem State.group_modConv_same (g : Grp) (f : GrpConv → GrpConv) : (s.modConv g f).group g =
    { s.group g with conv := f (s.group g).conv } := State.group_setGrp_same ..
@[simp] theorem State.group_modConv_ne {g k : Grp} (f : GrpConv → GrpConv) (h : k ≠ g) :
    (s.modConv g f).group k = s.group k := State.group_setGrp_ne _ _ h
@[simp] theorem State.chan_modConv (g : Grp) (f : GrpConv → GrpConv) (n : Ch) : (s.modConv g f).chan n = s.chan n := rfl
@[simp] theorem State.group_modPos_same (g : Grp) (f : DiePos → DiePos) : (s.modPos g f).group g =
    { s.group g with pos := f (s.group g).pos } := State.group_setGrp_same ..
@[simp] theorem State.group_modPos_ne {g k : Grp} (f : DiePos → DiePos) (h : k ≠ g) :
    (s.modPos g f).group k = s.group k := State.group_setGrp_ne _ _ h
@[simp] theorem State.chan_modPos (g : Grp) (f : DiePos → DiePos) (n : Ch) : (s.modPos g f).chan n = s.chan n := rfl
@[simp] theorem State.chan_tookFree (n : Ch) : s.tookFree.chan n = s.chan n := rfl
@[simp] theorem State.group_tookFree (g : Grp) : s.tookFree.group g = s.group g := rfl

end Sys2Proof.Machine
end

