-- ==== Sys2Proof/Laws/Cells.lean ====
section
/-! SUPPORT. How a cell of the comb starts: what `runCell` does with a cell that is due on time on one die. -/

namespace Sys2Proof.Machine

/-- A cell on time at the front of a share is not skipped (07 R246). -/
theorem State.skipFront_onTime {s : State} {cb : Comb} {g : Grp} {d : DueCell} {rest : List DueCell} {x : Cell}
    (hd : (s.group g).pos.due = d :: rest) (hx : cb.cells[d.idx]? = some x)
    (hl : d.isLate s.time cb.hdr.jitter = false) : s.skipFront cb g = s := by
  unfold State.skipFront
  simp [hd, hx, hl]

theorem grp_cases (g : Grp) : g = 0 ∨ g = 1 ∨ g = 2 ∨ g = 3 := by revert g; decide

theorem foldl_fixed {α β : Type} (f : α → β → α) (a : α) (h : ∀ b, f a b = a) (l : List β) :
    l.foldl f a = a := by
  induction l with
  | nil => rfl
  | cons b l ih => rw [List.foldl_cons, h, ih]

/-- With the cell of one die on time and no other cell due, none is skipped (07 R246). -/
theorem State.skipLate_onTime {s : State} {cb : Comb} {g : Grp} {d : DueCell} {rest : List DueCell} {x : Cell}
    (hd : (s.group g).pos.due = d :: rest) (hx : cb.cells[d.idx]? = some x)
    (hl : d.isLate s.time cb.hdr.jitter = false) (ho : ∀ k, k ≠ g → (s.group k).pos.due = []) :
    s.skipLate cb = s.keepSeen cb := by
  unfold State.skipLate State.each
  rw [foldl_fixed]
  intro k
  by_cases hk : k = g
  · subst hk
    exact foldl_fixed _ _ (fun _ => State.skipFront_onTime hd hx hl) _
  · simp [ho k hk]

@[simp] theorem State.keepSeen_time (s : State) (c : Comb) : (s.keepSeen c).time = s.time := rfl
@[simp] theorem State.keepSeen_group (s : State) (c : Comb) (g : Grp) : (s.keepSeen c).group g = s.group g := rfl
@[simp] theorem State.keepSeen_chan (s : State) (c : Comb) (n : Ch) : (s.keepSeen c).chan n = s.chan n := rfl
@[simp] theorem State.keepSeen_cond (s : State) (c : Comb) : (s.keepSeen c).comb.cond = s.comb.cond := rfl
@[simp] theorem State.keepSeen_resourcesFree (s : State) (c : Comb) (g : Grp) (x : Cell) :
    (s.keepSeen c).resourcesFree g x = s.resourcesFree g x := rfl

theorem State.startable_keepSeen (s : State) (c : Comb) (idx : Nat) (x : Cell) (g : Grp) :
    (s.keepSeen c).startable idx x g = s.startable idx x g := rfl

/-- A die without a due cell starts none (07 R217). -/
theorem State.startable_none {s : State} {idx : Nat} {x : Cell} {k : Grp} (h : (s.group k).pos.due = []) :
    s.startable idx x k = none := by
  unfold State.startable; simp [h]

/-- A cell that is due on time on one die runs there alone, with its stamp and no lateness (07 R217, R226). -/
theorem State.runCell_dueOn {s : State} {action idx : Nat} {x : Cell} {g : Grp} {d : DueCell}
    (h : s.dueOn action idx x g d) (f : State → Cell → Started → State) :
    s.runCell action idx f = f (s.cellStarted g x) x
      { dies := [g], idx := idx, pos := d.pos, stamp := s.stampAt d.pos, late := none } := by
  unfold State.dueOn State.startsOn at h
  obtain ⟨cb, rest, ha, hx, hact, hf, hrun, hex, hd, hi, hdue, hl, hlast, he, hr, ho⟩ := h
  have hx' : cb.cells[d.idx]? = some x := by rw [hi]; exact hx
  have hs := State.skipLate_onTime hd hx' hl ho
  have hst : s.startable idx x g = some d := by
    unfold State.startable
    simp only [hd]
    have : ((s.group g).pos.last.all fun t => decide (t + 8 ≤ 4 * s.time)) = true := by
      cases hp : (s.group g).pos.last with
      | none => rfl
      | some t => simpa using hlast t hp
    simp [hi, hdue, this, he, hr]
  have hno : ∀ k, k ≠ g → s.startable idx x k = none := fun k hk => State.startable_none (ho k hk)
  have hg : allGrp.findSome? (s.startable idx x) = some d ∧
      (allGrp.filter fun k => (s.startable idx x k).any fun e => e.pos == d.pos) = [g] := by
    rcases grp_cases g with rfl | rfl | rfl | rfl <;>
      simp [allGrp, hst, hno 0, hno 1, hno 2, hno 3]
  unfold State.runCell
  simp only [ha, hx, hrun, hact, hex, Bool.not_true, bne_self_eq_false, Bool.or_self, Bool.false_eq_true,
    if_false, hs]
  have e1 : (s.keepSeen cb).startable idx x = s.startable idx x := funext fun k => State.startable_keepSeen ..
  simp only [e1, hg.1, hg.2, List.any_cons, List.any_nil, hst, Option.any_some, State.keepSeen_time, hl,
    Bool.or_false, Bool.false_eq_true, if_false, State.each, List.foldl_cons, List.foldl_nil, hf]
  unfold State.cellStarted State.stampAt
  simp only [ha]

end Sys2Proof.Machine
end

