-- ==== Sys2Proof/Laws/Events.lean ====
section
/-! SUPPORT. What recording and raising an event do: they touch the recorder, the event controller and the waking
flag alone. -/

namespace Sys2Proof.Machine

theorem recordOnly_logs (s : State) (src : Nat) (a b : BitVec 16) (p q r : Word) :
    s.logsOver (s.recordOnly src a b p q r) := by
  unfold State.recordOnly State.logsOver; split <;> rfl

theorem recordSpecial_logs (s : State) (src : Byte) (a b : BitVec 16) (p q r : Word) :
    s.logsOver (s.recordSpecial src a b p q r) := by
  unfold State.recordSpecial State.logsOver; split <;> rfl

theorem raiseAt_logs (s : State) (k : Fin 128) (a b : BitVec 16) (p q r st : Word) (nc : Bool) :
    s.logsOver (s.raiseAt k a b p q r st nc) := by
  unfold State.raiseAt State.logsOver
  split
  · rfl
  · unfold State.recordOnly; split <;> rfl

theorem raise_logs (s : State) (k : Fin 128) (a b : Nat) (p q r : Word) : s.logsOver (s.raise k a b p q r) :=
  raiseAt_logs ..

theorem logsOver_refl (s : State) : s.logsOver s := rfl

theorem logsOver_trans {s t u : State} (h : s.logsOver t) (k : t.logsOver u) : s.logsOver u := by
  unfold State.logsOver at *; rw [k]; rw [h]

/-- Raising a source that can be raised leaves it pending and undelivered with its code (11 R359). -/
theorem raise_pending (s : State) (k : Fin 128) (a b : Nat) (p q r : Word) (h : s.hostUp = true)
    (hk : neverRaised k.val = false) : (s.raise k a b p q r).pendingWith k b := by
  unfold State.pendingWith State.raise State.raiseAt
  simp [h, hk, EvState.raised]

end Sys2Proof.Machine
end

