-- ==== Sys2Proof/Laws/Channels.lean ====
section
/-! SUPPORT. What the shared operations on channels and groups do: changes of an output and its mate, switching,
channel faults, the events of a group. -/

namespace Sys2Proof.Machine

/-! ### Touching -/

theorem State.touches_of_modCh (s : State) (n : Ch) (f : Channel → Channel) : s.touches (s.modCh n f) [n] := by
  refine ⟨fun m hm => ?_, rfl⟩
  exact State.chan_modCh_ne _ _ (by simpa using hm)

theorem State.touches_mono {s t : State} {l k : List Ch} (h : s.touches t l) (hk : ∀ n ∈ l, n ∈ k) :
    s.touches t k := ⟨fun n hn => h.1 n fun e => hn (hk n e), h.2⟩

theorem State.touches_refl (s : State) (l : List Ch) : s.touches s l := ⟨fun _ _ => rfl, rfl⟩

/-- Raising an event touches no channel. -/
theorem State.touches_logs {s t u : State} {l : List Ch} (h : s.touches t l) (k : t.logsOver u) :
    s.touches u l := by
  unfold State.logsOver at k
  refine ⟨fun n hn => ?_, ?_⟩
  · have : u.chan n = t.chan n := by rw [k]; rfl
    rw [this]; exact h.1 n hn
  · have hc : u.ch = t.ch := by rw [k]
    have h2 := h.2
    unfold State.logsOver at *
    rw [k]
    conv_lhs => rw [h2]

theorem State.touches_trans {s t u : State} {l : List Ch} (h : s.touches t l) (k : t.touches u l) :
    s.touches u l := by
  refine ⟨fun n hn => (k.1 n hn).trans (h.1 n hn), ?_⟩
  have h2 := h.2
  have k2 := k.2
  unfold State.logsOver at *
  rw [k2]
  conv_lhs => rw [h2]

/-! ### Outputs of a pair -/

theorem mateOf_ne (n : Ch) : mateOf n ≠ n := by
  unfold mateOf
  split
  all_goals
    intro h
    have := congrArg Fin.val h
    simp at this
    try omega

/-- A change of an output reaches the channel and, in a PARALLEL pair, its mate (03 R94). -/
theorem State.modOutP_touches (s : State) (n : Ch) (f : ChOut → ChOut) :
    s.touches (s.modOutP n f) [n, mateOf n] := by
  unfold State.modOutP
  have h1 := State.touches_mono (State.touches_of_modCh s n fun c => { c with out := f c.out })
    (k := [n, mateOf n]) (by simp)
  dsimp only
  split
  · exact State.touches_trans h1 (State.touches_mono (State.touches_of_modCh ..) (by simp))
  · exact h1

@[simp] theorem State.modOutP_chan_same (s : State) (n : Ch) (f : ChOut → ChOut) :
    (s.modOutP n f).chan n = { s.chan n with out := f (s.chan n).out } := by
  unfold State.modOutP
  dsimp only
  split
  · rw [State.chan_modOut_ne _ _ (mateOf_ne n).symm, State.chan_modOut_same]
  · exact State.chan_modOut_same ..

@[simp] theorem State.modOutP_group (s : State) (n : Ch) (f : ChOut → ChOut) (g : Grp) :
    (s.modOutP n f).group g = s.group g := by
  unfold State.modOutP; dsimp only; split <;> rfl

theorem State.modOutP_chan_ne (s : State) {n m : Ch} (f : ChOut → ChOut) (h : m ≠ n) (h' : m ≠ mateOf n) :
    (s.modOutP n f).chan m = s.chan m := (State.modOutP_touches s n f).1 m (by simp [h, h'])

/-- Switching off leaves the channel in the state named, at duty 0, with its command (03 R98). -/
theorem State.switchOff_chan (s : State) (n : Ch) (p : PState) :
    (s.switchOff n p).chan n = { s.chan n with out := { (s.chan n).out with
      ps := p, duty := 0, heldRetry := false, polOn := false, frozen := false, olCond := false
      turn := false
      pulse := if p.returns then (s.chan n).out.pulse else none, diag := false } } :=
  State.modOutP_chan_same ..

theorem State.switchOff_touches (s : State) (n : Ch) (p : PState) :
    s.touches (s.switchOff n p) [n, mateOf n] := State.modOutP_touches ..

/-- Switching on leads to INRUSH or ON (03 R84, R98). -/
theorem State.switchOn_isOn (s : State) (n : Ch) : ((s.switchOn n).chan n).out.ps.isOn = true := by
  unfold State.switchOn State.noteOn
  simp only [State.chan_modSup, State.modOutP_chan_same]
  split <;> rfl

/-! ### Channel faults -/

theorem State.leadOf_of_heard {s : State} {n : Ch} (h : s.heard n = true) : s.leadOf n = n := by
  unfold State.heard at h
  simp only [Bool.and_eq_true, Bool.not_eq_true'] at h
  unfold State.leadOf; simp [h.1]

theorem State.hostUp_of_heard {s : State} {n : Ch} (h : s.heard n = true) : s.hostUp = true := by
  unfold State.heard State.inTouch at h
  simp only [Bool.and_eq_true] at h
  exact h.2.1.1.1

theorem State.silent_of_heard {s : State} {n : Ch} (h : s.heard n = true) :
    (s.group (grpOf n)).link.silent = false := by
  unfold State.heard State.inTouch at h
  simp only [Bool.and_eq_true, Bool.not_eq_true'] at h
  exact h.2.1.2

/-- Raising an event of a die that is in touch raises it at once (02 R61). -/
theorem State.fieldRaise_eq {s : State} {g : Grp} (hu : s.hostUp = true) (hl : (s.group g).link.silent = false)
    (k : Fin 128) (a b : Nat) (p q r : Word) : s.fieldRaise g k a b p q r = s.raise k a b p q r := by
  unfold State.fieldRaise; simp [hu, hl]

theorem putBit_set (w : Word) (b : Nat) (h : bit w b = false) : putBit w b true = w ||| bitW b := by
  have _ := h
  rfl

theorem or_bitW_of_bit {w : Word} {b : Nat} (h : bit w b = true) : w ||| bitW b = w := by
  unfold bit at h
  have hb : b < 32 := BitVec.lt_of_getLsbD h
  apply BitVec.eq_of_getLsbD_eq
  intro i hi
  unfold bitW
  simp only [BitVec.getLsbD_or, BitVec.getLsbD_ofNat, hi, decide_true, Bool.true_and, Nat.one_shiftLeft,
    Nat.testBit_two_pow]
  by_cases e : b = i
  · subst e; simp [h]
  · simp [e]

/-- On a channel that is heard, setting a bit of CH_FAULT raises its event and changes nothing else
(02 R37, 08 R259). -/
theorem State.setFault_faults {s : State} {n : Ch} (h : s.heard n = true) (b : Nat) :
    s.faults (s.setFault n b) n b := by
  unfold State.setFault State.faults
  rw [State.leadOf_of_heard h]
  dsimp only
  by_cases hb : bit (s.chan n).fault b = true
  · simp only [hb, if_true]
    refine ⟨(or_bitW_of_bit hb).symm, fun e => absurd e (by simp), (s.chan n).fault, ?_⟩
    have : s.modCh n (fun x => { x with fault := (s.chan n).fault }) = s := by
      show ({ s with ch := s.ch.set n.val (s.ch[n.val]) n.isLt } : State) = s
      rw [Vector.set_getElem_self]
    rw [this]; rfl
  · have hb' : bit (s.chan n).fault b = false := by simpa using hb
    simp only [hb', Bool.false_eq_true, if_false]
    unfold State.raiseFault
    have hu := State.hostUp_of_heard h
    have hl := State.silent_of_heard h
    rw [State.fieldRaise_eq (by simpa [State.hostUp] using hu) (by simpa using hl)]
    set t := s.modCh n (fun c => { c with fault := putBit c.fault b true }) with ht
    have hr := raise_logs t (srcNo n.val) n.val (b + if (s.chan n).guard.held then 0x4000 else 0)
      (t.chan n).fault (t.chStatusW n) (t.chTermvW n)
    refine ⟨?_, fun _ => ?_, putBit (s.chan n).fault b true, ?_⟩
    · unfold State.logsOver at hr
      rw [hr]
      show (t.chan n).fault = _
      rw [ht, State.chan_modCh_same]
      rfl
    · refine raise_pending _ _ _ _ _ _ _ (by simpa [ht, State.hostUp] using hu) ?_
      have := n.isLt
      unfold neverRaised srcNo
      simp; omega
    · unfold State.logsOver at *
      conv_lhs => rw [hr]
      rfl

end Sys2Proof.Machine
end

