-- ==== Sys2Proof/Laws/Command.lean ====
section
/-! SUPPORT. What an accepted message does: the laws of the host port's command path. -/

namespace Sys2Proof.Machine

theorem worst_nil : worst [] = none := rfl

@[simp] theorem State.accept_port (s : State) :
    s.accept.port = { s.port with heardAt := s.time, rx := .tail, rxWords := [] } := by
  unfold State.accept State.wake; dsimp only; split <;> rfl

@[simp] theorem State.accept_halted (s : State) : s.accept.pw.halted = s.pw.halted := by
  unfold State.accept State.wake; dsimp only; split <;> rfl

/-- An accepted message reaches its command. -/
theorem hostCmd_runs {s : State} {c : CmdSpec} {body : Body} {m : Cmd} (ha : s.accepts c m = true) :
    s.hostCmd c body m =
      (s.received m.frame).runCmd .host c body m.frame (s.crcOf c.op m) false m.args m.words ∧
    (s.received m.frame).refusal .host c m.frame.mb m.args m.words = none := by
  simp only [State.accepts, State.wholeIn, Bool.and_eq_true, Bool.not_eq_true', decide_eq_true_eq, beq_iff_eq,
    Option.isNone_iff_eq_none] at ha
  obtain ⟨⟨⟨⟨⟨⟨⟨⟨⟨⟨h1, h2⟩, h3⟩, h4⟩, h5⟩, h6⟩, h7⟩, h8⟩, h9⟩, h10⟩, h11⟩ := ha
  have hp : (s.frameIn ((s.lastFrame c.op m).headD 0)).1 = s.accept := by
    revert h2; unfold State.frameIn; (repeat' split) <;> simp
  refine ⟨?_, h11⟩
  have hr : s.accept.takeLast c body m =
      (s.received m.frame).runCmd .host c body m.frame (s.crcOf c.op m) false m.args m.words := by
    unfold State.takeLast
    have e1 : s.accept.heldOf m.frame = s.heldOf m.frame := by unfold State.heldOf; rw [State.accept_port]
    have e2 : s.accept.lastFrame c.op m = s.lastFrame c.op m := by unfold State.lastFrame; rw [e1]
    have e3 : s.accept.port.lostMsgs = s.port.lostMsgs := by rw [State.accept_port]
    dsimp only
    rw [e1, e2, e3, h3, if_neg (by simp), if_neg (by omega), if_pos h5]
    change (s.received m.frame).takeCmd c body m (s.crcOf c.op m) = _
    unfold State.takeCmd
    rw [h7, h8, h9, if_neg (by simp)]
    simp [Nat.not_le.mpr h10]
  unfold State.hostCmd
  dsimp only
  rw [h1, h2, hp]
  rw [State.accept_halted]
  cases hh : s.pw.halted
  · simp [hr]
  · rw [hh] at h6; simp at h6; simp [h6, hr]

/-- An accepted message whose body answers at once is answered so; a change of RCK_EN is told by its own words. -/
theorem hostCmd_answers {s u : State} {c : CmdSpec} {body : Body} {m : Cmd} {st : Status} {d : Nat}
    {ws : List Word} (hop : c.op ≠ 0x12) (hop' : c.op < 256) (hw : st ≠ .wrongState) (hn : st ≠ .notNegotiated)
    (ha : s.accepts c m = true)
    (hb : body .host m.args m.words (s.received m.frame) = (u, .now st d ws)) :
    State.answers s u (s.hostCmd c body m) m c.op st d ws := by
  obtain ⟨e, hr⟩ := hostCmd_runs (body := body) ha
  have hm : c.op % 256 = c.op := Nat.mod_eq_of_lt hop'
  have hc : ∀ v : State, v.countStatus st = v := by
    intro v; cases st <;> first | rfl | exact absurd rfl hw | exact absurd rfl hn
  rw [e]
  simp only [State.runCmd, State.judgeCmd, hr, hb, State.respond, State.sendRsp, State.rspWords,
    State.rspWord, State.answers, Sender.isHost]
  simp [hm, hop, hc]

/-- An accepted message whose body waits for some work is outstanding. -/
theorem hostCmd_awaits {s u : State} {c : CmdSpec} {body : Body} {m : Cmd} {k : Nat}
    (ha : s.accepts c m = true)
    (hb : body .host m.args m.words (s.received m.frame) = (u, .later k)) :
    State.awaits s u (s.hostCmd c body m) m c.op k := by
  obtain ⟨e, hr⟩ := hostCmd_runs (body := body) ha
  rw [e]
  simp only [State.runCmd, State.judgeCmd, hr, hb, State.awaits]

/-- A port that is not open takes no message. -/
theorem hostCmd_closed {s : State} {c : CmdSpec} {body : Body} {m : Cmd}
    (h : s.portOpen = false) : s.hostCmd c body m = s := by simp [State.hostCmd, h]

/-! ### Fields of ARGS -/

/-- A field of ARGS reads what was put there. -/
theorem arg_withArg (a : BitVec 24) (hi lo v : Nat) (h : lo ≤ hi) (h' : hi < 24) :
    arg (withArg a hi lo v) hi lo = v % 2 ^ (hi + 1 - lo) := by
  apply Nat.eq_of_testBit_eq
  intro i
  unfold arg fld withArg
  simp only [Nat.testBit_mod_two_pow, Nat.testBit_shiftRight]
  by_cases hi' : i < hi + 1 - lo
  · have e : lo + i < 24 := by omega
    simp only [hi', decide_true, Bool.true_and, BitVec.testBit_toNat, BitVec.getLsbD_setWidth,
      BitVec.getLsbD_or, BitVec.getLsbD_and, BitVec.getLsbD_not, BitVec.getLsbD_ofNat,
      Nat.testBit_shiftLeft, Nat.testBit_two_pow_sub_one, Nat.testBit_mod_two_pow]
    have e1 : lo + i < 32 := by omega
    have e2 : lo + i - lo = i := by omega
    simp [e, e1, e2, hi']
  · simp [hi']

/-- A row of an opcode that several rows share takes its own selector (log entry 25). -/
theorem rowArg_of_le {a : BitVec 24} {hi lo v legal : Nat} (h : arg a hi lo ≤ legal) :
    rowArg a hi lo v legal = withArg a hi lo v := by
  unfold rowArg; simp [Nat.not_lt.mpr h]

end Sys2Proof.Machine
end

