-- ==== Sys2Proof/Laws/Keeps.lean ====
section
/-! SUPPORT. The parts of the state that few operations write: the queue, the enable bits, the TAP, H_RSTn and
the selected recorder sources. One lemma for each shared operation says that it leaves them. -/

namespace Sys2Proof.Machine

/-- The queue, the enable bits of the events, the TAP, whether H_RSTn is low, and REC_SRC. -/
def State.core (s : State) : List Instr × BitVec 128 × Tap × Bool × BitVec 128 :=
  (s.pending, s.ev.en, s.tap, s.pw.hrstLow, s.rcd.srcSel)

@[simp] theorem State.core_mk (a b c d e f g h i j k l m n o p) :
    State.core ⟨a, b, c, d, e, f, g, h, i, j, k, l, m, n, o, p⟩ = (p, g.en, o, m.hrstLow, h.srcSel) := rfl

@[simp] theorem State.core_fold (s : State) :
    (s.pending, s.ev.en, s.tap, s.pw.hrstLow, s.rcd.srcSel) = s.core := rfl

@[simp] theorem State.core_ite (c : Prop) [Decidable c] (a b : State) :
    (if c then a else b).core = if c then a.core else b.core := apply_ite ..

theorem foldl_core {α : Type} (f : State → α → State) (h : ∀ t a, (f t a).core = t.core) (l : List α)
    (s : State) : (l.foldl f s).core = s.core := by
  induction l generalizing s with
  | nil => rfl
  | cons a l ih => rw [List.foldl_cons, ih, h]

theorem State.each_core {α : Type} (s : State) (l : List α) (f : State → α → State)
    (h : ∀ t a, (f t a).core = t.core) : (s.each l f).core = s.core := foldl_core f h l s

@[simp] theorem Recorder.put_srcSel (r : Recorder) (e : Intake) : (r.put e).srcSel = r.srcSel := by
  unfold Recorder.put; (repeat' split) <;> rfl

@[simp] theorem Recorder.arrive_srcSel (r : Recorder) (now : Nat) (e : Intake) :
    (r.arrive now e).srcSel = r.srcSel := by
  unfold Recorder.arrive; dsimp only; (repeat' split) <;> first | rfl | simp

@[simp] theorem State.closeMerge_srcSel (s : State) (m : MergeWin) :
    (s.closeMerge m).rcd.srcSel = s.rcd.srcSel := by
  unfold State.closeMerge; dsimp only; split <;> simp

@[simp] theorem State.mergedUntil_srcSel (s : State) (e : Intake) :
    (s.mergedUntil e).srcSel = s.rcd.srcSel := by
  unfold State.mergedUntil; (repeat' split) <;> simp

@[simp] theorem Recorder.shadowed_srcSel (r : Recorder) (ws : List Word) :
    (r.shadowed ws).srcSel = r.srcSel := by
  unfold Recorder.shadowed; dsimp only

@[simp] theorem Recorder.writeControl_srcSel (r : Recorder) (c : ControlCopy) :
    (r.writeControl c).srcSel = r.srcSel := by
  unfold Recorder.writeControl; dsimp only; split <;> rfl

@[simp] theorem Recorder.hinted_srcSel (r : Recorder) : r.hinted.srcSel = r.srcSel := by
  unfold Recorder.hinted; dsimp only; split <;> simp

@[simp] theorem Recorder.noteFault_srcSel (r : Recorder) (c : Byte) (b : Nat) (o p : Word) :
    (r.noteFault c b o p).srcSel = r.srcSel := by
  unfold Recorder.noteFault; dsimp only; split <;> rfl

@[simp] theorem Recorder.markBad_srcSel (r : Recorder) (b : Nat) : (r.markBad b).srcSel = r.srcSel := by
  unfold Recorder.markBad; split <;> rfl

@[simp] theorem Recorder.readFaults_srcSel (r : Recorder) : r.readFaults.srcSel = r.srcSel := by
  unfold Recorder.readFaults; split <;> rfl

@[simp] theorem Recorder.store_srcSel (r : Recorder) (k : Nat) (e : Intake) : (r.store k e).srcSel = r.srcSel := by
  unfold Recorder.store; simp

@[simp] theorem Recorder.commitClear_srcSel (r : Recorder) (c : ClearEntry) :
    (r.commitClear c).srcSel = r.srcSel := by
  unfold Recorder.commitClear; simp

@[simp] theorem Recorder.find_srcSel (r : Recorder) (k : Nat) : (r.find k).srcSel = r.srcSel := by
  unfold Recorder.find; rfl

@[simp] theorem Recorder.found_srcSel (r : Recorder) (b : BootInput) : (r.found b).srcSel = r.srcSel := by
  unfold Recorder.found; simp

/-! ### Words.lean -/

@[simp] theorem State.setCh_core (s : State) (n : Ch) (c : Channel) :
    (State.setCh s n c).core = s.core := by
  rfl

@[simp] theorem State.modCh_core (s : State) (n : Ch) (f : Channel → Channel) :
    (State.modCh s n f).core = s.core := by
  rfl

@[simp] theorem State.setGrp_core (s : State) (g : Grp) (x : Group) :
    (State.setGrp s g x).core = s.core := by
  rfl

@[simp] theorem State.modGrp_core (s : State) (g : Grp) (f : Group → Group) :
    (State.modGrp s g f).core = s.core := by
  rfl

@[simp] theorem State.modOut_core (s : State) (n : Ch) (f : ChOut → ChOut) :
    (State.modOut s n f).core = s.core := by
  rfl

@[simp] theorem State.modIn_core (s : State) (n : Ch) (f : ChIn → ChIn) :
    (State.modIn s n f).core = s.core := by
  rfl

@[simp] theorem State.modAi_core (s : State) (n : Ch) (f : ChAi → ChAi) :
    (State.modAi s n f).core = s.core := by
  rfl

@[simp] theorem State.modAo_core (s : State) (n : Ch) (f : ChAo → ChAo) :
    (State.modAo s n f).core = s.core := by
  rfl

@[simp] theorem State.modHart_core (s : State) (n : Ch) (f : ChHart → ChHart) :
    (State.modHart s n f).core = s.core := by
  rfl

@[simp] theorem State.modGuard_core (s : State) (n : Ch) (f : ChGuard → ChGuard) :
    (State.modGuard s n f).core = s.core := by
  rfl

@[simp] theorem State.modSup_core (s : State) (g : Grp) (f : GrpSup → GrpSup) :
    (State.modSup s g f).core = s.core := by
  rfl

@[simp] theorem State.modLink_core (s : State) (g : Grp) (f : GrpLink → GrpLink) :
    (State.modLink s g f).core = s.core := by
  rfl

@[simp] theorem State.modConv_core (s : State) (g : Grp) (f : GrpConv → GrpConv) :
    (State.modConv s g f).core = s.core := by
  rfl

/-! ### Ops.lean -/

@[simp] theorem State.tookFree_core (s : State) : (State.tookFree s).core = s.core := by rfl

@[simp] theorem State.closeMerge_core (s : State) (m : MergeWin) :
    (State.closeMerge s m).core = s.core := by
  unfold State.closeMerge; simp

@[simp] theorem State.recordSpecial_core (s : State) (source : Byte) (code subject : BitVec 16) (p0 p1 p2 : Word) :
    (State.recordSpecial s source code subject p0 p1 p2).core = s.core := by
  unfold State.recordSpecial; simp

@[simp] theorem State.recordOnly_core (s : State) (src : Nat) (subject code : BitVec 16) (p0 p1 p2 : Word) :
    (State.recordOnly s src subject code p0 p1 p2).core = s.core := by
  unfold State.recordOnly; simp

@[simp] theorem State.raiseAt_core (s : State) (src : Fin 128) (subject code : BitVec 16) (p0 p1 p2 : Word) (stamp : Word) (nocomb : Bool) :
    (State.raiseAt s src subject code p0 p1 p2 stamp nocomb).core = s.core := by
  unfold State.raiseAt; simp

@[simp] theorem State.raise_core (s : State) (src : Fin 128) (subject code : Nat) (p0 p1 p2 : Word) :
    (State.raise s src subject code p0 p1 p2).core = s.core := by
  unfold State.raise; simp

@[simp] theorem State.fieldRaise_core (s : State) (g : Grp) (src : Fin 128) (subject code : Nat) (p0 p1 p2 : Word) :
    (State.fieldRaise s g src subject code p0 p1 p2).core = s.core := by
  unfold State.fieldRaise; simp

@[simp] theorem State.raiseFault_core (s : State) (n : Ch) (code : Nat) :
    (State.raiseFault s n code).core = s.core := by
  unfold State.raiseFault; simp

@[simp] theorem State.setFault_core (s : State) (n : Ch) (b : Nat) :
    (State.setFault s n b).core = s.core := by
  unfold State.setFault; simp

@[simp] theorem State.tripFault_core (s : State) (n : Ch) (b : Nat) :
    (State.tripFault s n b).core = s.core := by
  unfold State.tripFault; simp

@[simp] theorem State.recordDecision_core (s : State) (n : Ch) (decision : Nat) :
    (State.recordDecision s n decision).core = s.core := by
  unfold State.recordDecision; simp

@[simp] theorem State.countNoop_core (s : State) (n : Ch) : (State.countNoop s n).core = s.core := by rfl

@[simp] theorem State.raiseSupply_core (s : State) (g : Grp) (code : Nat) :
    (State.raiseSupply s g code).core = s.core := by
  unfold State.raiseSupply; simp

@[simp] theorem State.raiseThermal_core (s : State) (g : Grp) (code : Nat) :
    (State.raiseThermal s g code).core = s.core := by
  unfold State.raiseThermal; simp

@[simp] theorem State.raiseLink_core (s : State) (g : Grp) (code : Nat) :
    (State.raiseLink s g code).core = s.core := by
  unfold State.raiseLink; simp

@[simp] theorem State.raiseRec_core (s : State) (src : Fin 128) :
    (State.raiseRec s src).core = s.core := by
  unfold State.raiseRec; simp

@[simp] theorem State.raiseCal_core (s : State) (g : Grp) (code : Nat) :
    (State.raiseCal s g code).core = s.core := by
  unfold State.raiseCal; simp

@[simp] theorem State.raiseRef_core (s : State) (g : Grp) (code : Nat) :
    (State.raiseRef s g code).core = s.core := by
  unfold State.raiseRef; simp

@[simp] theorem State.raiseLate_core (s : State) (idx code : Nat) :
    (State.raiseLate s idx code).core = s.core := by
  unfold State.raiseLate; simp

@[simp] theorem State.applyConflict_core (s : State) (n : Ch) :
    (State.applyConflict s n).core = s.core := by
  unfold State.applyConflict; simp

@[simp] theorem State.fokRefresh_core (s : State) : (State.fokRefresh s).core = s.core := by rfl

@[simp] theorem State.settleDstate_core (s : State) : (State.settleDstate s).core = s.core := by rfl

@[simp] theorem State.enterMode_core (s : State) (m : Mode) (cause : Nat) :
    (State.enterMode s m cause).core = s.core := by
  unfold State.enterMode; simp

/-! ### Results.lean -/

@[simp] theorem State.raiseOverflow_core (s : State) (strm : Bool) :
    (State.raiseOverflow s strm).core = s.core := by
  unfold State.raiseOverflow; simp

@[simp] theorem State.settlePause_core (s : State) : (State.settlePause s).core = s.core := by rfl

@[simp] theorem State.afterPut_core (s : State) (strm : Bool) :
    (State.afterPut s strm).core = s.core := by
  unfold State.afterPut; simp

@[simp] theorem State.afterTake_core (s : State) (strm : Bool) :
    (State.afterTake s strm).core = s.core := by
  unfold State.afterTake; simp

@[simp] theorem State.putEntry_core (s : State) (strm : Bool) (e : QEntry) :
    (State.putEntry s strm e).core = s.core := by
  unfold State.putEntry; simp

@[simp] theorem State.putMarkerAt_core (s : State) (tag data : Nat) (stamp : Word) :
    (State.putMarkerAt s tag data stamp).core = s.core := by
  unfold State.putMarkerAt; simp

@[simp] theorem State.putMarker_core (s : State) (tag data : Nat) :
    (State.putMarker s tag data).core = s.core := by
  unfold State.putMarker; simp

@[simp] theorem State.capFinish_core (s : State) :
    (State.capFinish s).core = s.core := by
  unfold State.capFinish; simp

@[simp] theorem State.capTrigger_core (s : State) (stamp : Word) :
    (State.capTrigger s stamp).core = s.core := by
  unfold State.capTrigger; simp

@[simp] theorem State.capResult_core (s : State) (n : Ch) (w stamp : Word) :
    (State.capResult s n w stamp).core = s.core := by
  unfold State.capResult; simp

@[simp] theorem State.capChange_core (s : State) (n : Ch) (rising : Bool) (stamp : Word) :
    (State.capChange s n rising stamp).core = s.core := by
  unfold State.capChange; simp

@[simp] theorem State.setWindow_core (s : State) (n : Ch) (w : Word) :
    (State.setWindow s n w).core = s.core := by
  rfl

@[simp] theorem State.noteOvr_core (s : State) (n : Ch) :
    (State.noteOvr s n).core = s.core := by
  unfold State.noteOvr; simp

@[simp] theorem State.routeEntry_core (s : State) (n : Ch) (e : QEntry) :
    (State.routeEntry s n e).core = s.core := by
  unfold State.routeEntry; (repeat' split) <;> simp

@[simp] theorem State.keepOnDie_core (s : State) (g : Grp) (parts : List Bool) (words : Nat) (d : DieEntry) :
    (State.keepOnDie s g parts words d).core = s.core := by
  rfl

@[simp] theorem State.keepResult_core (s : State) (n : Ch) (d : DieEntry) :
    (State.keepResult s n d).core = s.core := by
  unfold State.keepResult; simp

@[simp] theorem State.putLate_core (s : State) (strm : Bool) (late : Nat) :
    (State.putLate s strm late).core = s.core := by
  unfold State.putLate; simp

@[simp] theorem State.takeResult_core (s : State) (n : Ch) (d : DieEntry) :
    (State.takeResult s n d).core = s.core := by
  unfold State.takeResult; (repeat' split) <;> simp

@[simp] theorem State.putResult_core (s : State) (n : Ch) (d : DieEntry) :
    (State.putResult s n d).core = s.core := by
  unfold State.putResult; (repeat' split) <;> simp

@[simp] theorem State.putWindowOnly_core (s : State) (n : Ch) :
    (State.putWindowOnly s n).core = s.core := by
  unfold State.putWindowOnly; simp

@[simp] theorem State.enterCell_core (s : State) (rs : List (Ch × DieEntry)) :
    (s.enterCell rs).core = s.core := foldl_core _ (fun _ _ => State.takeResult_core ..) _ _

@[simp] theorem State.putCell_core (s : State) (late : Option Nat) (rs : List (Ch × DieEntry)) :
    (s.putCell late rs).core = s.core := by
  unfold State.putCell; dsimp only; (repeat' split)
  · exact foldl_core _ (fun _ _ => State.keepResult_core ..) _ _
  · simp
  · rfl

@[simp] theorem State.finishJobs_core (s : State) : s.finishJobs.core = s.core :=
  State.each_core _ _ _ fun _ _ => State.putCell_core ..

@[simp] theorem State.jobResult_core (s : State) (job : Nat) (n : Ch) (e : Option DieEntry) :
    (State.jobResult s job n e).core = s.core := by
  unfold State.jobResult; simp

@[simp] theorem State.loseReq_core (s : State) (n : Ch) (r : Option ConvReq) :
    (s.loseReq n r).core = s.core := by
  unfold State.loseReq; split <;> simp

@[simp] theorem State.dropConv_core (s : State) (n : Ch) :
    (State.dropConv s n).core = s.core := by
  unfold State.dropConv; simp

@[simp] theorem State.killConv_core (s : State) (n : Ch) :
    (State.killConv s n).core = s.core := by
  unfold State.killConv; simp

@[simp] theorem State.dropShares_core (s : State) (gs : List Grp) : (s.dropShares gs).core = s.core :=
  State.finishJobs_core _

/-! ### Outputs.lean -/

@[simp] theorem State.modOutP_core (s : State) (n : Ch) (f : ChOut → ChOut) :
    (State.modOutP s n f).core = s.core := by
  unfold State.modOutP; simp

@[simp] theorem State.noteOn_core (s : State) (g : Grp) : (State.noteOn s g).core = s.core := by rfl

@[simp] theorem State.switchOn_core (s : State) (n : Ch) :
    (State.switchOn s n).core = s.core := by
  unfold State.switchOn; simp

@[simp] theorem State.switchOff_core (s : State) (n : Ch) (p : PState) :
    (State.switchOff s n p).core = s.core := by
  unfold State.switchOff; simp

@[simp] theorem State.refreshDuty_core (s : State) (n : Ch) :
    (State.refreshDuty s n).core = s.core := by
  unfold State.refreshDuty; (repeat' split) <;> simp

@[simp] theorem State.guardDuty_core (s : State) (n : Ch) :
    (State.guardDuty s n).core = s.core := by
  unfold State.guardDuty; (repeat' split) <;> simp

@[simp] theorem State.clearRetry_core (s : State) (n : Ch) :
    (State.clearRetry s n).core = s.core := by
  unfold State.clearRetry; simp

@[simp] theorem State.commandOff_core (s : State) (n : Ch) :
    (State.commandOff s n).core = s.core := by
  unfold State.commandOff; (repeat' split) <;> simp

@[simp] theorem State.commandOn_core (s : State) (n : Ch) (d : BitVec 14) :
    (State.commandOn s n d).core = s.core := by
  unfold State.commandOn; (repeat' split) <;> simp

@[simp] theorem State.command_core (s : State) (n : Ch) (on : Bool) (d : BitVec 14) :
    (State.command s n on d).core = s.core := by
  unfold State.command; simp

@[simp] theorem State.lockOff_core (s : State) (n : Ch) :
    (State.lockOff s n).core = s.core := by
  unfold State.lockOff; simp

@[simp] theorem State.trip_core (s : State) (n : Ch) :
    (State.trip s n).core = s.core := by
  unfold State.trip; simp

@[simp] theorem State.policyOn_core (s : State) (n : Ch) :
    (State.policyOn s n).core = s.core := by
  unfold State.policyOn; simp

@[simp] theorem State.retryNow_core (s : State) (n : Ch) :
    (State.retryNow s n).core = s.core := by
  unfold State.retryNow; simp

@[simp] theorem State.setCode_core (s : State) (n : Ch) (k : BitVec 16) :
    (State.setCode s n k).core = s.core := by
  unfold State.setCode; simp

@[simp] theorem State.applyCode_core (s : State) (n : Ch) (k : BitVec 16) :
    (State.applyCode s n k).core = s.core := by
  unfold State.applyCode; simp

@[simp] theorem State.setLoop_core (s : State) (n : Ch) (on : Bool) :
    (State.setLoop s n on).core = s.core := by
  unfold State.setLoop; simp

@[simp] theorem State.loopOn_core (s : State) (n : Ch) :
    (State.loopOn s n).core = s.core := by
  unfold State.loopOn; simp

@[simp] theorem State.loopOff_core (s : State) (n : Ch) : (State.loopOff s n).core = s.core := by rfl

@[simp] theorem State.outputsOff_core (s : State) (n : Ch) :
    (State.outputsOff s n).core = s.core := by
  unfold State.outputsOff; simp

@[simp] theorem State.clearOverridden_core (s : State) (n : Ch) :
    (State.clearOverridden s n).core = s.core := by
  rfl

@[simp] theorem State.countOverride_core (s : State) (n : Ch) :
    (State.countOverride s n).core = s.core := by
  rfl

@[simp] theorem State.setPend_core (s : State) (n : Ch) (p : PendCmd) :
    (State.setPend s n p).core = s.core := by
  rfl

/-! ### Safe.lean -/

@[simp] theorem State.takeChannel_core (s : State) (n : Ch) : (State.takeChannel s n).core = s.core := by rfl

@[simp] theorem State.markApplied_core (s : State) (n : Ch) : (State.markApplied s n).core = s.core := by rfl

@[simp] theorem State.entryOff_core (s : State) (n : Ch) :
    (State.entryOff s n).core = s.core := by
  unfold State.entryOff; (repeat' split) <;> simp

@[simp] theorem State.entryOn_core (s : State) (n : Ch) (d : BitVec 14) :
    (State.entryOn s n d).core = s.core := by
  unfold State.entryOn; simp

@[simp] theorem State.applyEntry_core (s : State) (n : Ch) :
    (State.applyEntry s n).core = s.core := by
  unfold State.applyEntry; dsimp only; (repeat' split) <;> first | rfl | simp

@[simp] theorem State.allOff_core (s : State) (g : Grp) :
    (State.allOff s g).core = s.core := by
  unfold State.allOff; simp [State.each_core]

@[simp] theorem State.badCopy_core (s : State) (g : Grp) :
    (State.badCopy s g).core = s.core := by
  unfold State.badCopy; simp

@[simp] theorem State.takeover_core (s : State) (g : Grp) (cause : Nat) (sel : Ch → Bool) :
    (State.takeover s g cause sel).core = s.core := by
  unfold State.takeover; simp [State.each_core]

@[simp] theorem State.takeGroups_core (s : State) (gs : List Grp) (cause : Nat) :
    (State.takeGroups s gs cause).core = s.core := by
  unfold State.takeGroups; simp [State.each_core]

@[simp] theorem State.takeAll_core (s : State) (cause : Nat) :
    (State.takeAll s cause).core = s.core := by
  unfold State.takeAll; simp

@[simp] theorem State.safeTrigger_core (s : State) (cause : Nat) :
    (State.safeTrigger s cause).core = s.core := by
  unfold State.safeTrigger; (repeat' split) <;> simp

@[simp] theorem State.policyFault_core (s : State) (sel : Nat) (src : Nat) (subject code : Nat) (p0 p1 p2 : Word) :
    (State.policyFault s sel src subject code p0 p1 p2).core = s.core := by
  unfold State.policyFault; simp

@[simp] theorem State.internalFault_core (s : State) (code : Nat) (p0 p1 p2 : Word) :
    (State.internalFault s code p0 p1 p2).core = s.core := by
  unfold State.internalFault; simp

@[simp] theorem State.queueTurns_core (s : State) (g : Grp) : (State.queueTurns s g).core = s.core := by rfl

@[simp] theorem State.staggerStep_core (s : State) (g : Grp) :
    (State.staggerStep s g).core = s.core := by
  unfold State.staggerStep; (repeat' split) <;> simp

@[simp] theorem State.releaseChannel_core (s : State) (restore : Bool) (n : Ch) :
    (State.releaseChannel s restore n).core = s.core := by
  unfold State.releaseChannel; simp

@[simp] theorem State.releaseGroup_core (s : State) (restore : Bool) (g : Grp) :
    (State.releaseGroup s restore g).core = s.core := by
  unfold State.releaseGroup; simp [State.each_core]

/-! ### CombTime.lean -/

@[simp] theorem State.tbEvent_core (s : State) (d : Nat) :
    (State.tbEvent s d).core = s.core := by
  unfold State.tbEvent; simp

@[simp] theorem State.modPos_core (s : State) (g : Grp) (f : DiePos → DiePos) :
    (State.modPos s g f).core = s.core := by
  rfl

@[simp] theorem State.closeWindows_core (s : State) (c : Comb) :
    (State.closeWindows s c).core = s.core := by
  unfold State.closeWindows; simp [State.each_core]

@[simp] theorem State.countGen_core (s old : State) :
    (State.countGen s old).core = s.core := by
  unfold State.countGen; simp

@[simp] theorem State.wrapMarker_core (s : State) :
    (State.wrapMarker s).core = s.core := by
  unfold State.wrapMarker; simp

@[simp] theorem State.stopComb_core (s : State) :
    (State.stopComb s).core = s.core := by
  unfold State.stopComb; simp [State.each_core]

@[simp] theorem State.startComb_core (s : State) :
    (State.startComb s).core = s.core := by
  unfold State.startComb; (repeat' split) <;> simp [State.each_core]

@[simp] theorem State.reachH_core (s : State) (c : Comb) (g : Grp) (x : Int) (passed : Bool) :
    (State.reachH s c g x passed).core = s.core := by
  rfl

@[simp] theorem State.followE_core (s : State) (c : Comb) (g : Grp) (passed : Bool) :
    (State.followE s c g passed).core = s.core := by
  rfl

@[simp] theorem State.jumpTo_core (s : State) (c : Comb) (g : Grp) (real : Nat) :
    (State.jumpTo s c g real).core = s.core := by
  rfl

@[simp] theorem State.declareReverse_core (s : State) :
    (State.declareReverse s).core = s.core := by
  unfold State.declareReverse; simp

@[simp] theorem State.afterMove_core (s old : State) :
    (State.afterMove s old).core = s.core := by
  unfold State.afterMove; simp

@[simp] theorem State.resume_core (s : State) :
    (State.resume s).core = s.core := by
  unfold State.resume; (repeat' split) <;> simp [State.each_core]

@[simp] theorem State.checkRate_core (s : State) :
    (State.checkRate s).core = s.core := by
  unfold State.checkRate; (repeat' split) <;> simp

@[simp] theorem State.noteMove_core (s : State) (d : Int) :
    (State.noteMove s d).core = s.core := by
  unfold State.noteMove; simp

@[simp] theorem State.moveTb1_core (s : State) (d : Int) :
    (State.moveTb1 s d).core = s.core := by
  unfold State.moveTb1; (repeat' split) <;> simp [State.each_core]

@[simp] theorem State.moveTb2_core (s : State) (d : Int) :
    (State.moveTb2 s d).core = s.core := by
  unfold State.moveTb2; (repeat' split) <;> simp [State.each_core]

@[simp] theorem State.moveTb3_core (s : State) (c : Comb) :
    (State.moveTb3 s c).core = s.core := by
  unfold State.moveTb3; simp [State.each_core]

@[simp] theorem State.extrapolate_core (s : State) (c : Comb) (g : Grp) :
    (State.extrapolate s c g).core = s.core := by
  unfold State.extrapolate; simp

@[simp] theorem State.emulate_core (s : State) (c : Comb) :
    (State.emulate s c).core = s.core := by
  unfold State.emulate; simp [State.each_core]

@[simp] theorem State.combTick_core (s : State) :
    (State.combTick s).core = s.core := by
  unfold State.combTick; (repeat' split) <;> simp [State.each_core]

@[simp] theorem State.stallSafe_core (s : State) :
    (State.stallSafe s).core = s.core := by
  unfold State.stallSafe; simp [State.each_core]

@[simp] theorem State.stall_core (s : State) :
    (State.stall s).core = s.core := by
  unfold State.stall; (repeat' split) <;> simp

@[simp] theorem State.hostCommand_core (s : State) (n : Ch) (on : Bool) (d : BitVec 14) :
    (State.hostCommand s n on d).core = s.core := by
  unfold State.hostCommand; simp

@[simp] theorem State.takePend_core (s : State) (n : Ch) (p : PendCmd) :
    (State.takePend s n p).core = s.core := by
  unfold State.takePend; simp

@[simp] theorem State.applyPendFree_core (s : State) (n : Ch) :
    (State.applyPendFree s n).core = s.core := by
  unfold State.applyPendFree; (repeat' split) <;> simp

@[simp] theorem State.takeUnderComb_core (s : State) (n : Ch) :
    (State.takeUnderComb s n).core = s.core := by
  rfl

@[simp] theorem State.exchange_core (s : State) :
    (State.exchange s).core = s.core := by
  unfold State.exchange; (repeat' split) <;> simp [State.each_core]

/-! ### Inputs.lean -/

@[simp] theorem State.acceptChange_core (s : State) (n : Ch) (st : Bool) (stamp : Word) (nocomb : Bool) :
    (State.acceptChange s n st stamp nocomb).core = s.core := by
  unfold State.acceptChange; simp

@[simp] theorem State.validReturn_core (s : State) (n : Ch) :
    (State.validReturn s n).core = s.core := by
  unfold State.validReturn; dsimp only; (repeat' split) <;> first | rfl | simp

@[simp] theorem State.acceptLevel_core (s : State) (n : Ch) (level : Bool) (stamp : Word) (nocomb : Bool) :
    (State.acceptLevel s n level stamp nocomb).core = s.core := by
  unfold State.acceptLevel; simp

@[simp] theorem State.noteShort_core (s : State) (n : Ch) :
    (State.noteShort s n).core = s.core := by
  unfold State.noteShort; simp

@[simp] theorem State.measureLoad_core (s : State) (ch : Ch) (iload : BitVec 16) :
    (State.measureLoad s ch iload).core = s.core := by
  unfold State.measureLoad; simp

@[simp] theorem State.retrack_core (s : State) : (State.retrack s).core = s.core := by rfl

@[simp] theorem State.measureMains_core (s : State) (ch : Ch) (m : ChMeas) :
    (State.measureMains s ch m).core = s.core := by
  unfold State.measureMains; simp

@[simp] theorem State.terminalMeasured_core (s : State) (ch : Ch) (m : ChMeas) :
    (State.terminalMeasured s ch m).core = s.core := by
  unfold State.terminalMeasured; simp

@[simp] theorem State.queueMon_core (s : State) (g : Grp) (same : MonJob → Bool) (j : MonJob) :
    (State.queueMon s g same j).core = s.core := by
  rfl

@[simp] theorem State.mainsTick_core (s : State) (n : Ch) :
    (State.mainsTick s n).core = s.core := by
  unfold State.mainsTick; simp

@[simp] theorem State.addCount_core (s : State) (n : Ch) (d : Int) :
    (State.addCount s n d).core = s.core := by
  unfold State.addCount; simp

@[simp] theorem State.countLevel_core (s : State) (n : Ch) (level : Bool) :
    (State.countLevel s n level).core = s.core := by
  unfold State.countLevel; simp

@[simp] theorem State.indexPair_core (s : State) (p : Ch) :
    (State.indexPair s p).core = s.core := by
  unfold State.indexPair; (repeat' split) <;> simp

/-! ### Protect.lean -/

@[simp] theorem State.thermalTrip_core (s : State) (ch : Ch) (b : Nat) :
    (State.thermalTrip s ch b).core = s.core := by
  unfold State.thermalTrip; simp

@[simp] theorem State.shedChannel_core (s : State) (env : Bool) (n : Ch) :
    (State.shedChannel s env n).core = s.core := by
  unfold State.shedChannel; simp

@[simp] theorem State.restoreChannel_core (s : State) (n : Ch) :
    (State.restoreChannel s n).core = s.core := by
  unfold State.restoreChannel; simp

/-! ### Supply.lean -/

@[simp] theorem State.setVf_core (s : State) (g : Grp) (vf : BitVec 16) :
    (State.setVf s g vf).core = s.core := by
  rfl

@[simp] theorem State.measureVf_core (s : State) (g : Grp) (vf : BitVec 16) :
    (State.measureVf s g vf).core = s.core := by
  unfold State.measureVf; simp

@[simp] theorem State.crossWarn_core (s : State) (g : Grp) :
    (State.crossWarn s g).core = s.core := by
  unfold State.crossWarn; simp

@[simp] theorem State.crossLow_core (s : State) (g : Grp) :
    (State.crossLow s g).core = s.core := by
  unfold State.crossLow; simp [State.each_core]

@[simp] theorem State.dropChannel_core (s : State) (n : Ch) :
    (State.dropChannel s n).core = s.core := by
  unfold State.dropChannel; (repeat' split) <;> simp

@[simp] theorem State.recoverChannel_core (s : State) (n : Ch) :
    (State.recoverChannel s n).core = s.core := by
  unfold State.recoverChannel; (repeat' split) <;> simp

@[simp] theorem State.markTurn_core (s : State) (n : Ch) : (State.markTurn s n).core = s.core := by rfl

@[simp] theorem State.recoverGroup_core (s : State) (g : Grp) :
    (State.recoverGroup s g).core = s.core := by
  unfold State.recoverGroup; simp [State.each_core]

@[simp] theorem State.clearRef_core (s : State) (g : Grp) :
    (State.clearRef s g).core = s.core := by
  unfold State.clearRef; simp [State.each_core]

@[simp] theorem State.loseRef_core (s : State) (g : Grp) :
    (State.loseRef s g).core = s.core := by
  unfold State.loseRef; simp

@[simp] theorem State.writeGuard_core (s : State) (g : Grp) : (State.writeGuard s g).core = s.core := by rfl

/-! ### Conv.lean -/

@[simp] theorem State.restartFilter_core (s : State) (n : Ch) :
    (State.restartFilter s n).core = s.core := by
  unfold State.restartFilter; simp

@[simp] theorem State.takeReq_core (s : State) (n : Ch) (r : ConvReq) :
    (State.takeReq s n r).core = s.core := by
  rfl

theorem State.takeMon_core {s t : State} {g : Grp} (h : s.takeMon g = some t) : t.core = s.core := by
  unfold State.takeMon at h; split at h <;> [split at h; skip] <;> cases h; simp

theorem State.takeCal_core {s t : State} {g : Grp} (h : s.takeCal g = some t) : t.core = s.core := by
  unfold State.takeCal at h; dsimp only at h; split at h <;> cases h; simp

@[simp] theorem State.dispatchOne_core (s : State) (g : Grp) : (s.dispatchOne g).core = s.core := by
  unfold State.dispatchOne; split
  · simp
  · cases hm : s.takeMon g with
    | some t => exact State.takeMon_core hm
    | none =>
      simp only [Option.getD_none]; split
      · simp
      · split
        · simp
        · cases hc : s.takeCal g with
          | some t => exact State.takeCal_core hc
          | none => rfl

@[simp] theorem State.dispatch_core (s : State) (g : Grp) : (s.dispatch g).core = s.core :=
  foldl_core _ (fun _ _ => State.dispatchOne_core ..) _ _

@[simp] theorem State.startConv_core (s : State) (n : Ch) (cls : QClass) (stamp : Word) (job : Option Nat) :
    (State.startConv s n cls stamp job).core = s.core := by
  unfold State.startConv; simp

@[simp] theorem State.calNext_core (s : State) (g : Grp) :
    (State.calNext s g).core = s.core := by
  unfold State.calNext; dsimp only; (repeat' split) <;> rfl

@[simp] theorem State.beginCal_core (s : State) (g : Grp) :
    (State.beginCal s g).core = s.core := by
  unfold State.beginCal; simp

@[simp] theorem State.serveGroup_core (s : State) (g : Grp) :
    (State.serveGroup s g).core = s.core := by
  unfold State.serveGroup; simp

@[simp] theorem State.convDone_core (s : State) (n : Ch) (r : ConvReq) (e : Option DieEntry) :
    (s.convDone n r e).core = s.core := by
  unfold State.convDone; dsimp only; rw [State.serveGroup_core]; split <;> simp

@[simp] theorem State.countPause_core (s : State) : (State.countPause s).core = s.core := by rfl

@[simp] theorem State.inject_core (s : State) (n : Ch) :
    (State.inject s n).core = s.core := by
  unfold State.inject; simp

@[simp] theorem State.noteLateInj_core (s : State) (g : Grp) :
    (State.noteLateInj s g).core = s.core := by
  unfold State.noteLateInj; simp

@[simp] theorem State.holdInj_core (s : State) (n : Ch) :
    (State.holdInj s n).core = s.core := by
  unfold State.holdInj; simp

@[simp] theorem State.settleRef_core (s : State) (g : Grp) :
    (State.settleRef s g).core = s.core := by
  unfold State.settleRef; simp

@[simp] theorem State.declareFaulty_core (s : State) (g : Grp) (k : Slice) :
    (State.declareFaulty s g k).core = s.core := by
  unfold State.declareFaulty; simp

@[simp] theorem State.putMonitor_core (s : State) (g : Grp) (tag : Nat) (data : BitVec 24) :
    (State.putMonitor s g tag data).core = s.core := by
  unfold State.putMonitor; (repeat' split) <;> simp

@[simp] theorem State.internalMeasured_core (s : State) (g : Grp) (vf tdie : BitVec 16) (refUv : BitVec 24) (cj : BitVec 16) :
    (State.internalMeasured s g vf tdie refUv cj).core = s.core := by
  unfold State.internalMeasured; simp

@[simp] theorem State.endMon_core (s : State) (g : Grp) (j : MonJob) : (s.endMon g j).core = s.core := by
  unfold State.endMon; split <;> split <;> simp

@[simp] theorem State.endSide_core (s : State) (g : Grp) : (s.endSide g).core = s.core := by
  unfold State.endSide; dsimp only; split
  · split <;> simp
  · simp

@[simp] theorem State.endCal_core (s : State) (g : Grp) :
    (State.endCal s g).core = s.core := by
  unfold State.endCal; simp

/-! ### CombRun.lean -/

@[simp] theorem State.noteLate_core (s : State) (d : DueCell) (code : Nat) :
    (State.noteLate s d code).core = s.core := by
  unfold State.noteLate; simp

@[simp] theorem State.keepSeen_core (s : State) (c : Comb) : (State.keepSeen s c).core = s.core := by rfl

@[simp] theorem State.skipFront_core (s : State) (c : Comb) (g : Grp) :
    (State.skipFront s c g).core = s.core := by
  unfold State.skipFront; (repeat' split) <;> simp

@[simp] theorem State.skipLate_core (s : State) (c : Comb) : (s.skipLate c).core = s.core := by
  unfold State.skipLate
  rw [State.keepSeen_core]
  exact State.each_core _ _ _ fun t g => foldl_core _ (fun _ _ => State.skipFront_core ..) _ _

@[simp] theorem State.beginCell_core (s : State) (g : Grp) (x : Cell) :
    (State.beginCell s g x).core = s.core := by
  rfl

theorem State.runCell_core (s : State) (action idx : Nat) (f : State → Cell → Started → State)
    (h : ∀ t c x, (f t c x).core = t.core) : (s.runCell action idx f).core = s.core := by
  unfold State.runCell; dsimp only
  (repeat' split) <;> simp [h, State.each_core]

theorem State.eachCovered_core (s : State) (c : Cell) (conv : Bool) (f : State → Ch → State)
    (h : ∀ t n, (f t n).core = t.core) : (s.eachCovered c conv f).core = s.core := by
  refine State.each_core _ _ _ fun t n => ?_
  split <;> simp [h]

@[simp] theorem State.discardPend_core (s : State) (n : Ch) :
    (State.discardPend s n).core = s.core := by
  unfold State.discardPend; (repeat' split) <;> simp

@[simp] theorem State.loseSample_core (s : State) (n : Ch) :
    (State.loseSample s n).core = s.core := by
  unfold State.loseSample; simp

@[simp] theorem State.joinJob_core (s : State) (x : Started) (w : Word) (got : List (Nat × DieEntry)) :
    (s.joinJob x w got).1.core = s.core := by
  unfold State.joinJob; split <;> rfl

@[simp] theorem State.sampleCell_core (s : State) (c : Cell) (x : Started) (useHeld : Bool) :
    (s.sampleCell c x useHeld).core = s.core := by
  unfold State.sampleCell; dsimp only
  rw [State.finishJobs_core, State.eachCovered_core _ _ _ _ ?_, State.joinJob_core]
  intro t n; (repeat' split) <;> simp

@[simp] theorem State.policyApply_core (s : State) (n : Ch) :
    (State.policyApply s n).core = s.core := by
  unfold State.policyApply; simp

@[simp] theorem State.applyAt_core (s : State) (n : Ch) :
    (State.applyAt s n).core = s.core := by
  unfold State.applyAt; dsimp only; (repeat' split) <;> first | rfl | simp

@[simp] theorem State.pulseAt_core (s : State) (on : Bool) (n : Ch) :
    (State.pulseAt s on n).core = s.core := by
  unfold State.pulseAt; simp

@[simp] theorem State.aoApplyAt_core (s : State) (n : Ch) :
    (State.aoApplyAt s n).core = s.core := by
  unfold State.aoApplyAt; (repeat' split) <;> simp

@[simp] theorem State.railSlot_core (s : State) (n : Ch) (millivolts tone : Int) :
    (State.railSlot s n millivolts tone).core = s.core := by
  rfl

@[simp] theorem State.wrapDie_core (s : State) (c : Comb) (g : Grp) :
    (State.wrapDie s c g).core = s.core := by
  unfold State.wrapDie; simp

/-! ### Ao.lean -/

@[simp] theorem State.unblock_core (s : State) (n : Ch) :
    (State.unblock s n).core = s.core := by
  unfold State.unblock; dsimp only; (repeat' split) <;> first | rfl | simp

@[simp] theorem State.raiseHart_core (s : State) (n : Ch) (code : Nat) :
    (State.raiseHart s n code).core = s.core := by
  unfold State.raiseHart; simp

/-! ### Links.lean -/

@[simp] theorem State.beginExtrap_core (s : State) (g : Grp) :
    (State.beginExtrap s g).core = s.core := by
  unfold State.beginExtrap; simp

@[simp] theorem State.liveTakeover_core (s : State) (g : Grp) :
    (State.liveTakeover s g).core = s.core := by
  unfold State.liveTakeover; (repeat' split) <;> simp

@[simp] theorem State.raiseHeld_core (s : State) (g : Grp) :
    (State.raiseHeld s g).core = s.core := by
  unfold State.raiseHeld; simp [State.each_core]

@[simp] theorem State.adoptOne_core (s : State) (c : Comb) (g : Grp) :
    (State.adoptOne s c g).core = s.core := by
  rfl

@[simp] theorem State.adoptPos_core (s : State) (g : Grp) :
    (State.adoptPos s g).core = s.core := by
  unfold State.adoptPos; (repeat' split) <;> simp [State.each_core]

@[simp] theorem State.dischargeGates_core (s : State) (g : Grp) :
    (State.dischargeGates s g).core = s.core := by
  unfold State.dischargeGates; simp [State.each_core]

@[simp] theorem State.haltDie_core (s : State) (g : Grp) :
    (State.haltDie s g).core = s.core := by
  unfold State.haltDie; simp [State.each_core]

@[simp] theorem State.openFault_core (s : State) :
    (State.openFault s).core = s.core := by
  unfold State.openFault; simp

@[simp] theorem State.rewriteGuard_core (s : State) (g : Grp) (verifies : Bool) :
    (State.rewriteGuard s g verifies).core = s.core := by
  unfold State.rewriteGuard; simp

@[simp] theorem State.unfreeze_core (s : State) (g : Grp) :
    (State.unfreeze s g).core = s.core := by
  unfold State.unfreeze; simp [State.each_core]

@[simp] theorem State.kv1608Off_core (s : State) :
    (State.kv1608Off s).core = s.core := by
  unfold State.kv1608Off; simp [State.each_core]

@[simp] theorem State.postChallenge_core (s : State) : (State.postChallenge s).core = s.core := by rfl

@[simp] theorem State.waggleFail_core (s : State) (why : Nat) :
    (State.waggleFail s why).core = s.core := by
  unfold State.waggleFail; simp

/-! ### Frames.lean -/

@[simp] theorem State.modPort_core (s : State) (p : Port) (f : SwPort → SwPort) :
    (State.modPort s p f).core = s.core := by
  rfl

@[simp] theorem State.emit_core (s : State) (p : Port) (o : SwOut) :
    (State.emit s p o).core = s.core := by
  rfl

@[simp] theorem State.freeBlocks_core (s : State) (o : Option Port) (f : SwFrame) :
    (State.freeBlocks s o f).core = s.core := by
  unfold State.freeBlocks; (repeat' split) <;> simp

theorem State.sendHead_core {s t : State} {p : Port} {c : SwClass} (h : s.sendHead p c = some t) :
    t.core = s.core := by
  unfold State.sendHead at h
  dsimp only at h
  split at h <;> [cases h; split at h] <;> cases h
  simp

theorem drainFuel_core (k : Nat) (s : State) (p : Port) (c : SwClass) : (drainFuel k s p c).core = s.core := by
  induction k generalizing s with
  | zero => rfl
  | succ k ih =>
    unfold drainFuel; split
    · next h => rw [ih, State.sendHead_core h]
    · rfl

@[simp] theorem State.drain_core (s : State) (p : Port) (c : SwClass) : (s.drain p c).core = s.core :=
  drainFuel_core ..

theorem mixFuel_core (k n : Nat) (s : State) (p : Port) : (mixFuel k n s p).core = s.core := by
  induction k generalizing n s with
  | zero => rfl
  | succ k ih =>
    unfold mixFuel; (repeat' split)
    all_goals first | rfl | (rw [ih]; exact State.sendHead_core ‹_›)

@[simp] theorem State.drainMix_core (s : State) (p : Port) : (s.drainMix p).core = s.core :=
  mixFuel_core ..

@[simp] theorem State.drainPort_core (s : State) (p : Port) : (s.drainPort p).core = s.core := by
  unfold State.drainPort; rw [State.drainMix_core, State.drain_core, State.drain_core]

@[simp] theorem State.enqueue_core (s : State) (p : Port) (ws : List (Option Port × SwFrame)) :
    (State.enqueue s p ws).core = s.core := by
  unfold State.enqueue; simp

@[simp] theorem State.sendOn_core (s : State) (p : Port) (f : SwFrame) :
    (State.sendOn s p f).core = s.core := by
  unfold State.sendOn; simp

@[simp] theorem State.forwardOn_core (s : State) (p : Port) (qs : List Port) (f : SwFrame) :
    (State.forwardOn s p qs f).core = s.core := by
  unfold State.forwardOn; simp [State.each_core]

@[simp] theorem State.took_core (s : State) (src : Addr) (cls : SwClass) (len : Nat) :
    (State.took s src cls len).core = s.core := by
  unfold State.took; (repeat' split) <;> simp

@[simp] theorem State.sendMsg_core (s : State) (cls : SwClass) (kind : Nat) (bcast : Bool) (dst : Addr) (tag : BitVec 8) (ws : List Word) :
    (State.sendMsg s cls kind bcast dst tag ws).core = s.core := by
  unfold State.sendMsg; simp [State.each_core]

@[simp] theorem State.countSt_core (s old : State) :
    (State.countSt s old).core = s.core := by
  unfold State.countSt; simp

@[simp] theorem State.raisePort_core (s : State) (p : Port) (code : Nat) :
    (State.raisePort s p code).core = s.core := by
  unfold State.raisePort; simp

@[simp] theorem State.raiseRing_core (s : State) (a : Addr) (code : Nat) :
    (State.raiseRing s a code).core = s.core := by
  unfold State.raiseRing; simp

@[simp] theorem State.raiseSync_core (s : State) (code : Nat) :
    (State.raiseSync s code).core = s.core := by
  unfold State.raiseSync; simp

@[simp] theorem State.raiseEnum_core (s : State) (code : Nat) (old : Addr) :
    (State.raiseEnum s code old).core = s.core := by
  unfold State.raiseEnum; simp

/-! ### Recorder.lean -/

@[simp] theorem State.memoryFault_core (s : State) (code : Byte) (block : Option Nat) :
    (s.memoryFault code block).core = s.core := by
  unfold State.memoryFault; dsimp only
  rw [State.raiseRec_core, State.core_mk, ← State.core_fold]
  cases block <;> (repeat' split) <;> simp [-State.core_fold]

@[simp] theorem State.noteLost_core (s : State) :
    (State.noteLost s).core = s.core := by
  unfold State.noteLost; simp

@[simp] theorem State.noteFill_core (s : State) (old : Recorder) :
    (State.noteFill s old).core = s.core := by
  unfold State.noteFill; simp

@[simp] theorem State.shadowOnly_core (s : State) (e : Intake) : (s.shadowOnly e).core = s.core := by
  unfold State.shadowOnly; dsimp only
  split
  · split
    · split <;> simp
    · simp
  · split <;> simp

@[simp] theorem State.storeEntry_core (s : State) (e : Intake) : (s.storeEntry e).core = s.core := by
  unfold State.storeEntry; split
  · simp
  · split <;> simp

@[simp] theorem State.writeHead_core (s : State) (ok : Bool) : (s.writeHead ok).core = s.core := by
  unfold State.writeHead; split
  · rfl
  · split <;> simp

theorem State.writeNow_core (os : Tries) (s : State) (e : Intake) : (State.writeNow os s e).1.core = s.core := by
  induction os generalizing s with
  | nil => unfold State.writeNow; simp
  | cons o os ih =>
    cases o
    · unfold State.writeNow; split
      · rw [ih, State.memoryFault_core]
      · simp
    · unfold State.writeNow; simp

@[simp] theorem State.drainFuel_core (n : Nat) (os : Tries) (s : State) : (State.drainFuel n os s).core = s.core := by
  induction n generalizing os s with
  | zero => rfl
  | succ n ih => unfold State.drainFuel; split <;> simp [ih]

@[simp] theorem State.drainIntake_core (s : State) (os : Tries) : (s.drainIntake os).core = s.core :=
  State.drainFuel_core ..

@[simp] theorem State.flushRecorder_core (s : State) (last : List Intake) (os : Tries) :
    (s.flushRecorder last os).core = s.core := State.drainIntake_core ..

@[simp] theorem State.readLog_core (s : State) :
    (State.readLog s).core = s.core := by
  unfold State.readLog; simp [State.each_core]

theorem writeAll_core (l : List Intake) (x : State × Tries) :
    (l.foldl (fun x e => State.writeNow x.2 x.1 e) x).1.core = x.1.core := by
  induction l generalizing x with
  | nil => rfl
  | cons e l ih => rw [List.foldl_cons, ih, State.writeNow_core]

@[simp] theorem State.clearLog_core (s : State) (keyid : Byte) (nonce : List Word) (os : Tries) :
    (s.clearLog keyid nonce os).core = s.core := by
  unfold State.clearLog; dsimp only
  rw [State.writeNow_core, State.raiseRec_core, State.core_mk, Recorder.commitClear_srcSel, State.core_fold,
    writeAll_core]
  rfl

@[simp] theorem State.headFault_core (s : State) :
    (State.headFault s).core = s.core := by
  unfold State.headFault; simp

@[simp] theorem State.missingCleared_core (s : State) : s.missingCleared.core = s.core := by
  unfold State.missingCleared; split
  · split <;> simp [State.writeNow_core]
  · rfl

@[simp] theorem State.bootRecorder_core (s : State) (b : BootInput) :
    (State.bootRecorder s b).core = s.core := by
  unfold State.bootRecorder; dsimp only; (repeat' split) <;> first | rfl | simp [State.each_core]

/-! ### ObjWrite.lean -/

@[simp] theorem State.candidate_core (s : State) (n : Ch) (t : ChCfg) :
    (State.candidate s n t).core = s.core := by
  rfl

@[simp] theorem State.wordEffect_core (s : State) (n : Ch) (off : Nat) (w : Word) :
    (State.wordEffect s n off w).core = s.core := by
  unfold State.wordEffect; (repeat' split) <;> simp

@[simp] theorem State.tableWritten_core (s : State) (g : Grp) :
    (State.tableWritten s g).core = s.core := by
  rfl

@[simp] theorem State.putWords_core (s : State) (n : Ch) (l : List (Nat × Word)) :
    (State.putWords s n l).core = s.core := by
  unfold State.putWords; simp [State.each_core]

@[simp] theorem State.clearFaults_core (s : State) (n : Ch) (w : Word) :
    (State.clearFaults s n w).core = s.core := by
  unfold State.clearFaults; simp

@[simp] theorem State.selectRef_core (s : State) (g : Grp) (sel : BitVec 2) :
    (State.selectRef s g sel).core = s.core := by
  unfold State.selectRef; simp

@[simp] theorem State.armWaggle_core (s : State) (period : BitVec 14) :
    (State.armWaggle s period).core = s.core := by
  rfl

/-! ### Receive.lean -/

@[simp] theorem State.serveHs_core (s : State) : (State.serveHs s).core = s.core := by rfl

@[simp] theorem State.wake_core (s : State) : (State.wake s).core = s.core := by unfold State.wake; simp

@[simp] theorem State.servePort_core (s : State) : (State.servePort s).core = s.core := by rfl

@[simp] theorem State.report_core (s : State) (b : Nat) : (State.report s b).core = s.core := by rfl

@[simp] theorem State.lostMessage_core (s : State) : (State.lostMessage s).core = s.core := by rfl

@[simp] theorem State.supersede_core (s : State) (f : Frame) :
    (State.supersede s f).core = s.core := by
  unfold State.supersede; simp

@[simp] theorem State.lostFrame_core (s : State) (h : Word) :
    (State.lostFrame s h).core = s.core := by
  unfold State.lostFrame; simp

@[simp] theorem State.rejectHdr_core (s : State) (h : Word) :
    (State.rejectHdr s h).core = s.core := by
  unfold State.rejectHdr; simp

@[simp] theorem State.rejectCrc_core (s : State) (h : Word) :
    (State.rejectCrc s h).core = s.core := by
  unfold State.rejectCrc; simp

@[simp] theorem State.rejectShort_core (s : State) (h : Word) :
    (State.rejectShort s h).core = s.core := by
  unfold State.rejectShort; simp

@[simp] theorem State.rejectBusy_core (s : State) (h : Word) (valid : Bool) :
    (State.rejectBusy s h valid).core = s.core := by
  unfold State.rejectBusy; simp

@[simp] theorem State.rejectTrail_core (s : State) :
    (State.rejectTrail s).core = s.core := by
  unfold State.rejectTrail; simp

@[simp] theorem State.accept_core (s : State) : (State.accept s).core = s.core := by unfold State.accept; simp

@[simp] theorem State.rxWord_core (s : State) (w : Word) :
    (State.rxWord s w).core = s.core := by
  unfold State.rxWord; (repeat' split) <;> simp

/-! ### Command.lean -/

@[simp] theorem State.countDup_core (s : State) : (State.countDup s).core = s.core := by rfl

@[simp] theorem State.countStatus_core (s : State) (st : Status) :
    (State.countStatus s st).core = s.core := by
  unfold State.countStatus; (repeat' split) <;> simp

@[simp] theorem State.sendRsp_core (s : State) (o : Outst) (words : List Word) (counts : Bool) :
    (State.sendRsp s o words counts).core = s.core := by
  unfold State.sendRsp; (repeat' split) <;> simp

@[simp] theorem State.respond_core (s : State) (o : Outst) (st : Status) (detail : Nat) (ws : List Word) :
    (State.respond s o st detail ws).core = s.core := by
  unfold State.respond; (repeat' split) <;> simp

@[simp] theorem State.complete_core (s : State) (key : Nat) (st : Status) (detail : Nat) (ws : List Word) :
    (State.complete s key st detail ws).core = s.core := by
  unfold State.complete; (repeat' split) <;> simp

@[simp] theorem State.countRefusal_core (s : State) (snd : Sender) (c : CmdSpec) :
    (State.countRefusal s snd c).core = s.core := by
  unfold State.countRefusal; simp

theorem State.runCmd_core (s : State) (snd : Sender) (c : CmdSpec) (body : Body) (f : Frame) (crc : Word) (b : Bool)
    (args : BitVec 24) (ws : List Word) (h : ∀ t, (body snd args ws t).1.core = t.core) :
    (s.runCmd snd c body f crc b args ws).core = s.core := by
  have hj : (s.judgeCmd snd c body f.mb args ws).1.core = s.core := by
    unfold State.judgeCmd; (repeat' split) <;> simp_all
  unfold State.runCmd
  revert hj
  generalize s.judgeCmd snd c body f.mb args ws = r
  rcases r with ⟨t, st | k⟩ <;> intro hj <;> simp_all

@[simp] theorem State.busyAnswer_core (s : State) (snd : Sender) (op : Nat) (f : Frame) (crc : Word) (bcast : Bool) :
    (State.busyAnswer s snd op f crc bcast).core = s.core := by
  unfold State.busyAnswer; simp

theorem State.takeCmd_core (s : State) (c : CmdSpec) (body : Body) (m : Cmd) (crc : Word)
    (h : ∀ t, (body .host m.args m.words t).1.core = t.core) : (s.takeCmd c body m crc).core = s.core := by
  unfold State.takeCmd; dsimp only; (repeat' split) <;> simp [State.runCmd_core, h]

theorem State.swarmCmd_core (s : State) (c : CmdSpec) (body : Body) (src : Addr) (f : Frame) (crc : Word) (b : Bool)
    (args : BitVec 24) (ws : List Word) (h : ∀ t, (body (.swarm src) args ws t).1.core = t.core) :
    (s.swarmCmd c body src f crc b args ws).core = s.core := by
  unfold State.swarmCmd; dsimp only; (repeat' split) <;> simp [State.runCmd_core, h]

/-! ### CombLoad.lean -/

@[simp] theorem State.authFailure_core (s : State) (keyid code opcode : Nat) :
    (State.authFailure s keyid code opcode).core = s.core := by
  unfold State.authFailure; simp

@[simp] theorem State.authSuccess_core (s : State) : (State.authSuccess s).core = s.core := by rfl

@[simp] theorem State.noteRejected_core (s : State) (bs : List Byte) (reason : BitVec 4) (index : BitVec 13) :
    (State.noteRejected s bs reason index).core = s.core := by
  unfold State.noteRejected; simp

@[simp] theorem State.enterStored_core (s : State) :
    (State.enterStored s).core = s.core := by
  unfold State.enterStored; (repeat' split) <;> simp

@[simp] theorem State.enterRun_core (s : State) (cause : Nat) :
    (State.enterRun s cause).core = s.core := by
  unfold State.enterRun; simp [State.each_core]

@[simp] theorem State.allOutputsOff_core (s : State) :
    (State.allOutputsOff s).core = s.core := by
  unfold State.allOutputsOff; simp [State.each_core]

/-! ### ObjCmds.lean -/

@[simp] theorem State.setSlot_core (s : State) (b : Bool) (x : Slot) :
    (State.setSlot s b x).core = s.core := by
  unfold State.setSlot; simp

@[simp] theorem State.raiseFw_core (s : State) (code : Nat) :
    (State.raiseFw s code).core = s.core := by
  unfold State.raiseFw; simp

@[simp] theorem State.confirmImage_core (s : State) :
    (State.confirmImage s).core = s.core := by
  unfold State.confirmImage; simp

@[simp] theorem State.faultOf_core (s : State) (code : Nat) :
    (State.faultOf s code).core = s.core := by
  unfold State.faultOf; simp

@[simp] theorem State.acceptFeatures_core (s : State) (set : Word) :
    (State.acceptFeatures s set).core = s.core := by
  unfold State.acceptFeatures; simp [State.each_core]

@[simp] theorem State.latchSt_core (s : State) : (State.latchSt s).core = s.core := by rfl

@[simp] theorem State.ackEvents_core (s : State) (m : BitVec 128) :
    (State.ackEvents s m).core = s.core := by
  unfold State.ackEvents; simp

@[simp] theorem State.redeliver_core (s : State) :
    (State.redeliver s).core = s.core := by
  unfold State.redeliver; simp

/-! ### ChanCmds.lean -/

@[simp] theorem State.startChange_core (s : State) (n : Ch) (t : ChCfg) :
    (State.startChange s n t).core = s.core := by
  unfold State.startChange; simp

@[simp] theorem State.changeOdd_core (s : State) (n : Ch) (target : Option ChMode) :
    (State.changeOdd s n target).core = s.core := by
  unfold State.changeOdd; (repeat' split) <;> simp

@[simp] theorem State.applyConfig_core (s : State) (n : Ch) (l : List (Nat × Word)) :
    (State.applyConfig s n l).core = s.core := by
  unfold State.applyConfig; simp

@[simp] theorem State.connect_core (s : State) (n : Ch) (sensorOk : Bool) :
    (State.connect s n sensorOk).core = s.core := by
  unfold State.connect; simp

/-! ### MiscCmds.lean -/

@[simp] theorem State.startCal_core (s : State) (g : Grp) :
    (State.startCal s g).core = s.core := by
  unfold State.startCal; simp

@[simp] theorem State.armCapture_core (s : State) :
    (State.armCapture s).core = s.core := by
  unfold State.armCapture; simp

@[simp] theorem State.acceptWaggle_core (s : State) : (State.acceptWaggle s).core = s.core := by rfl

@[simp] theorem State.recordTrigger_core (s : State) (gs : List Grp) :
    (State.recordTrigger s gs).core = s.core := by
  unfold State.recordTrigger; simp

/-! ### Port.lean -/

@[simp] theorem State.deliverEvent_core (s : State) (r : EvRecord) :
    (State.deliverEvent s r).core = s.core := by
  rfl

@[simp] theorem State.takeAgain_core (s : State) (cs1 : Bool) (f : TxItem → Bool) :
    (State.takeAgain s cs1 f).core = s.core := by
  rfl

@[simp] theorem State.closeExchange_core (s : State) (cs1 : Bool) :
    (State.closeExchange s cs1).core = s.core := by
  unfold State.closeExchange; (repeat' split) <;> simp

@[simp] theorem State.finishRsp_core (s : State) (r : Rsp) :
    (State.finishRsp s r).core = s.core := by
  unfold State.finishRsp; dsimp only; (repeat' split) <;> rfl

@[simp] theorem State.takeSeg_core (s : State) (f : Frame) (words : List Word) :
    (State.takeSeg s f words).core = s.core := by
  unfold State.takeSeg; simp

@[simp] theorem State.readWindow_core (s : State) (seq : BitVec 8) (first : BitVec 6) (count : BitVec 7) :
    (State.readWindow s seq first count).core = s.core := by
  unfold State.readWindow; (repeat' split) <;> simp

/-! ### Security.lean -/

@[simp] theorem State.raiseSlot_core (s : State) (b : Bool) (code : Nat) :
    (State.raiseSlot s b code).core = s.core := by
  unfold State.raiseSlot; simp

@[simp] theorem State.activate_core (s : State) (b down : Bool) :
    (State.activate s b down).core = s.core := by
  unfold State.activate; simp

@[simp] theorem State.provision_core (s : State) (op slot perm : Nat) (key : List Byte) :
    (State.provision s op slot perm key).core = s.core := by
  unfold State.provision; (repeat' split) <;> simp

@[simp] theorem State.openDebug_core (s : State) (keyid : Nat) :
    (State.openDebug s keyid).core = s.core := by
  unfold State.openDebug; simp

/-! ### SwarmCmds.lean -/

@[simp] theorem State.settleLeft_core (s : State) :
    (State.settleLeft s).core = s.core := by
  unfold State.settleLeft; simp [State.each_core]

@[simp] theorem State.sendEnum_core (s : State) (p : Port) (dst : Addr) (m : EnumMsg) :
    (State.sendEnum s p dst m).core = s.core := by
  unfold State.sendEnum; simp

@[simp] theorem State.tellEnum_core (s : State) (dst : Addr) (m : EnumMsg) :
    (State.tellEnum s dst m).core = s.core := by
  unfold State.tellEnum; (repeat' split) <;> simp

theorem walkFuel_core (k : Nat) (s : State) : (walkFuel k s).core = s.core := by
  induction k generalizing s with
  | zero => rfl
  | succ k ih =>
    unfold walkFuel; split
    · rfl
    · split
      · rw [ih]; rfl
      · split <;> simp

@[simp] theorem State.walkOn_core (s : State) : s.walkOn.core = s.core := walkFuel_core ..

@[simp] theorem State.startEnum_core (s : State) (budget : Word) :
    (State.startEnum s budget).core = s.core := by
  unfold State.startEnum; simp [State.each_core]

@[simp] theorem State.refusePort_core (s : State) (a : Addr) (p : Port) :
    (State.refusePort s a p).core = s.core := by
  unfold State.refusePort; (repeat' split) <;> simp

@[simp] theorem State.usePort_core (s : State) (a : Addr) (p : Port) (use : BitVec 2) :
    (State.usePort s a p use).core = s.core := by
  unfold State.usePort; simp

@[simp] theorem State.closeRing_core (s : State) (a : Addr) (p : Port) (b : Addr) (q : Port) :
    (State.closeRing s a p b q).core = s.core := by
  unfold State.closeRing; simp

@[simp] theorem State.nodeFound_core (s : State) (a : Addr) (p : Port) (serial : Vector Word 4) (far : Port)
    (delay : BitVec 16) : (s.nodeFound a p serial far delay).core = s.core := by
  unfold State.nodeFound; dsimp only
  rw [State.core_ite, State.core_ite, State.tellEnum_core,
    State.each_core _ _ _ fun t x => by split <;> simp, State.core_ite, State.tellEnum_core]
  simp

@[simp] theorem State.probed_core (s : State) (a : Addr) (p : Port) (m : EnumMsg) :
    (s.probed a p m).core = s.core := by
  unfold State.probed; split
  · split
    · simp
    · (repeat' split) <;> simp
  · rfl

@[simp] theorem State.enumDone_core (s : State) :
    (State.enumDone s).core = s.core := by
  unfold State.enumDone; simp

@[simp] theorem State.enumAtRoot_core (s : State) (m : EnumMsg) : (s.enumAtRoot m).core = s.core := by
  unfold State.enumAtRoot; split
  · rfl
  · dsimp only; split
    · rw [State.enumDone_core, State.walkOn_core, State.probed_core]; rfl
    · rw [State.walkOn_core, State.probed_core]; rfl

@[simp] theorem State.addressed_core (s : State) (p : Port) (a : Addr) (st : BitVec 64) (features : Word) (lat : BitVec 17) (hops : BitVec 12) :
    (State.addressed s p a st features lat hops).core = s.core := by
  unfold State.addressed; simp [State.each_core]

@[simp] theorem State.enumAtNode_core (s : State) (p : Port) (m : EnumMsg) :
    (State.enumAtNode s p m).core = s.core := by
  unfold State.enumAtNode; (repeat' split) <;> simp

@[simp] theorem State.armTrigger_core (s : State) (t : Trigger) :
    (State.armTrigger s t).core = s.core := by
  unfold State.armTrigger; simp

@[simp] theorem State.missTrigger_core (s : State) :
    (State.missTrigger s).core = s.core := by
  unfold State.missTrigger; simp

/-! ### Opcodes.lean -/

@[simp] theorem State.swarmIn_core (s : State) (fromRoot addressed : Bool) :
    (State.swarmIn s fromRoot addressed).core = s.core := by
  unfold State.swarmIn; simp

/-! ### SwarmRows.lean -/

@[simp] theorem State.relayEvent_core (s : State) (src : Addr) (r : EvRecord) :
    (State.relayEvent s src r).core = s.core := by
  unfold State.relayEvent; simp

@[simp] theorem State.offerEvents_core (s : State) :
    (State.offerEvents s).core = s.core := by
  unfold State.offerEvents; (repeat' split) <;> simp

@[simp] theorem State.sendResults_core (s : State) (strm : Bool) :
    (State.sendResults s strm).core = s.core := by
  unfold State.sendResults; dsimp only; (repeat' split) <;> first | rfl | simp

@[simp] theorem State.nodeSends_core (s : State) :
    (State.nodeSends s).core = s.core := by
  unfold State.nodeSends; simp

@[simp] theorem State.snapChannel_core (s : State) (n : Ch) :
    (State.snapChannel s n).core = s.core := by
  unfold State.snapChannel; simp

@[simp] theorem State.answerAsk_core (s : State) (p : Port) :
    (State.answerAsk s p).core = s.core := by
  unfold State.answerAsk; simp

@[simp] theorem State.moveWaiting_core (s : State) (a b : Port) :
    (State.moveWaiting s a b).core = s.core := by
  unfold State.moveWaiting; simp

@[simp] theorem State.ringBreak_core (s : State) (l : SwLink) :
    (State.ringBreak s l).core = s.core := by
  unfold State.ringBreak; dsimp only; (repeat' split) <;> first | rfl | simp

@[simp] theorem State.linkDown_core (s : State) (a : Addr) (p : Port) :
    (State.linkDown s a p).core = s.core := by
  unfold State.linkDown; dsimp only; (repeat' split) <;> first | rfl | simp

@[simp] theorem State.linkUp_core (s : State) (a : Addr) (p : Port) :
    (State.linkUp s a p).core = s.core := by
  unfold State.linkUp; dsimp only; (repeat' split) <;> first | rfl | simp

@[simp] theorem State.tellLink_core (s : State) (p : Port) (up : Bool) :
    (State.tellLink s p up).core = s.core := by
  unfold State.tellLink; simp

@[simp] theorem State.loseSync_core (s : State) :
    (State.loseSync s).core = s.core := by
  unfold State.loseSync; simp

@[simp] theorem State.swarmTick_core (s : State) :
    (State.swarmTick s).core = s.core := by
  unfold State.swarmTick; simp

@[simp] theorem State.discardFrame_core (s : State) (p : Port) :
    (State.discardFrame s p).core = s.core := by
  unfold State.discardFrame; simp

@[simp] theorem State.dropSwSegs_core (s : State) (p : Port) (f : SwSeg → Bool) :
    (State.dropSwSegs s p f).core = s.core := by
  unfold State.dropSwSegs; simp

/-! ### Power.lean -/

@[simp] theorem State.hostResetConv_core (s : State) (g : Grp) :
    (State.hostResetConv s g).core = s.core := by
  unfold State.hostResetConv; simp

@[simp] theorem State.adoptTable_core (s : State) (g : Grp) :
    (State.adoptTable s g).core = s.core := by
  unfold State.adoptTable; simp [State.each_core]

@[simp] theorem State.restoreConfig_core (s : State) (g : Grp) (store : Vector ChCfg 32) :
    (State.restoreConfig s g store).core = s.core := by
  unfold State.restoreConfig; simp [State.each_core]

@[simp] theorem State.groupAbsent_core (s : State) (g : Grp) (full : Bool) :
    (State.groupAbsent s g full).core = s.core := by
  unfold State.groupAbsent; simp [State.each_core]

@[simp] theorem State.groupFresh_core (s : State) (g : Grp) (full : Bool) (supply : SupplyClass × BitVec 16) :
    (State.groupFresh s g full supply).core = s.core := by
  unfold State.groupFresh; simp [State.each_core]

@[simp] theorem State.restartOrder_core (s : State) (g : Grp) :
    (State.restartOrder s g).core = s.core := by
  unfold State.restartOrder; simp [State.each_core]

@[simp] theorem State.groupKept_core (s : State) (g : Grp) (full : Bool) :
    (State.groupKept s g full).core = s.core := by
  unfold State.groupKept; simp [State.each_core]

@[simp] theorem State.verifyGuard_core (s : State) (g : Grp) (ok : Bool) :
    (State.verifyGuard s g ok).core = s.core := by
  unfold State.verifyGuard; simp

@[simp] theorem State.bootGroup_core (s : State) (src : ResetSrc) (b : BootInput) (g : Grp) :
    (State.bootGroup s src b g).core = s.core := by
  unfold State.bootGroup; dsimp only; (repeat' split) <;> first | rfl | simp

@[simp] theorem State.checkBanks_core (s : State) :
    (State.checkBanks s).core = s.core := by
  unfold State.checkBanks; simp

@[simp] theorem State.powerOnRecord_core (s : State) (src : ResetSrc) :
    (State.powerOnRecord s src).core = s.core := by
  unfold State.powerOnRecord; simp

@[simp] theorem State.raiseBoot_core (s : State) (evs : List (Fin 128 × Bool × Nat)) (closed : Bool) :
    (State.raiseBoot s evs closed).core = s.core := by
  unfold State.raiseBoot; simp [State.each_core]

@[simp] theorem State.silentGuards_core (s : State) (src : ResetSrc) :
    (State.silentGuards s src).core = s.core := by
  unfold State.silentGuards; simp [State.each_core]

@[simp] theorem State.enterReset_core (s : State) (src : ResetSrc) :
    (State.enterReset s src).core = s.core := by
  rfl

@[simp] theorem State.stopOrder_core (s : State) :
    (State.stopOrder s).core = s.core := by
  unfold State.stopOrder; simp [State.each_core]

@[simp] theorem State.cutWindow_core (s : State) :
    (State.cutWindow s).core = s.core := by
  unfold State.cutWindow; (repeat' split) <;> simp

@[simp] theorem State.endWindowSilence_core (s : State) :
    (State.endWindowSilence s).core = s.core := by
  unfold State.endWindowSilence; simp [State.each_core]

@[simp] theorem State.continueGroup_core (s : State) (g : Grp) :
    (State.continueGroup s g).core = s.core := by
  unfold State.continueGroup; simp [State.each_core]

@[simp] theorem State.powerLoss_core (s : State) (tries : Tries) :
    (State.powerLoss s tries).core = s.core := by
  unfold State.powerLoss; simp

@[simp] theorem State.loseWindow_core (s : State) :
    (State.loseWindow s).core = s.core := by
  unfold State.loseWindow; simp

@[simp] theorem State.closeGroup_core (s : State) (g : Grp) :
    (State.closeGroup s g).core = s.core := by
  unfold State.closeGroup; simp

@[simp] theorem State.putKept_core (s : State) (es : List DieEntry) :
    (State.putKept s es).core = s.core := by
  unfold State.putKept; (repeat' split) <;> simp

@[simp] theorem State.enterKept_core (s old : State) :
    (State.enterKept s old).core = s.core := by
  unfold State.enterKept; simp [State.each_core]

@[simp] theorem State.recordEnv_core (s : State) :
    (State.recordEnv s).core = s.core := by
  unfold State.recordEnv; simp

@[simp] theorem State.shedForEnv_core (s : State) :
    (State.shedForEnv s).core = s.core := by
  unfold State.shedForEnv; dsimp only; (repeat' split) <;> first | rfl | simp [State.each_core]

/-! ### Tick.lean -/

@[simp] theorem State.skipCells_core (s : State) : s.skipCells.core = s.core := by
  unfold State.skipCells; (repeat' split) <;> simp

@[simp] theorem State.serveCore_core (s : State) :
    (State.serveCore s).core = s.core := by
  unfold State.serveCore; simp

@[simp] theorem State.creditTick_core (s : State) :
    (State.creditTick s).core = s.core := by
  unfold State.creditTick; simp [State.each_core]

@[simp] theorem State.foreignTick_core (s : State) :
    (State.foreignTick s).core = s.core := by
  unfold State.foreignTick; simp

@[simp] theorem State.senseHost_core (s : State) :
    (State.senseHost s).core = s.core := by
  unfold State.senseHost; simp

@[simp] theorem State.tick_core (s : State) : s.tick.core = s.core := by
  unfold State.tick; dsimp only
  rw [State.nodeSends_core, State.creditTick_core, State.foreignTick_core, State.senseHost_core,
    State.serveCore_core, State.countSt_core, State.countGen_core,
    State.each_core _ _ _ fun t g => State.serveGroup_core t g,
    State.each_core _ _ _ fun t g => State.endSide_core t g, State.skipCells_core, State.combTick_core,
    State.each_core _ _ _ fun t n => State.mainsTick_core t n, State.swarmTick_core]
  rfl

end Sys2Proof.Machine
end

