-- ==== Sys2Proof/WellFormed.lean ====
section
/-! DEFINITION. Which commands are well formed: what a row of the opcode table asks of its operands
before the machine is looked at (10 R311 to R317, 11 R334, R338, R342, 12 R368, R369). The meanings are
total: they do not rest on it. -/

namespace Sys2Proof

/-- The opcodes of the table (11 R342). -/
def opcodeListed (op : Nat) : Bool :=
  [0x01, 0x02, 0x03, 0x04, 0x05, 0x06, 0x07, 0x08, 0x09, 0x0A, 0x0B, 0x10, 0x11, 0x12, 0x13, 0x18, 0x19,
   0x1A, 0x20, 0x21, 0x22, 0x23, 0x28, 0x29, 0x2A, 0x30, 0x31, 0x32, 0x38, 0x39, 0x3A, 0x3B, 0x3C, 0x3D,
   0x3E, 0x40, 0x41, 0x42].contains op

/-- A mailbox that exists, and BULK only on MB1 (10 R315, 11 R334). -/
def mailboxOk (mb : BitVec 2) (bulk : Bool) : Bool := decide (mb.toNat < 2) && (!bulk || mb == 1)

/-- A segment of a message that goes on: 1 to 1024 words (10 R317). -/
def segmentOk (words : List Word) : Bool := decide (1 ≤ words.length ∧ words.length ≤ 1024)

def Frame.wf (f : Frame) : Bool := mailboxOk f.mb f.bulk

/-- A message of at most 4096 words, word 0 included (11 R338). -/
def Cmd.wf (c : Cmd) : Bool := c.frame.wf && decide (c.words.length ≤ 4095)

/-- ARGS name the row: `n` bits from `lo` hold `v`. -/
def Cmd.selects (c : Cmd) (lo n v : Nat) : Bool := c.args.toNat / 2 ^ lo % 2 ^ n == v

/-- SEL of LOG_READ names the row (09 R298). -/
def Cmd.selectsLog (c : Cmd) (v : Nat) : Bool :=
  match c.words with
  | [_, w] => w.toNat / 256 % 4 == v
  | _ => false

/-- A mark for each byte of a HART frame, and no more than 255 bytes (06 R211). -/
def HartFrame.wf (h : HartFrame) : Bool :=
  h.bytes.length == h.marks.length && decide (h.bytes.length ≤ 255)

/-- A lower threshold implies the higher ones; a high supply is not low (13 R393). -/
def SupplyClass.wf (c : SupplyClass) : Bool :=
  (!c.uvlo || c.low) && (!c.low || c.warn) && !(c.high && c.warn)

/-- An address that is given is not the root's; a probe goes out of D1 or D2 (12 R366, R375). -/
def EnumMsg.wf : EnumMsg → Bool
  | .ask => true
  | .probe p => p != 0
  | .assign a .. => a != 0
  | .route a _ => a != 0
  | .mark _ _ => true
  | .refuse _ => true
  | .found _ _ _ _ => true
  | .nothing => true

/-- A well-formed command. -/
def Instr.wf : Instr → Bool
  | .hello c | .featAccept c | .getObj c | .setObj c | .getObjBlock c | .setMode c | .chConfig c
  | .outWrite c | .aoWrite c | .evtMask c | .combLoadBegin c | .combLoadData c | .combCommit c
  | .adcCal c | .captureRead c | .waggle c | .taskCheckin c | .safeApply c | .safeRelease c
  | .logClearChallenge c | .logClear c _ _ | .swarmRoute c | .swarmTrigger c | .fwBegin c | .fwData c
  | .fwActivate c | .debugUnlockChallenge c | .debugUnlock c | .latencyTol c | .hartSend c
  | .hartRecv c => c.wf
  | .evtAck c => c.wf && c.selects 0 1 0
  | .evtRedeliver c => c.wf && c.selects 0 1 1
  | .combSwapArm c => c.wf && c.selects 0 2 0
  | .combSwapCancel c => c.wf && c.selects 0 2 1
  | .combSwapStop c => c.wf && c.selects 0 2 2
  | .captureArm c => c.wf && c.selects 0 1 0
  | .captureStop c => c.wf && c.selects 0 1 1
  | .logRead c => c.wf && c.selectsLog 0
  | .logReadShadow c => c.wf && c.selectsLog 1
  | .logReadClearHistory c => c.wf && c.selectsLog 2
  | .logReadFaultBlock c => c.wf && c.selectsLog 3
  | .swarmEnumStart c => c.wf && c.selects 0 2 0
  | .swarmEnumQuery c => c.wf && c.selects 0 2 1
  | .attestStart c => c.wf && c.selects 0 1 0
  | .attestFetch c => c.wf && c.selects 0 1 1
  | .keyInstall c => c.wf && c.selects 2 2 0
  | .keyRevoke c => c.wf && c.selects 2 2 1
  | .provLockSet c => c.wf && c.selects 2 2 2
  | .certInstall c => c.wf && c.selects 2 2 3
  | .unknownOpcode opcode c => c.wf && !opcodeListed opcode.toNat
  | .wiredDetected a b => a != b
  | .fieldDieReady _ cls _ => cls.wf
  | .hartFrameReceived _ frame => frame.wf
  | .swarmCmdReceived _ _ _ words => decide (1 ≤ words.length ∧ words.length ≤ 1022)
  | .swarmRspReceived _ _ words => decide (1 ≤ words.length ∧ words.length ≤ 4096)
  | .swarmEventReceived _ _ recs => decide (1 ≤ recs.length ∧ 6 * recs.length ≤ 4096)
  | .enumReceived _ m => m.wf
  | .healReceived p => p == 1
  | .swarmFrameForward _ f => decide (f.payload.length ≤ 256)
  | .syncReceived _ _ sub => decide (sub < 200)
  | .hostSegmentReceived f words => f.wf && segmentOk words
  | .swarmSegmentReceived _ _ _ _ words => decide (words.length ≤ 256)
  | .lockoutClear f _ _ | .itripClear f _ _ | .miswireRetest f _ _ | .relearn f _ _ | .wgEnArm f _
  | .refselWrite f _ _ | .aiFilterWrite f _ _ _ | .rckEnWrite f _ | .watchdogPeriodWrite f _ _
  | .taskEnable f _ | .chSafeWrite f _ _ _ => f.wf
  | .combVerifyComplete | .adcCalSliceDone _ _ _ _ _ | .adcCalRefTimeout _ | .logClearChallengeLapse
  | .swarmRouteTimeout _ | .attestReady | .fwVerifyComplete | .activationReset _
  | .debugChallengeLapse _ | .winrd _ _ _ | .credit _ | .selectFall _ _ | .selectRise _ _ | .hostFrameRejected _
  | .moduleFrameDelivered | .resetRelease _ | .hRstn _ | .hTrstn | .tapBypass | .tapIdcode
  | .tapSamplePreload _ _ | .tapExtest _ | .tapClamp _ | .tapHighz _ | .vhWarning _ | .vhKeep _
  | .holdUpEnd | .xinClockLost | .opsecTick | .fieldLinkFrameError _ | .fieldLinkSilence _
  | .fieldLinkRestored _ | .fieldDieFailure _ | .dieSupervisorTrip _ | .guardGenMismatch _ _
  | .guardCrcCheck _ _ | .modeChangeComplete _ _ | .terminalMonitorConversion _ _
  | .terminalCrossing _ _ _ _ | .debounceExpired _ | .wireBreakDeclared _ | .wireBreakEnd _
  | .namurFaultDeclared _ _ | .namurFaultEnd _ | .countEdge _ _ _ _ | .indexEdge _
  | .freqGateExpired _ _ _ | .countEdgeTimeout _ | .mainsLockAcquired _ _ _ _ | .mainsHoldoverEnter _
  | .mainsLockResumed _ | .mainsLockLost _ | .loopOverload _ | .loopRestart _ | .loopOpenDetected _
  | .loopLeakDetected _ | .limiterActive _ | .limiterReleased _ | .inrushWindowEnd _
  | .governorStep _ _ | .groupCurrentMeanUpdate _ _ | .pwmPeriodStart _ _ | .thermalTripAbs _
  | .thermalTripDt _ | .tsensFail _ | .retryDue _ | .retryCountClear _ | .shortGndDetected _
  | .overloadDetected _ | .openLoadCondition _ _ | .openloadOnTimeout _ | .reverseCurrentDetected _ _
  | .rbMismatchDetected _ | .openloadOffDetected _ | .shortVfOffDetected _ | .imbalDetected _
  | .autoDiagPulse _ | .diagPulseEnd _ _ | .learnBaseline _ _ | .learnComparison _ _ | .shedStep _
  | .shedRestoreStep _ | .vfWarnFall _ _ | .vfWarnRise _ _ | .vfLowFall _ _ | .uvloFall _ _
  | .vfRecovery _ _ | .staggerSwitchOn _ | .vfHighChange _ _ _ | .fieldLogicPowerDown _
  | .spareRotation _ _ _ | .internalMonitorConversion _ _ _ _ _ | .refSettled _
  | .refinMonitorCheck _ _ | .conversionComplete _ _ | .aiOpenDetected _ | .aiLeadDetected _
  | .aiISenseTrip _ | .freeRateConversion _ | .injectTimer _ | .injectPwmEdge _ | .injectHold _
  | .nonanalogueResultTick _ | .railSlot _ _ _ | .railSlotInserted _ _ _ | .aoMeasUpdate _ _
  | .aoLimitDetected _ | .miswireDetected _ | .miswireRetestEnd _ _ | .aoThermalTrip _
  | .aoThermalRestart _ | .hartTransmitStart _ | .hartTransmitEnd _ | .hartCarrierChange _ _
  | .hartReplyTimeout _ | .nop _ | .hold _ | .convert _ | .sample _ | .apply _
  | .outSet _ | .outPulse _ | .outPulseEnd _ | .diag _ | .aoSet _ | .rail _ _
  | .hartWin _ | .stamp _ | .trigOut _ | .calWin _ | .injRes _ | .event _
  | .combPeriodWrap _ | .combExchange | .tbStall | .safeEntryApply _ _ | .hostSilenceExpiry
  | .waggleTimeout | .coreWatchdogExpiry _ _ | .coreWatchdogReset _ | .guardHoldExpiry
  | .dieOvertemp _ | .fokDelayExpired _ | .taskPeriodEnd _ | .recordWrite _ _
  | .mergeWindowClose _ _ _ | .swarmRevackReceived _ _ _ | .remoteEventReoffer
  | .swarmResultsReceived _ _ _ _ | .swarmTriggerReceived _ _ | .swarmTriggerFire _ | .heartbeatSend
  | .heartbeatReceived _ | .linkstateReceived _ _ _ | .foreignReceived _ _ _ | .swarmFrameDiscard _ _
  | .swarmSegmentTimeout _ _ _ _ | .linkSetReceived _ _ | .linkSetSend _ | .creditSetReceived _ _ _
  | .pdReqSend _ | .pdReqReceived _ _ _ | .pdRspReceived _ _ _ _ | .syncSend _ | .syncLost _
  | .portDown _ | .portUp _ | .creditStarvation _ _ | .dozeEntry | .wakeComplete | .policyWakeTimer
  | .serviceSilence | .continuityClose | .continuityExpiry | .authLockoutEnd | .envelopeExceeded _
  | .envelopeShedStep _ | .envelopeRestore _ | .hostDieOvertemp _ _ | .switchCooled _ | .uvloRise _
  | .vflChange _ | .debuggerHalt | .debuggerResume => true

end Sys2Proof
end

