-- ==== Sys2Proof/Tests/Slice0.lean ====
section
/-! SUPPORT. Tests: ill-formed commands that WellFormed refuses, single steps against values that the manual
gives, and for each statement with hypotheses a state and operands that meet them. -/

namespace Sys2Proof.Tests

set_option Elab.async false

open Sys2Proof.Machine

/-! ### Commands and states for the tests -/

def fr (mb : BitVec 2) : Frame := { mb := mb, bulk := false, seq := 1 }

/-- A message on MB0 and one on MB1. -/
def msg (args : BitVec 24) (ws : List Word) : Cmd := { frame := fr 0, args := args, words := ws }

def big (args : BitVec 24) (ws : List Word) : Cmd := { frame := fr 1, args := args, words := ws }

/-- A group in service at 24 V. -/
def grpUp : Group := { Group.reset with sup := { GrpSup.reset with ready := true, vfup := true, vf := 24000, above := true } }

/-- RUN with every feature accepted and four groups in service; CS0 is low and a frame may come. -/
def on : State := { State.reset with
  port := { HostPort.reset with csLow := 1, sel := some false, rx := .hunt }
  pw := { Power.reset with mode := .run, neg := true }
  sec := { Security.reset with acc := 0xFFFF }
  grp := Vector.replicate 4 grpUp }

/-- CS1 is low. -/
def onCs1 : State := { on with port := { on.port with csLow := 2, sel := some true } }

/-- No select is low. -/
def quiet : State := { on with port := { on.port with csLow := 0, sel := none, rx := .idle } }

def inMode (m : Mode) : State := { on with pw := { on.pw with mode := m } }

/-- STANDBY before FEAT_ACCEPT. -/
def standby0 : State := { inMode .standby with pw.neg := false }

/-- Milliseconds later. -/
def after (ms : Nat) (s : State) : State := { s with time := s.time + ms * milli }

/-- Channel 2 in a mode. -/
def ch2 (m : ChMode) (f : Channel → Channel) : State :=
  on.modCh 2 fun c => f { c with cfg := { c.cfg with mode := m }, actMode := m }

/-- Channel 2 switched, in a protection state. -/
def sw2 (ps : PState) (f : ChOut → ChOut) : State :=
  ch2 .doHs fun c => { c with out := f { c.out with ps := ps, cmdOn := true, cmdDuty := 10000, duty := 10000 } }

/-- The same with a resistive load. -/
def res2 (ps : PState) (f : ChOut → ChOut) : State :=
  (sw2 ps f).modCh 2 fun c => { c with cfg := { c.cfg with outCfg := 0x005190F0#32 } }

def hdr0 : CombHdr where
  ncells := 1
  tb := 0
  signed := false
  live := false
  period := 1000
  prescale := 1
  tbsrc := 0
  stallact := 0
  stallT := 0
  jitter := 0
  rateMax := 0
  tbOffset := 0
  sched := 4
  injres := []
  budget := []
  combId := 7
  keyid := 0
  digest := []

/-- A cell on channel 2. -/
def cell (action : BitVec 8) (arg : Word) (skip : Bool) : Cell where
  pos := 0
  skip := skip
  lead := 0
  action := action
  group := 1
  mask := 4
  arg := arg
  qty := 0
  scale := 0
  count := 1

/-- 24 V is above every upper switch point and 0 V below every lower one, whatever the errors of the points
(02 R50). -/
theorem level_high {s : State} {n : Ch} (hm : s.modeOf n ≠ .diNamur) (hp : (s.nominalPoints n).1 ≤ 20000)
    (ua : Int) : s.levelOf n 24000 ua = true := by
  have h : switchPoint n true (s.nominalPoints n).1 ≤ 24000 := by
    simp only [switchPoint, clampInt]; split <;> (try split) <;> omega
  simp [State.levelOf, beq_iff_eq, hm, h]

theorem level_low {s : State} {n : Ch} (hm : s.modeOf n ≠ .diNamur) (hp : 1000 ≤ (s.nominalPoints n).1)
    (hq : 1000 ≤ (s.nominalPoints n).2) (ua : Int) : s.levelOf n 0 ua = false := by
  have h : ¬ switchPoint n true (s.nominalPoints n).1 ≤ 0 := by
    simp only [switchPoint, clampInt]; split <;> (try split) <;> omega
  have g : 0 ≤ switchPoint n false (s.nominalPoints n).2 := by
    simp only [switchPoint, clampInt]; split <;> (try split) <;> omega
  simp [State.levelOf, beq_iff_eq, hm, h, g]

/-- The cell of a comb of one cell is due, at position 0 and time 0. -/
def dueCell : DueCell := { pos := 0, idx := 0, due := 0, passed := false }

/-- The same, passed in a jump. -/
def lateCell : DueCell := { dueCell with passed := true }

/-- A comb of one cell runs, and the cell is due on G0. -/
def tickingDue (s : State) (c : Cell) (d : DueCell) : State :=
  State.modPos { s with comb := { s.comb with active := some { hdr := hdr0, cells := [c] }, started := true } } 0
    fun p => { p with due := [d] }

def ticking (s : State) (c : Cell) : State := tickingDue s c dueCell

def tickingLate (s : State) (c : Cell) : State := tickingDue s c lateCell

/-- A cell that G0 starts now, from conditions that can be decided. -/
theorem starts_now {s : State} {cb : Comb} {x : Cell} {d : DueCell} {late : Bool} {action : Nat}
    (ha : s.comb.active = some cb)
    (h : cb.cells[0]? = some x ∧ x.action.toNat = action ∧ x.forDies [0] = x ∧ s.cellsRun = true ∧
      s.exchangeDue = false ∧ (s.group 0).pos.due = [d] ∧ d.idx = 0 ∧ d.due ≤ s.time ∧
      d.isLate s.time cb.hdr.jitter = late ∧ (s.group 0).pos.last = none ∧
      ((s.group 0).pos.h : Int) ≤ (s.group 0).pos.e ∧ s.resourcesFree 0 x = true ∧
      ∀ k, k ≠ 0 → (s.group k).pos.due = []) : s.startsOn late action 0 x 0 d := by
  obtain ⟨h1, h2, h3, h4, h5, h6, h7, h8, h9, h10, h11⟩ := h
  exact ⟨cb, [], ha, h1, h2, h3, h4, h5, h6, h7, h8, h9, fun t ht => by simp [h10] at ht, h11⟩

/-- The root of a swarm, and a node of it. -/
def root : State := { on with
  port := { on.port with strap1 := 1 }
  sw := { on.sw with ports := Vector.replicate 3 { SwPort.reset with state := 3, use := 2, credit := fullCredit } } }

def node : State := { on with
  port := { on.port with strap1 := 2 }
  sw := { on.sw with
    addr := 5, addrv := true
    ports := (Vector.replicate 3 { SwPort.reset with state := 3, use := 2, credit := fullCredit }).set 0
      { SwPort.reset with state := 3, use := 1, credit := fullCredit } } }

/-- A root without a neighbour: D1 and D2 train. -/
def lonely : State := { root with sw.ports := Vector.replicate 3 { SwPort.reset with state := 1 } }

/-- An image being received: n bytes of 8 have come. -/
def rx (n : Nat) : State :=
  { on with comb := { on.comb with lstate := .receiving, rxLen := 8, bank1 := List.replicate n 0 } }

/-- A comb verified and waiting. -/
def loaded : State :=
  { on with comb := { on.comb with lstate := .valid, next := some { hdr := hdr0, cells := [] } } }

/-- A verification under way. -/
def verifying (v : Option (Status × BitVec 4 × BitVec 13)) : State :=
  { on with comb := { on.comb with lstate := .verifying, verdict := v } }

def conv0 (f : GrpConv → GrpConv) : State := on.modConv 0 f

def link0 (f : GrpLink → GrpLink) : State := on.modLink 0 f

def sup0 (s : State) (f : GrpSup → GrpSup) : State := s.modSup 0 f

/-- The guard of G0 holds. -/
def guard0 (s : State) : State := s.modGrp 0 fun x => { x with guard := { x.guard with held := true } }

/-- Channel 2 under the guard. -/
def held2 (m : ChMode) : State :=
  guard0 (ch2 m fun c => { c with guard := { c.guard with held := true } })

def hart2 (f : ChHart → ChHart) : State :=
  ch2 .aoISrc fun c => { c with cfg := { c.cfg with hart := 0xA0280000#32 }, hart := f c.hart }

def resp0 (c : BitVec 2) : Rsp := { mb := c, seq := 1, bulk := false, words := [0], crc := 0, counts := true }

/-- Channel 2 injects on the PWM edge of channel 4. -/
def pwmPair : State :=
  (ch2 .aiV fun c => { c with cfg := { c.cfg with aiTrig := 0x82000000#32 } }).modCh 4 fun c => { c with
    cfg := { c.cfg with mode := .doHs, outCfg := c.cfg.outCfg ||| bitW 24 }, actMode := .doHs
    out := { c.out with ps := .on, duty := 5000 } }

/-- The waggle is armed since time 0. -/
def armed (t : Nat) : State :=
  { on with time := t, wd := { on.wd with wgEn := true, wgChal := 0x1234, wgSecret := 0x5678 } }

/-- Task 15 has checked in k times. -/
def tasks (k : Nat) : State :=
  { on with wd := { on.wd with taskEn := 0x8000, taskStrict := true, checkins := on.wd.checkins.set 15 k } }

/-- The guard holds channel 2, whose entry has a TYPE. -/
def hold2 (type : Nat) : State :=
  (held2 .doHs).modGrp 0 fun x => { x with guard := { x.guard with
    copy := Vector.replicate 8 (pk [(type, 30)], 0) } }

def entry0 : Intake :=
  { opsec := 1, pcycle := 0, source := 5, code := 1, subject := 0, p0 := 0, p1 := 0, p2 := 0 }

/-- One entry waits for the recorder, with some records written. -/
def queued (n : Nat) : State := { on with rcd := { on.rcd with intake := [entry0], written := n } }

/-- The last slot of the log is written. -/
def filled : State := { queued 65536 with rcd.slot := 65536 }

/-- A log of one record. -/
def logged : State := { on with rcd := on.rcd.store 0 entry0 }

/-- A boot that finds all well. -/
def bootIn : BootInput where
  strap0 := 3000
  strap1 := 3000
  xinPpm := some 0
  ready := 0xF
  trained := 0
  sliceFail := 0
  verify := 0xF
  slots := []
  ctlFail := 0
  faultCopies := []
  supply := Vector.replicate 4 ({ uvlo := false, low := false, warn := false, high := false }, 24000)
  opSlots := []
  cycleFail := 0

/-- In reset. -/
def inReset (src : ResetSrc) : State := { inMode .reset with pw := { on.pw with mode := .reset, resetSrc := some src } }

/-- A continuity window is open. -/
def windowed : State := { sw2 .on id with pw := { on.pw with window := some 0 } }

/-- Slot B. -/
def slotB (f : Slot → Slot) : State := { on with sec := { on.sec with slotB := f on.sec.slotB } }

/-- Channels 2 and 3 as a pair. -/
def pair2 (m : ChMode) (p : PairFn) : State :=
  (ch2 m fun c => { c with cfg := { c.cfg with pairFn := p } }).modCh 3 fun c => { c with actMode := m }

/-- A quadrature pair 2, 3 with its index on channel 4. -/
def indexed : State :=
  (((pair2 .count .quad).modCh 2 fun c => { c with cfg := { c.cfg with cntCfg := 0x01614128#32 } }).modCh 4
    fun c => { c with cfg := { c.cfg with mode := .count, cntCfg := 0x02600128#32 }, actMode := .count })

/-- A command that waits for its cell. -/
def pendOn : PendCmd := { on := true, duty := 5000, code := 0x8000, restored := false }

/-- One that turns the channel off. -/
def pendOff : PendCmd := { pendOn with on := false }

/-- A comb without cells on a time base. -/
def timed (tb : BitVec 2) (act : BitVec 8) (c : TbCond) : State :=
  { on with comb := { on.comb with
      active := some { hdr := { hdr0 with tb := tb, stallact := act }, cells := [] }, started := true, cond := c } }

/-- POLL takes the results of the comb. -/
def routed : State := { on with res.routeLo := 0x10 }

/-- A capture that waits for CAPTRIG. -/
def capWaits : State := { on with res.cap := { on.res.cap with cfg := 3 <<< 27, state := .armed } }

/-- The marker of a STAMP cell with the argument 5. -/
def marker (s : State) : QEntry :=
  { cls := .comb, word := markerW 50 (fld (cell 0x0B 5 false).arg 23 0), stamp := some (s.stampAt dueCell.pos)
    src := 0 }

/-- A conversion of channel 2 in progress. -/
def busy2 : State :=
  (ch2 .aiV fun c => { c with
    cfg := { c.cfg with aiFilt := 1 }
    ai := { c.ai with busy := some { cls := .free, stamp := 7, job := none } } }).modConv 0 fun x =>
      { x with refSettled := true }

/-- An injection of channel 2 waits. -/
def waits2 : State :=
  (ch2 .aiV fun c => { c with
    cfg := { c.cfg with aiTrig := 0x40000000#32 }, ai := { c.ai with inj := some 3 } }).modConv 0 fun x =>
      { x with refSettled := true }

def reply : HartFrame := { pre := 5, bytes := [1, 2], marks := [false, true] }

/-- A merge window with k repeats. -/
def win (k : Nat) : MergeWin := { source := 5, code := 1, subject := 0, count := k, lastOpsec := 0, opened := 0 }

def merging (k : Nat) : State := { after 1000 on with rcd := { on.rcd with merges := [win k] } }

/-- A SWARM_ROUTE that waits for TAG 7. -/
def asked (answered : Bool) : Outst :=
  { sender := .host, frame := fr 0, crc := 0, opcode := 0x31, key := routeKey 7, answered := answered, bcast := false }

def asking : State := { root with port := { root.port with outst := [asked false] } }

def entryQ : QEntry := { cls := .free, word := 5, stamp := none, src := 0 }

def trig (k : BitVec 64) : Trigger := { st := k, capture := true, pulse := true, snap := false, mask := 0 }

/-- A ring of the root and node 1, closed through D1. -/
def ringOf (ring : BitVec 2) (broken : List (Addr × Port)) : State :=
  { root with sw := { root.sw with
      ring := ring, ringEnds := some ((0, 1), (1, 1)), broken := broken
      links := [{ node := 1, nodePort := 0, parent := 0, port := 0, lat := 0 }]
      ports := root.sw.ports.set 1 { SwPort.reset with state := 3, use := 3 } } }

def swFrame (payload : List Word) : SwFrame :=
  { cls := .control, kind := 0, bcast := false, dst := 9, src := 5, hops := 1, tag := 7, more := false
    payload := payload }

def openSeg : SwSeg := { port := 0, cls := .control, src := 5, tag := 7, words := [1], opened := 0 }

/-- One word beyond the 4096 of the longest message. -/
theorem long_message : 4096 < (List.replicate 4096 (0 : Word) ++ [1]).length := by
  rw [List.length_append, List.length_replicate]; decide

/-! ### Ill-formed commands are refused -/

/-- A mailbox beyond MB1, and BULK on MB0 (10 R315, 11 R334). -/
theorem test_wf_mailbox : (Instr.hello { frame := fr 2, args := 0, words := [] }).wf = false ∧
    (Instr.hello { frame := { fr 0 with bulk := true }, args := 0, words := [] }).wf = false ∧
    (Instr.lockoutClear (fr 3) 0 0).wf = false := by decide

/-- A message of 4097 words (11 R338). -/
theorem test_wf_message_length : (Instr.combLoadData (big 0 (List.replicate 4096 0))).wf = false := by
  decide +kernel

/-- ARGS that name another row of the same opcode. -/
theorem test_wf_selectors : (Instr.evtAck (msg 1 [])).wf = false ∧ (Instr.evtRedeliver (msg 0 [])).wf = false ∧
    (Instr.combSwapArm (msg 1 [])).wf = false ∧ (Instr.combSwapCancel (msg 2 [])).wf = false ∧
    (Instr.combSwapStop (msg 0 [])).wf = false ∧ (Instr.captureArm (msg 1 [])).wf = false ∧
    (Instr.captureStop (msg 0 [])).wf = false ∧ (Instr.swarmEnumStart (msg 1 [])).wf = false ∧
    (Instr.swarmEnumQuery (msg 0 [])).wf = false ∧ (Instr.attestStart (msg 1 [])).wf = false ∧
    (Instr.attestFetch (msg 0 [])).wf = false ∧ (Instr.keyInstall (msg 4 [])).wf = false ∧
    (Instr.keyRevoke (msg 8 [])).wf = false ∧ (Instr.provLockSet (msg 12 [])).wf = false ∧
    (Instr.certInstall (msg 0 [])).wf = false := by decide

/-- SEL of LOG_READ that names another row (09 R298). -/
theorem test_wf_log_selectors : (Instr.logRead (big 0 [0, 0x101])).wf = false ∧
    (Instr.logReadShadow (big 0 [0, 1])).wf = false ∧
    (Instr.logReadClearHistory (big 0 [0, 0x301])).wf = false ∧
    (Instr.logReadFaultBlock (big 0 [0, 0x201])).wf = false ∧ (Instr.logRead (big 0 [0])).wf = false := by decide

/-- UNKNOWN_OPCODE with an opcode of the table (11 R342). -/
theorem test_wf_unknown_opcode : (Instr.unknownOpcode 0x08 (msg 0 [])).wf = false := by decide

/-- A channel wired to itself (03 R111). -/
theorem test_wf_wired : (Instr.wiredDetected 4 4).wf = false := by decide

/-- A supply class that skips a threshold, and a high supply that is low (13 R393). -/
theorem test_wf_supply_class :
    (Instr.fieldDieReady 0 { uvlo := true, low := false, warn := true, high := false } 0).wf = false ∧
    (Instr.fieldDieReady 0 { uvlo := false, low := true, warn := false, high := false } 0).wf = false ∧
    (Instr.fieldDieReady 0 { uvlo := false, low := false, warn := true, high := true } 0).wf = false := by decide

/-- A HART frame with a mark too few, and one of 256 bytes (06 R211). -/
theorem test_wf_hart_frame :
    (Instr.hartFrameReceived 0 { pre := 5, bytes := [1, 2], marks := [false] }).wf = false ∧
    (Instr.hartFrameReceived 0
      { pre := 5, bytes := List.replicate 256 0, marks := List.replicate 256 false }).wf = false := by
  decide +kernel

/-- Swarm messages of no words, and too long (12 R378, R379, R381). -/
theorem test_wf_swarm_messages : (Instr.swarmCmdReceived 1 1 false []).wf = false ∧
    (Instr.swarmCmdReceived 1 1 false (List.replicate 1023 0)).wf = false ∧
    (Instr.swarmRspReceived 1 1 []).wf = false ∧
    (Instr.swarmRspReceived 1 1 (List.replicate 4097 0)).wf = false ∧
    (Instr.swarmEventReceived 1 1 []).wf = false ∧
    (Instr.swarmEventReceived 1 1 (List.replicate 683 (on.eventRecord 0))).wf = false := by decide +kernel

/-- Address 0 given to a node, a HEAL on D1, a long payload, a SYNC beyond its unit of 50 ns (12 R368,
R375, R382, R383). -/
theorem test_wf_swarm_frames : (Instr.enumReceived 0 (.assign 0 0 0 0 0)).wf = false ∧
    (Instr.healReceived 0).wf = false ∧
    (Instr.swarmFrameForward 0 { cls := .control, kind := 0, bcast := false, dst := 9, src := 5, hops := 1
                                 tag := 7, more := false, payload := List.replicate 257 0 }).wf = false ∧
    (Instr.syncReceived 0 0 200).wf = false := by decide +kernel

/-- Segments of no words, and too long (10 R317, 12 R369). -/
theorem test_wf_segments : (Instr.hostSegmentReceived (fr 0) []).wf = false ∧
    (Instr.hostSegmentReceived (fr 0) (List.replicate 1025 0)).wf = false ∧
    (Instr.hostSegmentReceived (fr 2) [1]).wf = false ∧
    (Instr.swarmSegmentReceived 0 .control 5 7 (List.replicate 257 0)).wf = false := by decide +kernel

/-- Well-formed commands pass. -/
theorem test_wf_accepts : (Instr.outWrite (big 0 [4, 0x40000000])).wf = true ∧
    (Instr.keyRevoke (msg 4 [])).wf = true ∧ (Instr.logReadShadow (big 0 [0, 0x101])).wf = true ∧
    (Instr.unknownOpcode 0xFF (msg 0 [])).wf = true ∧ (Instr.syncReceived 0 0 199).wf = true := by decide

/-! ### Values that the manual gives -/

/-- The check values of the two CRCs over "123456789" (10 R316, 09 R287). -/
theorem test_crc : crc32c [0x31, 0x32, 0x33, 0x34, 0x35, 0x36, 0x37, 0x38, 0x39] = 0xE3069283 ∧
    crc16 [0x31, 0x32, 0x33, 0x34, 0x35, 0x36, 0x37, 0x38, 0x39] = 0x29B1 := by decide +kernel

/-- The first OUT_WRITE of the first contact, in STANDBY (11, worked example). -/
theorem test_outWrite_standby : ∃ t, exec (.outWrite (msg 0 [0x20000000, 0x80001F40])) (inMode .standby) = .next t ∧
    t.port.rsp.map (·.words) = [[0x08054000]] ∧ t.port.cnt.wrongState = 1 := ⟨_, rfl, by decide⟩

/-- The lamp bank: CH29 scheduled, at 0x4A3 of period 300, its APPLY at 0x500 (11, worked example). -/
def lamp : State :=
  let s : State := { on with comb := { on.comb with
    active := some { hdr := { hdr0 with period := 0x1000, sched := 0x20000200 }
                     cells := [{ cell 4 0 false with pos := 0x400, mask := 0x20000000, group := 8, lead := 3 },
                               { cell 4 0 false with pos := 0x500, mask := 0x20000000, group := 8, lead := 3 }] }
    started := true } }
  let at300 : DiePos := { DiePos.reset with e := 300 * 0x1000 + 0x4A3, h := 300 * 0x1000 + 0x4A3 }
  ((((s.modPos 0 fun _ => at300).modPos 1 fun _ => at300).modPos 2 fun _ => at300).modPos 3 fun _ => at300).modCh
    29 fun c => { c with cfg := { c.cfg with mode := .doHs, outCfg := c.cfg.outCfg ||| bitW 24 }, actMode := .doHs }

theorem test_outWrite_lamp : ∃ t, exec (.outWrite (msg 0 [0x20000000, 0x80001F40])) lamp = .next t ∧
    t.port.rsp.map (·.words) = [[0x08006000, 0x20000000, 0x00000500, 0x0000012C]] :=
  ⟨_, rfl, by decide +kernel⟩

/-- Window words 0x30 to 0x32 at position 0x4A3 of period 300 (10, worked example). -/
theorem test_winrd_position :
    ∃ t, exec (.winrd 0x17 0x30 3) { lamp with pw.opsec := 90000, comb.cgen := 0x2C } = .next t ∧
    t.port.winRsp = some (0x17, [0x0B302C03, 0x2C0004A3, 0x0000012C, 0x00015F90]) :=
  ⟨_, rfl, by decide +kernel⟩

/-- Cells 7 and 11 of the metering-roll comb, from their bytes (07, worked example). -/
theorem test_decode_cells :
    decodeCell [0x00, 0x05, 0x00, 0x03, 0x04, 0x08, 0x00, 0x00, 0x00, 0x20, 0x00, 0x00, 0x00, 0x00, 0x14, 0x00] =
      { pos := 0x500, skip := false, lead := 3, action := 4, group := 8, mask := 0x20000000, arg := 0
        qty := 0, scale := 0, count := 20 } ∧
    decodeCell [0x80, 0x08, 0x00, 0x83, 0x07, 0x08, 0x00, 0x00, 0x00, 0x20, 0x80, 0x3E, 0x00, 0x00, 0xEA, 0x13] =
      { pos := 0x880, skip := true, lead := 3, action := 7, group := 8, mask := 0x20000000, arg := 16000
        qty := 0, scale := 1, count := 1002 } := by decide +kernel

/-- The moisture sample: 12.80 mA right and left, and 24.15 mA (05, worked example). -/
theorem test_moisture : codeOf false 18 12800000 24000000 = 139810 ∧
    resultW 9 false false (alignCode false 18 139810) = 0x24022222 ∧
    resultW 9 false false (alignCode true 18 139810) = 0x24888880 ∧
    resultW 9 true false (alignCode false 18 (codeOf false 18 24150000 24000000)) = 0x2603FFFF := by
  decide +kernel

/-- The plenum Pt100 at OSR 100 (04, worked example). -/
theorem test_pt100 : codeOf false 24 1174704 4000000 = 0x4B2E59 := by decide +kernel

/-- CH_AO_STATE and CH_AO_MEAS of the drive speed reference (06, worked example). -/
theorem test_drive_reference :
    ∃ t, exec (.aoMeasUpdate 2 { mean := 16000, millivolts := 4160, railAtLimit := false, settled := true
                                 deviates := false, limiting := false })
        (ch2 .aoISrc fun c => { c with ao := { c.ao with code := 0xAAAA, rail := 5400 } }) = .next t ∧
    t.chAoStateW 2 = 0x1B00AAAA ∧ t.chAoMeasW 2 = 0x3E800104 := ⟨_, rfl, by decide +kernel⟩

/-- A cut cable under NFAULT ON: WIREBRK and EV2, STATE 1, no EV34 (02, worked example). -/
theorem test_cut_cable :
    ∃ t, exec (.namurFaultDeclared 2 false)
        (ch2 .diNamur fun c => { c with cfg := { c.cfg with inCfg := 0x300100C8#32 } }) = .next t ∧
    (t.chan 2).fault = 1 ∧ (t.chan 2).inp.state = true ∧ (t.chan 2).inp.valid = false ∧
    t.ev.src[2].pending = true ∧ t.ev.src[34].pending = false := ⟨_, rfl, by decide⟩

/-- CH_CNT_FREQ of the metering roll: six counts upwards, 5 / 614.4 s from first to last (02, worked example). -/
theorem test_roll_rate :
    ∃ t, exec (.freqGateExpired 2 6 651042)
        ((pair2 .count .quad).modCh 2 fun c => { c with cnt := { c.cnt with val := 6, edges := 1 } }) = .next t ∧
    (t.chan 2).cnt.freq = 0x00096000 := ⟨_, rfl, by decide +kernel⟩

/-- SAFE_STAT of the dryer root: SAFE, CAUSE 1, G1 and G3 held (08, worked example). -/
theorem test_safe_stat :
    State.safeStatW { (on.modGrp 1 fun x => { x with guard := { x.guard with held := true } }).modGrp 3
      fun x => { x with guard := { x.guard with held := true } } with pw.mode := .safe, safe.safe := true, safe.cause := 1 } =
      0x8D000000 := by decide

/-- The host is silent: SAFE with CAUSE 1, the switched load off, EV76 (08, worked example). -/
theorem test_host_silence : ∃ t, exec .hostSilenceExpiry { sw2 .on id with time := 20000000 } = .next t ∧ t.pw.mode = .safe ∧
    t.safe.cause = 1 ∧ t.wd.hsExpiries = 1 ∧ (t.chan 2).out.ps.isOn = false ∧ t.ev.src[76].pending = true :=
  ⟨_, rfl, by decide +kernel⟩

/-! ### Witnesses: a state and operands for the hypotheses of each statement -/

theorem wit_QueueKept :
    (∃ (c : Instr) (s : State) (t : State), exec c s = .next t) ∧
    (∃ (s : State), s.pending = []) :=
  ⟨⟨.holdUpEnd, on, { on with pw.hholdOk := false }, rfl⟩,
    ⟨State.reset, by decide +kernel⟩⟩

theorem wit_InvKeptByStep :
    (∃ (s : State) (t : State), s.Inv ∧ step s = .next t) :=
  ⟨{ on with pending := [.holdUpEnd] }, { on with pw.hholdOk := false }, ⟨by decide, by decide, by decide⟩, rfl⟩

theorem wit_ResetValues :
    (∃ (k : Fin 128), k ≠ 126) :=
  ⟨3, by decide +kernel⟩

theorem wit_FirstContact :
    (∃ (s : State) (c : Cmd), s.accepts helloSpec c = true) ∧
    (∃ (s : State) (c : Cmd) (set : Word), (∀ e ∈ s.sec.pendingEvents, e.1 ≠ 126) ∧
      s.accepts featAcceptSpec c = true ∧ c.words = [set, 0, 0, 0] ∧ set &&& ~~~s.sec.offer = 0 ∧
      (bit set 0 = true → bit set 8 = false ∧ bit set 3 = false) ∧ s.pw.mode = .standby) ∧
    (∃ (s : State) (c : Cmd) (set : Word), (∀ e ∈ s.sec.pendingEvents, e.1 ≠ 126) ∧
      s.accepts featAcceptSpec c = true ∧ c.words = [set, 0, 0, 0] ∧ set &&& ~~~s.sec.offer = 0 ∧
      (bit set 0 = true → bit set 8 = false ∧ bit set 3 = false) ∧ s.pw.mode = .standby ∧ bit set 2 = false) ∧
    (∃ (s : State) (op : BitVec 8) (c : Cmd), commandLow op.toNat = none ∧ commandHigh op.toNat = none ∧
      s.accepts (unknownSpec op.toNat) c = true) ∧
    (∃ (s : State) (op : BitVec 8) (c : Cmd), commandLow op.toNat = none ∧ commandHigh op.toNat = none ∧
      s.accepts (unknownSpec op.toNat) c = true) :=
  ⟨⟨on, msg 0 [], by decide +kernel⟩,
    ⟨standby0, msg 0 [0xFEE7, 0, 0, 0], 0xFEE7, fun e h => absurd h List.not_mem_nil, by decide +kernel⟩,
    ⟨standby0, msg 0 [0xFEE3, 0, 0, 0], 0xFEE3, fun e h => absurd h List.not_mem_nil, by decide +kernel⟩,
    ⟨on, 0xFF, msg 0 [], by decide +kernel⟩,
    ⟨on, 0, msg 0 [], by decide +kernel⟩⟩

theorem wit_ObjectRead :
    (∃ (s : State) (c : Cmd) (v : Word), s.accepts getObjSpec c = true ∧ (s.received c.frame).readObj
      (objIndex c.args) = some v ∧ objIndex c.args ≠ 0xD08 ∧ objIndex c.args ≠ 0xD09) ∧
    (∃ (s : State) (c : Cmd) (v : Word), s.accepts getObjSpec c = true ∧ (s.received c.frame).readObj
      (objIndex c.args) = some v ∧ objIndex c.args = 0xD08) ∧
    (∃ (s : State) (c : Cmd) (v : Word) (h : _), s.accepts getObjSpec c = true ∧ (s.received c.frame).readObj
      (objIndex c.args) = some v ∧ objIndex c.args = 0xD09 ∧ s.port.stShadow = some h) ∧
    (∃ (s : State) (c : Cmd) (i : Nat) (e : Nat) (n : Word), s.accepts getObjBlockSpec c = true ∧
      objIndex c.args = i ∧ c.words = [n] ∧ 1 ≤ n.toNat ∧ n.toNat ≤ 1024 ∧ rangeEnd i = some e ∧
      i + n.toNat ≤ e ∧ i ≠ 0x95A ∧ i ≠ 0xD0C ∧ (i + n.toNat ≤ 0xD08 ∨ 0xD09 < i)) ∧
    (∃ (s : State) (c : Cmd) (i : Nat) (e : Nat) (n : Word), s.accepts getObjBlockSpec c = true ∧
      objIndex c.args = i ∧ c.words = [n] ∧ 1 ≤ n.toNat ∧ n.toNat ≤ 1024 ∧ rangeEnd i = some e ∧
      i + n.toNat ≤ e ∧ i ≠ 0x95A ∧ i ≠ 0xD0C ∧ (i + n.toNat ≤ 0xD08 ∨ 0xD09 < i)) :=
  ⟨⟨on, msg 0 [], ((on.received (fr 0)).readObj 0).getD 0, by decide +kernel⟩,
    ⟨on, msg 0xD08 [], ((on.received (fr 0)).readObj 0xD08).getD 0, by decide +kernel⟩,
    ⟨{ on with port.stShadow := some 7 }, msg 0xD09 [], ((on.received (fr 0)).readObj 0xD09).getD 0, 7,
      by decide +kernel⟩,
    ⟨on, msg 0x400 [1024], 0x400, 0x800, 1024, by decide +kernel⟩,
    ⟨on, msg 0xD07 [1], 0xD07, 0xE00, 1, by decide +kernel⟩⟩

theorem wit_ObjectWrite :
    (∃ (s : State) (u : State) (c : Cmd) (w : Word), (s.received c.frame).setObject .host
      (objIndex c.args) w = .ok u ∧ s.accepts setObjSpec c = true ∧ c.words = [w]) ∧
    (∃ (s : State) (c : Cmd) (w : Word) (n : Ch), s.accepts setObjSpec c = true ∧ c.words = [w] ∧
      objIndex c.args = chIndex n 0x03 ∧ s.isOdd n = false ∧ s.dieUp (grpOf n) = true ∧ (s.group
      (grpOf n)).link.silent = false ∧ s.failedCh n = false ∧ (s.chan n).cfgBusy = false ∧
      ((s.chan n).actMode = .off ∨ (s.chan n).actMode.isDigital = true)) ∧
    (∃ (s : State) (c : Cmd) (w : Word) (n : Ch), s.accepts setObjSpec c = true ∧ c.words = [w] ∧
      objIndex c.args = chIndex n 0x03 ∧ s.isOdd n = false ∧ s.dieUp (grpOf n) = true ∧ (s.group
      (grpOf n)).link.silent = false ∧ s.failedCh n = false ∧ (s.chan n).cfgBusy = false ∧
      ((s.chan n).actMode = .off ∨ (s.chan n).actMode.isDigital = true)) ∧
    (∃ (s : State) (c : Cmd) (w : Word), s.accepts setObjSpec c = true ∧ c.words = [w] ∧
      0x300 ≤ objIndex c.args ∧ objIndex c.args < 0x400) ∧
    (∃ (s : State) (c : Cmd) (w : Word), s.accepts setObjSpec c = true ∧ c.words = [w] ∧
      0x300 ≤ objIndex c.args ∧ objIndex c.args < 0x400) :=
  ⟨⟨on, (match (on.received (fr 0)).setObject .host 0xB02 600000 with | .ok u => u | _ => on), msg 0xB02 [600000],
      600000, rfl, by decide +kernel⟩,
    ⟨(ch2 .di id).modCh 2 fun c => { c with fault := 5 }, msg (BitVec.ofNat 24 (chIndex 2 3)) [0xFFFFFFFF],
      0xFFFFFFFF, 2, by decide +kernel⟩,
    ⟨on, msg (BitVec.ofNat 24 (chIndex 2 3)) [0xFFFFFFFF], 0xFFFFFFFF, 2, by decide +kernel⟩,
    ⟨on, msg 0x300 [0], 0, by decide +kernel⟩,
    ⟨on, msg 0x3FF [0], 0, by decide +kernel⟩⟩

theorem wit_ModeCommands :
    (∃ (s : State) (c : Cmd), s.accepts setModeSpec c = true ∧ s.pw.mode = .standby ∧ arg c.args 2 0 = 3 ∧
      s.anyHeld = false) ∧
    (∃ (s : State) (c : Cmd), s.accepts setModeSpec c = true ∧ s.pw.mode = .standby ∧ arg c.args 2 0 = 3 ∧
      s.anyHeld = true) ∧
    (∃ (s : State) (c : Cmd), s.accepts setModeSpec c = true ∧ s.pw.mode = .standby ∧ arg c.args 2 0 = 6) ∧
    (∃ (s : State) (c : Cmd) (n : _), s.accepts setModeSpec c = true ∧ (s.pw.mode = .run ∨ s.pw.mode = .doze) ∧
      arg c.args 2 0 = 2 ∧ (s.chan n).guard.held = false ∧ (s.chan n).actMode.isSwitch = true ∧
      (s.chan n).out.ps ≠ .lockedOff) ∧
    (∃ (s : State) (c : Cmd), s.accepts setModeSpec c = true ∧ (s.pw.mode = .run ∨ s.pw.mode = .doze) ∧
      arg c.args 2 0 = 2) ∧
    (∃ (s : State) (c : Cmd) (a : Word) (b : Word), s.accepts latencyTolSpec c = true ∧ c.words = [a, b]) :=
  ⟨⟨inMode .standby, msg 3 [], by decide +kernel⟩,
    ⟨guard0 (inMode .standby), msg 3 [], by decide +kernel⟩,
    ⟨inMode .standby, msg 6 [], by decide +kernel⟩,
    ⟨sw2 .on id, msg 2 [], 2, by decide +kernel⟩,
    ⟨inMode .doze, msg 2 [], by decide +kernel⟩,
    ⟨on, msg 0 [0, 0xFFFFFFFF], 0, 0xFFFFFFFF, by decide +kernel⟩⟩

theorem wit_EventCommands :
    (∃ (s : State) (c : Cmd), s.accepts evtAckSpec { c with args := withArg c.args 0 0 0 } = true) ∧
    (∃ (s : State) (c : Cmd), s.accepts evtAckSpec { c with args := withArg c.args 0 0 1 } = true) ∧
    (∃ (s : State) (c : Cmd), s.accepts evtMaskSpec c = true) :=
  ⟨⟨on, msg 0 [0xFFFFFFFF, 0, 0, 0], by decide +kernel⟩,
    ⟨on, msg 0 [0, 0, 0, 0], by decide +kernel⟩,
    ⟨on, msg 0 [0xFFFFFFFF, 0, 0, 0], by decide +kernel⟩⟩

theorem wit_ChannelConfig :
    (∃ (s : State) (c : Cmd) (n : Ch) (l : List (Nat × Word)), s.accepts chConfigSpec c = true ∧ n = chNo
      (arg c.args 4 0) ∧ l = maskWords (wAt c.words 0) (c.words.drop 1) ∧ wAt c.words 0 ≠ 0 ∧
      s.isOdd n = false ∧ (s.received c.frame).configChecks n l = [] ∧
      ((s.received c.frame).configLeft n l).mode = (s.chan n).cfg.mode) ∧
    (∃ (s : State) (c : Cmd) (n : Ch) (l : List (Nat × Word)), s.accepts chConfigSpec c = true ∧ n = chNo
      (arg c.args 4 0) ∧ l = maskWords (wAt c.words 0) (c.words.drop 1) ∧ wAt c.words 0 ≠ 0 ∧
      s.isOdd n = false ∧ (s.received c.frame).configChecks n l = [] ∧
      ((s.received c.frame).configLeft n l).mode ≠ (s.chan n).cfg.mode) ∧
    (∃ (s : State) (n : Ch) (m : _), (s.chan n).cfgBusy = true ∧ s.dieUp (grpOf n) = true ∧ m ≠ n ∧
      m ≠ mateOf n) :=
  ⟨⟨ch2 .di id, msg 2 [0x20, 0x0200000A], 2, maskWords 0x20 [0x0200000A], by decide +kernel⟩,
    ⟨on, msg 2 [1, 4], 2, maskWords 1 [4], by decide +kernel⟩,
    ⟨ch2 .di fun c => { c with cfgBusy := true, actMode := .off }, 2, 4, by decide +kernel⟩⟩

theorem wit_OutputCommands :
    (∃ (s : State) (c : Cmd) (n : Ch) (w : Word), s.accepts outWriteSpec c = true ∧ c.words = [bitW n.val, w] ∧
      s.isOdd n = false ∧ (s.chan n).actMode.isSwitch = true ∧ (s.chan n).cfgBusy = false ∧
      (s.chan n).guard.held = false ∧ (s.chan n).out.ps ≠ .lockedOff ∧ s.failedCh n = false ∧ s.dieUp
      (grpOf n) = true ∧ (s.group (grpOf n)).link.silent = false ∧ s.scheduled n = false ∧
      s.armedSchedules n = false ∧ fld w 31 30 ≤ 1 ∧ fld w 13 0 ≤ 10000 ∧ fld w 31 30 = 0) ∧
    (∃ (s : State) (c : Cmd) (n : Ch) (w : Word), s.accepts outWriteSpec c = true ∧ c.words = [bitW n.val, w] ∧
      s.isOdd n = false ∧ (s.chan n).actMode.isSwitch = true ∧ (s.chan n).cfgBusy = false ∧
      (s.chan n).guard.held = false ∧ (s.chan n).out.ps ≠ .lockedOff ∧ s.failedCh n = false ∧ s.dieUp
      (grpOf n) = true ∧ (s.group (grpOf n)).link.silent = false ∧ s.scheduled n = false ∧
      s.armedSchedules n = false ∧ fld w 31 30 ≤ 1 ∧ fld w 13 0 ≤ 10000 ∧ fld w 31 30 = 1) ∧
    (∃ (s : State) (c : Cmd) (n : Ch) (w : Word) (m : _), s.accepts aoWriteSpec c = true ∧
      c.words = [bitW n.val, w] ∧ s.isOdd n = false ∧ (s.chan n).actMode.isAo = true ∧
      (s.chan n).cfgBusy = false ∧ (s.chan n).guard.held = false ∧ (s.chan n).ao.blocked = false ∧ s.codeWaits n
      (w.setWidth 16) = false ∧ s.failedCh n = false ∧ s.dieUp (grpOf n) = true ∧ (s.group
      (grpOf n)).link.silent = false ∧ s.scheduled n = false ∧ s.armedSchedules n = false ∧ m ≠ n) :=
  ⟨⟨sw2 .on id, msg 0 [bitW 2, 0x2710], 2, 0x2710, by decide +kernel⟩,
    ⟨sw2 .on id, msg 0 [bitW 2, 0x40000000], 2, 0x40000000, by decide +kernel⟩,
    ⟨ch2 .aoV id, msg 0 [bitW 2, 0xFFFF], 2, 0xFFFF, 3, by decide +kernel⟩⟩

theorem wit_CombLoading :
    (∃ (s : State) (c : Cmd) (w : Word), s.accepts combLoadBeginSpec c = true ∧ c.words = [w] ∧ 272 ≤ w.toNat ∧
      w.toNat ≤ 65888 ∧ s.comb.lstate ≠ .verifying ∧ s.comb.armed = none) ∧
    (∃ (s : State) (c : Cmd) (w : Word), s.accepts combLoadBeginSpec c = true ∧ c.words = [w] ∧ 272 ≤ w.toNat ∧
      w.toNat ≤ 65888 ∧ s.comb.lstate ≠ .verifying ∧ s.comb.armed = none) ∧
    (∃ (s : State) (c : Cmd) (off : Word) (n : Word) (ws : List Word), s.accepts combLoadDataSpec c = true ∧
      c.words = off :: n :: ws ∧ s.comb.lstate = .receiving ∧ off.toNat = s.comb.loading.length ∧ 1 ≤ n.toNat ∧
      n.toNat ≤ 4088 ∧ off.toNat + n.toNat ≤ s.comb.rxLen) ∧
    (∃ (s : State) (c : Cmd) (off : Word) (n : Word) (ws : List Word), s.accepts combLoadDataSpec c = true ∧
      c.words = off :: n :: ws ∧ s.comb.lstate = .receiving ∧ off.toNat = s.comb.loading.length ∧ 1 ≤ n.toNat ∧
      n.toNat ≤ 4088 ∧ off.toNat + n.toNat ≤ s.comb.rxLen) ∧
    (∃ (s : State) (c : Cmd), s.accepts combCommitSpec c = true ∧ s.comb.lstate = .receiving ∧
      s.comb.rxLen ≤ s.comb.loading.length) ∧
    (∃ (s : State), s.comb.lstate = .verifying ∧ s.hostUp = true ∧ s.comb.verdict = none) ∧
    (∃ (s : State) (st : Status) (r : BitVec 4) (i : BitVec 13), s.comb.lstate = .verifying ∧ s.hostUp = true ∧
      s.comb.verdict = some (st, r, i)) :=
  ⟨⟨on, big 0 [272], 272, by decide +kernel⟩,
    ⟨on, big 0 [65888], 65888, by decide +kernel⟩,
    ⟨rx 0, big 0 [0, 1, 0xAB], 0, 1, [0xAB], by decide +kernel⟩,
    ⟨rx 4, big 0 [4, 4, 0], 4, 4, [0], by decide +kernel⟩,
    ⟨rx 8, big 1 [], by decide +kernel⟩,
    ⟨verifying none, by decide +kernel⟩,
    ⟨verifying (some (.range, 2, 0)), .range, 2, 0, by decide +kernel⟩⟩

theorem wit_CombChanges :
    (∃ (s : State) (b : Bool), s.comb.armed = some b ∧ s.hostUp = true ∧ (s.combLive = false ∨
      s.comb.cond = .stalled ∨ s.exchangeDue = true)) ∧
    (∃ (s : State) (b : Bool), s.comb.armed = some b ∧ s.hostUp = true ∧ (s.combLive = false ∨
      s.comb.cond = .stalled ∨ s.exchangeDue = true)) ∧
    (∃ (s : State), s.combLive = true ∧ s.comb.cond ≠ .stalled ∧ s.exchangeDue = false) ∧
    (∃ (s : State) (c : Comb), s.comb.active = some c ∧ s.cellsRun = true ∧ s.wraps c s.posGrp = true) ∧
    (∃ (s : State) (c : Comb), s.comb.active = some c ∧ s.cellsRun = true ∧ s.wraps c s.posGrp = true ∧
      s.comb.armed.isSome = true) ∧
    (∃ (s : State) (c : Comb), (c.hdr.tb = 1 → ∀ m l,
      s.comb.moves = m :: l → m.1 + c.hdr.stallT * milli ≤ s.time) ∧ s.comb.active = some c ∧ c.hdr.tb ≠ 0 ∧
      s.combLive = true ∧ (s.comb.cond = .normal ∨ s.comb.cond = .reversed) ∧ s.hostUp = true ∧ (c.hdr.tb = 2 →
      (s.chan c.source).mains.lock = false) ∧ (c.hdr.tb = 3 → s.sw.synced = false ∧
      s.sw.lostAt + c.hdr.stallT * milli ≤ s.time) ∧ c.hdr.stallact = 0) ∧
    (∃ (s : State) (c : Comb), (c.hdr.tb = 1 → ∀ m l,
      s.comb.moves = m :: l → m.1 + c.hdr.stallT * milli ≤ s.time) ∧ s.comb.active = some c ∧ c.hdr.tb ≠ 0 ∧
      s.combLive = true ∧ (s.comb.cond = .normal ∨ s.comb.cond = .reversed) ∧ s.hostUp = true ∧ (c.hdr.tb = 2 →
      (s.chan c.source).mains.lock = false) ∧ (c.hdr.tb = 3 → s.sw.synced = false ∧
      s.sw.lostAt + c.hdr.stallT * milli ≤ s.time) ∧ c.hdr.stallact = 1 ∧ c.hdr.tb = 3) ∧
    (∃ (s : State) (c : Comb), (c.hdr.tb = 1 → ∀ m l,
      s.comb.moves = m :: l → m.1 + c.hdr.stallT * milli ≤ s.time) ∧ s.comb.active = some c ∧ c.hdr.tb ≠ 0 ∧
      s.combLive = true ∧ (s.comb.cond = .normal ∨ s.comb.cond = .reversed) ∧ s.hostUp = true ∧ (c.hdr.tb = 2 →
      (s.chan c.source).mains.lock = false) ∧ (c.hdr.tb = 3 → s.sw.synced = false ∧
      s.sw.lostAt + c.hdr.stallT * milli ≤ s.time) ∧ c.hdr.stallact = 2) ∧
    (∃ (s : State) (c : Cmd) (x : Comb), s.accepts combSwapSpec { c with args := withArg c.args 1 0 0 } = true ∧
      arg c.args 1 0 ≤ 2 ∧ s.comb.lstate = .valid ∧ s.comb.next = some x ∧
      (s.received c.frame).sourceFits x = true ∧ (s.received c.frame).orderModeFail x = none) ∧
    (∃ (s : State) (c : Cmd), s.accepts combSwapSpec { c with args := withArg c.args 1 0 1 } = true ∧
      arg c.args 1 0 ≤ 2) ∧
    (∃ (s : State) (c : Cmd), s.accepts combSwapSpec { c with args := withArg c.args 1 0 2 } = true ∧
      arg c.args 1 0 ≤ 2) :=
  ⟨⟨{ loaded with comb.armed := some true }, true, by decide +kernel⟩,
    ⟨{ loaded with comb.armed := some false }, false, by decide +kernel⟩,
    ⟨(ticking on (cell 0 0 false)), by decide +kernel⟩,
    ⟨(((ticking on (cell 0 0 false))).modPos 0 fun p => { p with e := 1000, h := 999 }),
      { hdr := hdr0, cells := [cell 0 0 false] }, by decide +kernel⟩,
    ⟨{ (((ticking on (cell 0 0 false))).modPos 0 fun p => { p with e := 1000, h := 999 }) with
      comb.armed := some true }, { hdr := hdr0, cells := [cell 0 0 false] }, by decide +kernel⟩,
    ⟨timed 1 0 .normal, { hdr := { hdr0 with tb := 1, stallact := 0 }, cells := [] },
      (by intro _ m l h; cases h), by decide +kernel⟩,
    ⟨timed 3 1 .reversed, { hdr := { hdr0 with tb := 3, stallact := 1 }, cells := [] },
      (by intro _ m l h; cases h), by decide +kernel⟩,
    ⟨timed 2 2 .normal, { hdr := { hdr0 with tb := 2, stallact := 2 }, cells := [] },
      (by intro _ m l h; cases h), by decide +kernel⟩,
    ⟨loaded, msg 0 [], { hdr := hdr0, cells := [] }, by decide +kernel⟩,
    ⟨loaded, msg 0 [], by decide +kernel⟩,
    ⟨loaded, msg 2 [], by decide +kernel⟩⟩

theorem wit_OutputCells :
    (∃ (s : State) (idx : Nat) (c : Cell) (g : Grp) (d : DueCell), s.dueOn 0x00 idx c g d) ∧
    (∃ (s : State) (idx : Nat) (c : Cell) (g : Grp) (d : DueCell), s.dueOn 0x0E idx c g d) ∧
    (∃ (s : State) (idx : Nat) (c : Cell) (g : Grp) (d : DueCell) (n : Ch) (p : PendCmd),
      s.dueOn 0x04 idx c g d ∧ c.mask = bitW n.val ∧ s.isOdd n = false ∧ s.meets false n = .run ∧
      (s.modeOf n).isSwitch = true ∧ (s.chan n).pend = some p ∧ s.tooSoon n p = false ∧
      (s.chan n).out.polOn = false) ∧
    (∃ (s : State) (idx : Nat) (c : Cell) (g : Grp) (d : DueCell) (n : Ch) (p : PendCmd),
      s.dueOn 0x04 idx c g d ∧ c.mask = bitW n.val ∧ s.isOdd n = false ∧ s.meets false n = .run ∧
      (s.modeOf n).isSwitch = true ∧ (s.chan n).pend = some p ∧ s.tooSoon n p = false ∧
      (s.chan n).out.polOn = false ∧ p.on = false) ∧
    (∃ (s : State) (idx : Nat) (c : Cell) (g : Grp) (d : DueCell) (n : Ch), s.dueOn 0x05 idx c g d ∧
      c.mask = bitW n.val ∧ s.isOdd n = false ∧ s.meets false n = .run) ∧
    (∃ (s : State) (idx : Nat) (c : Cell) (g : Grp) (d : DueCell) (n : Ch), s.dueOn 0x06 idx c g d ∧
      c.mask = bitW n.val ∧ s.isOdd n = false ∧ s.meets false n = .run ∧ bit c.arg 31 = true ∧
      (s.chan n).out.ps = .off ∧ s.readyOn n = true) ∧
    (∃ (s : State) (idx : Nat) (c : Cell) (g : Grp) (d : DueCell) (n : Ch), s.dueOn 0x06 idx c g d ∧
      c.mask = bitW n.val ∧ s.isOdd n = false ∧ s.meets false n = .run ∧ bit c.arg 31 = false ∧
      (s.chan n).out.ps.isOn = true) ∧
    (∃ (s : State) (idx : Nat) (c : Cell) (g : Grp) (d : DueCell) (n : Ch), s.dueOn 0x07 idx c g d ∧
      c.mask = bitW n.val ∧ s.isOdd n = false ∧ s.meets false n = .run ∧ (s.chan n).out.ps = .on ∧
      (s.cfgOf n).inductive = false) ∧
    (∃ (s : State) (n : Ch), (s.chan n).out.pulse.isSome = true ∧ (s.modeOf n).isSwitch = true ∧
      (s.chan n).guard.held = false ∧ s.dieUp (grpOf n) = true ∧ (s.chan n).out.cmdOn = false ∧
      (s.chan n).out.ps ≠ .lockedOff) ∧
    (∃ (s : State) (n : Ch), (s.chan n).out.pulse.isSome = true ∧ (s.modeOf n).isSwitch = true ∧
      (s.chan n).guard.held = false ∧ s.dieUp (grpOf n) = true ∧ (s.chan n).out.cmdOn = true ∧
      (s.chan n).out.ps = .off ∧ s.readyOn n = true) ∧
    (∃ (s : State) (n : Ch), (s.chan n).out.pulse.isSome = true ∧ (s.modeOf n).isSwitch = true ∧
      (s.chan n).guard.held = false ∧ s.dieUp (grpOf n) = true ∧ (s.chan n).out.cmdOn = true ∧
      (s.chan n).out.ps = .off ∧ s.readyOn n = false) :=
  ⟨⟨ticking (on) (cell 0 0 false), 0, cell 0 0 false, 0, dueCell, starts_now rfl (by decide +kernel)⟩,
    ⟨ticking (on) (cell 0x0E 0 false), 0, cell 0x0E 0 false, 0, dueCell, starts_now rfl (by decide +kernel)⟩,
    ⟨ticking (ch2 .doHs fun c => { c with pend := some pendOn }) (cell 4 0 false), 0, cell 4 0 false, 0,
      dueCell, 2, pendOn, starts_now rfl (by decide +kernel), by decide +kernel⟩,
    ⟨ticking (ch2 .doHs fun c => { c with pend := some pendOff }) (cell 4 0 false), 0, cell 4 0 false, 0,
      dueCell, 2, pendOff, starts_now rfl (by decide +kernel), by decide +kernel⟩,
    ⟨ticking (ch2 .doHs id) (cell 5 0x80000010 false), 0, cell 5 0x80000010 false, 0, dueCell, 2, starts_now rfl
      (by decide +kernel), by decide +kernel⟩,
    ⟨ticking (ch2 .doHs id) (cell 6 0x80000000 false), 0, cell 6 0x80000000 false, 0, dueCell, 2, starts_now rfl
      (by decide +kernel), by decide +kernel⟩,
    ⟨ticking (sw2 .on id) (cell 6 0 false), 0, cell 6 0 false, 0, dueCell, 2, starts_now rfl
      (by decide +kernel), by decide +kernel⟩,
    ⟨ticking (res2 .on id) (cell 7 0 false), 0, cell 7 0 false, 0, dueCell, 2, starts_now rfl
      (by decide +kernel), by decide +kernel⟩,
    ⟨sw2 .on fun o => { o with pulse := some true, cmdOn := false, cool := true }, 2, by decide +kernel⟩,
    ⟨sw2 .off fun o => { o with pulse := some false, cmdOn := true, cool := true }, 2, by decide +kernel⟩,
    ⟨sw2 .off fun o => { o with pulse := some false, cmdOn := true, cool := false }, 2, by decide +kernel⟩⟩

theorem wit_InputCells :
    (∃ (s : State) (idx : Nat) (c : Cell) (g : Grp) (d : DueCell) (n : Ch), s.dueOn 0x01 idx c g d ∧
      c.mask = bitW n.val ∧ s.isOdd n = false ∧ s.meets true n = .run ∧ (s.modeOf n).isAnalogue = true ∧
      (s.chan n).ai.req = none) ∧
    (∃ (s : State) (idx : Nat) (c : Cell) (g : Grp) (d : DueCell) (n : Ch) (r : ConvReq),
      s.dueOn 0x02 idx c g d ∧ c.mask = bitW n.val ∧ s.isOdd n = false ∧ s.meets true n = .run ∧
      (s.modeOf n).isAnalogue = true ∧ (s.chan n).ai.req = none ∧ s.comb.jobs = [] ∧
      r = { cls := .comb, stamp := s.stampAt d.pos, job := some s.comb.nextJob }) ∧
    (∃ (s : State) (idx : Nat) (c : Cell) (g : Grp) (d : DueCell) (n : Ch) (r : ConvReq),
      s.dueOn 0x02 idx c g d ∧ c.mask = bitW n.val ∧ s.isOdd n = false ∧ s.meets true n = .run ∧
      (s.modeOf n).isAnalogue = true ∧ (s.chan n).ai.req = none ∧ s.comb.jobs = [] ∧
      r = { cls := .comb, stamp := s.stampAt d.pos, job := some s.comb.nextJob }) ∧
    (∃ (s : State) (idx : Nat) (c : Cell) (g : Grp) (d : DueCell) (n : Ch) (r : ConvReq),
      s.dueOn 0x03 idx c g d ∧ c.mask = bitW n.val ∧ s.isOdd n = false ∧ s.meets true n = .run ∧
      (s.modeOf n).isAnalogue = true ∧ (s.chan n).ai.req = none ∧ (s.chan n).ai.held = false ∧
      s.comb.jobs = [] ∧ r = { cls := .comb, stamp := s.stampAt d.pos, job := some s.comb.nextJob }) ∧
    (∃ (s : State) (idx : Nat) (c : Cell) (g : Grp) (d : DueCell) (k : Grp), s.dueOn 0x0D idx c g d ∧
      240000 ≤ c.ticks ∧ k = grpNo c.lead.toNat ∧ s.dieUp k = true) :=
  ⟨⟨ticking (ch2 .aiV id) (cell 1 0 false), 0, cell 1 0 false, 0, dueCell, 2, starts_now rfl (by decide +kernel),
      by decide +kernel⟩,
    ⟨ticking (ch2 .aiV fun c => { c with ai := { c.ai with held := true } }) (cell 2 0 false), 0,
      cell 2 0 false, 0, dueCell, 2,
      { cls := .comb, stamp := (ticking (ch2 .aiV fun c => { c with ai := { c.ai with held := true } }) (cell 2 0 false)).stampAt 0, job := some 0 },
      starts_now rfl (by decide +kernel), by decide +kernel⟩,
    ⟨ticking (ch2 .aiV fun c => { c with ai := { c.ai with held := false } }) (cell 2 0 false), 0,
      cell 2 0 false, 0, dueCell, 2,
      { cls := .comb, stamp := (ticking (ch2 .aiV fun c => { c with ai := { c.ai with held := false } }) (cell 2 0 false)).stampAt 0, job := some 0 },
      starts_now rfl (by decide +kernel), by decide +kernel⟩,
    ⟨ticking (ch2 .aiV fun c => { c with ai := { c.ai with held := false } }) (cell 3 0 false), 0,
      cell 3 0 false, 0, dueCell, 2,
      { cls := .comb, stamp := (ticking (ch2 .aiV fun c => { c with ai := { c.ai with held := false } }) (cell 3 0 false)).stampAt 0, job := some 0 },
      starts_now rfl (by decide +kernel), by decide +kernel⟩,
    ⟨ticking on { cell 0x0D 0 false with count := 15000, scale := 1 }, 0, { cell 0x0D 0 false with
      count := 15000, scale := 1 }, 0, dueCell, 0, starts_now rfl (by decide +kernel), by decide +kernel⟩⟩

theorem wit_AnalogueCells :
    (∃ (s : State) (idx : Nat) (c : Cell) (g : Grp) (d : DueCell) (n : Ch) (k : BitVec 16),
      s.dueOn 0x08 idx c g d ∧ c.mask = bitW n.val ∧ s.isOdd n = false ∧ s.meets false n = .run ∧
      bit c.arg 31 = true ∧ k = BitVec.ofNat 16 (fld c.arg 15 0) ∧ s.codeWaits n k = false) ∧
    (∃ (s : State) (idx : Nat) (c : Cell) (g : Grp) (d : DueCell) (n : Ch) (p : PendCmd),
      s.dueOn 0x08 idx c g d ∧ c.mask = bitW n.val ∧ s.isOdd n = false ∧ s.meets false n = .run ∧
      (s.modeOf n).isAo = true ∧ bit c.arg 31 = false ∧ (s.chan n).pend = some p ∧ s.tooSoon n p = false ∧
      s.codeWaits n p.code = false) ∧
    (∃ (s : State) (idx : Nat) (c : Cell) (g : Grp) (d : DueCell) (n : Ch) (ls : List RailLoad) (l : RailLoad)
      (m : _), s.dueOn 0x09 idx c g d ∧ c.mask = bitW n.val ∧ s.isOdd n = false ∧ s.meets false n = .run ∧
      ls.find? (fun x => x.ch == n) = some l ∧ (s.chan n).ao.rail ≤ s.railLimit n ∧ m ≠ n) ∧
    (∃ (s : State) (idx : Nat) (c : Cell) (g : Grp) (d : DueCell) (n : Ch), s.dueOn 0x0A idx c g d ∧
      c.mask = bitW n.val ∧ s.isOdd n = false ∧ s.meets false n = .run ∧ bit c.arg 0 = true) ∧
    (∃ (s : State) (idx : Nat) (c : Cell) (g : Grp) (d : DueCell) (n : Ch), s.dueOn 0x0A idx c g d ∧
      c.mask = bitW n.val ∧ s.isOdd n = false ∧ s.meets false n = .run ∧ bit c.arg 0 = false ∧
      (s.chan n).hart.phase ≠ .sending) ∧
    (∃ (s : State) (idx : Nat) (c : Cell) (g : Grp) (d : DueCell) (n : Ch), s.dueOn 0x0A idx c g d ∧
      c.mask = bitW n.val ∧ s.isOdd n = false ∧ s.meets false n = .run ∧ bit c.arg 0 = false ∧
      (s.chan n).hart.phase = .sending) :=
  ⟨⟨ticking (ch2 .aoV id) (cell 8 0x8000FFFF false), 0, cell 8 0x8000FFFF false, 0, dueCell, 2, 0xFFFF,
      starts_now rfl (by decide +kernel), by decide +kernel⟩,
    ⟨ticking (ch2 .aoV fun c => { c with pend := some pendOn }) (cell 8 0 false), 0, cell 8 0 false, 0, dueCell,
      2, pendOn, starts_now rfl (by decide +kernel), by decide +kernel⟩,
    ⟨ticking (ch2 .aoISrc id) (cell 9 0 false), 0, cell 9 0 false, 0, dueCell, 2, [⟨2, 4000, 4000⟩], ⟨2, 4000,
      4000⟩, 3, starts_now rfl (by decide +kernel), by decide +kernel⟩,
    ⟨ticking (hart2 id) (cell 0xA 1 false), 0, cell 0xA 1 false, 0, dueCell, 2, starts_now rfl
      (by decide +kernel), by decide +kernel⟩,
    ⟨ticking (hart2 fun h => { h with winOpen := true }) (cell 0xA 0 false), 0, cell 0xA 0 false, 0, dueCell, 2,
      starts_now rfl (by decide +kernel), by decide +kernel⟩,
    ⟨ticking (hart2 fun h => { h with phase := .sending, winOpen := true }) (cell 0xA 0 false), 0,
      cell 0xA 0 false, 0, dueCell, 2, starts_now rfl (by decide +kernel), by decide +kernel⟩⟩

theorem wit_MarkerAndLateCells :
    (∃ (s : State) (idx : Nat) (c : Cell) (g : Grp) (d : DueCell) (e : QEntry), s.dueOn 0x0B idx c g d ∧
      s.linkOpen (grpNo c.lead.toNat) = true ∧ s.anyRouted false = true ∧ s.anyRouted true = false ∧
      e = { cls := .comb, word := markerW 50 (fld c.arg 23 0), stamp := some (s.stampAt d.pos), src := 0 } ∧
      s.res.poll.fill + s.res.poll.need e 0 ≤ s.res.sizeOf false) ∧
    (∃ (s : State) (idx : Nat) (c : Cell) (g : Grp) (d : DueCell), s.dueOn 0x0C idx c g d ∧ bit c.arg 0 = true ∧
      fld s.res.cap.cfg 29 27 = 3 ∧ s.linkOpen (grpNo c.lead.toNat) = true ∧ s.res.cap.state = .armed ∧
      s.res.cap.ring = false ∧ bit c.arg 1 = true ∧ s.sw.syncEn = true ∧ s.hostUp = true ∧ s.leadUp c = true) ∧
    (∃ (s : State) (idx : Nat) (c : Cell) (g : Grp) (d : DueCell), s.dueOn 0x0F idx c g d ∧ s.hostUp = true ∧
      s.leadUp c = true ∧ s.rcd.stopped = false ∧ s.rcd.intake.length < 255) ∧
    (∃ (s : State) (idx : Nat) (c : Cell) (g : Grp) (d : DueCell), s.lateOn 0x05 idx c g d ∧ c.skip = true ∧
      s.hostUp = true ∧ (s.group g).pos.due = [d] ∧ (d.pos, d.idx) ∉ s.comb.lateSeen ∧ s.comb.jobs = [] ∧
      s.spaced s.comb.lastEv89 (10 * milli) = true) ∧
    (∃ (s : State) (idx : Nat) (c : Cell) (g : Grp) (d : DueCell) (n : Ch), s.lateOn 0x05 idx c g d ∧
      c.skip = false ∧ s.hostUp = true ∧ (d.pos, d.idx) ∉ s.comb.lateSeen ∧ c.mask = bitW n.val ∧
      s.isOdd n = false ∧ s.meets false n = .run ∧ s.spaced s.comb.lastEv89 (10 * milli) = true) :=
  ⟨⟨ticking (routed) (cell 0x0B 5 false), 0, cell 0x0B 5 false, 0, dueCell, marker (ticking (routed)
      (cell 0x0B 5 false)), starts_now rfl (by decide +kernel), by decide +kernel⟩,
    ⟨ticking ({ capWaits with sw.syncEn := true }) (cell 0x0C 3 false), 0, cell 0x0C 3 false, 0, dueCell,
      starts_now rfl (by decide +kernel), by decide +kernel⟩,
    ⟨ticking (on) (cell 0x0F 0xFFFF false), 0, cell 0x0F 0xFFFF false, 0, dueCell, starts_now rfl
      (by decide +kernel), by decide +kernel⟩,
    ⟨tickingLate (on) (cell 5 0 true), 0, cell 5 0 true, 0, lateCell, starts_now rfl (by decide +kernel),
      by decide +kernel⟩,
    ⟨tickingLate (ch2 .doHs id) (cell 5 0x80000001 false), 0, cell 5 0x80000001 false, 0, lateCell, 2,
      starts_now rfl (by decide +kernel), by decide +kernel⟩⟩

theorem wit_CalibrationAndReferences :
    (∃ (s : State) (c : Cmd) (g : _), s.accepts adcCalSpec c = true ∧ groupsOf (arg c.args 3 0) ≠ [] ∧
      (∀ g ∈ groupsOf (arg c.args 3 0), s.dieUp g = true ∧ (s.group g).link.silent = false) ∧ g ∈ groupsOf
      (arg c.args 3 0) ∧ (s.group g).conv.calState = 0) ∧
    (∃ (s : State) (c : Cmd) (g : _), s.accepts adcCalSpec c = true ∧ groupsOf (arg c.args 3 0) ≠ [] ∧
      (∀ g ∈ groupsOf (arg c.args 3 0), s.dieUp g = true ∧ (s.group g).link.silent = false) ∧ g ∈ groupsOf
      (arg c.args 3 0) ∧ (s.group g).conv.calState = 0) ∧
    (∃ (s : State) (c : Cmd) (g : _), s.accepts adcCalSpec c = true ∧ groupsOf (arg c.args 3 0) ≠ [] ∧
      (∀ g ∈ groupsOf (arg c.args 3 0), s.dieUp g = true ∧ (s.group g).link.silent = false) ∧ g ∉ groupsOf
      (arg c.args 3 0)) ∧
    (∃ (s : State) (g : Grp) (k : Slice) (off : Int) (gain : Int) (h : _), s.dieUp g = true ∧ s.hostUp = true ∧
      (s.group g).conv.calState = 2 ∧ s.calWaits g = false ∧ (s.group g).conv.faulty.getLsbD k.val = false ∧
      (s.group g).conv.calDone.getLsbD k.val = false ∧ ((s.group g).conv.spare.toNat = k.val ∨
      (s.group g).conv.released = some k) ∧ sliceFails off gain = false ∧ (∀ j : Slice, j = k ∨
      (s.group g).conv.calDone.getLsbD j.val = true ∨ (s.group g).conv.faulty.getLsbD j.val = true) ∧ h ≠ g) ∧
    (∃ (s : State) (g : Grp) (k : Slice) (off : Int) (gain : Int) (h : _), s.dieUp g = true ∧ s.hostUp = true ∧
      (s.group g).conv.calState = 2 ∧ s.calWaits g = false ∧ (s.group g).conv.faulty.getLsbD k.val = false ∧
      (s.group g).conv.calDone.getLsbD k.val = false ∧ ((s.group g).conv.spare.toNat = k.val ∨
      (s.group g).conv.released = some k) ∧ sliceFails off gain = false ∧ h ≠ g) ∧
    (∃ (s : State) (g : Grp), (s.group g).conv.calState = 1 ∧ s.hostUp = true) ∧
    (∃ (s : State) (g : Grp) (k : Slice) (off : Int) (gain : Int) (h : _), s.dieUp g = true ∧
      (s.group g).conv.spare.toNat = k.val ∧ (s.group g).conv.calState ≠ 2 ∧ sliceFails off gain = false ∧
      (s.group g).conv.calRo = false ∧ h ≠ g) ∧
    (∃ (s : State) (g : Grp) (k : Slice) (off : Int) (gain : Int), s.dieUp g = true ∧
      (s.group g).conv.spare.toNat = k.val ∧ (s.group g).conv.calState ≠ 2 ∧ sliceFails off gain = true ∧
      s.hostUp = true) ∧
    (∃ (s : State) (g : Grp) (k : Slice) (off : Int) (gain : Int) (h : _), s.dieUp g = true ∧
      (s.group g).conv.spare.toNat = k.val ∧ (s.group g).conv.calState ≠ 2 ∧ sliceFails off gain = false ∧
      (s.group g).conv.calRo = false ∧ (s.group g).conv.faulty = 0 ∧ (s.group g).conv.released = none ∧
      0 < s.busyCount g ∧ h ≠ g) ∧
    (∃ (s : State) (g : Grp), s.dieUp g = true ∧ s.hostUp = true ∧ (s.group g).conv.refSettled = false ∧
      ((s.group g).conv.refSel ≠ 1 ∨ (s.group g).conv.fallback = true)) ∧
    (∃ (s : State) (g : Grp), s.dieUp g = true ∧ s.hostUp = true ∧ (s.group g).conv.refSettled = false ∧
      ((s.group g).conv.refSel ≠ 1 ∨ (s.group g).conv.fallback = true)) ∧
    (∃ (s : State) (g : Grp) (n : _), s.dieUp g = true ∧ s.hostUp = true ∧ (s.group g).conv.refSel = 1 ∧
      (s.group g).conv.fallback = false ∧ grpOf n = g ∧ (s.modeOf n).isAnalogue = true) ∧
    (∃ (s : State) (g : Grp), s.dieUp g = true ∧ s.hostUp = true ∧ (s.group g).conv.refSel = 1 ∧
      (s.group g).conv.fallback = false) ∧
    (∃ (s : State) (g : Grp) (vf : BitVec 16) (h : _), s.dieUp g = true ∧ (s.group g).link.silent = false ∧
      s.monitorReady g = true ∧ (s.vfReady g = true ∨ vf.toNat < 13500) ∧ h ≠ g) ∧
    (∃ (s : State) (g : Grp) (vf : BitVec 16) (h : _), s.dieUp g = true ∧ (s.group g).link.silent = false ∧
      s.monitorReady g = true ∧ (s.vfReady g = true ∨ vf.toNat < 13500) ∧ h ≠ g) :=
  ⟨⟨on, msg 0xF [], 0, by decide +kernel⟩,
    ⟨on, msg 1 [], 0, by decide +kernel⟩,
    ⟨conv0 fun c => { c with refSettled := true }, msg 1 [], 1, by decide +kernel⟩,
    ⟨conv0 fun c => { c with refSettled := true, calState := 2, calDone := 0b01111, spare := 4 }, 0, 4, 32000,
      -500000, 1, by decide +kernel⟩,
    ⟨conv0 fun c => { c with refSettled := true, calState := 2, calDone := 0b00001, spare := 4 }, 0, 4, 32000,
      -500000, 1, by decide +kernel⟩,
    ⟨conv0 fun c => { c with calState := 1 }, 0, by decide +kernel⟩,
    ⟨on, 0, 0, 100, 100, 1, by decide +kernel⟩,
    ⟨on, 0, 0, 32001, 100, by decide +kernel⟩,
    ⟨busy2, 0, 0, 100, 100, 1, by decide +kernel⟩,
    ⟨on, 0, by decide +kernel⟩,
    ⟨conv0 fun c => { c with calState := 1 }, 0, by decide +kernel⟩,
    ⟨(ch2 .aiV fun c => { c with inp := { c.inp with valid := true } }).modConv 0 fun c => { c with
      refSel := 1 }, 0, 2, by decide +kernel⟩,
    ⟨(ch2 .aiV fun c => { c with inp := { c.inp with valid := true } }).modConv 0 fun c => { c with
      refSel := 1 }, 0, by decide +kernel⟩,
    ⟨on, 0, 23000, 1, by decide +kernel⟩,
    ⟨sup0 on fun u => { u with above := false }, 0, 13499, 1, by decide +kernel⟩⟩

theorem wit_Conversions :
    (∃ (s : State) (n : Ch) (m : ConvMeas) (x : Int) (r : ConvReq) (k : _), s.quantity n m = (s, x) ∧
      (s.chan n).ai.busy = some r ∧ (s.chan n).ai.void = false ∧ r.job = none ∧ (s.chan n).ai.req = none ∧
      s.canConvert n = true ∧ (s.group (grpOf n)).conv.refSettled = true ∧ (s.modeOf n).isAi = true ∧
      s.resOpen n m = false ∧ s.linear n m = true ∧ overRange (s.cfgOf n) (s.modeOf n) x 4 = false ∧ fld
      (s.cfgOf n).aiFilt 29 28 = 0 ∧ (s.cfgOf n).ftype = 0 ∧ (s.cfgOf n).osr = 1 ∧ s.linkOpen (grpOf n) = true ∧
      k ≠ n) ∧
    (∃ (s : State) (n : Ch) (r : ConvReq) (g : _), s.canConvert n = true ∧ s.schedNow n = false ∧ fld
      (s.cfgOf n).aiTrig 31 30 = 0 ∧ (s.chan n).ai.req = none ∧ (s.chan n).ai.busy = none ∧
      s.paused n .free = false ∧ r = { cls := .free, stamp := s.stampNow, job := none } ∧ g ≠ grpOf n) ∧
    (∃ (s : State) (n : Ch), s.canConvert n = true ∧ s.schedNow n = false ∧ fld (s.cfgOf n).aiTrig 31 30 = 1 ∧
      s.paused n .inj = false ∧ (s.chan n).ai.inj.isSome = true) ∧
    (∃ (s : State) (n : Ch) (p : Ch), s.canConvert n = true ∧ s.schedNow n = false ∧ fld
      (s.cfgOf n).aiTrig 31 30 = 2 ∧ p = chNo (fld (s.cfgOf n).aiTrig 27 23) ∧ (s.modeOf p).isSwitch = true ∧
      (s.cfgOf p).pwm = true ∧ (s.chan p).out.ps.isOn = true ∧ (s.chan p).out.duty ≠ 0 ∧
      (s.chan p).out.duty ≠ 10000 ∧ s.paused n .inj = false) ∧
    (∃ (s : State) (n : Ch) (r : ConvReq) (g : _), s.canConvert n = true ∧ s.schedNow n = false ∧
      (s.chan n).ai.inj.isSome = true ∧ s.convWaits n = false ∧ s.hostUp = true ∧
      r = { cls := .inj, stamp := s.stampNow, job := none } ∧ g ≠ grpOf n) ∧
    (∃ (s : State) (n : Ch) (r : ConvReq) (g : _), s.canConvert n = true ∧ s.schedNow n = false ∧
      (s.chan n).ai.inj.isSome = true ∧ s.convWaits n = false ∧ s.hostUp = true ∧
      r = { cls := .inj, stamp := s.stampNow, job := none } ∧ s.injReserve (grpOf n) ≤ (s.recentInj
      (grpOf n)).length ∧ s.spaced (s.group (grpOf n)).conv.lastEv86 (10 * milli) = true ∧ g ≠ grpOf n) ∧
    (∃ (s : State) (n : Ch) (m : _), (s.modeOf n).isNonAnalogue = true ∧ s.schedNow n = false ∧
      s.isOdd n = false ∧ s.supplied n = true ∧ s.linkOpen (grpOf n) = true ∧ m ≠ n) ∧
    (∃ (s : State) (n : Ch) (m : _), (s.modeOf n).isNonAnalogue = true ∧ s.schedNow n = false ∧
      s.isOdd n = false ∧ s.supplied n = true ∧ s.linkOpen (grpOf n) = true ∧ m ≠ n) :=
  ⟨⟨busy2, 2, { v := 1000, w := 0, x := 0, cur := 0, vf := 24000000 }, 1000,
      { cls := .free, stamp := 7, job := none }, 3, rfl, by decide +kernel⟩,
    ⟨ch2 .aiV id, 2, { cls := .free, stamp := (ch2 .aiV id).stampNow, job := none }, 1, by decide +kernel⟩,
    ⟨waits2, 2, by decide +kernel⟩,
    ⟨pwmPair, 2, 4, by decide +kernel⟩,
    ⟨waits2, 2, { cls := .inj, stamp := waits2.stampNow, job := none }, 1, by decide +kernel⟩,
    ⟨{ waits2.modConv 0 (fun x => { x with injTimes := [0] }) with
      comb.active := some { hdr := { hdr0 with sched := 0 }, cells := [] } }, 2,
      { cls := .inj, stamp := waits2.stampNow, job := none }, 1, by decide +kernel⟩,
    ⟨ch2 .count id, 2, 3, by decide +kernel⟩,
    ⟨ch2 .di id, 2, 3, by decide +kernel⟩⟩

theorem wit_CaptureCommands :
    (∃ (s : State) (c : Cmd), s.accepts captureArmSpec { c with args := withArg c.args 0 0 0 } = true ∧
      fld s.res.cap.cfg 29 27 ≠ 0 ∧ (s.res.cap.ring = false → fld s.res.cap.cfg 16 9 = 0) ∧
      s.triggerFits = true) ∧
    (∃ (s : State) (c : Cmd), s.accepts captureArmSpec { c with args := withArg c.args 0 0 1 } = true) ∧
    (∃ (s : State) (c : Cmd) (i : Word) (n : Word), s.accepts captureReadSpec c = true ∧ c.words = [i, n] ∧
      1 ≤ n.toNat ∧ n.toNat ≤ 1024 ∧ s.res.cap.state ≠ .armed ∧ s.res.cap.state ≠ .triggered ∧
      i.toNat < s.res.cap.words.length) :=
  ⟨⟨capWaits, msg 0 [], by decide +kernel⟩,
    ⟨on, msg 0 [], by decide +kernel⟩,
    ⟨{ on with res.cap := { on.res.cap with state := .done, words := [7, 8, 9] } }, big 0 [2, 1024], 2, 1024,
      by decide +kernel⟩⟩

theorem wit_WaggleAndTasks :
    (∃ (s : State) (c : Cmd) (w : Word), s.accepts waggleSpec c = true ∧ c.words = [w] ∧ s.wd.wgEn = true ∧
      s.wd.wgPeriod.toNat * milli ≤ 4 * (s.time - s.wd.wgStart) ∧ w ≠ s.waggleToken) ∧
    (∃ (s : State) (c : Cmd) (w : Word), s.accepts waggleSpec c = true ∧ c.words = [w] ∧ s.wd.wgEn = true ∧
      s.wd.wgPeriod.toNat * milli ≤ 4 * (s.time - s.wd.wgStart) ∧ w = s.waggleToken) ∧
    (∃ (s : State), s.wd.wgEn = true ∧ s.hostUp = true ∧ s.wd.wgStart + s.wd.wgPeriod.toNat * milli ≤ s.time ∧
      (s.pw.mode = .run ∨ s.pw.mode = .doze)) ∧
    (∃ (s : State) (f : Frame) (p : BitVec 14), s.acceptsWrite f 0xB03 (putBit (p.setWidth 32) 31 true) = true ∧
      s.wd.wgEn = false ∧ 1 ≤ p.toNat ∧ p.toNat ≤ 10000) ∧
    (∃ (s : State) (f : Frame) (p : BitVec 14), s.acceptsWrite f 0xB03 (putBit (p.setWidth 32) 31 true) = true ∧
      s.wd.wgEn = false ∧ 1 ≤ p.toNat ∧ p.toNat ≤ 10000) ∧
    (∃ (s : State) (f : Frame) (w : Word), s.acceptsWrite f 0xB02 w = true ∧ 1 ≤ fld w 19 0 ∧
      fld w 19 0 ≤ 600000 ∧ (s.wd.wgEn = true → s.inWindow = true)) ∧
    (∃ (s : State) (f : Frame) (w : Word), s.acceptsWrite f 0xB02 w = true ∧ 1 ≤ fld w 19 0 ∧
      fld w 19 0 ≤ 600000 ∧ (s.wd.wgEn = true → s.inWindow = true)) ∧
    (∃ (s : State) (f : Frame) (w : Word), s.acceptsWrite f 0xB03 w = true ∧ 1 ≤ fld w 13 0 ∧
      fld w 13 0 ≤ 10000 ∧ (s.wd.wgEn = true → s.inWindow = true) ∧ bit w 31 = s.wd.wgEn ∧ s.wd.wgEn = false) ∧
    (∃ (s : State) (f : Frame) (w : Word), s.acceptsWrite f 0xB03 w = true ∧ 1 ≤ fld w 13 0 ∧
      fld w 13 0 ≤ 10000 ∧ (s.wd.wgEn = true → s.inWindow = true) ∧ bit w 31 = s.wd.wgEn ∧ s.wd.wgEn = true) ∧
    (∃ (s : State) (c : Cmd) (k : Fin 16), s.accepts taskCheckinSpec c = true ∧ arg c.args 3 0 = k.val ∧
      s.wd.taskEn.getLsbD k.val = true) ∧
    (∃ (s : State) (f : Frame) (w : Word), s.acceptsWrite f 0xB10 w = true ∧ s.feat 7 = true) ∧
    (∃ (s : State) (k : Fin 16), s.feat 7 = true ∧ s.wd.taskEn.getLsbD k.val = true ∧ s.pw.halted = false ∧
      s.hostUp = true ∧ s.taskEnd k ≤ s.time ∧ s.wd.checkins[k.val] = 0) ∧
    (∃ (s : State) (k : Fin 16), s.feat 7 = true ∧ s.wd.taskEn.getLsbD k.val = true ∧ s.pw.halted = false ∧
      s.hostUp = true ∧ s.taskEnd k ≤ s.time ∧ s.wd.checkins[k.val] = 1) ∧
    (∃ (s : State) (k : Fin 16), s.feat 7 = true ∧ s.wd.taskEn.getLsbD k.val = true ∧ s.pw.halted = false ∧
      s.hostUp = true ∧ s.taskEnd k ≤ s.time ∧ 2 ≤ s.wd.checkins[k.val] ∧ s.wd.taskStrict = true) :=
  ⟨⟨armed 5000000, msg 0 [0], 0, by decide +kernel⟩,
    ⟨armed 5000000, msg 0 [(armed 5000000).waggleToken], (armed 5000000).waggleToken, by decide +kernel⟩,
    ⟨armed 20000000, by decide +kernel⟩,
    ⟨on, fr 0, 1, by decide +kernel⟩,
    ⟨on, fr 0, 10000, by decide +kernel⟩,
    ⟨on, fr 0, 600000, by decide +kernel⟩,
    ⟨armed 20000000, fr 0, 1, by decide +kernel⟩,
    ⟨on, fr 0, 10000, by decide +kernel⟩,
    ⟨armed 5000000, fr 0, 0x80000001, by decide +kernel⟩,
    ⟨tasks 0, msg 15 [], 15, by decide +kernel⟩,
    ⟨on, fr 0, 0x8000FFFF, by decide +kernel⟩,
    ⟨after 60000 (tasks 0), 15, by decide +kernel⟩,
    ⟨after 60000 (tasks 1), 15, by decide +kernel⟩,
    ⟨after 60000 (tasks 2), 15, by decide +kernel⟩⟩

theorem wit_SafeCommands :
    (∃ (s : State) (c : Cmd) (n : _), s.accepts safeApplySpec c = true ∧ (s.pw.mode = .run ∨
      s.pw.mode = .doze) ∧ arg c.args 3 0 = 15 ∧ (∀ g, (s.group g).guard.tbad = false) ∧ s.takes n = true) ∧
    (∃ (s : State) (c : Cmd) (n : _), s.accepts safeApplySpec c = true ∧ arg c.args 3 0 ≠ 0 ∧
      arg c.args 3 0 ≠ 15 ∧ (∀ g, (s.group g).guard.tbad = false) ∧ s.takes n = true ∧ grpOf n ∈ groupsOf
      (arg c.args 3 0)) ∧
    (∃ (s : State) (c : Cmd) (n : _), s.accepts safeApplySpec c = true ∧ arg c.args 3 0 ≠ 0 ∧
      arg c.args 3 0 ≠ 15 ∧ (∀ g, (s.group g).guard.tbad = false) ∧ (s.takes n = false ∨ grpOf n ∉ groupsOf
      (arg c.args 3 0))) ∧
    (∃ (s : State) (c : Cmd) (n : _), s.accepts safeApplySpec c = true ∧ (s.pw.mode = .run ∨
      s.pw.mode = .doze) ∧ arg c.args 3 0 = 15 ∧ (∀ g, (s.group g).guard.tbad = false) ∧ s.takes n = false) ∧
    (∃ (s : State) (c : Cmd) (n : _), s.accepts safeReleaseSpec c = true ∧ s.pw.mode = .safe ∧ (∀ g ∈ groupsOf
      (arg c.args 3 0), s.releaseDenied g = false) ∧ (∀ g, (s.group g).guard.held = true → g ∈ groupsOf
      (arg c.args 3 0)) ∧ (s.group (grpOf n)).guard.held = true) ∧
    (∃ (s : State) (f : Frame) (n : Ch) (w : Word) (m : _), s.acceptsWrite f (chIndex n 0x1E) w = true ∧
      s.isOdd n = false ∧ (s.received f).wordChecks n (s.withWordOf n 0x1E w) 0x1E w = [] ∧
      (s.received f).leaveChecks n (s.withWordOf n 0x1E w) = [] ∧ s.failedCh n = false ∧
      (s.chan n).cfgBusy = false ∧ s.dieUp (grpOf n) = true ∧ (s.group (grpOf n)).link.silent = false ∧ m ≠ n) :=
  ⟨⟨sw2 .on id, msg 15 [], 2, by decide +kernel⟩,
    ⟨sw2 .on id, msg 1 [], 2, by decide +kernel⟩,
    ⟨sw2 .on id, msg 2 [], 2, by decide +kernel⟩,
    ⟨sw2 .on id, msg 15 [], 0, by decide +kernel⟩,
    ⟨{ held2 .doHs with pw.mode := .safe }, msg 1 [], 2, by decide +kernel⟩,
    ⟨ch2 .doHs id, fr 0, 2, 0x80000000, 3, by decide +kernel⟩⟩

theorem wit_GuardEntries :
    (∃ (s : State) (n : Ch), (s.chan n).guard.held = true ∧ (s.chan n).guard.applied = false ∧
      (s.chan n).guard.frozen = false ∧ (s.chan n).cfgBusy = false ∧ s.dieUp (grpOf n) = true ∧
      (s.chan n).guard.t + fld (s.entryOf n).1 9 0 * 10 * milli ≤ s.time ∧ (s.modeOf n).isSwitch = true ∧
      (s.chan n).out.ps ≠ .lockedOff ∧ (s.group (grpOf n)).guard.tbad = false ∧ fld (s.entryOf n).1 31 30 = 0) ∧
    (∃ (s : State) (n : Ch), (s.chan n).guard.held = true ∧ (s.chan n).guard.applied = false ∧
      (s.chan n).guard.frozen = false ∧ (s.chan n).cfgBusy = false ∧ s.dieUp (grpOf n) = true ∧
      (s.chan n).guard.t + fld (s.entryOf n).1 9 0 * 10 * milli ≤ s.time ∧ (s.modeOf n).isSwitch = true ∧
      (s.chan n).out.ps ≠ .lockedOff ∧ (s.group (grpOf n)).guard.tbad = false ∧ fld (s.entryOf n).1 31 30 = 2) ∧
    (∃ (s : State) (n : Ch) (m : _), (s.chan n).guard.held = true ∧ s.dieUp (grpOf n) = true ∧
      grpOf m = grpOf n ∧ (s.chan m).guard.held = true ∧ (s.chan m).cfgBusy = false ∧
      (s.modeOf m).isSwitch = true ∧ (s.chan m).out.ps ≠ .lockedOff) ∧
    (∃ (s : State) (g : Grp), s.guardReached g = true) ∧
    (∃ (s : State) (d : Nat) (n : _), s.wd.nmi = some d ∧ d + 150 * milli ≤ s.time ∧ ((s.group
      (grpOf n)).guard.limitMicros ≠ 150000 ∨ (s.group (grpOf n)).link.failed = true)) ∧
    (∃ (s : State) (d : Nat) (n : _), s.wd.nmi = some d ∧ d + 150 * milli ≤ s.time ∧ (s.group
      (grpOf n)).guard.limitMicros = 150000 ∧ (s.group (grpOf n)).link.failed = false) ∧
    (∃ (s : State) (g : Grp) (n : Ch), (s.group g).guard.held = true ∧ grpOf n = g ∧
      (s.chan n).guard.held = true ∧ (s.chan n).guard.t + fld s.safe.cfg 9 0 * 10 * milli ≤ s.time) :=
  ⟨⟨held2 .doHs, 2, by decide +kernel⟩,
    ⟨hold2 2, 2, by decide +kernel⟩,
    ⟨held2 .doHs, 2, 2, by decide +kernel⟩,
    ⟨on, 0, by decide +kernel⟩,
    ⟨{ after 150 (held2 .doHs) with wd.nmi := some 0 }, 0, 2, by decide +kernel⟩,
    ⟨{ after 150 (((held2 .doHs).modGrp 0 fun x => { x with guard := { x.guard with limitMicros := 150000 } }).modCh 2 fun c => { c with guard := { c.guard with frozen := true } }) with
      wd.nmi := some 0 }, 0, 2, by decide +kernel⟩,
    ⟨after 10230 (held2 .doHs), 0, 2, by decide +kernel⟩⟩

theorem wit_SafeTriggers :
    (∃ (s : State) (n : _), (s.pw.mode = .run ∨ s.pw.mode = .doze) ∧ s.hostUp = true ∧ s.pw.window = none ∧
      s.wd.hsLast + s.wd.hsPeriod.toNat * 100 * micro ≤ s.time ∧ s.takes n = true ∧ s.feat 0 = true ∧
      (s.chan n).cfgBusy = false ∧ (s.modeOf n).isSwitch = true) ∧
    (∃ (s : State) (n : _), s.hostUp = true ∧ s.pw.halted = false ∧ s.takes n = true ∧ s.dieUp
      (grpOf n) = true ∧ (s.group (grpOf n)).link.silent = false) ∧
    (∃ (s : State) (g : Grp) (n : _), s.dieUp g = true ∧ s.hostUp = true ∧ bit s.safe.cfg 30 = true ∧
      bit s.safe.cfg 28 = false ∧ s.pw.mode = .run ∧ s.takes n = true) :=
  ⟨⟨after 1000 (sw2 .on id), 2, by decide +kernel⟩,
    ⟨sw2 .on id, 2, by decide +kernel⟩,
    ⟨sw2 .on id, 0, 2, by decide +kernel⟩⟩

theorem wit_HartRows :
    (∃ (s : State) (c : Cmd) (n : Ch) (k : Word) (ws : List Word), s.accepts hartSendSpec c = true ∧ n = chNo
      (arg c.args 4 0) ∧ c.words = k :: ws ∧ 1 ≤ k.toNat ∧ k.toNat ≤ 255 ∧ bit (s.cfgOf n).hart 31 = true ∧
      (s.chan n).guard.held = false ∧ (s.chan n).ao.blocked = false ∧ (s.chan n).cfgBusy = false ∧
      (s.chan n).hart.txBusy = false ∧ s.inTouch (grpOf n) = true) ∧
    (∃ (s : State) (c : Cmd) (n : Ch) (f : HartFrame), s.accepts hartRecvSpec c = true ∧ n = chNo
      (arg c.args 4 0) ∧ (s.chan n).guard.held = false ∧ (s.chan n).cfgBusy = false ∧ s.inTouch
      (grpOf n) = true ∧ (s.chan n).hart.rx = some f) ∧
    (∃ (s : State) (n : Ch), s.hartLive n = true ∧ (s.chan n).hart.phase = .queued ∧ s.windowOpen n = true ∧
      (s.chan n).hart.carrier = false) ∧
    (∃ (s : State) (n : Ch), (s.chan n).hart.phase = .sending) ∧
    (∃ (s : State) (n : Ch), s.hartLive n = true ∧ (s.chan n).hart.phase ≠ .sending) ∧
    (∃ (s : State) (n : Ch) (f : HartFrame), s.hartLive n = true ∧ s.inTouch (grpOf n) = true ∧
      f.bytes.length ≤ 255 ∧ f.marks.length ≤ 255 ∧ 2 ≤ f.pre.toNat ∧ (s.chan n).hart.phase = .waiting) ∧
    (∃ (s : State) (n : Ch) (f : HartFrame), s.hartLive n = true ∧ s.inTouch (grpOf n) = true ∧
      f.bytes.length ≤ 255 ∧ f.marks.length ≤ 255 ∧ 2 ≤ f.pre.toNat ∧ (s.chan n).hart.phase = .idle ∧ bit
      (s.cfgOf n).hart 29 = true) ∧
    (∃ (s : State) (n : Ch), s.hartLive n = true ∧ s.inTouch (grpOf n) = true ∧
      (s.chan n).hart.phase = .waiting ∧ (s.chan n).hart.carrier = false) :=
  ⟨⟨hart2 id, msg 2 [1, 0x82], 2, 1, [0x82], by decide +kernel⟩,
    ⟨hart2 fun h => { h with rx := some reply }, msg 2 [], 2, reply, by decide +kernel⟩,
    ⟨hart2 fun h => { h with phase := .queued, winOpen := true }, 2, by decide +kernel⟩,
    ⟨hart2 fun h => { h with phase := .sending, winOpen := true, closing := true }, 2, by decide +kernel⟩,
    ⟨hart2 id, 2, by decide +kernel⟩,
    ⟨hart2 fun h => { h with phase := .waiting }, 2, reply, by decide +kernel⟩,
    ⟨hart2 id, 2, reply, by decide +kernel⟩,
    ⟨hart2 fun h => { h with phase := .waiting }, 2, by decide +kernel⟩⟩

theorem wit_RecordEngine :
    (∃ (s : State) (e : Intake) (es : List Intake) (a : Bool) (b : Bool) (k : Nat), s.rcd.intake = e :: es ∧
      (a || b) = true ∧ s.recHealth ≠ 2 ∧ s.trySlot = some k) ∧
    (∃ (s : State) (e : Intake) (es : List Intake) (k : Nat), s.rcd.intake = e :: es ∧ s.trySlot = some k ∧
      s.hostUp = true) ∧
    (∃ (s : State) (e : Intake) (es : List Intake), s.rcd.intake = e :: es ∧ s.recHealth ≠ 2 ∧
      s.trySlot = none ∧ s.hostUp = true ∧ s.rcd.full = false) ∧
    (∃ (s : State) (m : MergeWin), m ∈ s.rcd.merges ∧ m.opened + 1000 * milli ≤ s.time ∧
      (s.rcd.merges.find? fun x =>
      x.source == m.source && x.code == m.code && x.subject == m.subject) = some m ∧ m.count = 0) ∧
    (∃ (s : State) (m : MergeWin), m ∈ s.rcd.merges ∧ m.opened + 1000 * milli ≤ s.time ∧
      (s.rcd.merges.find? fun x =>
      x.source == m.source && x.code == m.code && x.subject == m.subject) = some m ∧ m.count ≠ 0 ∧
      s.rcd.stopped = false ∧ s.rcd.intake.length < 255) :=
  ⟨⟨queued 0, entry0, [], false, true, 0, by decide +kernel⟩,
    ⟨queued 0, entry0, [], 0, by decide +kernel⟩,
    ⟨filled, entry0, [], by decide +kernel⟩,
    ⟨merging 0, win 0, by decide +kernel⟩,
    ⟨merging 3, win 3, by decide +kernel⟩⟩

theorem wit_LogReading :
    (∃ (s : State) (c : Cmd) (m : Cmd) (a : Word) (b : Word) (l : List (List Word)), c.words = [a, b] ∧
      m = { c with words := withSel c.words 0 } ∧ s.accepts logReadSpec m = true ∧ 1 ≤ fld b 6 0 ∧
      fld b 6 0 ≤ 120 ∧ l = s.rcd.select s.rcd.log a (fld b 6 0) ∧ s.rcd.corrupt = []) ∧
    (∃ (s : State) (c : Cmd) (m : Cmd) (a : Word) (b : Word) (l : List (List Word)), c.words = [a, b] ∧
      m = { c with words := withSel c.words 0 } ∧ s.accepts logReadSpec m = true ∧ 1 ≤ fld b 6 0 ∧
      fld b 6 0 ≤ 120 ∧ l = s.rcd.select s.rcd.log a (fld b 6 0) ∧ s.rcd.corrupt = []) ∧
    (∃ (s : State) (c : Cmd) (m : Cmd) (a : Word) (b : Word) (l : List (List Word)), c.words = [a, b] ∧
      m = { c with words := withSel c.words 1 } ∧ s.accepts logReadSpec m = true ∧ 1 ≤ fld b 6 0 ∧
      fld b 6 0 ≤ 120 ∧ l = s.rcd.select s.rcd.shadow a (fld b 6 0)) ∧
    (∃ (s : State) (c : Cmd) (m : Cmd) (a : Word) (b : Word) (l : List (List Word)), c.words = [a, b] ∧
      m = { c with words := withSel c.words 2 } ∧ s.accepts logReadSpec m = true ∧
      l = s.rcd.clears.map clearWords) ∧
    (∃ (s : State) (c : Cmd) (m : Cmd) (a : Word) (b : Word) (v : FaultBlock), c.words = [a, b] ∧ m = { c with
      words := withSel c.words 3 } ∧ s.accepts logReadSpec m = true ∧ faultVote s.rcd.copies = some v) :=
  ⟨⟨logged, big 0 [0, 1], big 0 (withSel [0, 1] 0), 0, 1, logged.rcd.select logged.rcd.log 0 1, by decide +kernel⟩,
    ⟨logged, big 0 [0, 120], big 0 (withSel [0, 120] 0), 0, 120, logged.rcd.select logged.rcd.log 0 120,
      by decide +kernel⟩,
    ⟨logged, big 0 [0, 0x101], big 0 (withSel [0, 0x101] 1), 0, 0x101, logged.rcd.select logged.rcd.shadow 0 1,
      by decide +kernel⟩,
    ⟨on, big 0 [0, 0x200], big 0 (withSel [0, 0x200] 2), 0, 0x200, [], by decide +kernel⟩,
    ⟨on, big 0 [0, 0x300], big 0 (withSel [0, 0x300] 3), 0, 0x300, { bad := [], faults := [] },
      by decide +kernel⟩⟩

theorem wit_LogCommands :
    (∃ (s : State) (c : Cmd), s.accepts logClearChallengeSpec c = true) ∧
    (∃ (s : State), s.rcd.challengeAt + 60000 * milli ≤ s.time) ∧
    (∃ (s : State) (c : Cmd) (nonce : List Word), s.accepts logClearSpec c = true ∧ s.sec.lockout = false ∧
      s.rcd.challenge = some (nonce, s.rcd.next) ∧ s.recHealth ≠ 2) :=
  ⟨⟨on, big 0 [], by decide +kernel⟩,
    ⟨after 60000 on, by decide +kernel⟩,
    ⟨{ on with rcd.challenge := some ([1, 2, 3, 4], 0) }, big 0 (List.replicate 24 0), [1, 2, 3, 4],
      by decide +kernel⟩⟩

theorem wit_SwarmCommands :
    (∃ (s : State) (c : Cmd) (w : Word), s.accepts swarmEnumSpec { c with
      args := withArg c.args 1 0 0 } = true ∧ arg c.args 1 0 ≤ 1 ∧ c.words = [w] ∧ 500 ≤ w.toNat ∧
      w.toNat ≤ 100000 ∧ s.isRoot = true ∧ s.sw.enumBusy = false ∧ (s.portUp 1 = true ∨ s.portUp 2 = true)) ∧
    (∃ (s : State) (c : Cmd) (w : Word), s.accepts swarmEnumSpec { c with
      args := withArg c.args 1 0 0 } = true ∧ arg c.args 1 0 ≤ 1 ∧ c.words = [w] ∧ 500 ≤ w.toNat ∧
      w.toNat ≤ 100000 ∧ s.isRoot = true ∧ s.sw.enumBusy = false ∧ (s.portUp 1 = true ∨ s.portUp 2 = true)) ∧
    (∃ (s : State) (c : Cmd) (w : Word), s.accepts swarmEnumSpec { c with
      args := withArg c.args 1 0 0 } = true ∧ arg c.args 1 0 ≤ 1 ∧ c.words = [w] ∧ 500 ≤ w.toNat ∧
      w.toNat ≤ 100000 ∧ s.isRoot = true ∧ s.sw.enumBusy = false ∧ (∀ p : Port, p ≠ 0 →
      (s.swPort p).state.toNat ≤ 2)) ∧
    (∃ (s : State) (c : Cmd), s.accepts swarmEnumSpec { c with args := withArg c.args 1 0 1 } = true ∧
      arg c.args 1 0 ≤ 1) ∧
    (∃ (s : State) (c : Cmd) (w : Word) (v : Word) (ws : List Word), s.accepts swarmRouteSpec c = true ∧
      c.words = w :: v :: ws ∧ s.isRoot = true ∧ bit w 12 = false ∧ fld w 31 16 ≤ 1000 ∧ w.setWidth 12 ≠
      (0 : Addr) ∧ (s.routeTo (w.setWidth 12)).isSome = true) ∧
    (∃ (s : State) (tag : BitVec 8) (d : Nat) (o : Outst), (tag, d) ∈ s.sw.waits ∧ d ≤ s.time ∧
      (s.port.outst.find? fun x => x.key == routeKey tag && !x.answered) = some o ∧ o.sender = .host ∧
      o.opcode = 0x31) ∧
    (∃ (s : State) (c : Cmd) (a : Word) (b : Word) (m : Word) (d : BitVec 64),
      s.accepts swarmTriggerSpec c = true ∧ c.words = [a, b, m] ∧ s.isRoot = true ∧ arg c.args 12 0 = 0 ∧
      arg c.args 15 13 ≠ 0 ∧ d = a.setWidth 64 ||| (b.setWidth 64 <<< 32) ∧ s.sw.latOf 0 = 0 ∧
      s.sw.trigs.length < 8 ∧ s.sw.st.toNat + 2000 ≤ d.toNat ∧ d.toNat ≤ s.sw.st.toNat + 1200000000) ∧
    (∃ (s : State) (c : Cmd) (a : Word) (b : Word) (m : Word) (d : BitVec 64),
      s.accepts swarmTriggerSpec c = true ∧ c.words = [a, b, m] ∧ s.isRoot = true ∧ arg c.args 12 0 = 0 ∧
      arg c.args 15 13 ≠ 0 ∧ d = a.setWidth 64 ||| (b.setWidth 64 <<< 32) ∧ s.sw.latOf 0 = 0 ∧
      s.sw.trigs.length < 8 ∧ s.sw.st.toNat + 2000 ≤ d.toNat ∧ d.toNat ≤ s.sw.st.toNat + 1200000000) :=
  ⟨⟨root, msg 0 [500], 500, by decide +kernel⟩,
    ⟨root, msg 0 [100000], 100000, by decide +kernel⟩,
    ⟨lonely, msg 0 [500], 500, by decide +kernel⟩,
    ⟨root, msg 1 [], by decide +kernel⟩,
    ⟨{ root with sw.routes := [(5, 0)] }, msg 0 [0x03E80005, 0x03000000], 0x03E80005, 0x03000000, [],
      by decide +kernel⟩,
    ⟨{ asking with sw.waits := [(7, 0)] }, 7, 0, asked false, by decide +kernel⟩,
    ⟨root, msg 0x2000 [2000, 0, 4], 2000, 0, 4, 2000, by decide +kernel⟩,
    ⟨root, msg 0x2000 [1200000000, 0, 4], 1200000000, 0, 4, 1200000000, by decide +kernel⟩⟩

theorem wit_FirmwareAndAttest :
    (∃ (s : State) (c : Cmd) (w : Word), s.accepts fwBeginSpec c = true ∧ c.words = [w] ∧ 416 ≤ w.toNat ∧
      w.toNat ≤ 655712 ∧ s.sec.trial = false ∧ s.sec.activating = false ∧ (s.slot
      (!s.sec.runB)).state ≠ .verifying) ∧
    (∃ (s : State) (c : Cmd) (w : Word), s.accepts fwBeginSpec c = true ∧ c.words = [w] ∧ 416 ≤ w.toNat ∧
      w.toNat ≤ 655712 ∧ s.sec.trial = false ∧ s.sec.activating = false ∧ (s.slot
      (!s.sec.runB)).state ≠ .verifying) ∧
    (∃ (s : State) (c : Cmd) (off : Word) (n : Word) (ws : List Word), s.accepts fwDataSpec c = true ∧
      c.words = off :: n :: ws ∧ (s.slot (!s.sec.runB)).state = .receiving ∧ off.toNat = (s.slot
      (!s.sec.runB)).image.length ∧ 1 ≤ n.toNat ∧ n.toNat ≤ 4088 ∧ off.toNat + n.toNat ≤ (s.slot
      (!s.sec.runB)).len ∧ off.toNat + n.toNat = (s.slot (!s.sec.runB)).len) ∧
    (∃ (s : State) (c : Cmd) (off : Word) (n : Word) (ws : List Word), s.accepts fwDataSpec c = true ∧
      c.words = off :: n :: ws ∧ (s.slot (!s.sec.runB)).state = .receiving ∧ off.toNat = (s.slot
      (!s.sec.runB)).image.length ∧ 1 ≤ n.toNat ∧ n.toNat ≤ 4088 ∧ off.toNat + n.toNat ≤ (s.slot
      (!s.sec.runB)).len ∧ off.toNat + n.toNat < (s.slot (!s.sec.runB)).len) ∧
    (∃ (s : State), (s.slot (!s.sec.runB)).state = .verifying ∧ s.hostUp = true) ∧
    (∃ (s : State) (c : Cmd), s.accepts fwActivateSpec c = true ∧ arg c.args 0 0 = 0 ∧ (s.slot
      (!s.sec.runB)).state = .valid ∧ (s.slot (!s.sec.runB)).svn.toNat ≤ 64 ∧ s.sec.counter.toNat ≤ (s.slot
      (!s.sec.runB)).svn.toNat ∧ s.activationBusy = false) ∧
    (∃ (s : State) (c : Cmd), s.accepts attestSpec { c with args := withArg c.args 0 0 0 } = true ∧
      s.sec.dbgOpen = false) ∧
    (∃ (s : State) (c : Cmd) (r : List Byte), s.accepts attestSpec { c with
      args := withArg c.args 0 0 1 } = true ∧ s.sec.attest = some r ∧ s.sec.attestReady = true) ∧
    (∃ (s : State) (c : Cmd) (r : List Byte), s.accepts attestSpec { c with
      args := withArg c.args 0 0 1 } = true ∧ s.sec.attest = some r ∧ s.sec.attestReady = false) ∧
    (∃ (s : State), s.sec.attest.isSome = true ∧ s.sec.attestReady = false ∧ s.hostUp = true) :=
  ⟨⟨on, big 0 [416], 416, by decide +kernel⟩,
    ⟨on, big 0 [655712], 655712, by decide +kernel⟩,
    ⟨slotB fun x => { x with state := .receiving, len := 8 }, big 0 [0, 8, 1, 2], 0, 8, [1, 2],
      by decide +kernel⟩,
    ⟨slotB fun x => { x with state := .receiving, len := 8 }, big 0 [0, 1, 1], 0, 1, [1], by decide +kernel⟩,
    ⟨slotB fun x => { x with state := .verifying }, by decide +kernel⟩,
    ⟨slotB fun x => { x with state := .valid, svn := 64 }, big 0 [], by decide +kernel⟩,
    ⟨on, msg 0 [1, 2, 3, 4], by decide +kernel⟩,
    ⟨{ on with sec.attest := some [1], sec.attestReady := true }, msg 1 [], [1], by decide +kernel⟩,
    ⟨{ on with sec.attest := some [1], sec.attestReady := false }, msg 1 [], [1], by decide +kernel⟩,
    ⟨{ on with sec.attest := some [1] }, by decide +kernel⟩⟩

theorem wit_ProvisionRows :
    (∃ (s : State) (c : Cmd) (a : BitVec 24), a = withArg c.args 3 2 0 ∧ s.accepts keyProvisionSpec { c with
      args := a } = true ∧ s.sec.provLock = false ∧ s.sec.owners[arg a 1 0 % 4]'(Nat.mod_lt _
      (by decide)) = none ∧ arg a 15 8 = 0xFF ∧ arg a 7 4 ≠ 0) ∧
    (∃ (s : State) (c : Cmd) (a : BitVec 24) (nonce : List Word), a = withArg c.args 3 2 1 ∧
      s.accepts keyProvisionSpec { c with args := a } = true ∧ s.sec.lockout = false ∧ s.sec.provLock = false ∧
      arg a 7 4 = 0 ∧ arg a 15 8 = arg a 1 0 ∧ s.sec.chalProv = some nonce) ∧
    (∃ (s : State) (c : Cmd) (a : BitVec 24), a = withArg c.args 3 2 2 ∧ s.accepts keyProvisionSpec { c with
      args := a } = true ∧ s.sec.provLock = false ∧ arg a 7 4 = 0 ∧ arg a 15 8 = 0xFF) ∧
    (∃ (s : State) (c : Cmd) (a : BitVec 24), a = withArg c.args 3 2 3 ∧ s.accepts keyProvisionSpec { c with
      args := a } = true ∧ arg a 7 4 = 0 ∧ arg a 15 8 = 0xFF ∧ s.sec.dbgOpen = false ∧ s.certFits (wordsBytes
      (c.words.take 64)) = false) :=
  ⟨⟨inMode .service, msg 0xFF13 (List.replicate 25 0), 0xFF13, by decide +kernel⟩,
    ⟨{ inMode .service with sec.chalProv := some [1, 2, 3, 4] }, msg 0x0303 (List.replicate 24 0), 0x0307, [1,
      2, 3, 4], by decide +kernel⟩,
    ⟨inMode .service, msg 0xFF00 [], 0xFF08, by decide +kernel⟩,
    ⟨inMode .service, msg 0xFF00 (List.replicate 64 0), 0xFF0C, by decide +kernel⟩⟩

theorem wit_DebugRows :
    (∃ (s : State) (c : Cmd), s.accepts debugUnlockChallengeSpec c = true ∧ arg c.args 0 0 = 0) ∧
    (∃ (s : State) (c : Cmd), s.accepts debugUnlockChallengeSpec c = true ∧ arg c.args 0 0 ≠ 0) ∧
    (∃ (s : State), s.sec.provAt + 60000 * milli ≤ s.time) ∧
    (∃ (s : State), s.sec.debugAt + 60000 * milli ≤ s.time) ∧
    (∃ (s : State) (c : Cmd) (nonce : List Word), s.accepts debugUnlockSpec c = true ∧ s.sec.lockout = false ∧
      s.wd.wgEn = false ∧ s.sec.dbgOpen = false ∧ s.sec.chalDebug = some nonce ∧ arg c.args 7 0 = 0xFE ∧
      arg c.args 15 8 = 1) ∧
    (∃ (s : State), s.sec.lockout = true ∧ 60 ≤ (s.pw.opsec - s.sec.lockedAt).toNat) :=
  ⟨⟨inMode .service, msg 0 [], by decide +kernel⟩,
    ⟨inMode .service, msg 1 [], by decide +kernel⟩,
    ⟨after 60000 on, by decide +kernel⟩,
    ⟨after 60000 on, by decide +kernel⟩,
    ⟨{ inMode .service with sec.chalDebug := some [1, 2, 3, 4] }, msg 0x1FE (List.replicate 24 0), [1, 2, 3, 4],
      by decide +kernel⟩,
    ⟨{ on with sec.lockout := true, pw.opsec := 60 }, by decide +kernel⟩⟩

theorem wit_WindowAndCredit :
    (∃ (s : State) (a : BitVec 6) (n : BitVec 7), s.portOpen = true ∧ s.port.sel = some false ∧
      s.port.rx = .hunt ∧ s.port.busy = false ∧ n ≠ 0 ∧ a.toNat + n.toNat ≤ 64 ∧ a.toNat ≤ 0x30 ∧
      0x30 < a.toNat + n.toNat) ∧
    (∃ (s : State) (a : BitVec 6) (n : BitVec 7), s.portOpen = true ∧ s.port.sel = some false ∧
      s.port.rx = .hunt ∧ s.port.busy = false ∧ n ≠ 0 ∧ a.toNat + n.toNat ≤ 64 ∧ a.toNat ≤ 0x30 ∧
      0x30 < a.toNat + n.toNat) ∧
    (∃ (s : State) (a : BitVec 6) (n : BitVec 7), s.portOpen = true ∧ s.port.sel = some false ∧
      s.port.rx = .hunt ∧ s.port.busy = false ∧ n ≠ 0 ∧ a.toNat + n.toNat ≤ 64 ∧ (a.toNat + n.toNat ≤ 0x30 ∨
      0x31 < a.toNat)) ∧
    (∃ (s : State) (a : BitVec 6) (n : BitVec 7), s.portOpen = true ∧ s.port.sel = some false ∧
      s.port.rx = .hunt ∧ s.port.busy = false ∧ n ≠ 0 ∧ a.toNat + n.toNat ≤ 64 ∧ (a.toNat + n.toNat ≤ 0x30 ∨
      0x31 < a.toNat)) ∧
    (∃ (s : State) (a : BitVec 6) (n : BitVec 7), s.portOpen = true ∧ s.port.sel = some false ∧
      s.port.rx = .hunt ∧ s.port.busy = false ∧ (n = 0 ∨ 64 < a.toNat + n.toNat)) ∧
    (∃ (s : State) (a : BitVec 6) (n : BitVec 7), s.portOpen = true ∧ s.port.sel = some false ∧
      s.port.rx = .hunt ∧ s.port.busy = false ∧ (n = 0 ∨ 64 < a.toNat + n.toNat)) ∧
    (∃ (s : State) (a : BitVec 6) (n : BitVec 7), s.portOpen = true ∧ s.port.sel = some false ∧
      s.port.rx = .hunt ∧ s.port.busy = false ∧ (n = 0 ∨ 64 < a.toNat + n.toNat)) ∧
    (∃ (s : State), s.portOpen = true ∧ s.port.sel = some true ∧ s.port.rx = .hunt ∧ s.port.busy = false) ∧
    (∃ (s : State), s.portOpen = true ∧ s.feat 6 = true ∧ s.port.sel = some true ∧ s.port.rx = .hunt ∧
      s.port.busy = false) :=
  ⟨⟨on, 0x30, 1, by decide +kernel⟩,
    ⟨on, 0x30, 16, by decide +kernel⟩,
    ⟨on, 0x20, 16, by decide +kernel⟩,
    ⟨on, 0x32, 14, by decide +kernel⟩,
    ⟨on, 0x31, 16, by decide +kernel⟩,
    ⟨on, 0x31, 64, by decide +kernel⟩,
    ⟨on, 0, 0, by decide +kernel⟩,
    ⟨onCs1, by decide +kernel⟩,
    ⟨{ onCs1 with res.credit := 5 }, by decide +kernel⟩⟩

theorem wit_Exchanges :
    (∃ (s : State), s.portOpen = true ∧ s.port.csLow = 0 ∧ s.pw.mode ≠ .doze ∧ s.port.again = [] ∧
      s.port.repCount = 0 ∧ s.port.bufs.length < 2) ∧
    (∃ (s : State) (cs1 : Bool) (q : _) (ws : List Word), s.portOpen = true ∧ s.port.csLow = 0 ∧
      s.pw.mode ≠ .doze ∧ s.port.again = [] ∧ s.port.repCount = 0 ∧ s.port.bufs.length < 2 ∧ cs1 = false ∧
      s.port.winRsp = some (q, ws)) ∧
    (∃ (s : State) (cs1 : Bool) (r : _), s.portOpen = true ∧ s.port.csLow = 0 ∧ s.pw.mode ≠ .doze ∧
      s.port.again = [] ∧ s.port.repCount = 0 ∧ s.port.bufs.length < 2 ∧ cs1 = false ∧ s.port.winRsp = none ∧
      s.readyRecords = [] ∧ (s.port.rsp.find? fun x => x.mb == 0) = some r) ∧
    (∃ (s : State) (cs1 : Bool) (e : _) (es : _), s.portOpen = true ∧ s.port.csLow = 0 ∧ s.pw.mode ≠ .doze ∧
      s.port.again = [] ∧ s.port.repCount = 0 ∧ s.port.bufs.length < 2 ∧ cs1 = true ∧ s.feat 6 = true ∧
      s.res.strm.head (min s.res.credit.toNat 1024) = e :: es) ∧
    (∃ (s : State), s.portOpen = true ∧ s.port.csLow = 0 ∧ s.pw.mode ≠ .doze) ∧
    (∃ (s : State), s.portOpen = true ∧ s.port.csLow = 0 ∧ s.pw.mode ≠ .doze) ∧
    (∃ (s : State) (cs1 : Bool), s.portOpen = true ∧ s.port.csLow = csBit (!cs1)) ∧
    (∃ (s : State) (cs1 : Bool), s.port.sel = some cs1 ∧ s.port.rx ≠ .body ∧ s.port.rx ≠ .check) ∧
    (∃ (s : State) (cs1 : Bool), s.port.sel = some cs1 ∧ (s.port.rx = .body ∨ s.port.rx = .check) ∧
      s.port.rxWords ≠ []) ∧
    (∃ (s : State) (cs1 : Bool) (h : Word) (l : List Word), s.port.sel = some cs1 ∧ s.port.rx = .hunt ∧
      s.port.busy = false ∧ h ≠ 0 ∧ hostHeaderOk cs1 h = true ∧ l.length ≤ fld h 10 0) ∧
    (∃ (s : State) (cs1 : Bool) (h : Word) (l : List Word), s.port.sel = some cs1 ∧ s.port.rx = .hunt ∧
      s.port.busy = false ∧ h ≠ 0 ∧ hostHeaderOk cs1 h = true ∧ l.length ≤ fld h 10 0) ∧
    (∃ (s : State) (r : Rsp) (first : Nat) (rest : List TxItem) (o : _), s.port.tx = .rsp r first :: rest ∧
      r.words.length ≤ first + 1024 ∧ r.counts = true ∧ r.mb = 0 ∧ (s.port.outst.find? fun o =>
      o.sender == .host && o.answered && o.frame.mb == r.mb && o.frame.seq == r.seq && o.crc == r.crc) = some o) ∧
    (∃ (s : State) (q : BitVec 8) (es : List QEntry) (rest : List TxItem), s.port.tx = .strm q es :: rest) :=
  ⟨⟨quiet, by decide +kernel⟩,
    ⟨{ quiet with port := { quiet.port with winRsp := some (1, [2]) } }, false, 1, [2], by decide +kernel⟩,
    ⟨{ quiet with ev := { on.ev with en := 0 }, port := { quiet.port with rsp := [resp0 0] } }, false, resp0 0,
      by decide +kernel⟩,
    ⟨{ quiet with res := { on.res with credit := 1, strm := { on.res.strm with entries := [entryQ] } } }, true,
      entryQ, [], by decide +kernel⟩,
    ⟨quiet, by decide +kernel⟩,
    ⟨quiet, by decide +kernel⟩,
    ⟨on, true, by decide +kernel⟩,
    ⟨on, false, by decide +kernel⟩,
    ⟨{ on with port := { on.port with rx := .body, rxWords := [cmdHeader (fr 0) true 1], tx := [.evt 0 []] } },
      false, by decide +kernel⟩,
    ⟨on, false, cmdHeader (fr 0) true 1, [], by decide +kernel⟩,
    ⟨onCs1, true, 0x8C000001, [5], by decide +kernel⟩,
    ⟨{ on with port := { on.port with rsp := [resp0 0], tx := [.rsp (resp0 0) 0], outst := [asked true] } },
      resp0 0, 0, [], asked true, by decide +kernel⟩,
    ⟨{ on with port := { on.port with tx := [.strm 0 [entryQ]] } }, 0, [entryQ], [], by decide +kernel⟩⟩

theorem wit_ReceiveErrors :
    (∃ (s : State) (cs1 : Bool) (h : Word), s.portOpen = true ∧ s.port.sel = some cs1 ∧ s.port.rx = .hunt ∧
      s.port.segs = [] ∧ s.port.lostMsgs = [] ∧ h ≠ 0 ∧ bit h 24 = true ∧ s.port.busy = false ∧
      hostHeaderOk cs1 h = false) ∧
    (∃ (s : State) (cs1 : Bool) (h : Word) (l : List Word) (x : Word), s.portOpen = true ∧
      s.port.sel = some cs1 ∧ s.port.rx = .hunt ∧ s.port.segs = [] ∧ s.port.lostMsgs = [] ∧ h ≠ 0 ∧
      bit h 24 = true ∧ l.length = fld h 10 0 ∧ s.port.busy = false ∧ hostHeaderOk cs1 h = true ∧ x ≠ frameCrc
      (h :: l)) ∧
    (∃ (s : State) (cs1 : Bool) (h : Word) (l : List Word), s.portOpen = true ∧ s.port.sel = some cs1 ∧
      s.port.rx = .hunt ∧ s.port.segs = [] ∧ s.port.lostMsgs = [] ∧ h ≠ 0 ∧ bit h 24 = true ∧
      l.length = fld h 10 0 ∧ s.port.busy = true) ∧
    (∃ (s : State) (cs1 : Bool) (h : Word) (l : List Word) (x : Word), s.portOpen = true ∧
      s.port.sel = some cs1 ∧ s.port.rx = .hunt ∧ s.port.segs = [] ∧ s.port.lostMsgs = [] ∧ h ≠ 0 ∧
      bit h 24 = true ∧ l.length = fld h 10 0 ∧ s.port.busy = true ∧ x = frameCrc (h :: l)) ∧
    (∃ (s : State) (w : Word), s.portOpen = true ∧ s.port.rx = .tail ∧ w ≠ 0 ∧ s.port.trailed = true) ∧
    (∃ (s : State) (w : Word), s.portOpen = true ∧ s.port.rx = .tail ∧ w ≠ 0 ∧ s.port.trailed = false) ∧
    (∃ (s : State) (f : Frame) (ws : List Word), s.portOpen = true ∧ s.port.sel = some false ∧
      s.port.rx = .hunt ∧ s.port.busy = false ∧ s.pw.halted = false ∧ hostHeaderOk false
      (cmdHeader f false ws.length) = true ∧ (∀ x ∈ s.port.segs, x.frame.mb ≠ f.mb) ∧ f ∉ s.port.lostMsgs ∧
      ws.length ≤ 4096) ∧
    (∃ (s : State) (f : Frame) (ws : List Word) (h : _), s.port.segs = [h] ∧ s.portOpen = true ∧
      s.port.sel = some false ∧ s.port.rx = .hunt ∧ s.port.busy = false ∧ s.pw.halted = false ∧
      hostHeaderOk false (cmdHeader f false ws.length) = true ∧ h.frame = f ∧ s.port.lostMsgs = [] ∧
      (h.words ++ ws).length ≤ 4096) ∧
    (∃ (s : State) (f : Frame) (ws : List Word) (h : _), s.port.segs = [h] ∧ 4096 < (h.words ++ ws).length ∧
      s.portOpen = true ∧ s.port.sel = some false ∧ s.port.rx = .hunt ∧ s.port.busy = false ∧
      s.pw.halted = false ∧ hostHeaderOk false (cmdHeader f false ws.length) = true ∧ h.frame = f ∧
      s.port.lostMsgs = []) ∧
    (∃ (s : State) (f : Frame) (ws : List Word), s.portOpen = true ∧ s.port.sel = some false ∧
      s.port.rx = .hunt ∧ s.port.busy = false ∧ s.pw.halted = false ∧ hostHeaderOk false
      (cmdHeader f false ws.length) = true ∧ s.port.segs = [] ∧ f ∈ s.port.lostMsgs) :=
  ⟨⟨on, false, 0x71000001, by decide +kernel⟩,
    ⟨on, false, cmdHeader (fr 0) true 1, [5], 5, by decide +kernel⟩,
    ⟨{ on with port := { on.port with busy := true } }, false, cmdHeader (fr 0) true 1, [5], by decide +kernel⟩,
    ⟨{ on with port := { on.port with busy := true } }, false, cmdHeader (fr 0) true 1, [5], frameCrc [cmdHeader
      (fr 0) true 1, 5], by decide +kernel⟩,
    ⟨{ on with port := { on.port with rx := .tail, trailed := true } }, 5, by decide +kernel⟩,
    ⟨{ on with port := { on.port with rx := .tail, trailed := false } }, 5, by decide +kernel⟩,
    ⟨on, fr 1, [1], by decide +kernel⟩,
    ⟨{ on with port := { on.port with segs := [{ frame := fr 1, words := [1] }] } }, fr 1, [1],
      { frame := fr 1, words := [1] }, rfl, by decide +kernel⟩,
    ⟨{ on with port := { on.port with segs := [{ frame := fr 1, words := List.replicate 4096 0 }] } }, fr 1,
      [1], { frame := fr 1, words := List.replicate 4096 0 }, rfl, long_message, by decide +kernel⟩,
    ⟨{ on with port := { on.port with lostMsgs := [fr 1] } }, fr 1, [1], by decide +kernel⟩⟩

theorem wit_RegisterRows :
    (∃ (s : State) (f : Frame) (n : Ch) (w : Word), s.isOdd n = false ∧ s.inTouch (grpOf n) = true ∧
      (s.chan n).cfgBusy = false ∧ s.acceptsWrite f (chIndex n 0x03) (putBit w 31 true) = true ∧
      (s.modeOf n).isSwitch = true ∧ (s.chan n).out.ps = .lockedOff) ∧
    (∃ (s : State) (f : Frame) (n : Ch) (w : Word), s.isOdd n = false ∧ s.inTouch (grpOf n) = true ∧
      (s.chan n).cfgBusy = false ∧ s.acceptsWrite f (chIndex n 0x03) (putBit w 31 true) = true ∧
      s.modeOf n = .aiI) ∧
    (∃ (s : State) (f : Frame) (n : Ch) (w : Word), s.isOdd n = false ∧ s.inTouch (grpOf n) = true ∧
      (s.chan n).cfgBusy = false ∧ s.acceptsWrite f (chIndex n 0x03) (putBit w 29 true) = true ∧
      (s.modeOf n).isAo = true ∧ (s.chan n).ao.miswire = true) ∧
    (∃ (s : State) (f : Frame) (n : Ch) (w : Word) (v : Word), v = putBit w 30 true ∧ s.isOdd n = false ∧
      s.inTouch (grpOf n) = true ∧ (s.chan n).cfgBusy = false ∧ s.acceptsWrite f (chIndex n 0x16) v = true ∧
      (s.received f).wordChecks n (s.withWordOf n 0x16 v) 0x16 v = [] ∧ (s.received f).leaveChecks n
      (s.withWordOf n 0x16 v) = []) ∧
    (∃ (s : State) (f : Frame) (g : Grp) (k : BitVec 2) (h : _), k.toNat ≤ 1 ∧ s.acceptsWrite f
      (0x900 + 0x10 * g.val) (k.setWidth 32) = true ∧ ((s.group g).conv.refSel ≠ k ∨
      (s.group g).conv.fallback = true) ∧ (s.group g).conv.refSettled = true ∧ h ≠ g) ∧
    (∃ (s : State) (f : Frame) (g : Grp) (k : BitVec 2) (h : _), k.toNat ≤ 1 ∧ s.acceptsWrite f
      (0x900 + 0x10 * g.val) (k.setWidth 32) = true ∧ ((s.group g).conv.refSel ≠ k ∨
      (s.group g).conv.fallback = true) ∧ (s.group g).conv.refSettled = true ∧ h ≠ g) ∧
    (∃ (s : State) (f : Frame) (n : Ch) (filt : Bool) (w : Word) (off : Nat), off =
      (if filt then 0x18 else 0x17) ∧ s.isOdd n = false ∧ s.inTouch (grpOf n) = true ∧
      (s.chan n).cfgBusy = false ∧ (s.modeOf n).isAi = true ∧ s.comb.jobs = [] ∧ s.acceptsWrite f
      (chIndex n off) w = true ∧ (s.received f).wordChecks n (s.withWordOf n off w) off w = [] ∧
      (s.received f).leaveChecks n (s.withWordOf n off w) = []) ∧
    (∃ (s : State) (f : Frame) (n : Ch) (filt : Bool) (w : Word) (off : Nat), off =
      (if filt then 0x18 else 0x17) ∧ s.isOdd n = false ∧ s.inTouch (grpOf n) = true ∧
      (s.chan n).cfgBusy = false ∧ (s.modeOf n).isAi = true ∧ s.comb.jobs = [] ∧ s.acceptsWrite f
      (chIndex n off) w = true ∧ (s.received f).wordChecks n (s.withWordOf n off w) off w = [] ∧
      (s.received f).leaveChecks n (s.withWordOf n off w) = []) ∧
    (∃ (s : State) (f : Frame) (en : Bool), s.acceptsWrite f 0x200 (putBit 0 31 en) = true ∧
      (en = true → s.feat 2 = true)) ∧
    (∃ (s : State) (f : Frame) (en : Bool), s.acceptsWrite f 0x200 (putBit 0 31 en) = true ∧
      (en = true → s.feat 2 = true)) :=
  ⟨⟨sw2 .lockedOff fun o => { o with cmdOn := false }, fr 0, 2, 0, by decide +kernel⟩,
    ⟨ch2 .aiI fun c => { c with ai := { c.ai with senseOpen := true } }, fr 0, 2, 0, by decide +kernel⟩,
    ⟨ch2 .aoV fun c => { c with ao := { c.ao with miswire := true } }, fr 0, 2, 0, by decide +kernel⟩,
    ⟨ch2 .doHs id, fr 0, 2, 0x0A000000, putBit 0x0A000000 30 true, by decide +kernel⟩,
    ⟨conv0 fun c => { c with refSettled := true, fallback := true }, fr 0, 0, 0, 1, by decide +kernel⟩,
    ⟨conv0 fun c => { c with refSettled := true, fallback := true }, fr 0, 0, 1, 1, by decide +kernel⟩,
    ⟨ch2 .aiV id, fr 0, 2, true, 0x40000004, 0x18, by decide +kernel⟩,
    ⟨ch2 .aiV id, fr 0, 2, false, 0, 0x17, by decide +kernel⟩,
    ⟨on, fr 0, true, by decide +kernel⟩,
    ⟨on, fr 0, false, by decide +kernel⟩⟩

theorem wit_ResetRows :
    (∃ (s : State) (ns : Nat), s.pw.vhPresent = true ∧ s.pw.mode ≠ .keep ∧ 1000 ≤ ns) ∧
    (∃ (ns : Nat), ns < 100) ∧
    (∃ (s : State) (d : Nat), s.hostUp = true ∧ s.wd.nmi = some d ∧ d + 2 * milli ≤ s.time) ∧
    (∃ (s : State) (b : BootInput) (c : _), s.bootSource ≠ .activation ∧ s.bootSource = .powerOn ∧
      b.cycleFail = 0 ∧ s.pw.cycleNow = some c) ∧
    (∃ (s : State), s.bootSource ≠ .activation ∧ s.bootSource ≠ .powerOn) ∧
    (∃ (s : State), s.bootSource ≠ .activation ∧ s.bootSource ≠ .powerOn) ∧
    (∃ (s : State) (n : _), s.pw.mode ≠ .reset ∧ s.pw.mode ≠ .boot ∧ s.pw.mode ≠ .keep ∧ s.pw.vhPresent = true ∧
      s.takes n = true ∧ s.dieUp (grpOf n) = true ∧ s.hostUp = true) ∧
    (∃ (s : State), s.pw.mode = .reset ∧ s.pw.vhPresent = true) ∧
    (∃ (s : State) (falling : Bool), s.hostUp = true ∧ s.pw.vhWarn ≠ falling) ∧
    (∃ (s : State) (falling : Bool), s.hostUp = true ∧ s.pw.vhWarn ≠ falling) ∧
    (∃ (s : State), s.pw.xact = true ∧ s.hostUp = true) ∧
    (∃ (s : State), s.pw.vhPresent = true) :=
  ⟨⟨sw2 .on id, 1000, by decide +kernel⟩,
    ⟨99, by decide +kernel⟩,
    ⟨{ after 2 on with wd.nmi := some 0 }, 0, by decide +kernel⟩,
    ⟨inReset .powerOn, bootIn, { count := 0, gen := 0, good := true }, by decide +kernel⟩,
    ⟨inReset .hRstn, by decide +kernel⟩,
    ⟨inReset .coreWd, by decide +kernel⟩,
    ⟨sw2 .on id, 2, by decide +kernel⟩,
    ⟨inReset .coreWd, by decide +kernel⟩,
    ⟨{ on with pw.vhWarn := !true }, true, by decide +kernel⟩,
    ⟨{ on with pw.vhWarn := !false }, false, by decide +kernel⟩,
    ⟨{ on with pw.xact := true }, by decide +kernel⟩,
    ⟨on, by decide +kernel⟩⟩

theorem wit_Continuity :
    (∃ (s : State) (n : _), s.sec.activating = true ∧ s.hostUp = true ∧ s.pw.mode = .standby ∧
      (s.modeOf n).isSwitch = true ∧ (s.chan n).guard.held = false ∧ (s.chan n).out.ps ≠ .lockedOff) ∧
    (∃ (s : State) (n : _), s.sec.activating = true ∧ s.hostUp = true ∧ s.pw.mode = .run ∧ s.feat 8 = false ∧
      s.takes n = true) ∧
    (∃ (s : State), s.sec.activating = true ∧ s.hostUp = true ∧ s.pw.mode = .run ∧ s.feat 8 = true ∧
      s.comb.active = none) ∧
    (∃ (s : State) (w : Nat), s.pw.window = some w ∧ s.hostUp = true ∧ s.pw.mode = .run) ∧
    (∃ (s : State) (w : Nat) (n : _), s.pw.window = some w ∧ s.hostUp = true ∧ s.pw.mode = .run ∧
      w + fld s.pw.cfg 6 0 * 10 * milli ≤ s.time ∧ s.takes n = true ∧ s.dieUp (grpOf n) = true) ∧
    (∃ (s : State) (w : Nat) (n : _), s.pw.window = some w ∧ s.hostUp = false ∧
      w + fld s.pw.cfg 6 0 * 10 * milli ≤ s.time ∧ s.takes n = true ∧ s.dieUp (grpOf n) = true) ∧
    (∃ (s : State), s.bootSource = .activation ∧ s.pw.window = none ∧ s.pw.expired = true) :=
  ⟨⟨{ (sw2 .on id).modCh 2 id with sec.activating := true, pw := { on.pw with mode := .standby } }, 2,
      by decide +kernel⟩,
    ⟨{ sw2 .on id with sec := { on.sec with activating := true, acc := 0xFEFF } }, 2, by decide +kernel⟩,
    ⟨{ sw2 .on id with sec.activating := true }, by decide +kernel⟩,
    ⟨windowed, 0, by decide +kernel⟩,
    ⟨{ windowed with time := 2000000000 }, 0, 2, by decide +kernel⟩,
    ⟨{ windowed with time := 2000000000, pw := { windowed.pw with mode := .reset, resetSrc := some .activation } },
      0, 2, by decide +kernel⟩,
    ⟨{ inReset .activation with pw := { (inReset .activation).pw with expired := true } }, by decide +kernel⟩⟩

theorem wit_FieldLinks :
    (∃ (s : State) (g : Grp), s.hostUp = true ∧ 15 ≤ ((s.group g).link.errTimes.filter fun x => decide
      (s.time < x + milli)).length) ∧
    (∃ (s : State) (g : Grp) (n : _) (h : _), (s.group g).link.silent = false ∧
      (s.group g).link.failed = false ∧ (s.group g).sup.ready = true ∧ (s.group g).guard.limitMicros = 50 ∧
      s.comb.jobs = [] ∧ s.hostUp = true ∧ (s.group g).link.stopped = false ∧ grpOf n = g ∧ s.takes n = true ∧
      h ≠ g) ∧
    (∃ (s : State) (g : Grp) (n : _) (h : _), (s.group g).link.silent = false ∧
      (s.group g).link.failed = false ∧ (s.group g).sup.ready = true ∧ (s.group g).guard.limitMicros = 50 ∧
      s.comb.jobs = [] ∧ s.hostUp = true ∧ grpOf n ≠ g ∧ h ≠ g) ∧
    (∃ (s : State) (g : Grp), (s.group g).link.silent = true ∧ s.dieUp g = true ∧ s.hostUp = true ∧
      s.pw.window = none ∧ s.comb.active = none) ∧
    (∃ (s : State) (g : Grp) (n : _), (s.group g).link.failed = false ∧ (s.group g).sup.ready = true ∧
      s.hostUp = true ∧ s.pw.window = none ∧ s.comb.jobs = [] ∧ grpOf n = g ∧ s.comb.active = none) ∧
    (∃ (s : State) (g : Grp) (n : _), s.dieUp g = true ∧ s.comb.jobs = [] ∧ grpOf n = g) :=
  ⟨⟨link0 fun l => { l with errTimes := List.replicate 15 0 }, 0, by decide +kernel⟩,
    ⟨(sw2 .on id).modGrp 0 fun x => { x with guard := { x.guard with limitMicros := 50 } }, 0, 2, 1,
      by decide +kernel⟩,
    ⟨(sw2 .on id).modGrp 0 fun x => { x with guard := { x.guard with limitMicros := 50 } }, 1, 2, 0,
      by decide +kernel⟩,
    ⟨link0 fun l => { l with silent := true }, 0, by decide +kernel⟩,
    ⟨sw2 .on id, 0, 2, by decide +kernel⟩,
    ⟨sw2 .on id, 0, 2, by decide +kernel⟩⟩

theorem wit_ChannelFaults :
    (∃ (s : State) (n : Ch), s.heard n = true ∧ s.supplied n = true ∧ (s.modeOf n = .aiRes ∨
      (s.modeOf n = .aiTc ∧ bit (s.cfgOf n).aiCfg 27 = true))) ∧
    (∃ (s : State) (n : Ch), s.heard n = true ∧ s.supplied n = true ∧ (s.modeOf n = .aiRes ∨
      (s.modeOf n = .aiTc ∧ bit (s.cfgOf n).aiCfg 27 = true))) ∧
    (∃ (s : State) (n : Ch), s.heard n = true ∧ s.supplied n = true ∧ (s.pairOf n = .rtd3 ∨ s.pairOf n = .rtd4)) ∧
    (∃ (s : State) (n : Ch), s.heard n = true ∧ s.supplied n = true ∧ (s.pairOf n = .rtd3 ∨ s.pairOf n = .rtd4)) ∧
    (∃ (s : State) (n : Ch), s.heard n = true ∧ s.modeOf n = .loopPwr ∧ (s.chan n).loop.on = true ∧
      (s.chan n).cfg.loopMate ≠ 0) ∧
    (∃ (s : State) (n : Ch), s.heard n = true ∧ (s.modeOf n).isSwitch = true) ∧
    (∃ (s : State) (n : Ch), s.heard n = true ∧ s.steadyOn n = true) ∧
    (∃ (s : State) (n : Ch) (ma : Int), s.heard n = true ∧ s.steadyOn n = true ∧ (s.cfgOf n).inductive = true ∧
      ma < s.openLoadMa n) ∧
    (∃ (s : State) (n : Ch) (ma : Int), s.heard n = true ∧ s.steadyOn n = true ∧ (s.cfgOf n).inductive = true ∧
      ma < s.openLoadMa n) ∧
    (∃ (s : State) (n : Ch), s.heard n = true ∧ s.offState n = true ∧ s.modeOf n = .doHs ∧ bit
      (s.cfgOf n).outDiag 24 = true) ∧
    (∃ (s : State) (n : Ch), s.heard n = true ∧ s.onState n = true ∧ s.pairOf n = .parallel) ∧
    (∃ (s : State) (n : Ch), s.heard n = true ∧ s.modeOf n = .aoV ∧ (s.chan n).ao.blocked = false) :=
  ⟨⟨ch2 .aiRes id, 2, by decide +kernel⟩,
    ⟨ch2 .aiTc fun c => { c with cfg := { c.cfg with aiCfg := bitW 27 } }, 2, by decide +kernel⟩,
    ⟨pair2 .aiRes .rtd3, 2, by decide +kernel⟩,
    ⟨pair2 .aiRes .rtd4, 2, by decide +kernel⟩,
    ⟨ch2 .loopPwr fun c => { c with loop := { c.loop with on := true }, cfg := { c.cfg with loopMate := 5 } },
      2, by decide +kernel⟩,
    ⟨sw2 .on id, 2, by decide +kernel⟩,
    ⟨res2 .on id, 2, by decide +kernel⟩,
    ⟨(sw2 .on id).modCh 2 fun c => { c with cfg := { c.cfg with outCfg := c.cfg.outCfg ||| bitW 27 } }, 2, 0,
      by decide +kernel⟩,
    ⟨sw2 .on id, 2, 0, by decide +kernel⟩,
    ⟨(sw2 .off id).modCh 2 fun c => { c with cfg := { c.cfg with outDiag := c.cfg.outDiag ||| bitW 24 } }, 2,
      by decide +kernel⟩,
    ⟨((pair2 .doHs .parallel).modCh 2 fun c => { c with out := { c.out with ps := .on } }), 2,
      by decide +kernel⟩,
    ⟨ch2 .aoV id, 2, by decide +kernel⟩⟩

theorem wit_DigitalInputs :
    (∃ (s : State) (n : Ch) (mv : Int) (ua : Int) (level : Bool) (cls : Bool), level = s.levelOf n mv ua ∧
      cls = s.currentClass n ua ∧ cls = false ∧ s.heard n = true ∧ (s.chan n).cfgBusy = false ∧
      (s.modeOf n = .di ∨ s.modeOf n = .diNamur) ∧ s.classed n = true) ∧
    (∃ (s : State) (n : Ch) (mv : Int) (ua : Int) (level : Bool) (cls : Bool), level = s.levelOf n mv ua ∧
      cls = s.currentClass n ua ∧ cls = false ∧ s.heard n = true ∧ (s.chan n).cfgBusy = false ∧
      (s.modeOf n = .di ∨ s.modeOf n = .diNamur) ∧ s.classed n = true) ∧
    (∃ (s : State) (n : Ch) (r : Word × Bool) (m : _), s.heard n = true ∧ (s.modeOf n = .di ∨
      s.modeOf n = .diNamur) ∧ s.supplied n = true ∧ (s.chan n).inp.run = some r ∧ (s.chan n).inp.brk = false ∧
      (s.chan n).inp.short = false ∧ (s.chan n).inp.valid = true ∧ m ≠ n) ∧
    (∃ (s : State) (n : Ch) (r : Word × Bool) (m : _), s.heard n = true ∧ (s.modeOf n = .di ∨
      s.modeOf n = .diNamur) ∧ s.supplied n = true ∧ (s.chan n).inp.run = some r ∧ (s.chan n).inp.brk = false ∧
      (s.chan n).inp.short = false ∧ (s.chan n).inp.valid = true ∧ m ≠ n) ∧
    (∃ (s : State) (n : Ch) (m : _), s.heard n = true ∧ s.modeOf n = .di ∧ s.supplied n = true ∧ bit
      (s.cfgOf n).inCfg 27 = true ∧ (s.chan n).inp.brk = true ∧ m ≠ n) ∧
    (∃ (s : State) (n : Ch), s.heard n = true ∧ s.modeOf n = .diNamur ∧ s.supplied n = true ∧ fld
      (s.cfgOf n).inCfg 17 16 = 0) ∧
    (∃ (s : State) (n : Ch), s.heard n = true ∧ s.modeOf n = .diNamur ∧ s.supplied n = true ∧ fld
      (s.cfgOf n).inCfg 17 16 = 0) ∧
    (∃ (s : State) (n : Ch), s.heard n = true ∧ s.modeOf n = .diNamur ∧ s.supplied n = true ∧ fld
      (s.cfgOf n).inCfg 17 16 = 1) ∧
    (∃ (s : State) (n : Ch), s.heard n = true ∧ s.modeOf n = .diNamur ∧ s.supplied n = true ∧ fld
      (s.cfgOf n).inCfg 17 16 = 1) ∧
    (∃ (s : State) (n : Ch), s.heard n = true ∧ s.modeOf n = .diNamur ∧ s.supplied n = true ∧ 2 ≤ fld
      (s.cfgOf n).inCfg 17 16) ∧
    (∃ (s : State) (n : Ch), s.heard n = true ∧ s.modeOf n = .diNamur ∧ s.supplied n = true ∧ 2 ≤ fld
      (s.cfgOf n).inCfg 17 16) ∧
    (∃ (s : State) (n : Ch) (m : _), s.heard n = true ∧ s.modeOf n = .diNamur ∧ s.supplied n = true ∧
      ((s.chan n).inp.brk = true ∨ (s.chan n).inp.short = true) ∧ m ≠ n) ∧
    (∃ (s : State) (n : Ch) (mv ua : Int) (level cls : Bool), level = s.levelOf n mv ua ∧
      cls = s.currentClass n ua ∧ s.heard n = true ∧ (s.chan n).cfgBusy = false ∧ (s.modeOf n = .di ∨
      s.modeOf n = .diNamur) ∧ (s.classed n = false ∨ cls = true) ∧ (s.chan n).inp.valid = true ∧ level =
      (s.chan n).inp.deb) ∧
    (∃ (s : State) (n : Ch) (mv ua : Int) (level cls : Bool), level = s.levelOf n mv ua ∧
      cls = s.currentClass n ua ∧ s.heard n = true ∧ (s.chan n).cfgBusy = false ∧ (s.modeOf n = .di ∨
      s.modeOf n = .diNamur) ∧ (s.classed n = false ∨ cls = true) ∧ (s.chan n).inp.valid = true ∧ level ≠
      (s.chan n).inp.deb ∧ fld (s.cfgOf n).inCfg 7 0 ≠ 0) ∧
    (∃ (s : State) (n : Ch) (mv ua : Int) (k : Nat), s.levelOf n mv ua ≠ (s.chan n).inp.raw ∧ s.heard n = true ∧
      (s.chan n).cfgBusy = false ∧ s.modeOf n = .count ∧ k < fld (s.cfgOf n).cntCfg 7 0 ∧ 16 ≤
      ((s.chan n).inp.shorts.filter fun t => decide (s.time < t + milli)).length) :=
  ⟨⟨ch2 .di fun c => { c with
      cfg := { c.cfg with inCfg := c.cfg.inCfg ||| bitW 27 }, inp := { c.inp with valid := true } }, 2, 0, 0,
      (ch2 .di fun c => { c with
      cfg := { c.cfg with inCfg := c.cfg.inCfg ||| bitW 27 }, inp := { c.inp with valid := true } }).levelOf 2 0 0,
      (ch2 .di fun c => { c with
      cfg := { c.cfg with inCfg := c.cfg.inCfg ||| bitW 27 }, inp := { c.inp with valid := true } }).currentClass 2 0,
      rfl, rfl, rfl, by decide +kernel⟩,
    ⟨ch2 .diNamur fun c => { c with cfg := c.cfg, inp := { c.inp with valid := true } }, 2, 8000, 100,
      (ch2 .diNamur fun c => { c with cfg := c.cfg, inp := { c.inp with valid := true } }).levelOf 2 8000 100,
      (ch2 .diNamur fun c => { c with cfg := c.cfg, inp := { c.inp with valid := true } }).currentClass 2 100,
      rfl, rfl, rfl, by decide +kernel⟩,
    ⟨ch2 .di fun c => { c with
      cfg := { c.cfg with inCfg := 0x300000C8 }, inp := { c.inp with valid := true, run := some (7, false) } },
      2, (7, false), 3, by decide +kernel⟩,
    ⟨ch2 .di fun c => { c with
      cfg := { c.cfg with inCfg := 0x300000C8 }, inp := { c.inp with valid := true, run := some (7, false), raw := true } },
      2, (7, false), 3, by decide +kernel⟩,
    ⟨ch2 .di fun c => { c with
      cfg := { c.cfg with inCfg := c.cfg.inCfg ||| bitW 27 }, inp := { c.inp with valid := true, brk := true } },
      2, 3, by decide +kernel⟩,
    ⟨ch2 .diNamur fun c => { c with
      cfg := { c.cfg with inCfg := 0x3000000A ||| (0 <<< 16) }, inp := { c.inp with valid := true } }, 2,
      by decide +kernel⟩,
    ⟨ch2 .diNamur fun c => { c with
      cfg := { c.cfg with inCfg := 0x3000000A ||| (0 <<< 16) }, inp := { c.inp with valid := true } }, 2,
      by decide +kernel⟩,
    ⟨ch2 .diNamur fun c => { c with
      cfg := { c.cfg with inCfg := 0x3000000A ||| (1 <<< 16) }, inp := { c.inp with valid := true } }, 2,
      by decide +kernel⟩,
    ⟨ch2 .diNamur fun c => { c with
      cfg := { c.cfg with inCfg := 0x3000000A ||| (1 <<< 16) }, inp := { c.inp with valid := true } }, 2,
      by decide +kernel⟩,
    ⟨ch2 .diNamur fun c => { c with
      cfg := { c.cfg with inCfg := 0x3000000A ||| (2 <<< 16) }, inp := { c.inp with valid := true } }, 2,
      by decide +kernel⟩,
    ⟨ch2 .diNamur fun c => { c with
      cfg := { c.cfg with inCfg := 0x3000000A ||| (2 <<< 16) }, inp := { c.inp with valid := true } }, 2,
      by decide +kernel⟩,
    ⟨ch2 .diNamur fun c => { c with cfg := c.cfg, inp := { c.inp with valid := true, brk := true } }, 2, 3,
      by decide +kernel⟩,
    ⟨ch2 .di fun c => { c with inp := { c.inp with valid := true } }, 2, 0, 0, false, _, (level_low (by decide)
      (by decide) (by decide) 0).symm, rfl, by decide⟩,
    ⟨ch2 .di fun c => { c with inp := { c.inp with valid := true } }, 2, 24000, 3000, true, _, (level_high
      (by decide) (by decide) 3000).symm, rfl, by decide⟩,
    ⟨ch2 .count fun c => { c with
      cfg := { c.cfg with cntCfg := 10 }, inp := { c.inp with shorts := List.replicate 16 0 } }, 2, 24000, 3000,
      9, (by rw [level_high (by decide) (by decide) 3000]; decide), by decide⟩⟩

theorem wit_Counting :
    (∃ (s : State) (n : Ch) (m : _), s.heard n = true ∧ s.modeOf n = .count ∧ s.isSource n = false ∧
      s.pairOf n = .none ∧ fld (s.cfgOf n).cntCfg 27 24 = 0 ∧ m ≠ n) ∧
    (∃ (s : State) (n : Ch) (rising : Bool) (dt : Nat) (m : _), s.heard n = true ∧ s.modeOf n = .count ∧
      s.isSource n = false ∧ s.pairOf n = .none ∧ fld (s.cfgOf n).cntCfg 27 24 = 0 ∧ rising = true ∧
      (s.chan n).cnt.edges ≠ 0 ∧ dt < 0xFFFFFFFF ∧ m ≠ n) ∧
    (∃ (s : State) (n : Ch) (rising : Bool) (m : _), s.heard n = true ∧ s.modeOf n = .count ∧
      s.isSource n = false ∧ s.pairOf n = .none ∧ fld (s.cfgOf n).cntCfg 27 24 = 0 ∧ rising = false ∧ m ≠ n) ∧
    (∃ (s : State) (n : Ch) (m : _), s.heard n = true ∧ s.modeOf n = .count ∧ s.isSource n = false ∧
      s.pairOf n = .quad ∧ m ≠ n ∧ m ≠ mateOf n ∧ fld (s.cfgOf n).cntCfg 21 20 = 2) ∧
    (∃ (s : State) (n : Ch) (p : Ch) (m : _), s.modeOf n = .count ∧ s.dieUp (grpOf n) = true ∧
      s.pairOf n = .none ∧ fld (s.cfgOf n).cntCfg 27 24 = 2 ∧ s.indexedBy n = [p] ∧ fld
      (s.cfgOf p).cntCfg 17 16 = 1 ∧ (s.chan p).cnt.lastIdx = none ∧ s.isSource p = false ∧ m ≠ n ∧ m ≠ p) ∧
    (∃ (s : State) (n : Ch) (k : Nat) (span : Nat) (a : Nat), s.heard n = true ∧ s.modeOf n = .count ∧
      s.pairOf n = .none ∧ 2 ≤ k ∧ 0 < span ∧ a = (k - 1) * 80000000000 ∧ fld (s.cfgOf n).cntCfg 27 24 = 0) ∧
    (∃ (s : State) (n : Ch) (m : ChMeas) (k : _), s.heard n = true ∧ (s.chan n).cfgBusy = false ∧
      s.isSource n = false ∧ s.monitorReady (grpOf n) = true ∧ (s.modeOf n).isSwitch = true ∧
      (s.chan n).out.diag = false ∧ (-35000 ≤ m.termv.toInt * 2 ∧ m.termv.toInt * 2 ≤ 45000) ∧ k ≠ n) ∧
    (∃ (s : State) (n : Ch) (m : ChMeas) (k : _), s.heard n = true ∧ (s.chan n).cfgBusy = false ∧
      s.isSource n = false ∧ s.monitorReady (grpOf n) = true ∧ (s.modeOf n).isSwitch = true ∧
      (s.chan n).out.diag = false ∧ (m.termv.toInt * 2 < -35000 ∨ 45000 < m.termv.toInt * 2) ∧ k ≠ n) ∧
    (∃ (s : State) (n : Ch) (m : ChMeas) (k : _), s.heard n = true ∧ (s.chan n).cfgBusy = false ∧
      s.isSource n = false ∧ s.monitorReady (grpOf n) = true ∧ (s.modeOf n).isSwitch = true ∧
      (s.chan n).out.diag = true ∧ (-35000 ≤ m.termv.toInt * 2 ∧ m.termv.toInt * 2 ≤ 45000) ∧ k ≠ n) :=
  ⟨⟨ch2 .count fun c => { c with cnt := { c.cnt with edges := 0 }, cfg := { c.cfg with cntCfg := 0x00400128 } }, 2,
      3, by decide +kernel⟩,
    ⟨ch2 .count fun c => { c with
      cnt := { c.cnt with edges := 1 }, cfg := { c.cfg with cntCfg := 0x00400128 } }, 2, true, 5, 3,
      by decide +kernel⟩,
    ⟨ch2 .count fun c => { c with cfg := { c.cfg with cntCfg := 0x00400128 } }, 2, false, 3, by decide +kernel⟩,
    ⟨(pair2 .count .quad).modCh 2 fun c => { c with cfg := { c.cfg with cntCfg := 0x01600128 } }, 2, 4,
      by decide +kernel⟩,
    ⟨indexed, 4, 2, 5, by decide +kernel⟩,
    ⟨ch2 .count fun c => { c with cfg := { c.cfg with cntCfg := 0x00400128 } }, 2, 2, 1000, 80000000000,
      by decide +kernel⟩,
    ⟨sw2 .on id, 2,
      { termv := 22500, iload := 5, tj := 1, dtc := 2, iloop := 0, phase := 0, freq := 0, vrms := 0 }, 3,
      by decide +kernel⟩,
    ⟨sw2 .on id, 2,
      { termv := 22501, iload := 5, tj := 1, dtc := 2, iloop := 0, phase := 0, freq := 0, vrms := 0 }, 3,
      by decide +kernel⟩,
    ⟨sw2 .on fun o => { o with diag := true }, 2,
      { termv := 0, iload := 5, tj := 1, dtc := 2, iloop := 0, phase := 0, freq := 0, vrms := 0 }, 3,
      by decide +kernel⟩⟩

theorem wit_MainsAndLoops :
    (∃ (s : State) (n : Ch) (m : _), s.heard n = true ∧ s.modeOf n = .mainsSense ∧ s.isSource n = false ∧
      (s.chan n).mains.lock = false ∧ m ≠ n) ∧
    (∃ (s : State) (n : Ch), s.heard n = true ∧ s.modeOf n = .mainsSense ∧ s.isSource n = false ∧
      (s.chan n).mains.lock = true) ∧
    (∃ (s : State) (n : Ch) (m : _), s.heard n = true ∧ s.modeOf n = .mainsSense ∧ s.isSource n = false ∧
      (s.chan n).mains.lock = true ∧ (s.chan n).mains.holdover = true ∧ m ≠ n) ∧
    (∃ (s : State) (n : Ch), s.heard n = true ∧ s.modeOf n = .loopPwr ∧ (s.chan n).loop.on = true) ∧
    (∃ (s : State) (n : Ch), s.heard n = true ∧ s.modeOf n = .loopPwr ∧ (s.chan n).loop.ovlOff = true ∧ (s.group
      (grpOf n)).sup.uvlo = false ∧ (s.group (grpOf n)).sup.low = false) :=
  ⟨⟨ch2 .mainsSense fun c => { c with mains := { c.mains with lock := false, holdover := false } }, 2, 4,
      by decide +kernel⟩,
    ⟨ch2 .mainsSense fun c => { c with mains := { c.mains with lock := true, holdover := false } }, 2,
      by decide +kernel⟩,
    ⟨ch2 .mainsSense fun c => { c with mains := { c.mains with lock := true, holdover := true } }, 2, 4,
      by decide +kernel⟩,
    ⟨ch2 .loopPwr fun c => { c with loop := { c.loop with on := true } }, 2, by decide +kernel⟩,
    ⟨ch2 .loopPwr fun c => { c with loop := { c.loop with ovlOff := true } }, 2, by decide +kernel⟩⟩

theorem wit_Limiter :
    (∃ (s : State) (n : Ch), s.onState n = true ∧ (s.chan n).out.ps = .on ∧ s.isOdd n = false) ∧
    (∃ (s : State) (n : Ch), s.onState n = true ∧ (s.chan n).out.ps = .limit ∧ s.isOdd n = false) ∧
    (∃ (s : State) (n : Ch), s.onState n = true ∧ (s.chan n).out.ps = .inrush ∧ (s.chan n).out.frozen = false ∧
      s.isOdd n = false) ∧
    (∃ (s : State) (g : Grp) (ma : Nat) (n : _), grpOf n = g ∧ s.onState n = true ∧
      (s.chan n).out.ps = .inrush ∧ (s.chan n).out.frozen = false ∧ 18000 ≤ ma) ∧
    (∃ (s : State) (g : Grp) (ma : Nat) (n : _), grpOf n = g ∧ s.onState n = true ∧
      (s.chan n).out.ps = .inrush ∧ (s.chan n).out.frozen = false ∧ ma < 17000) ∧
    (∃ (s : State) (g : Grp) (ma : Nat) (n : _), grpOf n = g ∧ s.onState n = true ∧
      (s.chan n).out.ps = .inrush ∧ (s.chan n).out.frozen = false ∧ 17000 ≤ ma ∧ ma < 18000) ∧
    (∃ (s : State) (g : Grp) (ma : Nat), s.hostUp = true ∧ 6000 < ma ∧ (s.group g).sup.meanOver = false) ∧
    (∃ (s : State) (ma : Nat), s.hostUp = true ∧ ma ≤ 5700) ∧
    (∃ (s : State) (g : Grp) (ma : Nat), s.hostUp = true ∧ 5700 < ma ∧ (ma ≤ 6000 ∨
      (s.group g).sup.meanOver = true)) ∧
    (∃ (s : State) (g : Grp) (ma : Nat), s.hostUp = true ∧ 5700 < ma ∧ (ma ≤ 6000 ∨
      (s.group g).sup.meanOver = true)) ∧
    (∃ (s : State) (n : Ch), s.steadyOn n = true ∧ (s.cfgOf n).pwm = true ∧ (s.chan n).guard.held = false) :=
  ⟨⟨sw2 .on id, 2, by decide +kernel⟩,
    ⟨sw2 .limit id, 2, by decide +kernel⟩,
    ⟨sw2 .inrush id, 2, by decide +kernel⟩,
    ⟨sw2 .inrush fun o => { o with inrMa := 1000 }, 0, 18000, 2, by decide +kernel⟩,
    ⟨sw2 .inrush fun o => { o with inrMa := 1000 }, 0, 16999, 2, by decide +kernel⟩,
    ⟨sw2 .inrush fun o => { o with inrMa := 1000 }, 0, 17000, 2, by decide +kernel⟩,
    ⟨on, 0, 6001, by decide +kernel⟩,
    ⟨on, 5700, by decide +kernel⟩,
    ⟨on, 0, 5701, by decide +kernel⟩,
    ⟨sup0 on fun u => { u with meanOver := true }, 0, 6001, by decide +kernel⟩,
    ⟨(sw2 .on id).modCh 2 fun c => { c with cfg := { c.cfg with outCfg := c.cfg.outCfg ||| bitW 24 } }, 2,
      by decide +kernel⟩⟩

theorem wit_Diagnostics :
    (∃ (s : State) (n : Ch) (ma : Int), s.steadyOn n = true ∧ s.heard n = true ∧ (s.cfgOf n).inductive = false ∧
      ma < s.openLoadMa n ∧ (s.chan n).out.olCond = true) ∧
    (∃ (s : State) (n : Ch) (ma : Int), s.steadyOn n = true ∧ s.heard n = true ∧ (s.cfgOf n).inductive = false ∧
      ma < s.openLoadMa n) ∧
    (∃ (s : State) (n : Ch), s.onState n = true ∧ s.heard n = true ∧ (s.chan n).out.ps = .on ∧
      (s.chan n).out.olCond = true ∧ s.schedNow n = false ∧ (s.chan n).guard.held = false ∧ bit
      (s.cfgOf n).outDiag 23 = true ∧ (s.cfgOf n).inductive = false) ∧
    (∃ (s : State) (n : Ch), s.onState n = true ∧ s.heard n = true ∧ (s.chan n).out.diag = true) ∧
    (∃ (s : State) (n : Ch), s.onState n = true ∧ s.heard n = true ∧ (s.chan n).out.diag = true) ∧
    (∃ (s : State) (a : Ch) (b : Ch), s.heard a = true ∧ s.heard b = true ∧ (s.modeOf a).isSwitch = true ∧
      (s.modeOf b).isSwitch = true ∧ a ≠ b) ∧
    (∃ (s : State) (n : Ch), s.offState n = true ∧ s.heard n = true ∧ s.modeOf n = .doPp) ∧
    (∃ (s : State) (n : Ch), s.feat 10 = true ∧ s.steadyOn n = true ∧ s.heard n = true ∧
      (s.chan n).guard.held = false ∧ (s.chan n).out.learned = false) ∧
    (∃ (s : State) (n : Ch), s.feat 10 = true ∧ s.steadyOn n = true ∧ s.heard n = true ∧
      (s.chan n).guard.held = false ∧ (s.chan n).out.learned = true ∧ (s.chan n).out.base ≠ 0) :=
  ⟨⟨res2 .on fun o => { o with olCond := true }, 2, 0, by decide +kernel⟩,
    ⟨res2 .on id, 2, 0, by decide +kernel⟩,
    ⟨(res2 .on fun o => { o with olCond := true }).modCh 2 fun c => { c with
      cfg := { c.cfg with outDiag := c.cfg.outDiag ||| bitW 23 } }, 2, by decide +kernel⟩,
    ⟨res2 .on fun o => { o with olCond := true, diag := true }, 2, by decide +kernel⟩,
    ⟨res2 .on fun o => { o with olCond := true, diag := true }, 2, by decide +kernel⟩,
    ⟨(sw2 .on id).modCh 3 fun c => { c with cfg := { c.cfg with mode := .doHs }, actMode := .doHs }, 2, 3,
      by decide +kernel⟩,
    ⟨ch2 .doPp id, 2, by decide +kernel⟩,
    ⟨sw2 .on id, 2, by decide +kernel⟩,
    ⟨sw2 .on fun o => { o with learned := true, base := 100 }, 2, by decide +kernel⟩⟩

theorem wit_Trips :
    (∃ (s : State) (n : Ch), s.heard n = true ∧ s.onState n = true ∧ bit (s.chan n).fault 28 = false ∧
      s.steadyOn n = true ∧ (s.chan n).out.diag = false) ∧
    (∃ (s : State) (n : Ch), s.heard n = true ∧ s.onState n = true ∧ bit (s.chan n).fault 28 = true ∧
      s.steadyOn n = true ∧ (s.chan n).out.diag = false) ∧
    (∃ (s : State) (n : Ch), s.heard n = true ∧ s.onState n = true ∧ bit (s.chan n).fault 28 = false ∧
      s.steadyOn n = true ∧ (s.chan n).out.diag = false) ∧
    (∃ (s : State) (n : Ch), s.heard n = true ∧ (s.modeOf n).isSwitch = true ∧ (s.chan n).out.ps = .tripWait ∧
      s.pw.window = none ∧ (s.chan n).guard.held = false ∧ (s.chan n).out.polOn = false ∧
      (s.chan n).out.due ≤ s.time ∧ s.vfReady (grpOf n) = true ∧ s.cooled n = true ∧ s.schedNow n = false) ∧
    (∃ (s : State) (n : Ch), s.heard n = true ∧ (s.modeOf n).isSwitch = true ∧ (s.chan n).out.ps = .tripWait ∧
      s.pw.window = none ∧ (s.chan n).guard.held = false ∧ (s.chan n).out.polOn = false ∧
      (s.chan n).out.due ≤ s.time ∧ s.vfReady (grpOf n) = true ∧ s.cooled n = false ∧ (s.chan n).out.defer ≠ 7) ∧
    (∃ (s : State) (n : Ch), s.heard n = true ∧ (s.modeOf n).isSwitch = true ∧ (s.chan n).out.ps = .tripWait ∧
      s.pw.window = none ∧ (s.chan n).guard.held = false ∧ (s.chan n).out.polOn = false ∧
      (s.chan n).out.due ≤ s.time ∧ s.vfReady (grpOf n) = true ∧ s.cooled n = false ∧ (s.chan n).out.defer = 7) ∧
    (∃ (s : State) (n : Ch), s.heard n = true ∧ (s.modeOf n).isSwitch = true ∧ (s.chan n).out.ps = .tripWait ∧
      s.pw.window = none ∧ (s.chan n).guard.held = false ∧ (s.chan n).out.polOn = false ∧
      (s.chan n).out.due ≤ s.time ∧ s.vfReady (grpOf n) = false) ∧
    (∃ (s : State) (n : Ch), s.heard n = true ∧ (s.modeOf n).isSwitch = true ∧ (s.chan n).out.ps = .tripWait ∧
      s.pw.window = none ∧ (s.chan n).guard.held = false ∧ (s.chan n).out.polOn = false ∧
      (s.chan n).out.due ≤ s.time ∧ s.vfReady (grpOf n) = true ∧ s.cooled n = true ∧ s.schedNow n = true) :=
  ⟨⟨sw2 .on id, 2, by decide +kernel⟩,
    ⟨(sw2 .on fun o => { o with retryUsed := 15 }).modCh 2 fun c => { c with fault := bitW 28 }, 2,
      by decide +kernel⟩,
    ⟨guard0 ((sw2 .on id).modCh 2 fun c => { c with guard := { c.guard with held := true } }), 2,
      by decide +kernel⟩,
    ⟨sw2 .tripWait fun o => { o with cool := true, defer := 0 }, 2, by decide +kernel⟩,
    ⟨sw2 .tripWait fun o => { o with cool := false, defer := 6 }, 2, by decide +kernel⟩,
    ⟨sw2 .tripWait fun o => { o with cool := false, defer := 7 }, 2, by decide +kernel⟩,
    ⟨sup0 (sw2 .tripWait id) fun u => { u with above := false }, 2, by decide +kernel⟩,
    ⟨ticking (sw2 .tripWait fun o => { o with cool := true }) (cell 4 0 false), 2, by decide +kernel⟩⟩

theorem wit_Shedding :
    (∃ (s : State) (g : Grp), s.feat 11 = true ∧ (s.group g).link.failed = false ∧ s.pw.window = none ∧
      s.lowestPri (s.sheddable (chOf g)) ((s.group g).sup.shedLevel.getD 0) = none) ∧
    (∃ (s : State) (g : Grp) (p : _) (n : _), s.feat 11 = true ∧ (s.group g).link.failed = false ∧
      s.pw.window = none ∧ s.lowestPri (s.sheddable (chOf g)) ((s.group g).sup.shedLevel.getD 0) = some p ∧
      n ∈ s.sheddable (chOf g) ∧ (s.cfgOf n).shedPri = p ∧ bit (s.cfgOf n).outPol 30 = false ∧
      (s.chan n).out.hostOn = true) ∧
    (∃ (s : State) (g : Grp) (p : _) (n : _), s.feat 11 = true ∧ (s.group g).link.failed = false ∧
      s.pw.window = none ∧ s.lowestPri (s.sheddable (chOf g)) ((s.group g).sup.shedLevel.getD 0) = some p ∧
      n ∈ s.sheddable (chOf g) ∧ (s.cfgOf n).shedPri = p ∧ bit (s.cfgOf n).outPol 30 = true) ∧
    (∃ (s : State) (g : Grp) (p : _) (n : _), s.feat 11 = true ∧ (s.group g).link.failed = false ∧
      s.pw.window = none ∧ s.lowestPri (s.sheddable (chOf g)) ((s.group g).sup.shedLevel.getD 0) = some p ∧
      n ∈ s.sheddable (chOf g) ∧ (s.cfgOf n).shedPri ≠ p) ∧
    (∃ (s : State) (g : Grp) (p : _) (n : _), s.feat 11 = true ∧ (s.group g).link.failed = false ∧
      s.pw.window = none ∧ s.lowestPri (s.sheddable (chOf g)) ((s.group g).sup.shedLevel.getD 0) = some p ∧
      grpOf n ≠ g) ∧
    (∃ (s : State) (g : Grp) (l : List Ch), (s.group g).link.failed = false ∧ s.pw.window = none ∧ l =
      (chOf g).filter (fun n => (s.chan n).out.shedDie && !s.isOdd n) ∧ l = []) ∧
    (∃ (s : State) (g : Grp) (l : List Ch) (n : _), (s.group g).link.failed = false ∧ s.pw.window = none ∧ l =
      (chOf g).filter (fun n => (s.chan n).out.shedDie && !s.isOdd n) ∧ l ≠ [] ∧ s.hostUp = true ∧ n ∈ l ∧
      (s.cfgOf n).shedPri = s.highestPri l ∧ (s.chan n).out.shedEnv = false ∧ (s.chan n).out.ps = .shed) ∧
    (∃ (s : State) (g : Grp) (l : List Ch) (n : _), (s.group g).link.failed = false ∧ s.pw.window = none ∧ l =
      (chOf g).filter (fun n => (s.chan n).out.shedDie && !s.isOdd n) ∧ l ≠ [] ∧ s.hostUp = true ∧ grpOf n ≠ g) ∧
    (∃ (s : State) (n : Ch) (m : _), s.heard n = true ∧ (s.modeOf n).isSwitch = true ∧
      (s.chan n).out.ps = .pend ∧ s.vfReady (grpOf n) = true ∧ (s.group (grpOf n)).sup.recovering = false ∧
      (s.chan n).guard.held = false ∧ (s.chan n).out.turn = false ∧ (s.pairOf n ≠ .parallel ∨ (s.chan
      (mateOf n)).out.cool = true) ∧ grpOf m ≠ grpOf n) ∧
    (∃ (s : State) (pmod : BitVec 16) (p : _) (n : _), s.hostUp = true ∧ s.pw.window = none ∧
      s.pw.env.toNat < pmod.toNat ∧ s.feat 11 = true ∧ s.pw.envOver = false ∧ s.lowestPri (s.sheddable allCh)
      (s.pw.envLevel.getD 0) = some p ∧ n ∈ s.sheddable allCh ∧ (s.cfgOf n).shedPri = p ∧ bit
      (s.cfgOf n).outPol 30 = false) ∧
    (∃ (s : State) (pmod : BitVec 16) (p : _) (n : _), s.hostUp = true ∧ s.pw.window = none ∧
      s.pw.env.toNat < pmod.toNat ∧ s.feat 11 = true ∧ s.lowestPri (s.sheddable allCh)
      (s.pw.envLevel.getD 0) = some p ∧ n ∈ s.sheddable allCh ∧ (s.cfgOf n).shedPri = p ∧ bit
      (s.cfgOf n).outPol 30 = false) ∧
    (∃ (s : State) (pmod : BitVec 16), s.hostUp = true ∧ s.pw.window = none ∧ s.pw.env.toNat < pmod.toNat ∧
      s.feat 11 = false ∧ s.pw.envOver = true) ∧
    (∃ (s : State) (pmod : BitVec 16), s.hostUp = true ∧ s.pw.window = none ∧ s.pw.env.toNat < pmod.toNat ∧
      s.feat 11 = false ∧ s.pw.envOver = false) ∧
    (∃ (s : State) (pmod : BitVec 16), s.hostUp = true ∧ s.pw.window = none ∧
      pmod.toNat + 500 < s.pw.env.toNat ∧ (∀ n, (s.chan n).out.shedEnv = false)) :=
  ⟨⟨(sw2 .on fun o => { o with hostOn := true }).modCh 2 fun c => { c with
      cfg := { c.cfg with outPol := 0x203190E0#32 } }, 0, by decide +kernel⟩,
    ⟨(sw2 .on fun o => { o with hostOn := true }).modCh 2 fun c => { c with
      cfg := { c.cfg with outPol := 0x20319000#32 } }, 0, 0, 2, by decide +kernel⟩,
    ⟨(sw2 .on fun o => { o with hostOn := true }).modCh 2 fun c => { c with
      cfg := { c.cfg with outPol := 0x60319000#32 } }, 0, 0, 2, by decide +kernel⟩,
    ⟨((sw2 .on id).modCh 2 fun c => { c with cfg := { c.cfg with outPol := 0x20319000#32 } }).modCh 3 fun c =>
      { c with cfg := { c.cfg with mode := .doHs, outPol := 0x20319020#32 }, actMode := .doHs, out := { c.out with ps := .on } },
      0, 0, 3, by decide +kernel⟩,
    ⟨(sw2 .on fun o => { o with hostOn := true }).modCh 2 fun c => { c with
      cfg := { c.cfg with outPol := 0x20319000#32 } }, 0, 0, 8, by decide +kernel⟩,
    ⟨on, 0, [], by decide +kernel⟩,
    ⟨sw2 .shed fun o => { o with shedDie := true }, 0, [2], 2, by decide +kernel⟩,
    ⟨sw2 .shed fun o => { o with shedDie := true }, 0, [2], 8, by decide +kernel⟩,
    ⟨sw2 .pend fun o => { o with cool := false }, 2, 8, by decide +kernel⟩,
    ⟨(sw2 .on fun o => { o with hostOn := true }).modCh 2 fun c => { c with
      cfg := { c.cfg with outPol := 0x20319000#32 } }, 0x2329, 0, 2, by decide +kernel⟩,
    ⟨{ (sw2 .on fun o => { o with hostOn := true }).modCh 2 fun c => { c with cfg := { c.cfg with outPol := 0x20319000#32 } } with
      pw.envOver := true }, 0x2329, 0, 2, by decide +kernel⟩,
    ⟨{ on with sec.acc := 0, pw.envOver := true }, 0x2329, by decide +kernel⟩,
    ⟨{ on with sec.acc := 0, pw.envOver := false }, 0x2329, by decide +kernel⟩,
    ⟨on, 8499, by decide +kernel⟩⟩

theorem wit_Supply :
    (∃ (s : State) (g : Grp) (vf : BitVec 16) (up : _) (n : _), s.inTouch g = true ∧ up = decide
      (13500 ≤ vf.toNat) ∧ (s.group g).sup.warn = false ∧ grpOf n ≠ g ∧ (s.vfReady g = true ∨ up = false) ∧
      (s.group g).sup.low = false ∧ (s.group g).sup.uvlo = false ∧ s.comb.active = none ∧ s.comb.jobs = []) ∧
    (∃ (s : State) (g : Grp) (vf : BitVec 16) (up : _) (n : _), s.inTouch g = true ∧ up = decide
      (13500 ≤ vf.toNat) ∧ (s.group g).sup.warn = false ∧ grpOf n ≠ g ∧ (s.vfReady g = true ∨ up = false) ∧
      (s.group g).sup.low = false ∧ (s.group g).sup.uvlo = false ∧ s.comb.active = none ∧ s.comb.jobs = []) ∧
    (∃ (s : State) (g : Grp) (vf : BitVec 16) (up : _) (n : _), s.inTouch g = true ∧ up = decide
      (13500 ≤ vf.toNat) ∧ (s.group g).sup.warn = true ∧ (s.group g).sup.low = false ∧
      (s.group g).sup.uvlo = false ∧ grpOf n ≠ g ∧ (s.vfReady g = true ∨ up = false) ∧ s.comb.active = none ∧
      s.comb.jobs = []) ∧
    (∃ (s : State) (g : Grp) (vf : BitVec 16) (up : _) (n : _), s.inTouch g = true ∧ up = decide
      (13500 ≤ vf.toNat) ∧ (s.group g).sup.warn = true ∧ (s.group g).sup.low = false ∧
      (s.group g).sup.uvlo = false ∧ grpOf n ≠ g ∧ (s.vfReady g = true ∨ up = false) ∧ s.comb.active = none ∧
      s.comb.jobs = []) ∧
    (∃ (s : State) (g : Grp) (vf : BitVec 16) (up : _) (n : _) (high : _), s.inTouch g = true ∧ up = decide
      (13500 ≤ vf.toNat) ∧ (s.group g).sup.warn = false ∧ grpOf n ≠ g ∧ (s.vfReady g = true ∨ up = false) ∧
      (s.group g).sup.high ≠ high ∧ (s.group g).sup.low = false ∧ (s.group g).sup.uvlo = false ∧
      s.comb.active = none ∧ s.comb.jobs = []) ∧
    (∃ (s : State) (g : Grp) (vf : BitVec 16) (up : _) (n : _) (high : _), s.inTouch g = true ∧ up = decide
      (13500 ≤ vf.toNat) ∧ (s.group g).sup.warn = false ∧ grpOf n ≠ g ∧ (s.vfReady g = true ∨ up = false) ∧
      (s.group g).sup.high ≠ high ∧ (s.group g).sup.low = false ∧ (s.group g).sup.uvlo = false ∧
      s.comb.active = none ∧ s.comb.jobs = []) ∧
    (∃ (s : State) (g : Grp) (vf : BitVec 16) (up : _) (n : _), s.inTouch g = true ∧ up = decide
      (13500 ≤ vf.toNat) ∧ (s.group g).sup.warn = false ∧ grpOf n ≠ g ∧ (s.vfReady g = true ∨ up = false) ∧
      (s.group g).sup.low = false ∧ (s.group g).sup.uvlo = false ∧ s.comb.active = none ∧ s.comb.jobs = []) ∧
    (∃ (s : State) (g : Grp) (vf : BitVec 16) (up : _) (n : _), s.inTouch g = true ∧ up = decide
      (13500 ≤ vf.toNat) ∧ (s.group g).sup.warn = false ∧ grpOf n ≠ g ∧ (s.group g).sup.low = false ∧
      (s.group g).sup.uvlo = false ∧ s.comb.active = none ∧ s.comb.jobs = []) ∧
    (∃ (s : State) (g : Grp) (vf : BitVec 16) (up : _) (n : _), s.inTouch g = true ∧ up = decide
      (13500 ≤ vf.toNat) ∧ (s.group g).sup.warn = true ∧ (s.group g).sup.low = false ∧
      (s.group g).sup.uvlo = false ∧ grpOf n ≠ g ∧ (s.vfReady g = true ∨ up = false) ∧ s.comb.active = none ∧
      s.comb.jobs = []) ∧
    (∃ (s : State) (g : Grp) (vf : BitVec 16) (up : _) (n : _), s.inTouch g = true ∧ up = decide
      (13500 ≤ vf.toNat) ∧ (s.group g).sup.warn = true ∧ (s.group g).sup.low = false ∧
      (s.group g).sup.uvlo = false ∧ grpOf n ≠ g ∧ s.comb.active = none ∧ s.comb.jobs = []) ∧
    (∃ (s : State) (g : Grp) (vf : BitVec 16) (up : _) (n : _) (high : _), s.inTouch g = true ∧ up = decide
      (13500 ≤ vf.toNat) ∧ (s.group g).sup.warn = false ∧ grpOf n ≠ g ∧ (s.vfReady g = true ∨ up = false) ∧
      (s.group g).sup.high ≠ high ∧ (s.group g).sup.low = false ∧ (s.group g).sup.uvlo = false ∧
      s.comb.active = none ∧ s.comb.jobs = []) ∧
    (∃ (s : State) (g : Grp) (vf : BitVec 16) (up : _) (n : _) (high : _), s.inTouch g = true ∧ up = decide
      (13500 ≤ vf.toNat) ∧ (s.group g).sup.warn = false ∧ grpOf n ≠ g ∧ (s.vfReady g = true ∨ up = false) ∧
      (s.group g).sup.high ≠ high ∧ (s.group g).sup.low = false ∧ (s.group g).sup.uvlo = false ∧
      s.comb.active = none ∧ s.comb.jobs = []) ∧
    (∃ (s : State) (g : Grp) (n : _), s.inTouch g = true ∧ (s.group g).sup.low = false ∧ grpOf n = g ∧
      s.onState n = true ∧ (s.chan n).out.ps = .inrush) ∧
    (∃ (s : State) (g : Grp) (n : _), s.inTouch g = true ∧ (s.group g).sup.uvlo = false ∧ grpOf n = g ∧
      s.isOdd n = false ∧ (s.modeOf n).isSwitch = true ∧ ((s.chan n).out.ps.isOn = true ∨
      (s.chan n).out.ps = .pend)) ∧
    (∃ (s : State) (g : Grp) (n : _), s.inTouch g = true ∧ (s.group g).sup.uvlo = false ∧ grpOf n = g ∧
      s.isOdd n = false ∧ (s.modeOf n).isSwitch = true ∧ ((s.chan n).out.ps.isOn = true ∨
      (s.chan n).out.ps = .pend)) ∧
    (∃ (s : State) (g : Grp), s.inTouch g = true) ∧
    (∃ (s : State) (g : Grp) (n : _), s.inTouch g = true ∧ (s.group g).sup.low = true ∧ grpOf n ≠ g) ∧
    (∃ (s : State) (g : Grp) (n : _) (m : _), s.inTouch g = true ∧ (s.group g).sup.recovering = true ∧
      s.clearOn g = true ∧ s.nextTurn g = some n ∧ (s.modeOf n).isSwitch = true ∧
      (s.chan n).out.ps ≠ .tripWait ∧ grpOf m ≠ g) ∧
    (∃ (s : State) (g : Grp) (n : _), s.inTouch g = true ∧ s.comb.active = none ∧ s.comb.jobs = [] ∧
      grpOf n = g ∧ s.pairOf n ≠ .parallel ∧ (s.chan n).out.ps = .tripWait) ∧
    (∃ (s : State) (g : Grp) (n : _), s.inTouch g = true ∧ s.comb.active = none ∧ s.comb.jobs = [] ∧
      grpOf n ≠ g) ∧
    (∃ (s : State) (g : Grp), (s.group g).sup.ready = false ∧ (s.group g).link.failed = false ∧ s.hostUp = true) ∧
    (∃ (s : State) (g : Grp), (s.group g).sup.ready = false ∧ (s.group g).link.failed = false ∧ s.hostUp = true) :=
  ⟨⟨on, 0, 13000, decide (13500 ≤ (13000#16).toNat), 8, by decide +kernel⟩,
    ⟨sup0 on fun u => { u with above := false }, 0, 13000, decide (13500 ≤ (13000#16).toNat), 8,
      by decide +kernel⟩,
    ⟨sup0 on fun u => { u with warn := true }, 0, 13000, decide (13500 ≤ (13000#16).toNat), 8,
      by decide +kernel⟩,
    ⟨sup0 on fun u => { u with warn := true, above := false }, 0, 13000, decide (13500 ≤ (13000#16).toNat), 8,
      by decide +kernel⟩,
    ⟨sup0 on fun u => { u with high := !true }, 0, 13000, decide (13500 ≤ (13000#16).toNat), 8, true,
      by decide +kernel⟩,
    ⟨sup0 on fun u => { u with high := !false }, 0, 13000, decide (13500 ≤ (13000#16).toNat), 8, false,
      by decide +kernel⟩,
    ⟨on, 0, 13500, decide (13500 ≤ (13500#16).toNat), 8, by decide +kernel⟩,
    ⟨sup0 on fun u => { u with above := false }, 0, 13500, decide (13500 ≤ (13500#16).toNat), 8,
      by decide +kernel⟩,
    ⟨sup0 on fun u => { u with warn := true }, 0, 13500, decide (13500 ≤ (13500#16).toNat), 8,
      by decide +kernel⟩,
    ⟨sup0 on fun u => { u with warn := true, above := false }, 0, 13500, decide (13500 ≤ (13500#16).toNat), 8,
      by decide +kernel⟩,
    ⟨sup0 on fun u => { u with high := !true }, 0, 13500, decide (13500 ≤ (13500#16).toNat), 8, true,
      by decide +kernel⟩,
    ⟨sup0 on fun u => { u with high := !false }, 0, 13500, decide (13500 ≤ (13500#16).toNat), 8, false,
      by decide +kernel⟩,
    ⟨sw2 .inrush id, 0, 2, by decide +kernel⟩,
    ⟨sw2 .on id, 0, 2, by decide +kernel⟩,
    ⟨sw2 .pend id, 0, 2, by decide +kernel⟩,
    ⟨sup0 on fun u => { u with uvlo := true, low := true, dark := true, above := false }, 0, by decide +kernel⟩,
    ⟨sup0 (sw2 .uvloOff id) fun u => { u with
      uvlo := true, low := true, warn := true, dark := true, above := false }, 0, 8, by decide +kernel⟩,
    ⟨sup0 (sw2 .uvloOff fun o => { o with turn := true }) fun u => { u with recovering := true }, 0, 2, 8,
      by decide +kernel⟩,
    ⟨sw2 .tripWait id, 0, 2, by decide +kernel⟩,
    ⟨sw2 .tripWait id, 0, 8, by decide +kernel⟩,
    ⟨sup0 on fun u => { u with ready := false }, 0, by decide +kernel⟩,
    ⟨sup0 on fun u => { u with ready := false }, 0, by decide +kernel⟩⟩

theorem wit_AnalogueRows :
    (∃ (s : State) (n : Ch) (mv : Int) (tone : Int) (lo : _) (hi : _) (m : _), s.railServed n = true ∧ lo = min
      (min (s.chan n).ao.rail (s.railLimit n)) (s.railReach n (s.railTarget n mv tone)) ∧ hi = max (min
      (s.chan n).ao.rail (s.railLimit n)) (s.railReach n (s.railTarget n mv tone)) ∧ s.schedNow n = false ∧
      m ≠ n) ∧
    (∃ (s : State) (n : Ch) (mv : Int) (tone : Int) (lo : _) (hi : _) (m : _), s.railServed n = true ∧ lo = min
      (min (s.chan n).ao.rail (s.railLimit n)) (s.railReach n (s.railTarget n mv tone)) ∧ hi = max (min
      (s.chan n).ao.rail (s.railLimit n)) (s.railReach n (s.railTarget n mv tone)) ∧ s.schedNow n = true ∧
      (s.chan n).ao.railAt + 200 * micro ≤ s.time ∧ m ≠ n) ∧
    (∃ (s : State) (n : Ch) (m : AoMeas), s.heard n = true ∧ (s.modeOf n).isAo = true ∧ s.modeOf n = .aoISrc ∧
      (s.chan n).ao.blocked = false ∧ (s.chan n).ao.off = false ∧ s.supplied n = true ∧ m.railAtLimit = true ∧
      (m.mean + 24) * 65535 < ((s.chan n).ao.code.toNat * 24000 : Nat) ∧ 1000 * 65535 ≤
      (s.chan n).ao.code.toNat * 24000 ∧ m.mean < 100) ∧
    (∃ (s : State) (n : Ch), s.heard n = true ∧ (s.modeOf n).isAo = true ∧ s.modeOf n = .aoISrc ∧
      (s.chan n).ao.retest = true ∧ (s.chan n).ao.miswire = true ∧ (s.chan n).ao.therm = true) ∧
    (∃ (s : State) (n : Ch), s.heard n = true ∧ s.modeOf n = .aiI ∧ (s.chan n).ai.senseOpen = false) :=
  ⟨⟨ch2 .aoISrc fun c => { c with ao := { c.ao with code := 0xFFFF } }, 2, 4000, 4000, min (min
      ((ch2 .aoISrc fun c => { c with ao := { c.ao with code := 0xFFFF } }).chan 2).ao.rail
      ((ch2 .aoISrc fun c => { c with ao := { c.ao with code := 0xFFFF } }).railLimit 2)) ((ch2 .aoISrc fun c =>
      { c with ao := { c.ao with code := 0xFFFF } }).railReach 2 ((ch2 .aoISrc fun c => { c with
      ao := { c.ao with code := 0xFFFF } }).railTarget 2 4000 4000)), max (min ((ch2 .aoISrc fun c => { c with
      ao := { c.ao with code := 0xFFFF } }).chan 2).ao.rail ((ch2 .aoISrc fun c => { c with
      ao := { c.ao with code := 0xFFFF } }).railLimit 2)) ((ch2 .aoISrc fun c => { c with
      ao := { c.ao with code := 0xFFFF } }).railReach 2 ((ch2 .aoISrc fun c => { c with
      ao := { c.ao with code := 0xFFFF } }).railTarget 2 4000 4000)), 3, by decide +kernel⟩,
    ⟨after 1 (ticking (ch2 .aoISrc id) (cell 0x09 0 false)), 2, 4000, 4000, min (min ((after 1 (ticking
      (ch2 .aoISrc id) (cell 0x09 0 false))).chan 2).ao.rail ((after 1 (ticking (ch2 .aoISrc id)
      (cell 0x09 0 false))).railLimit 2)) ((after 1 (ticking (ch2 .aoISrc id) (cell 0x09 0 false))).railReach 2
      ((after 1 (ticking (ch2 .aoISrc id) (cell 0x09 0 false))).railTarget 2 4000 4000)), max (min ((after 1
      (ticking (ch2 .aoISrc id) (cell 0x09 0 false))).chan 2).ao.rail ((after 1 (ticking (ch2 .aoISrc id)
      (cell 0x09 0 false))).railLimit 2)) ((after 1 (ticking (ch2 .aoISrc id) (cell 0x09 0 false))).railReach 2
      ((after 1 (ticking (ch2 .aoISrc id) (cell 0x09 0 false))).railTarget 2 4000 4000)), 3, by decide +kernel⟩,
    ⟨ch2 .aoISrc fun c => { c with ao := { c.ao with code := 0xFFFF } }, 2,
      { mean := 50, millivolts := 4160, railAtLimit := true, settled := true, deviates := false, limiting := false },
      by decide +kernel⟩,
    ⟨ch2 .aoISrc fun c => { c with ao := { c.ao with miswire := true, retest := true, therm := true } }, 2,
      by decide +kernel⟩,
    ⟨ch2 .aiI id, 2, by decide +kernel⟩⟩

theorem wit_SwarmMessages :
    (∃ (s : State) (src : Addr) (tag : BitVec 8) (w : Word) (v : Word) (u : _), u = (((s.swarmIn
      (src == 0) true).endMsg [.control] src tag 1 false).1).wake ∧ s.isNode = true ∧ s.swarmCore = true ∧
      s.pw.window = none ∧ opcodeOf w = 3 ∧ (∀ k ∈ s.sw.kept, k.1 ≠ src) ∧ (∀ o ∈ s.port.outst,
      o.sender = .host) ∧ (∀ x ∈ s.sw.lostMsgs, x.2.1 ≠ src) ∧ u.refusal (.swarm src) getObjSpec 0
      (w.setWidth 24) [] = none ∧ objIndex (w.setWidth 24) ≠ 0xD08 ∧ objIndex (w.setWidth 24) ≠ 0xD09 ∧
      u.readObj (objIndex (w.setWidth 24)) = some v ∧ src = 0) ∧
    (∃ (s : State) (src : Addr) (tag : BitVec 8) (w : Word) (v : Word) (u : _), u = (((s.swarmIn
      (src == 0) true).endMsg [.control] src tag 1 false).1).wake ∧ s.isNode = true ∧ s.swarmCore = true ∧
      s.pw.window = none ∧ opcodeOf w = 3 ∧ (∀ k ∈ s.sw.kept, k.1 ≠ src) ∧ (∀ o ∈ s.port.outst,
      o.sender = .host) ∧ (∀ x ∈ s.sw.lostMsgs, x.2.1 ≠ src) ∧ u.refusal (.swarm src) getObjSpec 0
      (w.setWidth 24) [] = none ∧ objIndex (w.setWidth 24) ≠ 0xD08 ∧ objIndex (w.setWidth 24) ≠ 0xD09 ∧
      u.readObj (objIndex (w.setWidth 24)) = some v) ∧
    (∃ (s : State) (src : Addr) (tag : BitVec 8) (o : Outst), s.isRoot = true ∧ s.swarmCore = true ∧
      s.leavingKey (routeKey tag) = false ∧ (∀ x ∈ s.sw.lostMsgs, x.2.1 ≠ src) ∧ (s.port.outst.find? fun x =>
      x.key == routeKey tag && !x.answered) = some o ∧ o.sender = .host ∧ o.opcode = 0x31) ∧
    (∃ (s : State) (src : Addr) (recs : List EvRecord) (n : Nat), s.isRoot = true ∧ s.swarmCore = true ∧
      (∀ x ∈ s.sw.lostMsgs, x.2.1 ≠ src) ∧ n = 256 - s.sw.revq.length ∧ recs ≠ [] ∧ recs.length ≤ n) ∧
    (∃ (s : State) (src : Addr) (recs : List EvRecord) (n : Nat), s.isRoot = true ∧ s.swarmCore = true ∧
      (∀ x ∈ s.sw.lostMsgs, x.2.1 ≠ src) ∧ n = 256 - s.sw.revq.length ∧ recs ≠ [] ∧ n = 0 ∧
      s.spaced s.sw.lastEv103 (10 * milli) = true) ∧
    (∃ (s : State) (src : Addr) (n : Nat), s.isRoot = true ∧ s.swarmCore = true ∧ (∀ x ∈ s.sw.lostMsgs,
      x.2.1 ≠ src) ∧ n = 256 - s.sw.revq.length) ∧
    (∃ (s : State) (tag : BitVec 8) (k : Fin 128) (j : Fin 128), s.isNode = true ∧ s.swarmCore = true ∧
      (∀ x ∈ s.sw.foreign, x.1 ≠ tag) ∧ s.sw.offer = [s.eventRecord k] ∧ j ≠ k ∧ s.sw.addrv = true ∧
      s.sw.offer ≠ []) ∧
    (∃ (s : State) (tag : BitVec 8) (d : _), s.isNode = true ∧ s.swarmCore = true ∧ (tag, d) ∈ s.sw.foreign) ∧
    (∃ (s : State) (src : Addr) (e : QEntry), s.isRoot = true ∧ s.swarmOn = true ∧ s.hostUp = true ∧
      (∀ x ∈ s.sw.lostMsgs, x.2.1 ≠ src) ∧ s.res.poll.fill + s.res.poll.need
      (relayed src e) 0 ≤ s.res.sizeOf false) :=
  ⟨⟨node, 0, 7, 0x03000000, ((((node.swarmIn true true).endMsg [.control] 0 7 1 false).1).wake.readObj 0).getD 0,
      (((node.swarmIn true true).endMsg [.control] 0 7 1 false).1).wake, rfl, by decide +kernel⟩,
    ⟨node, 9, 7, 0x03000000,
      ((((node.swarmIn false true).endMsg [.control] 9 7 1 false).1).wake.readObj 0).getD 0,
      (((node.swarmIn false true).endMsg [.control] 9 7 1 false).1).wake, rfl, by decide +kernel⟩,
    ⟨asking, 5, 7, asked false, by decide +kernel⟩,
    ⟨root, 5, [node.eventRecord 0], 256, by decide +kernel⟩,
    ⟨{ root with sw.revq := List.replicate 256 (5, node.eventRecord 0) }, 5, [node.eventRecord 0], 0,
      by decide +kernel⟩,
    ⟨{ root with sw.revq := List.replicate 255 (5, node.eventRecord 0) }, 5, 1, by decide +kernel⟩,
    ⟨{ node with sw.offer := [node.eventRecord 126] }, 7, 126, 3, by decide +kernel⟩,
    ⟨{ node with sw.foreign := [(7, 0)] }, 7, 0, by decide +kernel⟩,
    ⟨root, 5, entryQ, by decide +kernel⟩⟩

theorem wit_SwarmBeats :
    (∃ (s : State) (x : Trigger), s.swarmOn = true ∧ s.hostUp = true ∧ s.sw.st.toNat < x.st.toNat ∧
      s.sw.trigs.length < 8) ∧
    (∃ (s : State) (x : Trigger), s.swarmOn = true ∧ s.hostUp = true ∧ s.sw.st.toNat < x.st.toNat ∧
      8 ≤ s.sw.trigs.length) ∧
    (∃ (s : State) (x : Trigger), s.swarmOn = true ∧ s.hostUp = true ∧ x.st.toNat ≤ s.sw.st.toNat) ∧
    (∃ (s : State) (x : Trigger), s.swarmOn = true ∧ s.hostUp = true ∧ x ∈ s.sw.trigs ∧
      x.st.toNat ≤ s.sw.st.toNat ∧ x.snap = false ∧ (s.isNode = false ∨ s.sw.synced = true) ∧ x.capture = true ∧
      fld s.res.cap.cfg 29 27 = 3 ∧ s.res.cap.state = .armed) ∧
    (∃ (s : State) (x : Trigger), s.swarmOn = true ∧ s.hostUp = true ∧ x ∈ s.sw.trigs ∧
      x.st.toNat ≤ s.sw.st.toNat ∧ x.snap = false ∧ (s.isNode = false ∨ s.sw.synced = true) ∧ x.capture = false) ∧
    (∃ (s : State) (x : Trigger), s.swarmOn = true ∧ s.hostUp = true ∧ x ∈ s.sw.trigs ∧
      x.st.toNat ≤ s.sw.st.toNat ∧ x.snap = false ∧ (s.isNode = false ∨ s.sw.synced = true)) ∧
    (∃ (s : State) (x : Trigger), s.swarmOn = true ∧ s.hostUp = true ∧ x ∈ s.sw.trigs ∧
      x.st.toNat ≤ s.sw.st.toNat ∧ x.snap = false ∧ s.isNode = true ∧ s.sw.synced = false) ∧
    (∃ (s : State), s.isRoot = true ∧ s.swarmOn = true ∧ s.hostUp = true ∧ s.feat 4 = true ∧
      s.sw.heartbeatDue = true ∧ s.spaced s.sw.lastHeartbeat (50 * micro) = true) ∧
    (∃ (s : State), s.isRoot = true ∧ s.swarmOn = true ∧ s.hostUp = true ∧ s.feat 4 = true ∧
      s.sw.heartbeatDue = true ∧ s.spaced s.sw.lastHeartbeat (50 * micro) = false) ∧
    (∃ (s : State), s.isNode = true ∧ s.swarmOn = true ∧ s.hostUp = true ∧ s.pw.neg = true) :=
  ⟨⟨root, trig 1, by decide +kernel⟩,
    ⟨{ root with sw.trigs := List.replicate 8 (trig 0) }, trig 1, by decide +kernel⟩,
    ⟨root, trig 0, by decide +kernel⟩,
    ⟨{ root with sw := { root.sw with trigs := [trig 0], syncEn := true }, res := capWaits.res }, trig 0,
      by decide +kernel⟩,
    ⟨{ root with sw := { root.sw with trigs := [{ trig 0 with capture := false }], syncEn := true }, res := capWaits.res },
      { trig 0 with capture := false }, by decide +kernel⟩,
    ⟨{ node with sw := { node.sw with trigs := [trig 0], synced := true } }, trig 0, by decide +kernel⟩,
    ⟨{ node with sw := { node.sw with trigs := [trig 0] } }, trig 0, by decide +kernel⟩,
    ⟨{ root with sw.heartbeatDue := true }, by decide +kernel⟩,
    ⟨{ root with sw := { root.sw with heartbeatDue := true, lastHeartbeat := some 0 } }, by decide +kernel⟩,
    ⟨node, by decide +kernel⟩⟩

theorem wit_SwarmWiring :
    (∃ (s : State) (q : Port) (a : Addr) (p : Port) (rest : List (Addr × Port)) (sn : Vector Word 4)
      (d : BitVec 16) (lat : Nat), s.isRoot = true ∧ s.swarmCore = true ∧ s.portOn q = true ∧
      s.sw.enumBusy = true ∧ s.sw.walk = (a, p) :: rest ∧ (∀ x ∈ s.sw.serials, x.2 ≠ sn) ∧ s.sw.skip = [] ∧
      lat = s.sw.latOf a + (if a = 0 then (s.swPort p).delay.toNat / 4 else 320 + d.toNat / 4) ∧
      lat ≤ s.sw.budget.toNat ∧ s.sw.nodes ≠ 4095) ∧
    (∃ (s : State) (q : Port) (a : Addr) (p : Port) (rest : List (Addr × Port)) (sn : Vector Word 4)
      (d : BitVec 16) (lat : Nat), s.isRoot = true ∧ s.swarmCore = true ∧ s.portOn q = true ∧
      s.sw.enumBusy = true ∧ s.sw.walk = (a, p) :: rest ∧ (∀ x ∈ s.sw.serials, x.2 ≠ sn) ∧ s.sw.skip = [] ∧
      lat = s.sw.latOf a + (if a = 0 then (s.swPort p).delay.toNat / 4 else 320 + d.toNat / 4) ∧
      lat ≤ s.sw.budget.toNat ∧ s.sw.nodes ≠ 4095 ∧ rest = []) ∧
    (∃ (s : State) (q : Port) (a : Addr) (p : Port) (rest : List (Addr × Port)) (sn : Vector Word 4)
      (d : BitVec 16) (lat : Nat) (c : Addr) (k : Port) (l : List (Addr × Port)), s.isRoot = true ∧
      s.swarmCore = true ∧ s.portOn q = true ∧ s.sw.enumBusy = true ∧ s.sw.walk = (a, p) :: rest ∧
      (∀ x ∈ s.sw.serials, x.2 ≠ sn) ∧ s.sw.skip = [] ∧ lat = s.sw.latOf a + (if a = 0 then
      (s.swPort p).delay.toNat / 4 else 320 + d.toNat / 4) ∧ s.sw.budget.toNat < lat ∧ rest = (c, k) :: l ∧
      c ≠ 0) ∧
    (∃ (s : State) (q : Port) (a : Addr) (p : Port) (rest : List (Addr × Port)) (sn : Vector Word 4) (b : Addr)
      (o : _), s.isRoot = true ∧ s.swarmCore = true ∧ s.portOn q = true ∧ s.sw.enumBusy = true ∧ s.sw.walk = (a,
      p) :: rest ∧ a = 0 ∧ b ≠ 0 ∧ (s.sw.serials.find? fun x => x.2 == sn) = some (b, sn) ∧ rest = [] ∧
      (s.port.outst.find? fun x => x.key == enumKey && !x.answered) = some o ∧ o.sender = .host ∧
      o.opcode = 0x30) ∧
    (∃ (s : State) (q : Port) (a : Addr), s.isNode = true ∧ s.swarmCore = true ∧ s.portOn q = true ∧
      s.comb.active = none ∧ s.sw.addrv = true ∧ s.sw.addr ≠ a) ∧
    (∃ (s : State), s.isNode = true ∧ s.swarmCore = true ∧ s.portOn 1 = true) ∧
    (∃ (s : State), s.isNode = true ∧ s.swarmCore = true ∧ s.portOn 1 = true) ∧
    (∃ (s : State) (a : Addr) (p : Port), s.isRoot = true ∧ s.swarmCore = true ∧ (a, p) ∉ s.sw.broken ∧
      s.sw.ringEnds = none) ∧
    (∃ (s : State) (a : Addr) (p : Port) (near : _) (far : _), s.isRoot = true ∧ s.swarmCore = true ∧
      s.sw.broken = [] ∧ s.sw.ring = 1 ∧ s.sw.ringEnds = some (near, far) ∧ ((a, p) = near ∨ (a, p) = far)) ∧
    (∃ (s : State) (a : Addr) (p : Port) (near : _) (far : _), s.isRoot = true ∧ s.swarmCore = true ∧
      s.sw.broken = [] ∧ s.sw.ring = 1 ∧ s.sw.ringEnds = some (near, far) ∧ ((a, p) = near ∨ (a, p) = far)) ∧
    (∃ (s : State) (a : Addr) (p : Port) (near : _) (far : _) (l : SwLink), s.isRoot = true ∧
      s.swarmCore = true ∧ s.sw.broken = [] ∧ s.sw.ring = 1 ∧ s.sw.ringEnds = some (near, far) ∧ (a, p) ≠ near ∧
      (a, p) ≠ far ∧ (s.sw.links.find? fun x => x.has a p) = some l ∧
      l.node ∈ s.sw.path near.1 ++ s.sw.path far.1 ∧ near.1 = 0 ∧ s.portUp near.2 = true ∧ s.sw.healRo = false) ∧
    (∃ (s : State) (a : Addr) (p : Port), s.isRoot = true ∧ s.swarmCore = true ∧ s.sw.broken = [(a, p)] ∧
      (s.sw.ring = 2 ∨ s.sw.ring = 3) ∧ s.sw.ringEnds ≠ none) ∧
    (∃ (s : State) (a : Addr) (p : Port), s.isRoot = true ∧ s.swarmCore = true ∧ s.sw.broken = [(a, p)] ∧
      (s.sw.ring = 2 ∨ s.sw.ring = 3) ∧ s.sw.ringEnds ≠ none) ∧
    (∃ (s : State) (p : Port) (q : _), s.swarmOn = true ∧ s.hostUp = true ∧ s.portUp p = true ∧ q ≠ p) ∧
    (∃ (s : State) (p : Port) (q : _), s.swarmOn = true ∧ s.hostUp = true ∧ ((s.swPort p).state = 1 ∨
      (s.swPort p).state = 2) ∧ q ≠ p) ∧
    (∃ (s : State) (p : Port) (q : _), s.swarmOn = true ∧ s.hostUp = true ∧ ((s.swPort p).state = 1 ∨
      (s.swPort p).state = 2) ∧ q ≠ p) :=
  ⟨⟨{ root with sw := { root.sw with enumBusy := true, budget := 500, walk := [(0, 1), (0, 2)], ring := 0 }, port := { root.port with outst := [{ asked false with opcode := 0x30, key := enumKey }] } },
      1, 0, 1, [(0, 2)], #v[1, 2, 3, 4], 5, 0, by decide +kernel⟩,
    ⟨{ root with sw := { root.sw with enumBusy := true, budget := 500, walk := [(1, 2)], links := [{ node := 1, nodePort := 0, parent := 0, port := 1, lat := 100 }], nodes := 1, routes := [(1, 1)], serials := [(1, #v[9, 9, 9, 9])] }, port := { root.port with outst := [{ asked false with opcode := 0x30, key := enumKey }] } },
      1, 1, 2, [], #v[1, 2, 3, 4], 320, 500, by decide +kernel⟩,
    ⟨{ root with sw := { root.sw with enumBusy := true, budget := 500, walk := [(1, 2), (1, 1)], links := [{ node := 1, nodePort := 0, parent := 0, port := 1, lat := 100 }], nodes := 1, routes := [(1, 1)], serials := [(1, #v[9, 9, 9, 9])] }, port := { root.port with outst := [{ asked false with opcode := 0x30, key := enumKey }] } },
      1, 1, 2, [(1, 1)], #v[1, 2, 3, 4], 324, 501, 1, 1, [], by decide +kernel⟩,
    ⟨{ root with sw := { root.sw with enumBusy := true, budget := 500, walk := [(0, 2)], links := [{ node := 1, nodePort := 0, parent := 0, port := 1, lat := 100 }], nodes := 1, routes := [(1, 1)], serials := [(1, #v[9, 9, 9, 9])], ring := 0 }, port := { root.port with outst := [{ asked false with opcode := 0x30, key := enumKey }] } },
      2, 0, 2, [], #v[9, 9, 9, 9], 1, { asked false with opcode := 0x30, key := enumKey }, by decide +kernel⟩,
    ⟨node, 0, 6, by decide +kernel⟩,
    ⟨node, by decide +kernel⟩,
    ⟨node.modPort 0 fun x => { x with state := 1 }, by decide +kernel⟩,
    ⟨root, 5, 0, by decide +kernel⟩,
    ⟨ringOf 1 [], 0, 1, (0, 1), (1, 1), by decide +kernel⟩,
    ⟨ringOf 1 [], 1, 1, (0, 1), (1, 1), by decide +kernel⟩,
    ⟨ringOf 1 [], 0, 0, (0, 1), (1, 1), { node := 1, nodePort := 0, parent := 0, port := 0, lat := 0 },
      by decide +kernel⟩,
    ⟨ringOf 2 [(0, 0)], 0, 0, by decide +kernel⟩,
    ⟨ringOf 3 [(0, 0)], 0, 0, by decide +kernel⟩,
    ⟨root, 2, 1, by decide +kernel⟩,
    ⟨root.modPort 2 fun x => { x with state := 1 }, 2, 1, by decide +kernel⟩,
    ⟨root.modPort 2 fun x => { x with state := 2 }, 2, 1, by decide +kernel⟩⟩

theorem wit_SwarmFrames :
    (∃ (s : State) (p : Port) (q : Port) (f : SwFrame), s.portOn p = true ∧ kindFits f.kind.toNat f.cls = true ∧
      f.bcast = false ∧ f.dst ≠ s.ownAddr ∧ s.forwardPort f.dst = some q ∧ s.portUp q = true ∧ (∀ k, ∀ x ∈
      (s.swPort k).waiting, x.2.cls ≠ f.cls) ∧ frameBlocks f ≤ (s.swPort q).creditOf f.cls) ∧
    (∃ (s : State) (p : Port) (q : Port) (f : SwFrame), s.portOn p = true ∧ kindFits f.kind.toNat f.cls = true ∧
      f.bcast = false ∧ f.dst ≠ s.ownAddr ∧ s.forwardPort f.dst = some q ∧ s.portUp q = true ∧ (∀ k, ∀ x ∈
      (s.swPort k).waiting, x.2.cls ≠ f.cls) ∧ (s.swPort q).creditOf f.cls < frameBlocks f) ∧
    (∃ (s : State) (p : Port) (src : Addr) (ws : List Word), s.portOn p = true ∧ (∀ x ∈ s.sw.segs,
      x.src ≠ src) ∧ ws.length ≤ 4096 ∧ (∀ x ∈ s.sw.lostMsgs, x.2.1 ≠ src)) ∧
    (∃ (s : State) (p : Port), s.portOn p = true ∧ (s.swPort p).state = 1) ∧
    (∃ (s : State) (p : Port) (c : SwClass) (src : Addr) (tag : BitVec 8) (ws : List Word), s.portOn p = true ∧
      (∀ x ∈ s.sw.segs, x.src ≠ src) ∧ ws.length ≤ 4096 ∧ (c, src, tag) ∈ s.sw.lostMsgs) ∧
    (∃ (s : State) (p : Port) (c : SwClass) (src : Addr) (tag : BitVec 8) (ws : List Word) (h : _),
      s.portOn p = true ∧ s.sw.segs = [h] ∧ h.src = src ∧ h.cls = c ∧ h.tag = tag ∧
      (h.words ++ ws).length ≤ 4096 ∧ (∀ x ∈ s.sw.lostMsgs, x.2.1 ≠ src) ∧ h.port = p ∧
      h.opened + 10 * milli ≤ s.time) ∧
    (∃ (s : State) (src : Addr), s.swarmCore = true ∧ (∀ x ∈ s.sw.lostMsgs, x.2.1 ≠ src) ∧ s.feat 9 = true ∧
      s.recHealth ≠ 2 ∧ s.rcd.full = false ∧ s.rcd.stopped = false ∧ s.rcd.intake.length < 254) ∧
    (∃ (s : State) (src : Addr), s.swarmCore = true ∧ (∀ x ∈ s.sw.lostMsgs, x.2.1 ≠ src) ∧ s.feat 9 = false) ∧
    (∃ (s : State) (p : Port), s.swarmOn = true ∧ s.portUp p = true ∧ (s.swPort p).waiting = [] ∧
      s.sw.leaving = [] ∧ (s.swPort p).use = 2) ∧
    (∃ (s : State) (p : Port), s.swarmOn = true ∧ s.portUp p = true ∧ (s.swPort p).waiting = [] ∧
      s.sw.leaving = [] ∧ (s.swPort p).use = 2) ∧
    (∃ (s : State) (p : Port), s.swarmOn = true ∧ s.portUp p = true) ∧
    (∃ (s : State) (p : Port) (sent : BitVec 48) (sub : Nat) (d : Int), s.swarmOn = true ∧ s.portUp p = true ∧
      s.isNode = true ∧ s.upstream = some p ∧ s.hostUp = true ∧ d = s.syncOffset p sent sub ∧ d.natAbs ≤ 400 ∧
      s.sw.goodSyncs = 2 ∧ s.sw.synced = false) ∧
    (∃ (s : State) (p : Port) (sent : BitVec 48) (sub : Nat) (d : Int), s.swarmOn = true ∧ s.portUp p = true ∧
      s.isNode = true ∧ s.upstream = some p ∧ s.hostUp = true ∧ d = s.syncOffset p sent sub ∧ 400 < d.natAbs ∧
      d.natAbs ≤ 4000) ∧
    (∃ (s : State) (p : Port) (sent : BitVec 48) (sub : Nat) (d : Int), s.swarmOn = true ∧ s.portUp p = true ∧
      s.isNode = true ∧ s.upstream = some p ∧ s.hostUp = true ∧ d = s.syncOffset p sent sub ∧ 400 < d.natAbs ∧
      d.natAbs ≤ 4000) ∧
    (∃ (s : State) (p : Port) (sent : BitVec 48) (sub : Nat) (d : Int), s.swarmOn = true ∧ s.portUp p = true ∧
      s.isNode = true ∧ s.upstream = some p ∧ s.hostUp = true ∧ d = s.syncOffset p sent sub ∧ 4000 < d.natAbs ∧
      s.sw.synced = true) ∧
    (∃ (s : State) (p : Port), s.swarmOn = true ∧ s.portUp p = true) ∧
    (∃ (s : State) (silent : Bool), s.isNode = true ∧ s.swarmOn = true ∧ s.hostUp = true ∧ s.sw.synced = true ∧
      (silent = true → s.sw.lastSync + 10 * milli ≤ s.time) ∧
      (silent = false → 4000 < s.sw.offset.toInt.natAbs)) ∧
    (∃ (s : State) (silent : Bool), s.isNode = true ∧ s.swarmOn = true ∧ s.hostUp = true ∧ s.sw.synced = true ∧
      (silent = true → s.sw.lastSync + 10 * milli ≤ s.time) ∧
      (silent = false → 4000 < s.sw.offset.toInt.natAbs)) ∧
    (∃ (s : State) (p : Port) (c : SwClass) (o : Option Port) (f : SwFrame), s.swarmOn = true ∧
      s.hostUp = true ∧ s.portUp p = true ∧ (o, f) ∈ (s.swPort p).waiting ∧ f.cls = c) :=
  ⟨⟨{ root with sw.routes := [(9, 1)] }, 0, 1, swFrame (List.replicate 256 0), by decide +kernel⟩,
    ⟨{ root.modPort 1 (fun x => { x with credit := Vector.replicate 4 0 }) with sw.routes := [(9, 1)] }, 0, 1,
      swFrame (List.replicate 256 0), by decide +kernel⟩,
    ⟨root, 0, 5, [1], by decide +kernel⟩,
    ⟨root.modPort 0 fun x => { x with state := 1 }, 0, by decide +kernel⟩,
    ⟨{ root with sw.lostMsgs := [(.control, 5, 7)] }, 0, .control, 5, 7, [1], by decide +kernel⟩,
    ⟨{ after 10 root with sw.segs := [openSeg] }, 0, .control, 5, 7, [1], openSeg, by decide +kernel⟩,
    ⟨root, 5, by decide +kernel⟩,
    ⟨{ root with sec.acc := 0xFDFF }, 5, by decide +kernel⟩,
    ⟨root.modPort 1 fun x => { x with credit := Vector.replicate 4 2 }, 1, by decide +kernel⟩,
    ⟨root.modPort 1 fun x => { x with credit := Vector.replicate 4 2 }, 1, by decide +kernel⟩,
    ⟨{ node with sw := { node.sw with goodSyncs := 0, synced := true } }, 0, by decide +kernel⟩,
    ⟨{ node with sw := { node.sw with goodSyncs := 2, synced := false } }, 0, 400, 0, (({ node with
      sw := { node.sw with goodSyncs := 2, synced := false } } : State)).syncOffset 0 400 0, by decide +kernel⟩,
    ⟨{ node with sw := { node.sw with goodSyncs := 0, synced := true } }, 0, 3999, 199, (({ node with
      sw := { node.sw with goodSyncs := 0, synced := true } } : State)).syncOffset 0 3999 199,
      by decide +kernel⟩,
    ⟨{ node with sw := { node.sw with goodSyncs := 2, synced := false } }, 0, 3999, 199, (({ node with
      sw := { node.sw with goodSyncs := 2, synced := false } } : State)).syncOffset 0 3999 199,
      by decide +kernel⟩,
    ⟨{ node with sw := { node.sw with goodSyncs := 0, synced := true } }, 0, 4001, 0, (({ node with
      sw := { node.sw with goodSyncs := 0, synced := true } } : State)).syncOffset 0 4001 0, by decide +kernel⟩,
    ⟨{ node with sw := { node.sw with goodSyncs := 2, synced := false } }, 0, by decide +kernel⟩,
    ⟨{ after 10 node with sw := { node.sw with synced := true, offset := 4001 } }, true, by decide +kernel⟩,
    ⟨{ after 10 node with sw := { node.sw with synced := true, offset := 4001 } }, false, by decide +kernel⟩,
    ⟨root.modPort 1 fun x => { x with waiting := [(none, swFrame [1])] }, 1, .control, none, swFrame [1],
      by decide +kernel⟩⟩

theorem wit_PowerRows :
    (∃ (s : State), s.pw.mode = .run ∧ s.pw.dstate ≠ .d0 ∧ s.hostUp = true ∧ s.keepsAwake = false ∧
      s.wd.hsLast + milli ≤ s.time ∧ s.port.sentAt + milli ≤ s.time) ∧
    (∃ (s : State), (s.pw.mode ≠ .run ∨ s.pw.dstate = .d0 ∨ s.keepsAwake = true ∨ s.time < s.wd.hsLast + milli ∨
      s.time < s.port.sentAt + milli)) ∧
    (∃ (s : State), (s.pw.mode ≠ .run ∨ s.pw.dstate = .d0 ∨ s.keepsAwake = true ∨ s.time < s.wd.hsLast + milli ∨
      s.time < s.port.sentAt + milli)) ∧
    (∃ (s : State), s.pw.mode = .doze) ∧
    (∃ (s : State), s.pw.mode ≠ .doze) ∧
    (∃ (s : State) (n : _), s.pw.mode = .service ∧ s.hostUp = true ∧ s.port.heardAt + 10000 * milli ≤ s.time ∧
      (s.chan n).guard.held = false ∧ (s.chan n).actMode.isSwitch = true ∧ (s.chan n).out.ps ≠ .lockedOff) ∧
    (∃ (s : State), s.hostUp = true) ∧
    (∃ (s : State), s.hostUp = true) ∧
    (∃ (s : State), s.hostUp = true ∧ s.sec.dbgOpen = true ∧ s.pw.halted = false) ∧
    (∃ (s : State), s.hostUp = true ∧ (s.sec.dbgOpen = false ∨ s.pw.halted = true)) ∧
    (∃ (s : State), s.pw.halted = true ∧ s.port.bufs = []) ∧
    (∃ (s : State), s.pw.halted = false) :=
  ⟨⟨{ after 1 quiet with ev := { on.ev with en := 0 }, pw := { on.pw with dstate := .d1 } }, by decide +kernel⟩,
    ⟨on, by decide +kernel⟩,
    ⟨inMode .standby, by decide +kernel⟩,
    ⟨inMode .doze, by decide +kernel⟩,
    ⟨on, by decide +kernel⟩,
    ⟨{ after 10000 (sw2 .on id) with pw := { on.pw with mode := .service } }, 2, by decide +kernel⟩,
    ⟨on, by decide +kernel⟩,
    ⟨on, by decide +kernel⟩,
    ⟨{ on with sec.dbgOpen := true }, by decide +kernel⟩,
    ⟨on, by decide +kernel⟩,
    ⟨{ on with pw.halted := true }, by decide +kernel⟩,
    ⟨on, by decide +kernel⟩⟩

theorem wit_RejectedImage :
    (∃ (s : State) (st : Status) (r : BitVec 4) (i : BitVec 13), s.comb.verdict = some (st, r, i)) :=
  ⟨verifying (some (.range, 2, 0)), .range, 2, 0, by decide +kernel⟩

theorem wit_WrongState :
    (∃ (s u : State) (body : Body), u = s.received (fr 0) ∧ (∀ x, exec (.outWrite (msg 0 [0])) x = .next
      (x.hostCmd outWriteSpec body (msg 0 [0]))) ∧ outWriteSpec.op < 256 ∧ s.wholeIn outWriteSpec.op
      (msg 0 [0]) = true ∧ (s.pw.halted = false ∨ outWriteSpec.op = 0x20) ∧ u.keptFor (fr 0)
      (s.crcOf outWriteSpec.op (msg 0 [0])) = none ∧ u.repeatsOutst .host (fr 0) (s.crcOf outWriteSpec.op
      (msg 0 [0])) = false ∧ u.pw.window = none ∧ (u.outstanding true (fr 0).mb).length < mbLimit (fr 0).mb ∧
      u.refusal .host outWriteSpec (fr 0).mb 0 [0] = some .wrongState ∧ (∀ t st d r, body .host 0 [0] u = (t,
      .now st d r) → Status.wrongState.rank ≤ st.rank)) :=
  ⟨inMode .standby, _, _, rfl, fun _ => rfl, by decide +kernel, by decide +kernel, by decide +kernel,
    by decide +kernel, by decide +kernel, by decide +kernel, by decide +kernel, by decide +kernel,
    fun t st d r h => by have e : (t, Ans.now st d r) = ((inMode .standby).received (fr 0),
    Ans.fail .range) := h.symm; cases e; decide⟩

theorem wit_UvloOff :
    (∃ (s : State) (g : Grp) (n : _), s.dieUp g = true ∧ (s.group g).sup.uvlo = false ∧ grpOf n = g ∧
      (s.modeOf n).isSwitch = true ∧ ((s.chan n).out.ps.isOn = true ∨ (s.chan n).out.ps = .pend) ∧
      s.isOdd n = false) ∧
    (∃ (s : State) (g : Grp) (n : _), s.dieUp g = true ∧ (s.group g).sup.uvlo = false ∧ grpOf n = g ∧
      (s.modeOf n).isSwitch = true ∧ ((s.chan n).out.ps.isOn = true ∨ (s.chan n).out.ps = .pend) ∧
      s.isOdd n = false) :=
  ⟨⟨sw2 .pend id, 0, 2, by decide +kernel⟩,
    ⟨sw2 .on id, 0, 2, by decide +kernel⟩⟩

end Sys2Proof.Tests
end

section
/-! The clause of O40 on H_RSTN fails: what it leaves of the channels. -/

namespace Sys2Proof.Machine

/-- A result word of CH08 with DATA 5, as its die brings it. -/
def gatheredResult : DieEntry where
  entry := { cls := .comb, word := resultW 8 false false 5, stamp := none, src := 0 }
  window := resultW 8 false false 5
  late := none
  cell := 0

/-- A cell on G0 and G1 of which G1 has run its share and CH08 has brought its result, and G0 has not run yet
(05 R170). -/
def halfRunJob : CellJob where
  id := 0
  pos := 0
  idx := 0
  dies := 0b0001
  late := none
  wait := 0
  got := [(8, gatheredResult)]

/-- A module in RUN that gathers the results of such a cell. -/
def gatheringState : State :=
  { State.reset with pw.mode := .run, comb.started := true, comb.jobs := [halfRunJob], comb.nextJob := 1 }

/-- The last DATA of a channel (05 R184) after a command. -/
def prevDataAfter (n : Ch) : Out → Option (BitVec 24)
  | .next t => (t.chan n).ai.prev
  | _ => none

/-- The STOP order completes the cell, and its result passes the capture buffer: the last DATA of CH08 moves. -/
theorem prevDataAfter_hRstn_gathering : prevDataAfter 8 (exec (.hRstn 1000) gatheringState) = some 5 := by
  decide +kernel

end Sys2Proof.Machine

open Sys2Proof Sys2Proof.Machine

/-- Refutes O40: H_RSTN stops the comb, which completes a cell that still gathers. Its result moves the last DATA
that the channel keeps for the level trigger of the capture (05 R184), and not the window word alone. -/
theorem not_resetRows : ¬ Obligations.ResetRows := by
  unfold Obligations.ResetRows
  intro h
  obtain ⟨hRstnRow, -⟩ := h
  obtain ⟨t, ht, -, -, -, -, -, hch⟩ :=
    hRstnRow gatheringState 1000 (by decide +kernel) (by decide +kernel) (by decide)
  have hmoved := prevDataAfter_hRstn_gathering
  rw [ht] at hmoved
  have hkept : (t.chan 8).ai.prev = (gatheringState.chan 8).ai.prev := by rw [hch 8]
  have hnone : (gatheringState.chan 8).ai.prev = none := by decide +kernel
  rw [prevDataAfter, hkept, hnone] at hmoved
  cases hmoved
end

section
/-! ## The frame of an operation on channels

What protection, shedding and the guards change: some channels and what raising an event changes. Three projections
carry the rest: the configuration of the channels (`setup`), what no event and no output changes (`still`), and
the list of channels that an operation may reach (`only`). -/

namespace Sys2Proof.Machine

/-! ### Projections -/

/-- The configuration and the mode in force of every channel. -/
def State.setup (s : State) (n : Ch) : ChCfg × ChMode := ((s.chan n).cfg, (s.chan n).actMode)

/-- The time, the power and mode part but for the waking flag, and the security part. -/
def State.still (s : State) : Nat × Power × Security := (s.time, { s.pw with waking := false }, s.sec)

/-- What neither the channels, the groups nor raising an event change. -/
def State.rest (s : State) : State :=
  { s with
    ch := State.reset.ch, grp := State.reset.grp, ev := State.reset.ev, rcd := State.reset.rcd
    pw := { s.pw with waking := false } }

section
variable {s t : State}

theorem setup_cfg (h : t.setup = s.setup) (n : Ch) : (t.chan n).cfg = (s.chan n).cfg :=
  congrArg Prod.fst (congrFun h n)

theorem setup_modeOf (h : t.setup = s.setup) (n : Ch) : t.modeOf n = s.modeOf n :=
  congrArg Prod.snd (congrFun h n)

theorem setup_pairOf (h : t.setup = s.setup) (n : Ch) : t.pairOf n = s.pairOf n :=
  congrArg ChCfg.pairFn (setup_cfg h (evenOf n))

theorem setup_isOdd (h : t.setup = s.setup) (n : Ch) : t.isOdd n = s.isOdd n := by
  unfold State.isOdd; rw [setup_pairOf h]

theorem setup_leadOf (h : t.setup = s.setup) (n : Ch) : t.leadOf n = s.leadOf n := by
  unfold State.leadOf; rw [setup_isOdd h]

theorem setup_cfgOf (h : t.setup = s.setup) (n : Ch) : t.cfgOf n = s.cfgOf n := by
  unfold State.cfgOf; rw [setup_leadOf h, setup_cfg h]

theorem still_time (h : t.still = s.still) : t.time = s.time := congrArg Prod.fst h

theorem still_sec (h : t.still = s.still) : t.sec = s.sec := congrArg (·.2.2) h

/-- A field of the power part other than the waking flag stays with `still`. -/
theorem still_pw {α : Type} (f : Power → α) (h : t.still = s.still) :
    f { t.pw with waking := false } = f { s.pw with waking := false } :=
  congrArg (fun q : Nat × Power × Security => f q.2.1) h

theorem still_hostUp (h : t.still = s.still) : t.hostUp = s.hostUp :=
  still_pw (fun p => p.resetSrc.isNone && p.mode != .reset && p.mode != .keep) h

theorem rest_still (h : t.rest = s.rest) : t.still = s.still :=
  congrArg (fun x : State => (x.time, x.pw, x.sec)) h

theorem rest_comb (h : t.rest = s.rest) : t.comb = s.comb :=
  show t.rest.comb = s.rest.comb by rw [h]

end

/-! ### Raising an event -/

section
variable {s t : State}

theorem State.logsOver.chan (h : s.logsOver t) (n : Ch) : t.chan n = s.chan n := by
  unfold State.logsOver at h; rw [h]; rfl

theorem State.logsOver.ch (h : s.logsOver t) : t.ch = s.ch := by unfold State.logsOver at h; rw [h]

theorem State.logsOver.grp (h : s.logsOver t) : t.grp = s.grp := by unfold State.logsOver at h; rw [h]

theorem State.logsOver.group (h : s.logsOver t) (g : Grp) : t.group g = s.group g := by
  unfold State.group; rw [h.grp]

theorem State.logsOver.setup (h : s.logsOver t) : t.setup = s.setup := by
  funext n; unfold State.setup; rw [h.chan]

theorem State.logsOver.still (h : s.logsOver t) : t.still = s.still := by
  unfold State.logsOver at h; rw [h]; rfl

theorem logsOver_iff : s.logsOver t ↔ t.ch = s.ch ∧ t.grp = s.grp ∧ t.rest = s.rest := by
  constructor
  · intro h
    refine ⟨h.ch, h.grp, ?_⟩
    unfold State.logsOver at h
    rw [h]
    rfl
  · rintro ⟨hc, hg, hr⟩
    cases s; cases t
    simp only [State.rest, State.mk.injEq, Power.mk.injEq] at hr hc hg
    simp only [State.logsOver, State.mk.injEq]
    subst hc hg
    cases ‹Power›; cases ‹Power›
    simp_all

theorem touches_iff {l : List Ch} :
    s.touches t l ↔ (∀ n, n ∉ l → t.chan n = s.chan n) ∧ t.grp = s.grp ∧ t.rest = s.rest := by
  unfold State.touches
  rw [logsOver_iff]
  exact and_congr_right fun _ => ⟨fun h => h.2, fun h => ⟨rfl, h⟩⟩

theorem touchesGrp_iff {l : List Ch} {gs : List Grp} : s.touchesGrp t l gs ↔
    (∀ n, n ∉ l → t.chan n = s.chan n) ∧ (∀ g, g ∉ gs → t.group g = s.group g) ∧ t.rest = s.rest := by
  unfold State.touchesGrp
  rw [logsOver_iff]
  exact and_congr_right fun _ => and_congr_right fun _ => ⟨fun h => h.2.2, fun h => ⟨rfl, rfl, h⟩⟩

theorem State.touchesGrp_of_touches {l : List Ch} (h : s.touches t l) (gs : List Grp) : s.touchesGrp t l gs := by
  obtain ⟨hc, hg, hr⟩ := touches_iff.mp h
  exact touchesGrp_iff.mpr ⟨hc, fun g _ => by unfold State.group; rw [hg], hr⟩

theorem State.touchesGrp.trans {u : State} {l : List Ch} {gs : List Grp} (h : s.touchesGrp t l gs)
    (h' : t.touchesGrp u l gs) : s.touchesGrp u l gs := by
  obtain ⟨hc, hg, hr⟩ := touchesGrp_iff.mp h
  obtain ⟨kc, kg, kr⟩ := touchesGrp_iff.mp h'
  exact touchesGrp_iff.mpr ⟨fun n hn => (kc n hn).trans (hc n hn), fun g hg' => (kg g hg').trans (hg g hg'),
    kr.trans hr⟩

theorem State.touchesGrp_modGrp (s : State) (g : Grp) (f : Group → Group) (l : List Ch) :
    s.touchesGrp (s.modGrp g f) l [g] :=
  touchesGrp_iff.mpr ⟨fun _ _ => rfl, fun k hk => State.group_modGrp_ne s f (by simpa using hk), rfl⟩

theorem State.touches_of_logs (h : s.logsOver t) (l : List Ch) : s.touches t l :=
  State.touches_logs (s.touches_refl l) h

end

/-- What a die tells, at once or when its link returns, changes no channel (02 R61). -/
@[simp] theorem State.fieldRaise_chan (s : State) (g : Grp) (k : Fin 128) (a b : Nat) (p q r : Word) (n : Ch) :
    (s.fieldRaise g k a b p q r).chan n = s.chan n := by
  unfold State.fieldRaise
  split
  · rfl
  · exact (raise_logs ..).chan n

@[simp] theorem State.fieldRaise_still (s : State) (g : Grp) (k : Fin 128) (a b : Nat) (p q r : Word) :
    (s.fieldRaise g k a b p q r).still = s.still := by
  unfold State.fieldRaise
  split
  · rfl
  · exact (raise_logs ..).still

/-- Raising a source leaves every other one (11 R359). -/
theorem State.raise_src_ne {s : State} {k j : Fin 128} (h : k ≠ j) (a b : Nat) (p q r : Word) :
    (s.raise j a b p q r).ev.src[k.val] = s.ev.src[k.val] := by
  have hv : j.val ≠ k.val := fun e => h (Fin.ext e.symm)
  unfold State.raise State.raiseAt
  split
  · rfl
  · unfold State.recordOnly
    split <;> simp [hv]

theorem State.fieldRaise_src_ne {s : State} {k j : Fin 128} (h : k ≠ j) (g : Grp) (a b : Nat) (p q r : Word) :
    (s.fieldRaise g j a b p q r).ev.src[k.val] = s.ev.src[k.val] := by
  unfold State.fieldRaise
  split
  · rfl
  · exact State.raise_src_ne h ..

/-! ### Reaching some channels only -/

/-- t is s but for some channels, whose configuration stays, the groups, the comb and what raising events changes. -/
def State.only (s t : State) (l : List Ch) : Prop :=
  t.still = s.still ∧ t.setup = s.setup ∧ ∀ m, m ∉ l → t.chan m = s.chan m

/-- The channels that a change of the output of n reaches (03 R94). -/
def State.outCh (s : State) (n : Ch) : List Ch := if s.pairOf n = .parallel then [n, mateOf n] else [n]

section
variable {s t u : State} {l k : List Ch} {n m : Ch}

theorem State.only_refl (s : State) (l : List Ch) : s.only s l := ⟨rfl, rfl, fun _ _ => rfl⟩

theorem State.only.trans (h : s.only t l) (h' : t.only u l) : s.only u l := by
  obtain ⟨h1, h2, h3⟩ := h
  obtain ⟨k1, k2, k3⟩ := h'
  exact ⟨k1.trans h1, k2.trans h2, fun m hm => (k3 m hm).trans (h3 m hm)⟩

theorem State.only.mono (h : s.only t l) (hk : ∀ n ∈ l, n ∈ k) : s.only t k :=
  ⟨h.1, h.2.1, fun m hm => h.2.2 m fun e => hm (hk m e)⟩

/-- A change that leaves the channels and `still`. -/
theorem State.only_of_chan (h : t.still = s.still) (hc : ∀ m, t.chan m = s.chan m) (l : List Ch) : s.only t l :=
  ⟨h, funext fun m => by unfold State.setup; rw [hc m], fun m _ => hc m⟩

theorem State.only.outCh (h : s.only t l) (n : Ch) : t.outCh n = s.outCh n := by
  unfold State.outCh; rw [setup_pairOf h.2.1]

theorem State.only_modCh (s : State) (n : Ch) (f : Channel → Channel)
    (hf : (f (s.chan n)).cfg = (s.chan n).cfg ∧ (f (s.chan n)).actMode = (s.chan n).actMode) :
    s.only (s.modCh n f) [n] := by
  refine ⟨rfl, ?_, fun m hm => State.chan_modCh_ne _ _ (by simpa using hm)⟩
  funext m
  unfold State.setup
  by_cases hm : m = n
  · subst hm; rw [State.chan_modCh_same, hf.1, hf.2]
  · rw [State.chan_modCh_ne _ _ hm]

theorem State.only_modOutP (s : State) (n : Ch) (f : ChOut → ChOut) : s.only (s.modOutP n f) (s.outCh n) := by
  unfold State.modOutP State.outCh
  have h1 : s.only (s.modOut n f) [n] := State.only_modCh _ _ _ ⟨rfl, rfl⟩
  dsimp only
  split
  · exact (h1.mono (by simp)).trans ((State.only_modCh _ _ _ ⟨rfl, rfl⟩).mono (by simp))
  · exact h1

theorem State.mem_outCh_self (s : State) (n : Ch) : n ∈ s.outCh n := by unfold State.outCh; split <;> simp

theorem grpOf_mateOf (n : Ch) : grpOf (mateOf n) = grpOf n := by revert n; decide

theorem mateOf_pair (n : Ch) : evenOf (mateOf n) = evenOf n ∧ (n.val % 2 = 0 → (mateOf n).val % 2 = 1) := by
  revert n; decide

theorem State.grpOf_mem_outCh (h : m ∈ s.outCh n) : grpOf m = grpOf n := by
  unfold State.outCh at h
  split at h
  · obtain rfl | rfl : m = n ∨ m = mateOf n := by simpa using h
    exacts [rfl, grpOf_mateOf n]
  · obtain rfl : m = n := by simpa using h
    rfl

/-- A change of one output does not reach another that carries its own configuration (02 R43, 03 R94). -/
theorem State.not_mem_outCh (hn : s.isOdd n = false) (hm : s.isOdd m = false) (hne : m ≠ n) : m ∉ s.outCh n := by
  unfold State.outCh
  split
  case isFalse => simpa using hne
  case isTrue hp =>
    have hmate : m ≠ mateOf n := by
      rintro rfl
      have heven : n.val % 2 = 0 := by
        by_contra ho
        have : n.val % 2 = 1 := by omega
        simp [State.isOdd, this, hp] at hn
      obtain ⟨hpair, hval⟩ := mateOf_pair n
      have : s.pairOf (mateOf n) = .parallel := by unfold State.pairOf at hp ⊢; rw [hpair, hp]
      simp [State.isOdd, hval heven, this] at hm
    simp [hne, hmate]

theorem mem_chOf {g : Grp} : n ∈ chOf g ↔ grpOf n = g := by
  have hall : ∀ n : Ch, n ∈ allCh := by decide
  simp [chOf, hall]

theorem allCh_nodup : allCh.Nodup := by decide

theorem chOf_nodup (g : Grp) : (chOf g).Nodup := allCh_nodup.filter _

theorem State.outCh_sub_chOf (s : State) (n : Ch) : ∀ m ∈ s.outCh n, m ∈ chOf (grpOf n) :=
  fun _ hm => mem_chOf.mpr (State.grpOf_mem_outCh hm)

end

/-! ### Channel faults -/

section
variable {s : State} {n : Ch}

theorem State.leadOf_of_lead (h : s.isOdd n = false) : s.leadOf n = n := by unfold State.leadOf; simp [h]

@[simp] theorem State.raiseFault_chan (s : State) (n m : Ch) (c : Nat) : (s.raiseFault n c).chan m = s.chan m :=
  State.fieldRaise_chan ..

theorem State.only_raiseFault (s : State) (n : Ch) (c : Nat) (l : List Ch) : s.only (s.raiseFault n c) l :=
  State.only_of_chan (State.fieldRaise_still ..) (fun m => State.raiseFault_chan s n m c) l

theorem State.tripFault_only (h : s.isOdd n = false) (b : Nat) : s.only (s.tripFault n b) [n] := by
  unfold State.tripFault
  rw [State.leadOf_of_lead h]
  exact (State.only_modCh _ _ _ ⟨rfl, rfl⟩).trans (State.only_raiseFault ..)

theorem State.tripFault_chan (h : s.isOdd n = false) (b : Nat) :
    (s.tripFault n b).chan n = { s.chan n with fault := (s.chan n).fault ||| bitW b } := by
  unfold State.tripFault
  rw [State.leadOf_of_lead h, State.raiseFault_chan, State.chan_modCh_same]
  rfl

theorem State.setFault_only (h : s.isOdd n = false) (b : Nat) : s.only (s.setFault n b) [n] := by
  unfold State.setFault
  rw [State.leadOf_of_lead h]
  dsimp only
  split
  · exact State.only_refl ..
  · exact (State.only_modCh _ _ _ ⟨rfl, rfl⟩).trans (State.only_raiseFault ..)

theorem State.setFault_chan (h : s.isOdd n = false) (b : Nat) :
    (s.setFault n b).chan n = { s.chan n with fault := (s.chan n).fault ||| bitW b } := by
  unfold State.setFault
  rw [State.leadOf_of_lead h]
  dsimp only
  split
  case isTrue hb => rw [or_bitW_of_bit hb]
  case isFalse => rw [State.raiseFault_chan, State.chan_modCh_same]; rfl

/-- A channel fault raises the event of its channel and no other (11 R361). -/
theorem State.setFault_src {k : Fin 128} (hk : 32 ≤ k.val) (s : State) (n : Ch) (b : Nat) :
    (s.setFault n b).ev.src[k.val] = s.ev.src[k.val] := by
  have hne (m : Ch) : k ≠ srcNo m.val := by
    have := m.isLt
    rintro rfl
    simp only [srcNo] at hk
    omega
  unfold State.setFault
  dsimp only
  split
  · rfl
  · exact State.fieldRaise_src_ne (hne _) ..

theorem bit_or_bitW (w : Word) {b : Nat} (hb : b < 32) : bit (w ||| bitW b) b = true := by
  simp only [bit, bitW, BitVec.getLsbD_or, BitVec.getLsbD_ofNat, hb, Nat.one_shiftLeft, Nat.testBit_two_pow_self,
    decide_true, Bool.and_true, Bool.or_true]

theorem bit_or_of_bit {w : Word} (v : Word) {b : Nat} (h : bit w b = true) : bit (w ||| v) b = true := by
  unfold bit at *; simp [h]

end

end Sys2Proof.Machine
end

section
/-! ## Trips and retries (03 R95 to R105)

Each operation of the protection states on a channel that is heard: what it leaves of the channel, and that it
touches the channel and its mate alone. -/

namespace Sys2Proof.Machine

section
variable {s t u : State} {n : Ch} {l : List Ch}

/-! ### Channels that are heard -/

theorem State.isOdd_of_heard (h : s.heard n = true) : s.isOdd n = false := by
  unfold State.heard at h
  simp only [Bool.and_eq_true, Bool.not_eq_true'] at h
  exact h.1

theorem State.dieUp_of_heard (h : s.heard n = true) : s.dieUp (grpOf n) = true := by
  unfold State.heard State.inTouch at h
  simp only [Bool.and_eq_true] at h
  exact h.2.1.1.2

theorem State.touches.group (h : s.touches t l) (g : Grp) : t.group g = s.group g :=
  State.logsOver.group (s := { s with ch := t.ch }) h.2 g

theorem State.touches.still (h : s.touches t l) : t.still = s.still := rest_still (touches_iff.mp h).2.2

theorem State.touches.comb (h : s.touches t l) : t.comb = s.comb := rest_comb (touches_iff.mp h).2.2

theorem State.touches.dieUp (h : s.touches t l) (g : Grp) : t.dieUp g = s.dieUp g := by
  unfold State.dieUp; rw [h.group]

/-- A channel stays heard while neither its configuration nor its group changes. -/
theorem State.heard_of_touches (h : s.touches t l) (hc : t.setup = s.setup) (hn : s.heard n = true) :
    t.heard n = true := by
  rw [← hn]
  unfold State.heard State.inTouch
  rw [setup_isOdd hc, still_hostUp h.still, h.dieUp, h.group]

theorem State.touches.widen (h : s.touches t [n]) : s.touches t [n, mateOf n] := State.touches_mono h (by simp)

/-! ### Operations on a channel that is heard -/

theorem State.touches_raiseFault (h : s.heard n = true) (c : Nat) (l : List Ch) :
    s.touches (s.raiseFault n c) l := by
  unfold State.raiseFault
  rw [State.fieldRaise_eq (State.hostUp_of_heard h) (State.silent_of_heard h)]
  exact State.touches_of_logs (raise_logs ..) l

/-- A reported trip touches its channel alone (01 R15). -/
theorem State.tripFault_touches (h : s.heard n = true) (b : Nat) : s.touches (s.tripFault n b) [n] := by
  unfold State.tripFault
  rw [State.leadOf_of_heard h]
  have h1 := State.touches_of_modCh s n fun c => { c with fault := putBit c.fault b true }
  exact State.touches_trans h1 (State.touches_raiseFault
    (State.heard_of_touches h1 (State.only_modCh s n _ ⟨rfl, rfl⟩).2.1 h) ..)

theorem State.switchOff_only (s : State) (n : Ch) (p : PState) : s.only (s.switchOff n p) (s.outCh n) :=
  State.only_modOutP ..

theorem State.switchOn_only (s : State) (n : Ch) : s.only (s.switchOn n) (s.outCh n) := by
  unfold State.switchOn State.noteOn
  exact (State.only_modOutP ..).trans (State.only_of_chan rfl (fun _ => rfl) _)

/-- Switching on changes neither the retries nor what holds a channel. -/
theorem State.switchOn_out (s : State) (n : Ch) :
    ((s.switchOn n).chan n).out.retryUsed = (s.chan n).out.retryUsed ∧
    ((s.switchOn n).chan n).out.defer = (s.chan n).out.defer ∧
    ((s.switchOn n).chan n).out.cool = (s.chan n).out.cool ∧
    ((s.switchOn n).chan n).out.shedDie = (s.chan n).out.shedDie := by
  unfold State.switchOn State.noteOn
  simp only [State.chan_modSup, State.modOutP_chan_same]
  split <;> exact ⟨rfl, rfl, rfl, rfl⟩

/-- LOCKED_OFF with its command set to off and LOCKOUT reported (03 R98, R105). -/
theorem State.lockOff_chan (h : s.isOdd n = false) : (s.lockOff n).chan n =
    { s.chan n with
      out := { (s.chan n).out with
        ps := .lockedOff, duty := 0, heldRetry := false, polOn := false, frozen := false, olCond := false
        turn := false, pulse := none, diag := false, cmdOn := false, hostOn := false, cmdDuty := 0 }
      fault := (s.chan n).fault ||| bitW 31 } := by
  unfold State.lockOff
  have hs := (s.switchOff_only n .lockedOff).2.1
  have ho := (State.only_modOutP (s.switchOff n .lockedOff) n fun o => { o with
    cmdOn := false, hostOn := false, cmdDuty := 0 }).2.1
  rw [State.tripFault_chan (by rw [setup_isOdd ho, setup_isOdd hs, h]), State.modOutP_chan_same,
    State.switchOff_chan]
  rfl

theorem State.lockOff_only (h : s.isOdd n = false) : s.only (s.lockOff n) (s.outCh n) := by
  unfold State.lockOff
  have h1 := s.switchOff_only n .lockedOff
  have h2 := State.only_modOutP (s.switchOff n .lockedOff) n fun o => { o with
    cmdOn := false, hostOn := false, cmdDuty := 0 }
  rw [h1.outCh] at h2
  have h12 := h1.trans h2
  refine h12.trans ((State.tripFault_only (by rw [setup_isOdd h12.2.1, h]) 31).mono ?_)
  simpa using s.mem_outCh_self n

theorem State.lockOff_touches (h : s.heard n = true) : s.touches (s.lockOff n) [n, mateOf n] := by
  unfold State.lockOff
  have h1 := State.touches_trans (s.switchOff_touches n .lockedOff)
    (State.modOutP_touches (s.switchOff n .lockedOff) n fun o => { o with
      cmdOn := false, hostOn := false, cmdDuty := 0 })
  have hc := (State.only_modOutP (s.switchOff n .lockedOff) n fun o => { o with
    cmdOn := false, hostOn := false, cmdDuty := 0 }).2.1.trans (s.switchOff_only n .lockedOff).2.1
  exact State.touches_trans h1 (State.tripFault_touches (State.heard_of_touches h1 hc h) 31).widen

/-! ### Trips -/

/-- A trip of a channel whose bit is set, in each of its cases (03 R102, R104, 08 R259). -/
theorem State.trip_trips (h : s.heard n = true) {b : Nat} (hb : bit (s.chan n).fault b = true) :
    s.trips (s.trip n) n b := by
  have hodd := State.isOdd_of_heard h
  have hrec : s.logsOver (s.recordDecision n 1) := recordOnly_logs ..
  have hrt := State.touches_of_logs hrec [n, mateOf n]
  unfold State.trip State.trips
  dsimp only
  split
  case isTrue hheld =>
    refine ⟨by simpa [State.switchOff_chan] using hb, by simp [State.switchOff_chan],
      fun _ => by simp [State.switchOff_chan], fun e => absurd hheld (by simp [e]),
      fun e => absurd hheld (by simp [e]), State.touches_trans (s.switchOff_touches n .off)
        (State.touches.widen (State.touches_of_modCh ..))⟩
  case isFalse hfree =>
    split
    case isTrue hro =>
      have hodd' : (s.recordDecision n 1).isOdd n = false := by
        rw [setup_isOdd (State.logsOver.setup hrec), hodd]
      have hc : (s.recordDecision n 1).chan n = s.chan n := hrec.chan n
      have hheard : (s.recordDecision n 1).heard n = true :=
        State.heard_of_touches hrt hrec.setup h
      rw [State.lockOff_chan hodd', hc]
      exact ⟨bit_or_of_bit _ hb, rfl, fun e => absurd e hfree, fun _ e => absurd hro (by simp [e]),
        fun _ _ => ⟨rfl, rfl, bit_or_bitW _ (by decide)⟩,
        State.touches_trans hrt (State.lockOff_touches hheard)⟩
    case isFalse hact =>
      split
      case isTrue hused =>
        rw [State.lockOff_chan hodd]
        exact ⟨bit_or_of_bit _ hb, rfl, fun e => absurd e hfree, fun _ _ e => absurd hused (by omega),
          fun _ _ => ⟨rfl, rfl, bit_or_bitW _ (by decide)⟩, State.lockOff_touches h⟩
      case isFalse hleft =>
        rw [State.modOutP_chan_same, State.switchOff_chan]
        exact ⟨hb, rfl, fun e => absurd e hfree, fun _ _ _ => ⟨rfl, rfl, rfl⟩,
          fun _ e => absurd e (by simp [hact, hleft]),
          State.touches_trans (s.switchOff_touches n .tripWait) (State.modOutP_touches ..)⟩

/-- What the trips of a channel depend on. -/
def State.tripBasis (s : State) (n : Ch) : Bool × Bool × BitVec 4 × ChCfg :=
  ((s.chan n).guard.held, (s.chan n).out.cmdOn, (s.chan n).out.retryUsed, s.cfgOf n)

/-- A trip that follows a change of the channel which leaves its basis. -/
theorem State.trips_after {b : Nat} (h : s.touches u [n]) (hb : u.tripBasis n = s.tripBasis n)
    (ht : u.trips t n b) : s.trips t n b := by
  unfold State.tripBasis at hb
  simp only [Prod.mk.injEq] at hb
  obtain ⟨hheld, hcmd, hused, hcfg⟩ := hb
  unfold State.trips at ht ⊢
  rw [hheld, hcmd, hused, hcfg, still_time h.still] at ht
  obtain ⟨h1, h2, h3, h4, h5, h6⟩ := ht
  exact ⟨h1, h2, h3, h4, h5, State.touches_trans h.widen h6⟩

/-- A reported fault and the trip that it brings. -/
theorem State.tripFault_trip_trips (h : s.heard n = true) {b : Nat} (hb : b < 32) :
    s.trips ((s.tripFault n b).trip n) n b := by
  have hodd := State.isOdd_of_heard h
  have h1 := State.tripFault_touches h b
  have h2 := State.tripFault_only hodd b
  have hc := State.tripFault_chan hodd b
  refine State.trips_after h1 ?_ (State.trip_trips (State.heard_of_touches h1 h2.2.1 h) ?_)
  · unfold State.tripBasis; rw [setup_cfgOf h2.2.1, hc]
  · rw [hc]; exact bit_or_bitW _ hb

theorem State.thermalTrip_trips (h : s.heard n = true) {b : Nat} (hb : b < 32) :
    s.trips (s.thermalTrip n b) n b := by
  have h1 : s.touches (s.modOut n fun o => { o with cool := false }) [n] := State.touches_of_modCh ..
  have h2 := (State.only_modCh s n (fun c => { c with out := { c.out with cool := false } }) ⟨rfl, rfl⟩).2.1
  unfold State.thermalTrip
  rw [State.leadOf_of_heard h]
  refine State.trips_after h1 ?_ (State.tripFault_trip_trips (State.heard_of_touches h1 h2 h) hb)
  unfold State.tripBasis
  rw [show (s.modOut n fun o => { o with cool := false }).cfgOf n = s.cfgOf n from setup_cfgOf h2 n,
    State.chan_modOut_same]

/-- A trip leaves the cooling condition. -/
theorem State.trip_cool (h : s.isOdd n = false) : ((s.trip n).chan n).out.cool = (s.chan n).out.cool := by
  have hrec : s.logsOver (s.recordDecision n 1) := recordOnly_logs ..
  unfold State.trip
  dsimp only
  split
  · simp [State.switchOff_chan]
  · split
    · rw [State.lockOff_chan (by rw [setup_isOdd hrec.setup, h]), hrec.chan]
    · split
      · rw [State.lockOff_chan h]
      · rw [State.modOutP_chan_same, State.switchOff_chan]

theorem State.thermalTrip_cool (h : s.isOdd n = false) (b : Nat) :
    ((s.thermalTrip n b).chan n).out.cool = false := by
  have h1 := (State.only_modCh s n (fun c => { c with out := { c.out with cool := false } }) ⟨rfl, rfl⟩).2.1
  have hodd : (s.modOut n fun o => { o with cool := false }).isOdd n = false := (setup_isOdd h1 n).trans h
  have h2 := State.tripFault_only hodd b
  unfold State.thermalTrip
  rw [State.leadOf_of_lead h, State.trip_cool (by rw [setup_isOdd h2.2.1, hodd]), State.tripFault_chan hodd,
    State.chan_modOut_same]

/-! ### Retries -/

/-- A deferral of a retry: the eighth locks the channel off, the others wait again (03 R102). -/
theorem State.retryNow_hot (h : s.cooled n = false) : s.retryNow n =
    if (s.chan n).out.defer = 7 then s.lockOff n
    else s.modOutP n fun o => { o with
      defer := o.defer + 1, heldRetry := false
      due := s.time + fld (s.cfgOf n).outPol 19 10 * 10 * milli } := by
  unfold State.retryNow; simp [h]

/-- A retry that is made counts, and switches on or waits for the APPLY cell (03 R102, 01 R17). -/
theorem State.retryNow_cooled (h : s.cooled n = true) : s.retryNow n =
    (s.modOutP n fun o => { o with
      defer := 0, heldRetry := false, retryUsed := satInc o.retryUsed }).policyOn n := by
  unfold State.retryNow; simp [h]

theorem State.modOutP_schedNow (s : State) (n m : Ch) (f : ChOut → ChOut) :
    (s.modOutP n f).schedNow m = s.schedNow m := by
  have hc := (s.modOutP_touches n f).comb
  have hp : (s.modOutP n f).pw = s.pw := by unfold State.modOutP; dsimp only; split <;> rfl
  unfold State.schedNow State.scheduled State.combMode
  rw [hc, hp]

theorem State.switchOn_touchesGrp (s : State) (n : Ch) :
    s.touchesGrp (s.switchOn n) [n, mateOf n] [grpOf n] := by
  unfold State.switchOn State.noteOn
  exact (State.touchesGrp_of_touches (s.modOutP_touches n _) _).trans (State.touchesGrp_modGrp ..)

theorem State.policyOn_touchesGrp (s : State) (n : Ch) :
    s.touchesGrp (s.policyOn n) [n, mateOf n] [grpOf n] := by
  unfold State.policyOn
  split
  · exact State.touchesGrp_of_touches (s.modOutP_touches n _) _
  · exact s.switchOn_touchesGrp n

end

section
variable {s : State} {n : Ch}

/-! ### What the commands do -/

theorem exec_thermalTripAbs_trips (h : s.heard n = true) (hon : s.onState n = true)
    (ht : bit (s.chan n).fault 28 = false) : exec (.thermalTripAbs n) s = .next (s.thermalTrip n 30) := by
  change execThermalTripAbs n s = _
  unfold execThermalTripAbs
  rw [State.leadOf_of_heard h]
  simp [hon, ht]

theorem exec_thermalTripAbs_ignored (h : s.heard n = true) (ht : bit (s.chan n).fault 28 = true) :
    exec (.thermalTripAbs n) s = .next s := by
  change execThermalTripAbs n s = _
  unfold execThermalTripAbs
  rw [State.leadOf_of_heard h]
  simp [ht]

theorem exec_thermalTripDt (hon : s.onState n = true) :
    exec (.thermalTripDt n) s = .next (s.thermalTrip n 29) := by
  change execThermalTripDt n s = _
  unfold execThermalTripDt
  simp [hon]

theorem exec_reverseCurrent_atIlim (h : s.heard n = true) (hon : s.steadyOn n = true) :
    exec (.reverseCurrentDetected n true) s = .next ((s.tripFault n 23).trip n) := by
  change execReverseCurrentDetected n true s = _
  unfold execReverseCurrentDetected
  rw [State.leadOf_of_heard h]
  simp [hon]

theorem exec_rbMismatch (h : s.heard n = true) (hon : s.steadyOn n = true) (hd : (s.chan n).out.diag = false) :
    exec (.rbMismatchDetected n) s = .next ((s.tripFault n 18).lockOff n) := by
  change execRbMismatchDetected n s = _
  unfold execRbMismatchDetected
  rw [State.leadOf_of_heard h]
  simp [hon, hd]

/-- A reported fault that locks its channel off (03 R108). -/
theorem State.tripFault_lockOff (h : s.heard n = true) (b : Nat) :
    (((s.tripFault n b).lockOff n).chan n).out.ps = .lockedOff ∧
    (((s.tripFault n b).lockOff n).chan n).out.cmdOn = false ∧
    (((s.tripFault n b).lockOff n).chan n).fault = (s.chan n).fault ||| bitW b ||| bitW 31 ∧
    s.touches ((s.tripFault n b).lockOff n) [n, mateOf n] := by
  have hodd := State.isOdd_of_heard h
  have h1 := State.tripFault_touches h b
  have hc := (State.tripFault_only hodd b).2.1
  rw [State.lockOff_chan (by rw [setup_isOdd hc, hodd]), State.tripFault_chan hodd]
  exact ⟨rfl, rfl, rfl,
    State.touches_trans h1.widen (State.lockOff_touches (State.heard_of_touches h1 hc h))⟩

/-- A heard channel in TRIP_WAIT whose interval has run and whose retry nothing stops (03 R102). -/
structure State.retryWaits (s : State) (n : Ch) : Prop where
  heard : s.heard n = true
  switch : (s.modeOf n).isSwitch = true
  ps : (s.chan n).out.ps = .tripWait
  window : s.pw.window = none
  held : (s.chan n).guard.held = false
  polOn : (s.chan n).out.polOn = false
  due : (s.chan n).out.due ≤ s.time

theorem exec_retryDue (h : s.retryWaits n) : exec (.retryDue n) s =
    .next (if s.vfReady (grpOf n) then s.retryNow n
      else s.modOutP n fun o => { o with heldRetry := true }) := by
  change execRetryDue n s = _
  unfold execRetryDue
  rw [State.leadOf_of_heard h.heard]
  cases hv : s.vfReady (grpOf n) <;>
    simp [h.switch, h.ps, h.window, h.held, h.polOn, h.due, State.dieUp_of_heard h.heard, hv]

/-- A retry of a cooled channel (03 R102, 01 R17). -/
theorem State.retryNow_made (h : s.cooled n = true) :
    ((s.retryNow n).chan n).out.retryUsed = satInc (s.chan n).out.retryUsed ∧
    ((s.retryNow n).chan n).out.defer = 0 ∧
    (s.schedNow n = false → ((s.retryNow n).chan n).out.ps.isOn = true) ∧
    (s.schedNow n = true →
      ((s.retryNow n).chan n).out.polOn = true ∧ ((s.retryNow n).chan n).out.ps = (s.chan n).out.ps) := by
  rw [State.retryNow_cooled h]
  unfold State.policyOn
  rw [State.modOutP_schedNow]
  cases hs : s.schedNow n
  case false =>
    obtain ⟨hused, hdefer, -⟩ := State.switchOn_out (s.modOutP n fun o => { o with
      defer := 0, heldRetry := false, retryUsed := satInc o.retryUsed }) n
    simp only [Bool.false_eq_true, if_false]
    rw [hused, hdefer, State.modOutP_chan_same]
    exact ⟨rfl, rfl, fun _ => State.switchOn_isOn .., fun e => e.elim⟩
  case true => simp

theorem State.retryNow_touchesGrp (h : s.heard n = true) :
    s.touchesGrp (s.retryNow n) [n, mateOf n] [grpOf n] := by
  cases hc : s.cooled n
  case true =>
    rw [State.retryNow_cooled hc]
    exact (State.touchesGrp_of_touches (s.modOutP_touches n _) _).trans (State.policyOn_touchesGrp ..)
  case false =>
    rw [State.retryNow_hot hc]
    split
    · exact State.touchesGrp_of_touches (State.lockOff_touches h) _
    · exact State.touchesGrp_of_touches (s.modOutP_touches n _) _

end

end Sys2Proof.Machine

open Sys2Proof Sys2Proof.Machine

/-- Settles O49: the trips through `State.trip_trips`, the retry through the two forms of `State.retryNow`. -/
theorem trips : Obligations.Trips := by
  unfold Obligations.Trips
  refine ⟨fun s n hh hon => ⟨fun ht => ⟨_, exec_thermalTripAbs_trips hh hon ht,
      State.thermalTrip_trips hh (by decide), State.thermalTrip_cool (State.isOdd_of_heard hh) 30⟩,
    exec_thermalTripAbs_ignored hh,
    ⟨_, exec_thermalTripDt hon, State.thermalTrip_trips hh (by decide),
      State.thermalTrip_cool (State.isOdd_of_heard hh) 29⟩,
    fun hs => ⟨_, exec_reverseCurrent_atIlim hh hs, State.tripFault_trip_trips hh (by decide)⟩,
    fun hs hd => ⟨_, exec_rbMismatch hh hs hd, State.tripFault_lockOff hh 18⟩⟩,
    fun s n hh hm hps hw hg hp hd => ?_⟩
  have hexec := exec_retryDue ⟨hh, hm, hps, hw, hg, hp, hd⟩
  refine ⟨fun hv => ?_, fun hv => ?_⟩
  · rw [hv] at hexec
    refine ⟨_, hexec, by simp [hps], by simp, s.modOutP_touches n _⟩
  · rw [hv, if_pos rfl] at hexec
    refine ⟨_, hexec, State.retryNow_touchesGrp hh, fun hc => ?_, fun hc hne => ?_, fun hc he => ?_⟩
    · obtain ⟨hused, hdefer, hfree, hsched⟩ := State.retryNow_made hc
      exact ⟨hused, hdefer, hfree, fun e => ⟨(hsched e).1, (hsched e).2.trans hps⟩⟩
    · rw [State.retryNow_hot hc, if_neg hne, State.modOutP_chan_same]
      exact ⟨hps, rfl, rfl⟩
    · rw [State.retryNow_hot hc, if_pos he, State.lockOff_chan (State.isOdd_of_heard hh)]
      exact ⟨rfl, rfl, bit_or_bitW _ (by decide)⟩
end

section
/-! ## Doing one thing to each channel of a list -/

namespace Sys2Proof.Machine

section
variable {s t : State} {n : Ch} {l : List Ch} {op : State → Ch → State}

@[simp] theorem State.each_nil {α : Type} (s : State) (f : State → α → State) : s.each [] f = s := rfl

@[simp] theorem State.each_cons {α : Type} (s : State) (a : α) (l : List α) (f : State → α → State) :
    s.each (a :: l) f = (f s a).each l f := rfl

/-- Steps that each reach channels of a list reach no others together. -/
theorem State.each_only {α : Type} {op : State → α → State} {as : List α} {k : List Ch}
    (hop : ∀ t : State, t.setup = s.setup → ∀ a ∈ as, t.only (op t a) k) : s.only (s.each as op) k := by
  induction as generalizing s with
  | nil => exact s.only_refl k
  | cons a as ih =>
    have h1 := hop s rfl a List.mem_cons_self
    refine h1.trans (ih fun t ht b hb => hop t (ht.trans h1.2.1) b (List.mem_cons_of_mem _ hb))

/-- A step that reaches the output of its channel alone, from every state of the same configuration. -/
def State.actsOnOut (s : State) (op : State → Ch → State) (l : List Ch) : Prop :=
  ∀ t : State, t.setup = s.setup → ∀ n ∈ l, t.only (op t n) (s.outCh n)

theorem State.each_only_outs (hop : s.actsOnOut op l) : s.only (s.each l op) (l.flatMap s.outCh) :=
  State.each_only fun t ht n hn => (hop t ht n hn).mono fun _ hm => List.mem_flatMap.mpr ⟨n, hn, hm⟩

/-- Such steps leave a channel that carries its own configuration and is not among theirs. -/
theorem State.not_mem_outs (hl : ∀ m ∈ l, s.isOdd m = false) (hn : s.isOdd n = false) (hm : n ∉ l) :
    n ∉ l.flatMap s.outCh := by
  intro h
  obtain ⟨m, hml, hnm⟩ := List.mem_flatMap.mp h
  exact State.not_mem_outCh (hl m hml) hn (fun e => hm (e ▸ hml)) hnm

/-- Such steps leave the other groups. -/
theorem State.not_mem_outs_of_grp {g : Grp} (hl : ∀ m ∈ l, grpOf m = g) (hn : grpOf n ≠ g) :
    n ∉ l.flatMap s.outCh := by
  intro h
  obtain ⟨m, hml, hnm⟩ := List.mem_flatMap.mp h
  exact hn ((State.grpOf_mem_outCh hnm).trans (hl m hml))

/-- Each channel of the list is as its own step leaves it, which finds it as it was at the start. -/
theorem State.each_visit (hop : s.actsOnOut op l) (hodd : ∀ m ∈ l, s.isOdd m = false) (hnd : l.Nodup)
    (hn : n ∈ l) : ∃ u : State, u.setup = s.setup ∧ u.still = s.still ∧ u.chan n = s.chan n ∧
      (s.each l op).chan n = (op u n).chan n := by
  induction l generalizing s with
  | nil => cases hn
  | cons a l ih =>
    obtain ⟨hal, hnd'⟩ := List.nodup_cons.mp hnd
    have h1 := hop s rfl a List.mem_cons_self
    have hop' : (op s a).actsOnOut op l := fun t ht m hm => by
      rw [h1.outCh]; exact hop t (ht.trans h1.2.1) m (List.mem_cons_of_mem _ hm)
    have hodd' : ∀ m ∈ l, (op s a).isOdd m = false := fun m hm => by
      rw [setup_isOdd h1.2.1]; exact hodd m (List.mem_cons_of_mem _ hm)
    rw [State.each_cons]
    by_cases e : n = a
    · subst e
      have hn' : (op s n).isOdd n = false := by rw [setup_isOdd h1.2.1]; exact hodd n List.mem_cons_self
      exact ⟨s, rfl, rfl, rfl, (State.each_only_outs hop').2.2 n (State.not_mem_outs hodd' hn' hal)⟩
    · have hnl : n ∈ l := by simpa [e] using hn
      obtain ⟨u, hu1, hu2, hu3, hu4⟩ := ih hop' hodd' hnd' hnl
      refine ⟨u, hu1.trans h1.2.1, hu2.trans h1.1, hu3.trans (h1.2.2 n ?_), hu4⟩
      exact State.not_mem_outCh (hodd a List.mem_cons_self) (hodd n hn) e

/-- What no step of the list changes. -/
theorem State.each_keeps {α β : Type} {op : State → α → State} (f : State → β) (h : ∀ t a, f (op t a) = f t)
    (as : List α) (s : State) : f (s.each as op) = f s := by
  induction as generalizing s with
  | nil => rfl
  | cons a as ih => rw [State.each_cons, ih, h]

end

/-! ## Shedding (03 R114, R115, 16 R482) -/

section
variable {s t : State} {n : Ch}

/-! ### One channel -/

theorem State.only.isOdd {l : List Ch} (h : s.only t l) (n : Ch) : t.isOdd n = s.isOdd n := setup_isOdd h.2.1 n

theorem State.only_countOverride (s : State) (n : Ch) : s.only (s.countOverride n) [n] :=
  State.only_modCh _ _ _ ⟨rfl, rfl⟩

theorem State.only.toOut {l : List Ch} (h : t.only u [n]) (hl : n ∈ l) : t.only u l :=
  h.mono (by simpa using hl)

/-- The output of a channel that is shed under act, before the policy reports it (03 R114). -/
def State.shedOut (s : State) (env : Bool) (n : Ch) : State :=
  let s1 := (s.switchOff n .shed).modOutP n fun o =>
    if env then { o with shedEnv := true } else { o with shedDie := true }
  if (s.chan n).out.hostOn then s1.countOverride n else s1

theorem State.shedChannel_ro {env : Bool} (h : bit (s.cfgOf n).outPol 30 = true) :
    s.shedChannel env n = s.setFault n 20 := by unfold State.shedChannel; simp [h]

theorem State.shedChannel_act {env : Bool} (h : bit (s.cfgOf n).outPol 30 = false) :
    s.shedChannel env n = (s.shedOut env n).setFault n 20 := by
  unfold State.shedChannel State.shedOut; simp [h]

theorem State.shedOut_only (s : State) (env : Bool) (n : Ch) : s.only (s.shedOut env n) (s.outCh n) := by
  have h1 := s.switchOff_only n .shed
  have h2 := State.only_modOutP (s.switchOff n .shed) n fun o =>
    if env then { o with shedEnv := true } else { o with shedDie := true }
  rw [h1.outCh] at h2
  unfold State.shedOut
  dsimp only
  split
  · exact (h1.trans h2).trans ((State.only_countOverride ..).toOut (s.mem_outCh_self n))
  · exact h1.trans h2

theorem State.shedChannel_only (h : s.isOdd n = false) (env : Bool) :
    s.only (s.shedChannel env n) (s.outCh n) := by
  cases hro : bit (s.cfgOf n).outPol 30
  case true =>
    rw [State.shedChannel_ro hro]
    exact (State.setFault_only h 20).toOut (s.mem_outCh_self n)
  case false =>
    rw [State.shedChannel_act hro]
    have h1 := s.shedOut_only env n
    exact h1.trans ((State.setFault_only (by rw [h1.isOdd, h]) 20).toOut (s.mem_outCh_self n))

/-- Under act a channel goes to SHED with its command kept, and the policy overrides the host's (03 R114,
01 'Layers of action'). -/
theorem State.shedOut_chan (s : State) (env : Bool) (n : Ch) :
    ((s.shedOut env n).chan n).out.ps = .shed ∧
    (if env then ((s.shedOut env n).chan n).out.shedEnv = true
      else ((s.shedOut env n).chan n).out.shedDie = true) ∧
    ((s.shedOut env n).chan n).out.cmdOn = (s.chan n).out.cmdOn ∧
    ((s.chan n).out.hostOn = true → ((s.shedOut env n).chan n).overridden = true) := by
  unfold State.shedOut State.countOverride
  dsimp only
  cases env <;> cases hh : (s.chan n).out.hostOn <;> simp [State.switchOff_chan]

/-- SHED sets in both cases (03 R114). -/
theorem State.shedChannel_fault (h : s.isOdd n = false) (env : Bool) :
    bit ((s.shedChannel env n).chan n).fault 20 = true := by
  cases hro : bit (s.cfgOf n).outPol 30
  case true =>
    rw [State.shedChannel_ro hro, State.setFault_chan h]
    exact bit_or_bitW _ (by decide)
  case false =>
    rw [State.shedChannel_act hro, State.setFault_chan (by rw [(s.shedOut_only env n).isOdd, h])]
    exact bit_or_bitW _ (by decide)

theorem State.shedChannel_out_ro (h : s.isOdd n = false) {env : Bool}
    (hro : bit (s.cfgOf n).outPol 30 = true) : ((s.shedChannel env n).chan n).out = (s.chan n).out := by
  rw [State.shedChannel_ro hro, State.setFault_chan h]

theorem State.shedChannel_out_act (h : s.isOdd n = false) {env : Bool}
    (hact : bit (s.cfgOf n).outPol 30 = false) :
    ((s.shedChannel env n).chan n).out = ((s.shedOut env n).chan n).out ∧
    ((s.shedChannel env n).chan n).overridden = ((s.shedOut env n).chan n).overridden := by
  rw [State.shedChannel_act hact, State.setFault_chan (by rw [(s.shedOut_only env n).isOdd, h])]
  exact ⟨rfl, rfl⟩

@[simp] theorem State.modOutP_ev (s : State) (n : Ch) (f : ChOut → ChOut) : (s.modOutP n f).ev = s.ev := by
  unfold State.modOutP; dsimp only; split <;> rfl

theorem State.shedChannel_src {k : Fin 128} (hk : 32 ≤ k.val) (s : State) (env : Bool) (n : Ch) :
    (s.shedChannel env n).ev.src[k.val] = s.ev.src[k.val] := by
  have hout : (s.shedOut env n).ev = s.ev := by
    unfold State.shedOut State.countOverride State.switchOff
    dsimp only
    split <;> simp
  cases hro : bit (s.cfgOf n).outPol 30
  case true => rw [State.shedChannel_ro hro, State.setFault_src hk]
  case false => rw [State.shedChannel_act hro, State.setFault_src hk, hout]

/-! ### The candidates of a step -/

theorem State.isOdd_of_sheddable {l : List Ch} (h : n ∈ s.sheddable l) : s.isOdd n = false := by
  unfold State.sheddable at h
  simp only [List.mem_filter, Bool.and_eq_true, Bool.not_eq_true'] at h
  exact h.2.1.1.2

/-- The candidates of a priority. -/
def State.shedNow (s : State) (l : List Ch) (p : Nat) : List Ch :=
  (s.sheddable l).filter fun n => (s.cfgOf n).shedPri == p

theorem State.mem_shedNow {l : List Ch} {p : Nat} :
    n ∈ s.shedNow l p ↔ n ∈ s.sheddable l ∧ (s.cfgOf n).shedPri = p := by
  unfold State.shedNow; rw [List.mem_filter]; simp

theorem State.shedChannel_actsOnOut {l : List Ch} (env : Bool) (h : ∀ n ∈ l, s.isOdd n = false) :
    s.actsOnOut (State.shedChannel · env) l := fun t ht n hn => by
  have := State.shedChannel_only (s := t) (by rw [setup_isOdd ht, h n hn]) env
  unfold State.outCh at this ⊢
  rwa [setup_pairOf ht] at this

/-- What shedding the candidates of a priority does to a channel among them (03 R114). -/
theorem State.each_shedChannel {l : List Ch} (env : Bool) (hl : ∀ m ∈ l, s.isOdd m = false) (hnd : l.Nodup)
    (hn : n ∈ l) :
    bit ((s.each l (State.shedChannel · env)).chan n).fault 20 = true ∧
    (bit (s.cfgOf n).outPol 30 = false →
      ((s.each l (State.shedChannel · env)).chan n).out.ps = .shed ∧
      (if env then ((s.each l (State.shedChannel · env)).chan n).out.shedEnv = true
        else ((s.each l (State.shedChannel · env)).chan n).out.shedDie = true) ∧
      ((s.each l (State.shedChannel · env)).chan n).out.cmdOn = (s.chan n).out.cmdOn ∧
      ((s.chan n).out.hostOn = true → ((s.each l (State.shedChannel · env)).chan n).overridden = true)) ∧
    (bit (s.cfgOf n).outPol 30 = true →
      ((s.each l (State.shedChannel · env)).chan n).out = (s.chan n).out) := by
  obtain ⟨u, hu1, -, hu3, hu4⟩ := State.each_visit (State.shedChannel_actsOnOut env hl) hl hnd hn
  have hodd : u.isOdd n = false := by rw [setup_isOdd hu1, hl n hn]
  rw [← setup_cfgOf hu1, hu4, ← hu3]
  refine ⟨State.shedChannel_fault hodd env, fun hact => ?_, fun hro => State.shedChannel_out_ro hodd hro⟩
  obtain ⟨h1, h2⟩ := State.shedChannel_out_act hodd (env := env) hact
  rw [h1, h2]
  exact u.shedOut_chan env n

/-! ### SHED_STEP -/

/-- The next priority to shed of a die (03 R114). -/
def State.dieLevel (s : State) (g : Grp) : Option Nat :=
  s.lowestPri (s.sheddable (chOf g)) ((s.group g).sup.shedLevel.getD 0)

/-- What SHED_STEP needs to act (03 R114). -/
def State.shedsDie (s : State) (g : Grp) : Prop :=
  s.feat 11 = true ∧ (s.group g).link.failed = false ∧ s.pw.window = none

theorem exec_shedStep_none {g : Grp} (h : s.shedsDie g) (hp : s.dieLevel g = none) :
    exec (.shedStep g) s = .next s := by
  obtain ⟨hf, hl, hw⟩ := h
  unfold State.dieLevel at hp
  change execShedStep g s = _
  unfold execShedStep
  simp [hf, hl, hw, hp]

/-- The candidates of the priority are shed, the next step goes on above it, and events tell it. -/
theorem exec_shedStep_some {g : Grp} {p : Nat} (h : s.shedsDie g) (hp : s.dieLevel g = some p) :
    ∃ t, exec (.shedStep g) s = .next t ∧
      State.logsOver ((s.each (s.shedNow (chOf g) p) (State.shedChannel · false)).modSup g
        fun u => { u with shedLevel := some (p + 1) }) t := by
  obtain ⟨hf, hl, hw⟩ := h
  unfold State.dieLevel at hp
  change ∃ t, execShedStep g s = .next t ∧ _
  unfold execShedStep
  simp only [hf, hl, hw, hp, Bool.not_false, Option.isNone_none, Bool.and_self, if_true]
  refine ⟨_, rfl, ?_⟩
  unfold State.raiseThermal
  split <;> split
  · exact logsOver_trans (raise_logs ..) (raise_logs ..)
  · exact raise_logs ..
  · exact raise_logs ..
  · exact logsOver_refl _

end

end Sys2Proof.Machine
end

section
/-! ## Restoring, the stagger sequence and the envelope -/

namespace Sys2Proof.Machine

section
variable {s t : State} {n m : Ch} {g : Grp}

/-! ### A turn of the stagger sequence (03 R119) -/

/-- A retry that is decided leaves the cooling condition and what is shed. -/
theorem State.retryNow_keeps (h : s.isOdd n = false) :
    ((s.retryNow n).chan n).out.cool = (s.chan n).out.cool ∧
    ((s.retryNow n).chan n).out.shedDie = (s.chan n).out.shedDie := by
  cases hc : s.cooled n
  case true =>
    rw [State.retryNow_cooled hc]
    unfold State.policyOn
    split
    · simp
    · obtain ⟨-, -, hcool, hshed⟩ := State.switchOn_out (s.modOutP n fun o => { o with
        defer := 0, heldRetry := false, retryUsed := satInc o.retryUsed }) n
      rw [hcool, hshed, State.modOutP_chan_same]
      exact ⟨rfl, rfl⟩
  case false =>
    rw [State.retryNow_hot hc]
    split
    · rw [State.lockOff_chan h]; exact ⟨rfl, rfl⟩
    · rw [State.modOutP_chan_same]; exact ⟨rfl, rfl⟩

theorem State.policyOn_only (s : State) (n : Ch) : s.only (s.policyOn n) (s.outCh n) := by
  unfold State.policyOn
  split
  · exact s.only_modOutP n _
  · exact s.switchOn_only n

theorem State.retryNow_only (h : s.isOdd n = false) : s.only (s.retryNow n) (s.outCh n) := by
  cases hc : s.cooled n
  case true =>
    rw [State.retryNow_cooled hc]
    have h1 := s.only_modOutP n fun o => { o with
      defer := 0, heldRetry := false, retryUsed := satInc o.retryUsed }
    have h2 := State.policyOn_only (s.modOutP n fun o => { o with
      defer := 0, heldRetry := false, retryUsed := satInc o.retryUsed }) n
    rw [h1.outCh] at h2
    exact h1.trans h2
  case false =>
    rw [State.retryNow_hot hc]
    split
    · exact State.lockOff_only h
    · exact s.only_modOutP n _

/-- Changing the supply part of a group reaches no channel. -/
theorem State.only_modSup (s : State) (g : Grp) (f : GrpSup → GrpSup) (l : List Ch) : s.only (s.modSup g f) l :=
  State.only_of_chan rfl (fun _ => rfl) l

theorem State.setCode_only (s : State) (n : Ch) (k : BitVec 16) : s.only (s.setCode n k) [n] := by
  have h1 : s.only (s.modAo n fun a => { a with code := k, heldCode := none, down := false, off := false }) [n] :=
    State.only_modCh _ _ _ ⟨rfl, rfl⟩
  unfold State.setCode
  dsimp only
  split
  · exact h1.trans (State.only_modSup ..)
  · exact h1

theorem State.setCode_out (s : State) (n : Ch) (k : BitVec 16) :
    ((s.setCode n k).chan n).out = (s.chan n).out := by
  unfold State.setCode State.noteOn
  dsimp only
  split <;> simp

theorem State.setLoop_only (s : State) (n : Ch) (on : Bool) : s.only (s.setLoop n on) [n] := by
  unfold State.setLoop
  dsimp only
  split
  · exact (State.only_modCh _ _ _ ⟨rfl, rfl⟩).trans (State.only_modSup ..)
  · exact State.only_modCh _ _ _ ⟨rfl, rfl⟩

theorem State.setLoop_out (s : State) (n : Ch) (on : Bool) :
    ((s.setLoop n on).chan n).out = (s.chan n).out := by
  unfold State.setLoop State.noteOn
  dsimp only
  split <;> simp

/-- What the turn of channel m makes of its output: a decided retry, a switch-on, or another stage's start. -/
inductive State.turnOf (s : State) (m : Ch) : State → Prop
  | retry (h : (s.chan m).out.ps = .tripWait ∧ (s.chan m).out.polOn = false) (hodd : s.isOdd m = false) :
    State.turnOf s m (s.retryNow m)
  | on (hodd : s.isOdd m = false) : State.turnOf s m (s.switchOn m)
  | stage {t : State} (h : s.only t [m]) (ho : (t.chan m).out = (s.chan m).out) : State.turnOf s m t

/-- A switching channel that waits for a turn carries its own configuration (02 R43). -/
theorem State.isOdd_of_waitsTurn (h : s.waitsTurn m = true) (hm : (s.modeOf m).isSwitch = true) :
    s.isOdd m = false := by
  unfold State.waitsTurn at h
  simp only [hm, if_true] at h
  split at h
  · cases h
  · simp only [Bool.and_eq_true, Bool.not_eq_true'] at h
    exact h.1

/-- The channel whose turn it is waits for one and belongs to the group. -/
theorem State.nextTurn_spec (h : s.nextTurn g = some m) : s.waitsTurn m = true ∧ grpOf m = g := by
  unfold State.nextTurn at h
  have hfold : ∀ (l : List Ch) (b : Option Ch),
      l.foldl (fun best n => match best with
        | none => some n
        | some b => if s.rankOf n < s.rankOf b then some n else some b) b = some m → b = some m ∨ m ∈ l := by
    intro l
    induction l with
    | nil => exact fun b hb => .inl hb
    | cons a l ih =>
      intro b hb
      rcases ih _ hb with h1 | h1
      · cases b with
        | none => exact .inr (by cases h1; exact List.mem_cons_self)
        | some c =>
          simp only at h1
          split at h1
          · exact .inr (by cases h1; exact List.mem_cons_self)
          · exact .inl h1
      · exact .inr (List.mem_cons_of_mem _ h1)
  rcases hfold _ _ h with h1 | h1
  · cases h1
  · rw [List.mem_filter, mem_chOf] at h1
    exact ⟨h1.2, h1.1⟩

/-- A step of the sequence changes no channel, or it is the turn of one channel of its group. -/
theorem State.staggerStep_turn (s : State) (g : Grp) :
    ((s.staggerStep g).still = s.still ∧ ∀ m, (s.staggerStep g).chan m = s.chan m) ∨
    ∃ m u, grpOf m = g ∧ s.turnOf m u ∧ (s.staggerStep g).still = u.still ∧
      ∀ k, (s.staggerStep g).chan k = u.chan k := by
  unfold State.staggerStep
  split
  case h_1 => exact .inl ⟨rfl, fun _ => rfl⟩
  case h_2 m hm =>
    obtain ⟨hw, hg⟩ := State.nextTurn_spec hm
    have hend (u : State) : (if (u.nextTurn g).isNone then u.modSup g fun x => { x with recovering := false }
        else u).still = u.still ∧ ∀ k, (if (u.nextTurn g).isNone then
          u.modSup g fun x => { x with recovering := false } else u).chan k = u.chan k := by
      split <;> exact ⟨rfl, fun _ => rfl⟩
    refine .inr ⟨m, _, hg, ?_, (hend _).1, (hend _).2⟩
    have hsw (he : (s.modeOf m).isSwitch = true) : s.turnOf m
        (if (s.chan m).out.ps == PState.tripWait && !(s.chan m).out.polOn then s.retryNow m else s.switchOn m) := by
      have hodd := State.isOdd_of_waitsTurn hw he
      split
      · rename_i hc
        simp only [Bool.and_eq_true, beq_iff_eq, Bool.not_eq_true'] at hc
        exact .retry hc hodd
      · exact .on hodd
    split
    · rename_i he; exact hsw (by rw [he]; rfl)
    · rename_i he; exact hsw (by rw [he]; rfl)
    · exact .stage ((s.setLoop_only m true).trans (State.only_modCh _ _ _ ⟨rfl, rfl⟩))
        (by rw [State.chan_modCh_same]; exact s.setLoop_out m true)
    · exact .stage (s.setCode_only ..) (s.setCode_out ..)

theorem State.turnOf.still (h : s.turnOf m t) : t.still = s.still := by
  cases h with
  | retry _ hodd => exact (State.retryNow_only hodd).1
  | on => exact (s.switchOn_only m).1
  | stage h => exact h.1

/-- A turn leaves every other channel that carries its own configuration. -/
theorem State.turnOf.chan_ne (h : s.turnOf m t) (hn : s.isOdd n = false) (hne : n ≠ m) : t.chan n = s.chan n := by
  cases h with
  | retry _ hodd => exact (State.retryNow_only hodd).2.2 n (State.not_mem_outCh hodd hn hne)
  | on hodd => exact (s.switchOn_only m).2.2 n (State.not_mem_outCh hodd hn hne)
  | stage h => exact h.2.2 n (by simpa using hne)

theorem State.turnOf.chan_grp (h : s.turnOf m t) (hg : grpOf n ≠ grpOf m) : t.chan n = s.chan n := by
  have hout : n ∉ s.outCh m := fun e => hg (State.grpOf_mem_outCh e)
  cases h with
  | retry _ hodd => exact (State.retryNow_only hodd).2.2 n hout
  | on => exact (s.switchOn_only m).2.2 n hout
  | stage h => exact h.2.2 n fun e => hout (by
      obtain rfl : n = m := by simpa using e
      exact s.mem_outCh_self n)

/-- A turn leaves the cooling condition and what is shed. -/
theorem State.turnOf.keeps (h : s.turnOf m t) (hn : s.isOdd n = false) :
    (t.chan n).out.cool = (s.chan n).out.cool ∧ (t.chan n).out.shedDie = (s.chan n).out.shedDie := by
  by_cases hne : n = m
  · subst hne
    cases h with
    | retry _ hodd => exact State.retryNow_keeps hodd
    | on =>
      obtain ⟨-, -, hcool, hshed⟩ := State.switchOn_out s n
      exact ⟨hcool, hshed⟩
    | stage _ ho => rw [ho]; exact ⟨rfl, rfl⟩
  · rw [h.chan_ne hn hne]; exact ⟨rfl, rfl⟩

/-- A policy's switch-on that waits still waits after a turn, or the channel is on. -/
theorem State.turnOf.polOn (h : s.turnOf m t) (hn : s.isOdd n = false) (hp : (s.chan n).out.polOn = true) :
    (t.chan n).out.polOn = true ∨ (t.chan n).out.ps.isOn = true := by
  by_cases hne : n = m
  · subst hne
    cases h with
    | retry hw => rw [hw.2] at hp; cases hp
    | on => exact .inr (State.switchOn_isOn ..)
    | stage _ ho => rw [ho]; exact .inl hp
  · rw [h.chan_ne hn hne]; exact .inl hp

/-- A step of the sequence of a group. -/
theorem State.staggerStep_still (s : State) (g : Grp) : (s.staggerStep g).still = s.still := by
  rcases s.staggerStep_turn g with ⟨h, -⟩ | ⟨m, u, -, ht, hs, -⟩
  · exact h
  · exact hs.trans ht.still

theorem State.staggerStep_chan_grp (hg : grpOf n ≠ g) : (s.staggerStep g).chan n = s.chan n := by
  rcases s.staggerStep_turn g with ⟨-, h⟩ | ⟨m, u, hm, ht, -, hc⟩
  · exact h n
  · rw [hc n]; exact ht.chan_grp (by rwa [hm])

theorem State.staggerStep_keeps (hn : s.isOdd n = false) :
    ((s.staggerStep g).chan n).out.cool = (s.chan n).out.cool ∧
    ((s.staggerStep g).chan n).out.shedDie = (s.chan n).out.shedDie := by
  rcases s.staggerStep_turn g with ⟨-, h⟩ | ⟨m, u, -, ht, -, hc⟩
  · rw [h n]; exact ⟨rfl, rfl⟩
  · rw [hc n]; exact ht.keeps hn

theorem State.staggerStep_polOn (hn : s.isOdd n = false) (hp : (s.chan n).out.polOn = true) :
    ((s.staggerStep g).chan n).out.polOn = true ∨ ((s.staggerStep g).chan n).out.ps.isOn = true := by
  rcases s.staggerStep_turn g with ⟨-, h⟩ | ⟨m, u, -, ht, -, hc⟩
  · rw [h n]; exact .inl hp
  · rw [hc n]; exact ht.polOn hn hp

/-! ### SHED_RESTORE_STEP -/

/-- One channel released by the die's shedding (03 R115). -/
def State.unshedDie (s : State) (n : Ch) : State :=
  let s1 := s.modOutP n fun o => { o with shedDie := false }
  if (s1.chan n).out.shedEnv then s1 else s1.restoreChannel n

theorem State.restoreChannel_only (s : State) (n : Ch) : s.only (s.restoreChannel n) (s.outCh n) := by
  unfold State.restoreChannel
  split
  · exact State.only_refl ..
  · exact s.only_modOutP n _

theorem State.unshedDie_only (s : State) (n : Ch) : s.only (s.unshedDie n) (s.outCh n) := by
  have h1 := s.only_modOutP n fun o => { o with shedDie := false }
  have h2 := State.restoreChannel_only (s.modOutP n fun o => { o with shedDie := false }) n
  rw [h1.outCh] at h2
  unfold State.unshedDie
  dsimp only
  split
  · exact h1
  · exact h1.trans h2

/-- A channel that the envelope does not hold in SHED waits for its switch-on there (03 R98, 01 R17). -/
theorem State.unshedDie_chan (s : State) (n : Ch) :
    ((s.unshedDie n).chan n).out.shedDie = false ∧
    ((s.chan n).out.shedEnv = false → (s.chan n).out.ps = .shed → ((s.unshedDie n).chan n).out.polOn = true) := by
  unfold State.unshedDie State.restoreChannel
  simp only [State.modOutP_chan_same]
  cases he : (s.chan n).out.shedEnv <;> cases hp : (s.chan n).out.ps <;> simp

/-- The channels of a group that its die has shed (03 R115). -/
def State.shedByDie (s : State) (g : Grp) : List Ch :=
  (chOf g).filter fun n => (s.chan n).out.shedDie && !s.isOdd n

/-- Those of them that a restoring step takes, the largest priority first. -/
def State.restoreNow (s : State) (g : Grp) : List Ch :=
  (s.shedByDie g).filter fun n => (s.cfgOf n).shedPri == s.highestPri (s.shedByDie g)

theorem State.isOdd_of_shedByDie (h : n ∈ s.shedByDie g) : s.isOdd n = false := by
  unfold State.shedByDie at h
  simp only [List.mem_filter, Bool.and_eq_true, Bool.not_eq_true'] at h
  exact h.2.2

theorem State.shedByDie_restoreNow (h : n ∈ s.restoreNow g) : n ∈ s.shedByDie g := (List.mem_filter.mp h).1

/-- The released channels and the state in which their group's sequence takes its first step. -/
def State.restored (s : State) (g : Grp) : State :=
  (s.each (s.restoreNow g) State.unshedDie).modSup g fun u => { u with
    recovering := true
    shedLevel := if s.highestPri (s.shedByDie g) = 0 then none else some (s.highestPri (s.shedByDie g)) }

theorem exec_shedRestoreStep_nil (hl : (s.group g).link.failed = false) (hw : s.pw.window = none)
    (h : s.shedByDie g = []) :
    exec (.shedRestoreStep g) s = .next (s.modSup g fun u => { u with shedLevel := none }) := by
  change execShedRestoreStep g s = _
  unfold State.shedByDie at h
  unfold execShedRestoreStep
  simp [hl, hw, h]

theorem exec_shedRestoreStep (hl : (s.group g).link.failed = false) (hw : s.pw.window = none)
    (h : s.shedByDie g ≠ []) :
    exec (.shedRestoreStep g) s = .next
      ((if (s.restored g).clearOn g then (s.restored g).staggerStep g else s.restored g).raiseThermal g 3) := by
  change execShedRestoreStep g s = _
  unfold execShedRestoreStep
  have he : (s.shedByDie g).isEmpty = false := by simpa using h
  unfold State.shedByDie at he
  simp only [hl, hw, he, Option.isSome_none, Bool.or_self, Bool.false_eq_true, if_false]
  rfl

theorem State.unshedDie_actsOnOut (s : State) (l : List Ch) : s.actsOnOut State.unshedDie l := fun t ht n _ => by
  have h := t.unshedDie_only n
  unfold State.outCh at h ⊢
  rwa [setup_pairOf ht] at h

theorem State.restored_only (s : State) (g : Grp) :
    s.only (s.restored g) ((s.restoreNow g).flatMap s.outCh) :=
  (State.each_only_outs (s.unshedDie_actsOnOut _)).trans (State.only_modSup ..)

theorem State.restored_chan (hn : n ∈ s.restoreNow g) :
    ((s.restored g).chan n).out.shedDie = false ∧
    ((s.chan n).out.shedEnv = false → (s.chan n).out.ps = .shed → ((s.restored g).chan n).out.polOn = true) := by
  obtain ⟨u, -, -, hu3, hu4⟩ := State.each_visit (s.unshedDie_actsOnOut _)
    (fun m hm => State.isOdd_of_shedByDie (State.shedByDie_restoreNow hm))
    (((chOf_nodup g).filter _).filter _) hn
  have hc : (s.restored g).chan n = (u.unshedDie n).chan n := hu4
  rw [hc, ← hu3]
  exact u.unshedDie_chan n

theorem State.raiseThermal_logs (s : State) (g : Grp) (c : Nat) : s.logsOver (s.raiseThermal g c) := raise_logs ..

theorem State.raiseThermal_pending (h : s.hostUp = true) (g : Grp) (c : Nat) :
    (s.raiseThermal g c).pendingWith (srcNo (68 + g.val)) c :=
  raise_pending _ _ _ _ _ _ _ h (by revert g; decide)

end

section
variable {s t u : State} {n m : Ch} {g : Grp}

/-! ### SWITCH_COOLED (03 R97, R119) -/

/-- A channel whose switch has cooled. -/
def State.coolNow (s : State) (n : Ch) : State := s.modOut n fun o => { o with cool := true }

theorem State.coolNow_only (s : State) (n : Ch) : s.only (s.coolNow n) [n] := State.only_modCh _ _ _ ⟨rfl, rfl⟩

theorem State.coolNow_cool (s : State) (n : Ch) : ((s.coolNow n).chan n).out.cool = true := by
  unfold State.coolNow; rw [State.chan_modOut_same]

/-- Whether a cooled channel takes the command that PEND holds at once (03 R98, R119). -/
def State.coolStarts (s : State) (n : Ch) : Bool :=
  (s.chan n).out.ps == .pend && (s.coolNow n).readyOn n && !(s.group (grpOf n)).sup.recovering &&
    !(s.chan n).guard.held && !(s.chan n).out.turn

theorem exec_switchCooled_starts (h : s.heard n = true) (hm : (s.modeOf n).isSwitch = true)
    (hs : s.coolStarts n = true) : exec (.switchCooled n) s = .next ((s.coolNow n).switchOn n) := by
  change execSwitchCooled n s = _
  unfold State.coolStarts State.coolNow at hs
  unfold execSwitchCooled State.coolNow
  rw [State.leadOf_of_heard h]
  simp only [hm, State.dieUp_of_heard h, hs, Bool.not_true, Bool.or_self, Bool.false_eq_true, if_false, if_true]

theorem exec_switchCooled_waits (h : s.heard n = true) (hm : (s.modeOf n).isSwitch = true)
    (hs : s.coolStarts n = false) : ∃ t, exec (.switchCooled n) s = .next t ∧
      ((∀ m, t.chan m = (s.coolNow n).chan m) ∨ t = ((s.coolNow n).queueTurns (grpOf n)).staggerStep (grpOf n)) := by
  change ∃ t, execSwitchCooled n s = .next t ∧ _
  unfold State.coolStarts State.coolNow at hs
  unfold execSwitchCooled State.coolNow
  rw [State.leadOf_of_heard h]
  simp only [hm, State.dieUp_of_heard h, hs, Bool.not_true, Bool.or_self, Bool.false_eq_true, if_false]
  split
  · split
    · exact ⟨_, rfl, .inr rfl⟩
    · exact ⟨_, rfl, .inl fun _ => rfl⟩
  · exact ⟨_, rfl, .inl fun _ => rfl⟩

/-- A cooled channel that PEND holds starts when its group is ready and its mate in a PARALLEL pair has cooled. -/
theorem State.coolStarts_of_ready (h : s.heard n = true) (hps : (s.chan n).out.ps = .pend)
    (hv : s.vfReady (grpOf n) = true) (hr : (s.group (grpOf n)).sup.recovering = false)
    (hg : (s.chan n).guard.held = false) (ht : (s.chan n).out.turn = false)
    (hp : s.pairOf n ≠ .parallel ∨ (s.chan (mateOf n)).out.cool = true) : s.coolStarts n = true := by
  have hmate : (s.coolNow n).chan (mateOf n) = s.chan (mateOf n) :=
    (s.coolNow_only n).2.2 _ (by simpa using mateOf_ne n)
  have hcooled : (s.coolNow n).cooled n = true := by
    unfold State.cooled
    rw [s.coolNow_cool, setup_pairOf (s.coolNow_only n).2.1, hmate]
    simpa using hp
  have hready : (s.coolNow n).readyOn n = true := by
    unfold State.readyOn
    rw [hcooled]
    change (s.vfReady (grpOf n) && true && s.dieUp (grpOf n)) = true
    simp [hv, State.dieUp_of_heard h]
  unfold State.coolStarts
  simp [hps, hready, hr, hg, ht]

/-- SWITCH_COOLED marks its switch cooled and reaches no other group (03 R97). -/
theorem exec_switchCooled (h : s.heard n = true) (hm : (s.modeOf n).isSwitch = true) :
    ∃ t, exec (.switchCooled n) s = .next t ∧ (t.chan n).out.cool = true ∧
      (s.coolStarts n = true → (t.chan n).out.ps.isOn = true) ∧
      ∀ m, grpOf m ≠ grpOf n → t.chan m = s.chan m := by
  have hodd := State.isOdd_of_heard h
  have h1 := s.coolNow_only n
  have hother (m : Ch) (hg : grpOf m ≠ grpOf n) : (s.coolNow n).chan m = s.chan m :=
    h1.2.2 m (by rintro e; exact hg (by rw [List.mem_singleton.mp e]))
  cases hs : s.coolStarts n
  case true =>
    refine ⟨_, exec_switchCooled_starts h hm hs, ?_, fun _ => State.switchOn_isOn .., fun m hg => ?_⟩
    · rw [(State.switchOn_out _ n).2.2.1, s.coolNow_cool]
    · rw [((s.coolNow n).switchOn_only n).2.2 m fun e => hg (State.grpOf_mem_outCh e), hother m hg]
  case false =>
    obtain ⟨t, ht, hkeep | rfl⟩ := exec_switchCooled_waits h hm hs
    · exact ⟨t, ht, by rw [hkeep, s.coolNow_cool], nofun, fun m hg => (hkeep m).trans (hother m hg)⟩
    · have hq : ((s.coolNow n).queueTurns (grpOf n)).isOdd n = false := (h1.isOdd n).trans hodd
      refine ⟨_, ht, ?_, nofun, fun m hg => ?_⟩
      · rw [(State.staggerStep_keeps hq).1]; exact s.coolNow_cool n
      · rw [State.staggerStep_chan_grp hg]; exact hother m hg

/-! ### The envelope (16 R482) -/

theorem State.recordEnv_logs (s : State) : s.logsOver s.recordEnv := recordOnly_logs ..

@[simp] theorem State.recordOnly_ev (s : State) (src : Nat) (a b : BitVec 16) (p q r : Word) :
    (s.recordOnly src a b p q r).ev = s.ev := by unfold State.recordOnly; split <;> rfl

/-- The candidates depend on the channels and the groups alone. -/
theorem State.sheddable_congr (hc : ∀ m, u.chan m = s.chan m) (hg : u.grp = s.grp) (l : List Ch) :
    u.sheddable l = s.sheddable l := by
  have hs : u.setup = s.setup := funext fun m => by unfold State.setup; rw [hc m]
  have hd (k : Grp) : u.dieUp k = s.dieUp k := by unfold State.dieUp State.group; rw [hg]
  unfold State.sheddable State.onState
  simp only [setup_modeOf hs, setup_isOdd hs, setup_cfgOf hs, hd, hc]

theorem State.lowestPri_congr (hs : u.setup = s.setup) (l : List Ch) (k : Nat) :
    u.lowestPri l k = s.lowestPri l k := by
  unfold State.lowestPri; simp only [setup_cfgOf hs]

/-- The candidates of a priority that the envelope sheds under act. -/
def State.envAct (s : State) (p : Nat) : List Ch :=
  (s.shedNow allCh p).filter fun n => !bit (s.cfgOf n).outPol 30

/-- The next priority to shed for the envelope. -/
def State.envNext (s : State) : Option Nat := s.lowestPri (s.sheddable allCh) (s.pw.envLevel.getD 0)

theorem State.shedForEnv_off (h : s.feat 11 = false) : s.shedForEnv = s.recordEnv := by
  unfold State.shedForEnv; simp [h]

theorem State.shedForEnv_none (h : s.feat 11 = true) (hp : s.envNext = none) : s.shedForEnv = s := by
  unfold State.envNext at hp
  unfold State.shedForEnv
  simp [h, hp]

/-- The channels that the envelope sheds under act, and where its next step goes on (16 R482). -/
def State.envShedAct (s : State) (p : Nat) : State :=
  let v := s.each (s.envAct p) (State.shedChannel · true)
  { v with pw.envLevel := some (p + 1), pw.envShed := v.pw.envShed || !(s.envAct p).isEmpty }

/-- A priority is shed for the envelope: its channels under act, and a record of those in report only. -/
theorem State.shedForEnv_some {p : Nat} (h : s.feat 11 = true) (hp : s.envNext = some p) :
    (s.envShedAct p).logsOver s.shedForEnv ∧ s.shedForEnv.ev = (s.envShedAct p).ev := by
  unfold State.envNext at hp
  unfold State.shedForEnv
  simp only [h, hp, Bool.not_true, Bool.false_eq_true, if_false, List.partition_eq_filter_filter]
  split
  · exact ⟨logsOver_refl _, rfl⟩
  · exact ⟨State.recordEnv_logs _, State.recordOnly_ev ..⟩

theorem State.envAct_isOdd {p : Nat} : ∀ n ∈ s.envAct p, s.isOdd n = false := fun _ hn =>
  State.isOdd_of_sheddable (State.mem_shedNow.mp (List.mem_filter.mp hn).1).1

/-- Shedding for the envelope leaves the envelope's power and its episode, and its event as it is (16 R482). -/
theorem State.shedForEnv_keeps (s : State) :
    s.shedForEnv.pw.pmod = s.pw.pmod ∧ s.shedForEnv.pw.envOver = s.pw.envOver ∧
    s.shedForEnv.ev.src[125] = s.ev.src[125] := by
  cases hf : s.feat 11
  case false =>
    rw [State.shedForEnv_off hf]
    have hst := s.recordEnv_logs.still
    exact ⟨still_pw Power.pmod hst, still_pw Power.envOver hst, by unfold State.recordEnv; rw [State.recordOnly_ev]⟩
  case true =>
    cases hp : s.envNext with
    | none => rw [State.shedForEnv_none hf hp]; exact ⟨rfl, rfl, rfl⟩
    | some p =>
      obtain ⟨hlog, hev⟩ := State.shedForEnv_some hf hp
      have hv := (State.each_only_outs (State.shedChannel_actsOnOut true (s.envAct_isOdd (p := p)))).1
      have hpmod : (s.envShedAct p).pw.pmod = s.pw.pmod := still_pw Power.pmod hv
      have hover : (s.envShedAct p).pw.envOver = s.pw.envOver := still_pw Power.envOver hv
      refine ⟨(still_pw Power.pmod hlog.still).trans hpmod, (still_pw Power.envOver hlog.still).trans hover, ?_⟩
      rw [hev]
      exact State.each_keeps (fun t : State => t.ev.src[125])
        (fun t n => State.shedChannel_src (k := 125) (by decide) t true n) _ _

/-- Shedding a priority for the envelope (16 R482). -/
theorem State.shedForEnv_sheds {p : Nat} (hf : s.feat 11 = true) (hp : s.envNext = some p) :
    s.shedForEnv.pw.envLevel = some (p + 1) ∧
    ∀ n ∈ s.sheddable allCh, (s.cfgOf n).shedPri = p → bit (s.cfgOf n).outPol 30 = false →
      (s.shedForEnv.chan n).out.ps = .shed ∧ (s.shedForEnv.chan n).out.shedEnv = true ∧
      (s.shedForEnv.chan n).out.cmdOn = (s.chan n).out.cmdOn := by
  obtain ⟨hlog, -⟩ := State.shedForEnv_some hf hp
  refine ⟨still_pw Power.envLevel hlog.still, fun n hn hpri hact => ?_⟩
  have hmem : n ∈ s.envAct p := by
    unfold State.envAct
    rw [List.mem_filter]
    exact ⟨State.mem_shedNow.mpr ⟨hn, hpri⟩, by simp [hact]⟩
  have hnd : (s.envAct p).Nodup := ((allCh_nodup.filter _).filter _).filter _
  obtain ⟨-, hout, -⟩ := State.each_shedChannel true State.envAct_isOdd hnd hmem
  obtain ⟨hps, henv, hcmd, -⟩ := hout hact
  rw [hlog.chan n]
  exact ⟨hps, henv, hcmd⟩

/-- The episode of the envelope that begins, told by its event (13 R425). -/
def State.envTold (s : State) (pmod : BitVec 16) : State :=
  let s1 : State := { s with pw.pmod := pmod, pw.envOver := true }
  s1.raise 125 0 3 s1.pwrStatW 0 0

/-- Where a step of the envelope begins to shed (16 R482). -/
def State.envBegun (s : State) (pmod : BitVec 16) : State :=
  if s.pw.envOver then { s with pw.pmod := pmod } else s.envTold pmod

/-- The command by which the envelope's shedding begins or goes on. -/
theorem exec_envelope {pmod : BitVec 16} (hu : s.hostUp = true) (hw : s.pw.window = none)
    (hp : s.pw.env.toNat < pmod.toNat) :
    exec (if s.pw.envOver then .envelopeShedStep pmod else .envelopeExceeded pmod) s =
      .next (s.envBegun pmod).shedForEnv := by
  have hle : ¬ pmod.toNat ≤ s.pw.env.toNat := by omega
  unfold State.envBegun
  cases ho : s.pw.envOver
  case false =>
    simp only [Bool.false_eq_true, if_false]
    change execEnvelopeExceeded pmod s = _
    unfold execEnvelopeExceeded State.envTold
    simp [hu, hw, ho, hle]
  case true =>
    simp only [if_true]
    change execEnvelopeShedStep pmod s = _
    unfold execEnvelopeShedStep
    simp [hu, hw, ho, hle]

theorem State.envTold_logs (s : State) (pmod : BitVec 16) :
    State.logsOver { s with pw.pmod := pmod, pw.envOver := true } (s.envTold pmod) := raise_logs ..

theorem State.envBegun_spec (s : State) (pmod : BitVec 16) :
    (s.envBegun pmod).pw.pmod = pmod ∧ (s.envBegun pmod).pw.envOver = true ∧
    (s.envBegun pmod).pw.envLevel = s.pw.envLevel ∧ (s.envBegun pmod).sec = s.sec ∧
    (s.envBegun pmod).ch = s.ch ∧ (s.envBegun pmod).grp = s.grp := by
  unfold State.envBegun
  split
  case isTrue ho => exact ⟨rfl, ho, rfl, rfl, rfl, rfl⟩
  case isFalse =>
    have h := s.envTold_logs pmod
    exact ⟨still_pw Power.pmod h.still, still_pw Power.envOver h.still,
      (still_pw Power.envLevel h.still).trans rfl, (still_sec h.still).trans rfl, h.ch, h.grp⟩

theorem State.envBegun_pending {pmod : BitVec 16} (hu : s.hostUp = true) (ho : s.pw.envOver = false) :
    (s.envBegun pmod).pendingWith 125 3 := by
  unfold State.envBegun State.envTold
  rw [ho]
  exact raise_pending _ _ _ _ _ _ _ hu (by decide)

theorem State.pendingWith_congr {k : Fin 128} {c : Nat} (h : t.ev.src[k.val] = s.ev.src[k.val])
    (hs : s.pendingWith k c) : t.pendingWith k c := by
  unfold State.pendingWith at hs ⊢
  rwa [h]

/-- What a step of the envelope leaves, whatever is shed: its power, its episode and the event that began it. -/
theorem State.envelope_step (s : State) (pmod : BitVec 16) :
    (s.envBegun pmod).shedForEnv.pw.pmod = pmod ∧ (s.envBegun pmod).shedForEnv.pw.envOver = true ∧
    (s.hostUp = true → s.pw.envOver = false → (s.envBegun pmod).shedForEnv.pendingWith 125 3) := by
  obtain ⟨hpm, hov, -⟩ := s.envBegun_spec pmod
  obtain ⟨k1, k2, k3⟩ := (s.envBegun pmod).shedForEnv_keeps
  exact ⟨k1.trans hpm, k2.trans hov, fun hu ho => State.pendingWith_congr k3 (State.envBegun_pending hu ho)⟩

/-- A step of the envelope with feature 11 sheds the next priority. -/
theorem State.envelope_sheds {pmod : BitVec 16} {p : Nat} (hf : s.feat 11 = true) (hp : s.envNext = some p) :
    (s.envBegun pmod).shedForEnv.pw.envLevel = some (p + 1) ∧
    ∀ n ∈ s.sheddable allCh, (s.cfgOf n).shedPri = p → bit (s.cfgOf n).outPol 30 = false →
      ((s.envBegun pmod).shedForEnv.chan n).out.ps = .shed ∧
      ((s.envBegun pmod).shedForEnv.chan n).out.shedEnv = true ∧
      ((s.envBegun pmod).shedForEnv.chan n).out.cmdOn = (s.chan n).out.cmdOn := by
  obtain ⟨-, -, hlev, hsec, hch, hgrp⟩ := s.envBegun_spec pmod
  have hc (m : Ch) : (s.envBegun pmod).chan m = s.chan m := by unfold State.chan; rw [hch]
  have hs : (s.envBegun pmod).setup = s.setup := funext fun m => by unfold State.setup; rw [hc m]
  have hnext : (s.envBegun pmod).envNext = some p := by
    rw [← hp]
    unfold State.envNext
    rw [State.sheddable_congr hc hgrp, State.lowestPri_congr hs, hlev]
  have hf' : (s.envBegun pmod).feat 11 = true := by rw [← hf]; unfold State.feat; rw [hsec]
  have h := State.shedForEnv_sheds hf' hnext
  rw [State.sheddable_congr hc hgrp] at h
  simpa only [setup_cfgOf hs, hc] using h

/-- Without feature 11 a step of the envelope changes no channel. -/
theorem State.envelope_records {pmod : BitVec 16} (hf : s.feat 11 = false) :
    (s.envBegun pmod).shedForEnv.ch = s.ch := by
  obtain ⟨-, -, -, hsec, hch, -⟩ := s.envBegun_spec pmod
  have hf' : (s.envBegun pmod).feat 11 = false := by rw [← hf]; unfold State.feat; rw [hsec]
  rw [State.shedForEnv_off hf', (State.recordEnv_logs _).ch, hch]

theorem exec_envelopeRestore_none {pmod : BitVec 16} (hu : s.hostUp = true) (hw : s.pw.window = none)
    (hp : pmod.toNat + 500 < s.pw.env.toNat) (hn : ∀ n, (s.chan n).out.shedEnv = false) :
    exec (.envelopeRestore pmod) s = .next { s with
      pw.pmod := pmod, pw.envShed := false, pw.envOver := false, pw.envLevel := none } := by
  have hle : ¬ s.pw.env.toNat ≤ pmod.toNat + 500 := by omega
  change execEnvelopeRestore pmod s = _
  unfold execEnvelopeRestore
  simp [hu, hw, hle, hn]

end

/-! ### The clauses of O50 -/

/-- SHED_STEP sheds the candidates of the next priority (03 R114). -/
theorem shedStep_sheds {s : State} {g : Grp} (h : s.shedsDie g) {p : Nat} (hp : s.dieLevel g = some p) :
    ∃ t, exec (.shedStep g) s = .next t ∧ (t.group g).sup.shedLevel = some (p + 1) ∧
      (∀ n ∈ s.sheddable (chOf g), (s.cfgOf n).shedPri = p → bit (t.chan n).fault 20 = true ∧
        (bit (s.cfgOf n).outPol 30 = false → (t.chan n).out.ps = .shed ∧ (t.chan n).out.shedDie = true ∧
          (t.chan n).out.cmdOn = (s.chan n).out.cmdOn ∧
          ((s.chan n).out.hostOn = true → (t.chan n).overridden = true)) ∧
        (bit (s.cfgOf n).outPol 30 = true → (t.chan n).out = (s.chan n).out)) ∧
      (∀ n ∈ s.sheddable (chOf g), (s.cfgOf n).shedPri ≠ p → t.chan n = s.chan n) ∧
      ∀ n, grpOf n ≠ g → t.chan n = s.chan n := by
  obtain ⟨t, ht, hlog⟩ := exec_shedStep_some h hp
  have hodd : ∀ m ∈ s.shedNow (chOf g) p, s.isOdd m = false := fun m hm =>
    State.isOdd_of_sheddable (State.mem_shedNow.mp hm).1
  have hnd : (s.shedNow (chOf g) p).Nodup := ((chOf_nodup g).filter _).filter _
  have honly := State.each_only_outs (State.shedChannel_actsOnOut false hodd)
  have hc (n : Ch) : t.chan n = (s.each (s.shedNow (chOf g) p) (State.shedChannel · false)).chan n := hlog.chan n
  refine ⟨t, ht, ?_, fun n hn hpri => ?_, fun n hn hpri => ?_, fun n hg => ?_⟩
  · rw [hlog.group, State.group_modSup_same]
  · rw [hc]
    exact State.each_shedChannel false hodd hnd (State.mem_shedNow.mpr ⟨hn, hpri⟩)
  · rw [hc]
    exact honly.2.2 n (State.not_mem_outs hodd (State.isOdd_of_sheddable hn)
      fun e => hpri (State.mem_shedNow.mp e).2)
  · rw [hc]
    refine honly.2.2 n (State.not_mem_outs_of_grp (g := g) (fun m hm => ?_) hg)
    exact mem_chOf.mp (List.mem_filter.mp (State.mem_shedNow.mp hm).1).1

/-- SHED_RESTORE_STEP releases the channels of the largest priority (03 R115). -/
theorem shedRestoreStep_releases {s : State} {g : Grp} (hl : (s.group g).link.failed = false)
    (hw : s.pw.window = none) (h : s.shedByDie g ≠ []) (hu : s.hostUp = true) :
    ∃ t, exec (.shedRestoreStep g) s = .next t ∧ t.pendingWith (srcNo (68 + g.val)) 3 ∧
      (∀ n ∈ s.shedByDie g, (s.cfgOf n).shedPri = s.highestPri (s.shedByDie g) →
        (t.chan n).out.shedDie = false ∧
        ((s.chan n).out.shedEnv = false → (s.chan n).out.ps = .shed →
          (t.chan n).out.polOn = true ∨ (t.chan n).out.ps.isOn = true)) ∧
      ∀ n, grpOf n ≠ g → t.chan n = s.chan n := by
  have honly := s.restored_only g
  refine ⟨_, exec_shedRestoreStep hl hw h, State.raiseThermal_pending ?_ g 3, fun n hn hpri => ?_, fun n hg => ?_⟩
  · split
    · rw [still_hostUp (State.staggerStep_still _ g), still_hostUp honly.1, hu]
    · rw [still_hostUp honly.1, hu]
  · have hmem : n ∈ s.restoreNow g := List.mem_filter.mpr ⟨hn, by simpa using hpri⟩
    obtain ⟨hshed, hpol⟩ := State.restored_chan hmem
    have hodd : (s.restored g).isOdd n = false := (honly.isOdd n).trans (State.isOdd_of_shedByDie hn)
    rw [(State.raiseThermal_logs ..).chan]
    split
    · rw [(State.staggerStep_keeps hodd).2]
      exact ⟨hshed, fun he hps => State.staggerStep_polOn hodd (hpol he hps)⟩
    · exact ⟨hshed, fun he hps => .inl (hpol he hps)⟩
  · have hkeep : (s.restored g).chan n = s.chan n :=
      honly.2.2 n (State.not_mem_outs_of_grp (g := g) (fun m hm =>
        mem_chOf.mp (List.mem_filter.mp (State.shedByDie_restoreNow hm)).1) hg)
    rw [(State.raiseThermal_logs ..).chan]
    split
    · rw [State.staggerStep_chan_grp hg, hkeep]
    · exact hkeep

end Sys2Proof.Machine

open Sys2Proof Sys2Proof.Machine

/-- Settles O50: each clause from what its command does to one channel, visited in the order of the list. -/
theorem shedding : Obligations.Shedding := by
  unfold Obligations.Shedding
  refine ⟨fun s g hf hl hw => ⟨exec_shedStep_none ⟨hf, hl, hw⟩, fun p hp => shedStep_sheds ⟨hf, hl, hw⟩ hp⟩,
    fun s g l hl hw he => ?_, fun s n hh hm => ?_, fun s pmod hu hw => ⟨fun hp hf => ?_, fun hp hf => ?_,
      fun hp hn => exec_envelopeRestore_none hu hw hp hn⟩⟩
  · change l = s.shedByDie g at he
    subst he
    exact ⟨fun h => ⟨_, exec_shedRestoreStep_nil hl hw h, by rw [State.group_modSup_same],
      State.touchesGrp_modGrp ..⟩, fun h hu => shedRestoreStep_releases hl hw h hu⟩
  · obtain ⟨t, ht, hcool, hon, hother⟩ := exec_switchCooled hh hm
    exact ⟨t, ht, hcool, fun hps hv hr hg htn hp => hon (State.coolStarts_of_ready hh hps hv hr hg htn hp), hother⟩
  · obtain ⟨hpm, hov, hpend⟩ := s.envelope_step pmod
    exact ⟨_, exec_envelope hu hw hp, hpm, hov, hpend hu, fun p hnext => State.envelope_sheds hf hnext⟩
  · obtain ⟨hpm, hov, hpend⟩ := s.envelope_step pmod
    have hexec := exec_envelope hu hw hp
    refine ⟨fun ho => ?_, fun ho => ?_⟩ <;> simp only [ho, Bool.false_eq_true, if_false, if_true] at hexec
    · exact ⟨_, hexec, hov, hpend hu ho, State.envelope_records hf⟩
    · exact ⟨_, hexec, hpm, State.envelope_records hf⟩
end

section
/-! ## Takeovers and the rest of a die's failure (01 R28, R29, 08 R257 to R263) -/

namespace Sys2Proof.Machine

section
variable {s t u : State} {n m : Ch} {g k : Grp} {l : List Ch}

/-! ### Lists of steps -/

/-- What every step keeps. -/
theorem State.each_inv {α : Type} {op : State → α → State} {P : State → Prop} (h : ∀ t a, P t → P (op t a))
    (as : List α) (hs : P s) : P (s.each as op) := by
  induction as generalizing s with
  | nil => exact hs
  | cons a as ih => exact ih (h s a hs)

/-- What one step of the list brings about and every step keeps. -/
theorem State.each_establishes {α : Type} {op : State → α → State} {P : State → Prop} {a : α} {as : List α}
    (h : ∀ t b, P t → P (op t b)) (ha : ∀ t, P (op t a)) (hm : a ∈ as) : P (s.each as op) := by
  induction as generalizing s with
  | nil => cases hm
  | cons b as ih =>
    rcases List.mem_cons.mp hm with rfl | hm
    · exact State.each_inv h as (ha s)
    · exact ih hm

/-- Steps that each rewrite their own channel rewrite every channel of the list once. -/
theorem State.each_local {op : State → Ch → State} {f : Channel → Channel}
    (hop : ∀ t, s.touches t l → ∀ n ∈ l, t.touches (op t n) [n] ∧ (op t n).chan n = f (t.chan n))
    (hnd : l.Nodup) : s.touches (s.each l op) l ∧ ∀ n ∈ l, (s.each l op).chan n = f (s.chan n) := by
  induction l generalizing s with
  | nil => exact ⟨s.touches_refl _, by simp⟩
  | cons a l ih =>
    obtain ⟨hal, hnd'⟩ := List.nodup_cons.mp hnd
    obtain ⟨h1, h2⟩ := hop s (s.touches_refl _) a List.mem_cons_self
    have h1' : s.touches (op s a) (a :: l) := State.touches_mono h1 (by simp)
    obtain ⟨h3, h4⟩ := ih (s := op s a) (fun t ht n hn => hop t
      (State.touches_trans h1' (State.touches_mono ht fun _ => List.mem_cons_of_mem _)) n
      (List.mem_cons_of_mem _ hn)) hnd'
    refine ⟨State.touches_trans h1' (State.touches_mono h3 fun _ => List.mem_cons_of_mem _), fun n hn => ?_⟩
    rw [State.each_cons]
    rcases List.mem_cons.mp hn with rfl | hn
    · rw [h3.1 n hal, h2]
    · rw [h4 n hn, h1.1 n (by rintro e; exact hal (List.mem_singleton.mp e ▸ hn))]

theorem State.touchesGrp_of_logs (h : s.logsOver t) (l : List Ch) (gs : List Grp) : s.touchesGrp t l gs :=
  State.touchesGrp_of_touches (State.touches_of_logs h l) gs

/-! ### No cell gathers (05 R170) -/

theorem State.finishJobs_of_none (h : s.comb.jobs = []) : s.finishJobs = s := by
  unfold State.finishJobs
  simp only [h, List.filter_nil, State.each_nil]
  rw [← h]

theorem State.dropShares_of_none (h : s.comb.jobs = []) (gs : List Grp) : s.dropShares gs = s := by
  unfold State.dropShares
  simp only [h, List.map_nil]
  rw [← h]
  exact State.finishJobs_of_none h

theorem State.jobResult_of_none (h : s.comb.jobs = []) (j : Nat) (n : Ch) (e : Option DieEntry) :
    s.jobResult j n e = s := by
  unfold State.jobResult
  simp only [h, List.map_nil]
  rw [← h]
  exact State.finishJobs_of_none h

theorem State.loseReq_of_none (h : s.comb.jobs = []) (n : Ch) (r : Option ConvReq) : s.loseReq n r = s := by
  unfold State.loseReq
  split
  · exact State.jobResult_of_none h ..
  · rfl

/-- The analogue input of a channel of which the conversion engine has stopped (01 R28). -/
def ChAi.ended (a : ChAi) : ChAi :=
  { a with held := false, req := none, void := false, inj := none, busy := none }

theorem State.killConv_of_none (h : s.comb.jobs = []) (n : Ch) :
    s.touches (s.killConv n) [n] ∧ (s.killConv n).chan n = { s.chan n with ai := (s.chan n).ai.ended } := by
  have hd : s.dropConv n = s.modAi n fun a =>
      { a with held := false, req := none, void := a.busy.isSome, inj := none } := by
    unfold State.dropConv
    dsimp only
    rw [State.loseReq_of_none (s := s.modAi n _) h, State.loseReq_of_none (s := s.modAi n _) h]
  unfold State.killConv
  rw [hd]
  refine ⟨State.touches_trans (State.touches_of_modCh ..) (State.touches_of_modCh ..), ?_⟩
  rw [State.chan_modAi_same, State.chan_modAi_same]
  rfl

/-! ### A die whose logic stops (01 R28) -/

/-- A channel of which the gates are discharged. -/
def Channel.discharged (c : Channel) : Channel :=
  { c with
    out := { c.out with ps := if c.out.ps.isOn then .off else c.out.ps, duty := 0, frozen := false
                        pulse := none, diag := false, polOn := false }
    ao := { c.ao with code := 0, heldCode := none, down := false, rail := 0 }
    loop := { c.loop with on := false, limit := false, want := false, iloop := 0 }
    hart := { c.hart.stop with carrier := false } }

/-- A channel of a die whose logic has stopped. -/
def Channel.halted (c : Channel) : Channel := { c.discharged with ai := c.ai.ended }

/-- Every output of a halted channel is off. -/
theorem Channel.halted_off (c : Channel) :
    c.halted.out.ps.isOn = false ∧ c.halted.ao.code = 0 ∧ c.halted.loop.on = false := by
  refine ⟨?_, rfl, rfl⟩
  unfold Channel.halted Channel.discharged
  cases h : c.out.ps <;> simp [PState.isOn]

theorem State.dischargeGates_spec (s : State) (g : Grp) :
    s.touches (s.dischargeGates g) (chOf g) ∧
    ∀ n ∈ chOf g, (s.dischargeGates g).chan n = (s.chan n).discharged :=
  State.each_local (f := Channel.discharged)
    (fun _ _ _ _ => ⟨State.touches_of_modCh .., State.chan_modCh_same ..⟩) (chOf_nodup g)

/-- A die whose logic stops, with no cell gathering: its channels are halted, and nothing else changes. -/
theorem State.haltDie_spec (h : s.comb.jobs = []) (g : Grp) :
    s.touchesGrp (s.haltDie g) (chOf g) [g] ∧
    (s.haltDie g).group g = { s.group g with
      link := { (s.group g).link with stopped := true, extrap := false }
      guard := { (s.group g).guard with fok := false } } ∧
    ∀ n ∈ chOf g, (s.haltDie g).chan n = (s.chan n).halted := by
  obtain ⟨h1, h2⟩ := s.dischargeGates_spec g
  have hj1 : (s.dischargeGates g).comb.jobs = [] := by rw [h1.comb, h]
  obtain ⟨h3, h4⟩ := State.each_local (s := s.dischargeGates g) (op := State.killConv)
    (f := fun c => { c with ai := c.ai.ended })
    (fun t ht n _ => State.killConv_of_none (by rw [ht.comb, hj1]) n) (chOf_nodup g)
  have h13 := State.touches_trans h1 h3
  unfold State.haltDie
  rw [State.dropShares_of_none (by rw [h3.comb, hj1])]
  refine ⟨(State.touchesGrp_of_touches h13 _).trans (State.touchesGrp_modGrp ..), ?_, fun n hn => ?_⟩
  · rw [State.group_modGrp_same, h13.group]
  · rw [State.chan_modGrp, h4 n hn, h2 n hn]
    rfl

/-! ### Takeovers (08 R257, R260) -/

/-- What applying OFF leaves: the groups, the events, and what the guards hold. -/
def State.holds (s : State) : Vector Group 4 × Events × (Ch → Bool) :=
  (s.grp, s.ev, fun n => (s.chan n).guard.held)

theorem State.modCh_holds (s : State) (n : Ch) (f : Channel → Channel)
    (hf : (f (s.chan n)).guard.held = (s.chan n).guard.held) : (s.modCh n f).holds = s.holds := by
  unfold State.holds
  refine Prod.ext rfl (Prod.ext rfl (funext fun m => ?_))
  by_cases hm : m = n
  · subst hm; simpa using hf
  · simp [State.chan_modCh_ne _ _ hm]

theorem State.modOutP_holds (s : State) (n : Ch) (f : ChOut → ChOut) : (s.modOutP n f).holds = s.holds := by
  have h1 : (s.modOut n f).holds = s.holds := State.modCh_holds s n _ rfl
  unfold State.modOutP
  dsimp only
  split
  · exact (State.modCh_holds _ (mateOf n) _ rfl).trans h1
  · exact h1

theorem State.commandOff_spec (s : State) (n : Ch) :
    s.only (s.commandOff n) (s.outCh n) ∧ (s.commandOff n).holds = s.holds := by
  unfold State.commandOff State.clearRetry State.switchOff
  split
  · exact ⟨State.only_refl .., rfl⟩
  · have h1 := State.only_modOutP s n fun o => { o with
      cmdOn := false, hostOn := false, cmdDuty := 0, shedDie := false, shedEnv := false }
    have h2 := h1.trans (h1.outCh n ▸ State.only_modOutP _ n fun o => { o with retryUsed := 0, defer := 0 })
    exact ⟨h2.trans (h2.outCh n ▸ State.only_modOutP ..),
      ((State.modOutP_holds ..).trans (State.modOutP_holds ..)).trans (State.modOutP_holds ..)⟩

theorem State.loopOff_spec (s : State) (n : Ch) : s.only (s.loopOff n) [n] ∧ (s.loopOff n).holds = s.holds := by
  have hset : (s.setLoop n false).holds = s.holds := State.modCh_holds s n (fun c => { c with loop := { c.loop with
    on := false, limit := c.loop.limit && false, iloop := if false then c.loop.iloop else 0 } }) rfl
  unfold State.loopOff
  exact ⟨(s.setLoop_only n false).trans (State.only_modCh _ _ _ ⟨rfl, rfl⟩),
    (State.modCh_holds _ n _ rfl).trans hset⟩

/-- The off action of an entry reaches the output of its channel and ends no hold (08 R254). -/
theorem State.entryOff_spec (s : State) (n : Ch) :
    s.only (s.entryOff n) (s.outCh n) ∧ (s.entryOff n).holds = s.holds := by
  have hself : ∀ x ∈ [n], x ∈ s.outCh n := by simpa using s.mem_outCh_self n
  have hmark (t : State) : t.only (t.markApplied n) [n] ∧ (t.markApplied n).holds = t.holds :=
    ⟨State.only_modCh _ _ _ ⟨rfl, rfl⟩, State.modCh_holds _ n _ rfl⟩
  have hthen {t : State} (h : s.only t (s.outCh n) ∧ t.holds = s.holds) :
      s.only (t.markApplied n) (s.outCh n) ∧ (t.markApplied n).holds = s.holds :=
    ⟨h.1.trans ((hmark t).1.mono hself), (hmark t).2.trans h.2⟩
  have hao : s.only (s.modAo n fun a => { a with code := 0, heldCode := none, down := false, off := true })
      (s.outCh n) ∧ (s.modAo n fun a => { a with code := 0, heldCode := none, down := false, off := true }).holds =
      s.holds := ⟨(State.only_modCh _ _ _ ⟨rfl, rfl⟩).mono hself, State.modCh_holds _ n _ rfl⟩
  unfold State.entryOff
  split
  · exact hthen (s.commandOff_spec n)
  · exact hthen (s.commandOff_spec n)
  · exact hthen hao
  · exact hthen hao
  · exact hthen hao
  · exact hthen ⟨(s.loopOff_spec n).1.mono hself, (s.loopOff_spec n).2⟩
  · exact hthen ⟨State.only_refl .., rfl⟩

theorem State.allOff_spec (s : State) (g : Grp) :
    s.only (s.allOff g) (chOf g) ∧ (s.allOff g).holds = s.holds := by
  unfold State.allOff
  refine ⟨State.each_only fun t _ n hn => ?_, State.each_keeps State.holds (fun t n => (t.entryOff_spec n).2) _ _⟩
  have hg : grpOf n = g := mem_chOf.mp (List.mem_filter.mp hn).1
  exact (t.entryOff_spec n).1.mono fun m hm => by rw [← hg]; exact t.outCh_sub_chOf n m hm

theorem State.takeChannel_only (s : State) (n : Ch) : s.only (s.takeChannel n) [n] :=
  State.only_modCh _ _ _ ⟨rfl, rfl⟩

theorem State.takeChannel_held (s : State) (n : Ch) : ((s.takeChannel n).chan n).guard.held = true := by
  unfold State.takeChannel; rw [State.chan_modCh_same]

/-- Taking a channel ends no hold of another. -/
theorem State.takeChannel_keeps_held (h : (s.chan m).guard.held = true) :
    ((s.takeChannel n).chan m).guard.held = true := by
  by_cases hm : m = n
  · subst hm; exact s.takeChannel_held m
  · rw [(s.takeChannel_only n).2.2 m (by simpa using hm)]; exact h

/-- The channels of a group that a takeover takes (08 R257). -/
def State.taken (s : State) (g : Grp) (sel : Ch → Bool) : List Ch :=
  (chOf g).filter fun n => sel n && s.takes n

/-- A takeover with the copy of its guard good: the channels, then the cause and the group. -/
def State.takenOver (s : State) (g : Grp) (cause : Nat) (sel : Ch → Bool) : State :=
  let s1 := s.each (s.taken g sel) State.takeChannel
  let s2 : State := if (!s.anyHeld && s.pw.mode != .safe) && !(s.taken g sel).isEmpty then
    { s1 with safe.cause := BitVec.ofNat 4 cause } else s1
  s2.modGrp g fun x => { x with guard := { x.guard with
    held := x.guard.held || !(s.taken g sel).isEmpty
    fok := x.guard.fok && ((s.taken g sel).isEmpty || decide (s.fokDly ≠ 0)) } }

theorem State.takeover_eq (s : State) (g : Grp) (cause : Nat) (sel : Ch → Bool) : s.takeover g cause sel =
    if (s.group g).guard.tbad then (s.takenOver g cause sel).allOff g else s.takenOver g cause sel := rfl

/-- Before the copy is judged a takeover changes the channels that it takes, and its own group's guard. -/
theorem State.takenOver_spec (s : State) (g : Grp) (cause : Nat) (sel : Ch → Bool) :
    (s.takenOver g cause sel).still = s.still ∧
    (∀ m, (s.takenOver g cause sel).chan m = (s.each (s.taken g sel) State.takeChannel).chan m) ∧
    (s.takenOver g cause sel).ev = s.ev ∧
    (∀ k, k ≠ g → (s.takenOver g cause sel).group k = s.group k) ∧
    ((s.takenOver g cause sel).group g).link = (s.group g).link := by
  have hs : (s.each (s.taken g sel) State.takeChannel).still = s.still :=
    State.each_keeps (op := State.takeChannel) State.still (fun _ _ => rfl) _ _
  have he : (s.each (s.taken g sel) State.takeChannel).ev = s.ev :=
    State.each_keeps (op := State.takeChannel) State.ev (fun _ _ => rfl) _ _
  have hg : (s.each (s.taken g sel) State.takeChannel).grp = s.grp :=
    State.each_keeps (op := State.takeChannel) State.grp (fun _ _ => rfl) _ _
  have hg' (k : Grp) : (s.each (s.taken g sel) State.takeChannel).group k = s.group k := by
    unfold State.group; rw [hg]
  have hl : ((s.each (s.taken g sel) State.takeChannel).group g).link = (s.group g).link := by rw [hg' g]
  unfold State.takenOver
  dsimp only
  split
  · refine ⟨hs, fun _ => rfl, he, fun k hk => ?_, ?_⟩
    · rw [State.group_modGrp_ne _ _ hk]; exact hg' k
    · rw [State.group_modGrp_same]; exact hl
  · refine ⟨hs, fun _ => rfl, he, fun k hk => ?_, ?_⟩
    · rw [State.group_modGrp_ne _ _ hk]; exact hg' k
    · rw [State.group_modGrp_same]; exact hl

theorem State.takenOver_only (s : State) (g : Grp) (cause : Nat) (sel : Ch → Bool) :
    s.only (s.takenOver g cause sel) (chOf g) := by
  obtain ⟨h1, h2, -⟩ := s.takenOver_spec g cause sel
  have h3 : s.only (s.each (s.taken g sel) State.takeChannel) (chOf g) :=
    State.each_only fun t _ n hn => (t.takeChannel_only n).mono fun m hm => by
      rw [List.mem_singleton.mp hm]; exact (List.mem_filter.mp hn).1
  exact h3.trans (State.only_of_chan (h1.trans h3.1.symm) h2 _)

/-- A takeover reaches the channels of its group (08 R257). -/
theorem State.takeover_only (s : State) (g : Grp) (cause : Nat) (sel : Ch → Bool) :
    s.only (s.takeover g cause sel) (chOf g) := by
  rw [State.takeover_eq]
  split
  · exact (s.takenOver_only ..).trans (State.allOff_spec ..).1
  · exact s.takenOver_only ..

theorem State.takeover_holds (s : State) (g : Grp) (cause : Nat) (sel : Ch → Bool) :
    (s.takeover g cause sel).holds = (s.takenOver g cause sel).holds := by
  rw [State.takeover_eq]
  split
  · exact (State.allOff_spec ..).2
  · rfl

theorem holds_grp (h : t.holds = s.holds) : t.grp = s.grp := congrArg Prod.fst h

theorem holds_ev (h : t.holds = s.holds) : t.ev = s.ev := congrArg (·.2.1) h

theorem holds_held (h : t.holds = s.holds) (n : Ch) : (t.chan n).guard.held = (s.chan n).guard.held :=
  congrFun (congrArg (·.2.2) h) n

theorem State.takeover_ev (s : State) (g : Grp) (cause : Nat) (sel : Ch → Bool) :
    (s.takeover g cause sel).ev = s.ev := by
  obtain ⟨-, -, h, -⟩ := s.takenOver_spec g cause sel
  rw [holds_ev (s.takeover_holds ..), h]

theorem State.takeover_group_ne (hk : k ≠ g) (s : State) (cause : Nat) (sel : Ch → Bool) :
    (s.takeover g cause sel).group k = s.group k := by
  obtain ⟨-, -, -, h, -⟩ := s.takenOver_spec g cause sel
  rw [← h k hk]
  unfold State.group
  rw [holds_grp (s.takeover_holds ..)]

/-- A takeover changes no link. -/
theorem State.takeover_link (s : State) (g k : Grp) (cause : Nat) (sel : Ch → Bool) :
    ((s.takeover g cause sel).group k).link = (s.group k).link := by
  by_cases hk : k = g
  · subst hk
    obtain ⟨-, -, -, -, h⟩ := s.takenOver_spec k cause sel
    rw [← h]
    unfold State.group
    rw [holds_grp (s.takeover_holds ..)]
  · rw [State.takeover_group_ne hk]

/-- A takeover holds every channel that it takes (08 R257). -/
theorem State.takeover_held {sel : Ch → Bool} (hg : grpOf n = g) (hsel : sel n = true) (ht : s.takes n = true)
    (cause : Nat) : ((s.takeover g cause sel).chan n).guard.held = true := by
  obtain ⟨-, hc, -⟩ := s.takenOver_spec g cause sel
  rw [holds_held (s.takeover_holds ..), hc]
  refine State.each_establishes (P := fun t => (t.chan n).guard.held = true)
    (fun t m h => State.takeChannel_keeps_held h) (fun t => t.takeChannel_held n) ?_
  unfold State.taken
  rw [List.mem_filter]
  exact ⟨mem_chOf.mpr hg, by simp [hsel, ht]⟩

/-- A takeover of a failed die of which no channel is held changes no channel (01 R29, 08 R257). -/
theorem State.takeover_failed (hf : (s.group g).link.failed = true)
    (hh : ∀ n ∈ chOf g, (s.chan n).guard.held = false) (cause : Nat) (sel : Ch → Bool) (m : Ch) :
    (s.takeover g cause sel).chan m = s.chan m := by
  have hnone : s.taken g sel = [] := by
    unfold State.taken
    rw [List.filter_eq_nil_iff]
    intro n hn
    have : s.failedCh n = true := by unfold State.failedCh; rw [mem_chOf.mp hn, hf]
    simp [State.takes, this]
  have hchan (m : Ch) : (s.takenOver g cause sel).chan m = s.chan m := by
    obtain ⟨-, hc, -⟩ := s.takenOver_spec g cause sel
    rw [hc, hnone]
    rfl
  have hoff : (s.takenOver g cause sel).allOff g = s.takenOver g cause sel := by
    unfold State.allOff
    rw [List.filter_eq_nil_iff.mpr fun n hn => by rw [hchan, hh n hn]; simp]
    rfl
  rw [State.takeover_eq, hoff]
  split <;> exact hchan m

end

end Sys2Proof.Machine
end

section
/-! ## Markers of the comb, its stall and the return of a die's position (05 R168, 07 R248, R250) -/

namespace Sys2Proof.Machine

section
variable {s t u : State} {n m : Ch} {g h : Grp} {k : Fin 128}

/-! ### Entries of the partitions -/

/-- What an entry of a partition leaves: the channels, the groups, `still`, and an event source. -/
def State.view (k : Fin 128) (s : State) : Vector Channel 32 × Vector Group 4 × (Nat × Power × Security) × EvState :=
  (s.ch, s.grp, s.still, s.ev.src[k.val])

/-- A source that neither the watermarks nor the overflow of a partition raise (05 R173, R176). -/
def noQueueSource (k : Fin 128) : Prop := k ≠ 80 ∧ k ≠ 81

theorem State.raise_view {j : Fin 128} (hk : k ≠ j) (s : State) (a b : Nat) (p q r : Word) :
    (s.raise j a b p q r).view k = s.view k := by
  have h := raise_logs s j a b p q r
  unfold State.view
  rw [h.ch, h.grp, h.still, State.raise_src_ne hk]

theorem State.raiseOverflow_view (hk : noQueueSource k) (s : State) (strm : Bool) :
    (s.raiseOverflow strm).view k = s.view k := by
  unfold State.raiseOverflow
  split
  · exact State.raise_view hk.2 ..
  · rfl

theorem State.afterPut_view (hk : noQueueSource k) (s : State) (strm : Bool) :
    (s.afterPut strm).view k = s.view k := by
  unfold State.afterPut
  dsimp only
  set u := if strm then s.settlePause else s with hu
  have hs : u.view k = s.view k := by rw [hu]; split <;> rfl
  split
  · exact (State.raise_view hk.1 ..).trans hs
  · exact hs

theorem State.putEntry_view (hk : noQueueSource k) (s : State) (strm : Bool) (e : QEntry) :
    (s.putEntry strm e).view k = s.view k := by
  unfold State.putEntry
  dsimp only
  generalize (if strm && !s.res.bp then s.res.bpRun else 0) = run
  split
  · rw [State.afterPut_view hk]
    split <;> rfl
  · split
    · rw [State.afterPut_view hk, State.raiseOverflow_view hk]
      split <;> rfl
    · exact (State.raiseOverflow_view hk ..).trans rfl

theorem State.putMarker_view (hk : noQueueSource k) (s : State) (tag d : Nat) :
    (s.putMarker tag d).view k = s.view k := by
  have hif (c : Prop) [Decidable c] (t : State) (strm : Bool) (e : QEntry) :
      (if c then t.putEntry strm e else t).view k = t.view k := by
    split
    · exact State.putEntry_view hk ..
    · rfl
  unfold State.putMarker State.putMarkerAt
  dsimp only
  exact (hif ..).trans (hif ..)

/-! ### The return of a link -/

theorem State.wrapMarker_view (hk : noQueueSource k) (s : State) : s.wrapMarker.view k = s.view k := by
  unfold State.wrapMarker
  split
  · exact State.putMarker_view hk ..
  · rfl

theorem State.countGen_view (s old : State) : (s.countGen old).view k = s.view k := by
  unfold State.countGen; split <;> rfl

theorem State.afterMove_view (hk : noQueueSource k) (s old : State) : (s.afterMove old).view k = s.view k := by
  unfold State.afterMove
  split
  · rfl
  · exact (State.wrapMarker_view hk _).trans (State.countGen_view ..)

theorem view_ch (e : t.view k = s.view k) : t.ch = s.ch := congrArg Prod.fst e

theorem view_grp (e : t.view k = s.view k) : t.grp = s.grp := congrArg (·.2.1) e

theorem view_still (e : t.view k = s.view k) : t.still = s.still := congrArg (·.2.2.1) e

theorem view_src (e : t.view k = s.view k) : t.ev.src[k.val] = s.ev.src[k.val] := congrArg (·.2.2.2) e

/-- A die that adopts the relayed position changes positions and the comb alone (07 R250). -/
theorem State.adoptPos_spec (s : State) (g : Grp) :
    (s.adoptPos g).ch = s.ch ∧ (s.adoptPos g).still = s.still := by
  have h81 : noQueueSource 0 := ⟨by decide, by decide⟩
  have hmove (u : State) (hu : u.ch = s.ch ∧ u.still = s.still) :
      (u.afterMove s).ch = s.ch ∧ (u.afterMove s).still = s.still :=
    ⟨(view_ch (State.afterMove_view h81 u s)).trans hu.1, (view_still (State.afterMove_view h81 u s)).trans hu.2⟩
  unfold State.adoptPos
  split
  · exact ⟨rfl, rfl⟩
  · split
    · exact ⟨rfl, rfl⟩
    · rename_i c _ _
      split
      · exact hmove _ ⟨State.each_keeps (op := fun t x => t.adoptOne c x) State.ch (fun _ _ => rfl) _ _,
          State.each_keeps (op := fun t x => t.adoptOne c x) State.still (fun _ _ => rfl) _ _⟩
      · split
        · exact hmove _ ⟨rfl, rfl⟩
        · exact ⟨rfl, rfl⟩

theorem State.adoptPos_of_idle (ha : s.comb.active = none) : s.adoptPos g = s := by unfold State.adoptPos; rw [ha]

/-- Raising the events that a die held empties its list (02 R61). -/
theorem State.raiseHeld_logs (s : State) (g : Grp) :
    State.logsOver (s.modLink g fun l => { l with events := [] }) (s.raiseHeld g) := by
  unfold State.raiseHeld
  dsimp only
  generalize (s.group g).link.events = evs
  exact State.each_inv (P := fun t => State.logsOver (s.modLink g fun l => { l with events := [] }) t)
    (fun t e ht => logsOver_trans ht (raiseAt_logs ..)) evs (logsOver_refl _)

/-! ### A stall of the comb -/

theorem State.tbEvent_view (hk : noQueueSource k) (s : State) (d : Nat) : (s.tbEvent d).view k = s.view k :=
  State.putMarker_view hk ..

/-- A die that has failed and of which no channel is held. -/
structure State.dead (s : State) (g : Grp) : Prop where
  failed : (s.group g).link.failed = true
  free : ∀ n ∈ chOf g, (s.chan n).guard.held = false

/-- What a stall with STALLACT SAFE does to one group (07 R248). -/
def State.stallGroup (s : State) (g : Grp) : State :=
  let u := s.takeover g 0xA fun n => s.scheduled n
  if (u.group g).guard.held && !(s.group g).guard.held then
    u.modGrp g fun x => { x with guard := { x.guard with stallHold := true } }
  else u

theorem State.stallSafe_eq (s : State) :
    s.stallSafe = { s.each allGrp State.stallGroup with comb.safeHeld := true } := by
  unfold State.stallSafe State.stallGroup
  dsimp only

/-- The guards that take over for a stall change no channel of a dead die. -/
theorem State.stallSafe_dead (hd : s.dead g) :
    (∀ n ∈ chOf g, s.stallSafe.chan n = s.chan n) ∧ s.stallSafe.ev = s.ev ∧
    (s.stallSafe.group g).link.failed = true := by
  have hstep (t : State) (h : Grp)
      (ht : t.dead g ∧ (∀ n ∈ chOf g, t.chan n = s.chan n) ∧ t.ev = s.ev) :
      (t.takeover h 0xA fun n => t.scheduled n).dead g ∧
      (∀ n ∈ chOf g, (t.takeover h 0xA fun n => t.scheduled n).chan n = s.chan n) ∧
      (t.takeover h 0xA fun n => t.scheduled n).ev = s.ev := by
    obtain ⟨hdead, hchan, hev⟩ := ht
    have hc : ∀ n ∈ chOf g, (t.takeover h 0xA fun n => t.scheduled n).chan n = t.chan n := fun n hn => by
      by_cases hh : h = g
      · subst hh; exact State.takeover_failed hdead.failed hdead.free ..
      · refine (t.takeover_only ..).2.2 n fun e => hh ?_
        rw [← mem_chOf.mp hn, mem_chOf.mp e]
    refine ⟨⟨by rw [State.takeover_link]; exact hdead.failed, fun n hn => by rw [hc n hn]; exact hdead.free n hn⟩,
      fun n hn => (hc n hn).trans (hchan n hn), (State.takeover_ev ..).trans hev⟩
  have hinv := State.each_inv (s := s) (op := State.stallGroup)
    (P := fun t => t.dead g ∧ (∀ n ∈ chOf g, t.chan n = s.chan n) ∧ t.ev = s.ev)
    (fun t h ht => by
      obtain ⟨hdead, hchan, hev⟩ := hstep t h ht
      unfold State.stallGroup
      dsimp only
      split
      · refine ⟨⟨?_, hdead.free⟩, hchan, hev⟩
        by_cases hh : g = h
        · subst hh; rw [State.group_modGrp_same]; exact hdead.failed
        · rw [State.group_modGrp_ne _ _ hh]; exact hdead.failed
      · exact ⟨hdead, hchan, hev⟩) allGrp ⟨hd, fun _ _ => rfl, rfl⟩
  obtain ⟨⟨hf, -⟩, hchan, hev⟩ := hinv
  rw [State.stallSafe_eq]
  generalize s.each allGrp State.stallGroup = v at hf hchan hev
  exact ⟨hchan, hev, hf⟩

/-- What a stall leaves of a dead die, and an event that it does not raise. -/
def State.leavesDead (s t : State) (g : Grp) (k : Fin 128) : Prop :=
  (∀ n ∈ chOf g, t.chan n = s.chan n) ∧ t.ev.src[k.val] = s.ev.src[k.val] ∧ (t.group g).link.failed = true

/-- A stall changes no channel of a dead die, and raises its own event and those of the queue (07 R248). -/
theorem State.stall_dead (hk : noQueueSource k) (hk' : k ≠ 90) (hd : s.dead g) : s.leavesDead s.stall g k := by
  have hof (t : State) (e : t.view k = s.view k) : s.leavesDead t g k :=
    ⟨fun n _ => by unfold State.chan; rw [view_ch e], view_src e,
      by unfold State.group; rw [view_grp e]; exact hd.failed⟩
  have hsafe (t : State) (e : t.view k = s.view k) : s.leavesDead t.stallSafe g k := by
    obtain ⟨hc, hs, hf⟩ := hof t e
    obtain ⟨h1, h2, h3⟩ := State.stallSafe_dead (s := t) ⟨hf, fun n hn => by rw [hc n hn]; exact hd.free n hn⟩
    exact ⟨fun n hn => (h1 n hn).trans (hc n hn), by rw [h2, hs], h3⟩
  unfold State.stall
  split
  · exact hof _ rfl
  · split
    · exact hof _ rfl
    · have htold (t : State) (b p : Word) : ((t.tbEvent 1).raise 90 0 1 b p 0).view k = t.view k :=
        (State.raise_view hk' ..).trans (State.tbEvent_view hk ..)
      dsimp only
      generalize (s.group _).pos.e = e
      split
      · exact hsafe _ (htold ..)
      · split
        · exact hof _ (htold ..)
        · exact hof _ ((State.tbEvent_view hk ..).trans (htold ..))

end

/-! ## Links and dies (01 R12 to R29) -/

section
variable {s t u : State} {n m : Ch} {g h : Grp}

/-- The link event of a group (11 R361). -/
def linkSrc (g : Grp) : Fin 128 := srcNo (72 + g.val)

theorem linkSrc_raised (g : Grp) : neverRaised (linkSrc g).val = false := by revert g; decide

theorem linkSrc_noQueue (g : Grp) : noQueueSource (linkSrc g) ∧ linkSrc g ≠ 90 := by
  unfold noQueueSource; revert g; decide

theorem State.raiseLink_logs (s : State) (g : Grp) (c : Nat) : s.logsOver (s.raiseLink g c) := raise_logs ..

theorem State.raiseLink_pending (hu : s.hostUp = true) (g : Grp) (c : Nat) :
    (s.raiseLink g c).pendingWith (linkSrc g) c := raise_pending _ _ _ _ _ _ _ hu (linkSrc_raised g)

/-- Raising a link event leaves the link events that are pending. -/
theorem State.raiseLink_keeps_pending {k : Fin 128} (hp : s.ev.src[k.val].pending = true) (g : Grp) (c : Nat) :
    (s.raiseLink g c).ev.src[k.val].pending = true := by
  unfold State.raiseLink
  by_cases hk : k = srcNo (72 + g.val)
  · cases hup : s.hostUp
    · unfold State.raise State.raiseAt; simp [hup, hp]
    · rw [hk]; exact (raise_pending _ _ _ _ _ _ _ hup (linkSrc_raised g)).1
  · rw [State.raise_src_ne hk]; exact hp

theorem State.touchesGrp_modLink (s : State) (g : Grp) (f : GrpLink → GrpLink) (l : List Ch) :
    s.touchesGrp (s.modLink g f) l [g] := s.touchesGrp_modGrp ..

/-! ### FIELD_LINK_FRAME_ERROR -/

/-- The errors of a link in the last 1 ms, the present one among them (01 R14). -/
def State.recentErrs (s : State) (g : Grp) : List Nat :=
  ((s.group g).link.errTimes.filter fun t => decide (s.time < t + milli)) ++ [s.time]

/-- A link that counts a frame error; a burst empties the list of the error times. -/
def State.errCounted (s : State) (g : Grp) : State :=
  s.modLink g fun l => { l with
    errs := l.errs + 1, errTimes := if decide (16 ≤ (s.recentErrs g).length) then [] else s.recentErrs g }

theorem exec_fieldLinkFrameError (s : State) (g : Grp) : exec (.fieldLinkFrameError g) s =
    .next (if decide (16 ≤ (s.recentErrs g).length) then (s.errCounted g).raiseLink g 1 else s.errCounted g) := rfl

/-- A frame error counts, and the 16th within 1 ms raises the link event (01 R14). -/
theorem fieldLinkFrameError_counts (s : State) (g : Grp) :
    ∃ t, exec (.fieldLinkFrameError g) s = .next t ∧ (t.group g).link.errs = (s.group g).link.errs + 1 ∧
      (s.hostUp = true → 15 ≤ ((s.group g).link.errTimes.filter fun x => decide (s.time < x + milli)).length →
        t.pendingWith (linkSrc g) 1) ∧ s.touchesGrp t [] [g] := by
  have hcount : ((s.errCounted g).group g).link.errs = (s.group g).link.errs + 1 := by
    unfold State.errCounted; rw [State.group_modLink_same]
  have htouch : s.touchesGrp (s.errCounted g) [] [g] := s.touchesGrp_modLink ..
  refine ⟨_, exec_fieldLinkFrameError s g, ?_⟩
  split
  case isTrue =>
    have hl := (s.errCounted g).raiseLink_logs g 1
    exact ⟨by rw [hl.group, hcount], fun hu _ => State.raiseLink_pending (s := s.errCounted g) hu g 1,
      htouch.trans (State.touchesGrp_of_logs hl ..)⟩
  case isFalse hb =>
    refine ⟨hcount, fun _ hlen => absurd ?_ hb, htouch⟩
    simp only [State.recentErrs, List.length_append, List.length_singleton, decide_eq_true_eq]
    omega

/-! ### FIELD_LINK_SILENCE -/

/-- A link that falls silent, and the event that tells it. -/
def State.silenced (s : State) (g : Grp) : State :=
  (s.modLink g fun l => { l with silent := true }).raiseLink g 2

theorem State.silenced_spec (s : State) (g : Grp) :
    (∀ n, (s.silenced g).chan n = s.chan n) ∧ (s.silenced g).group g =
      { s.group g with link := { (s.group g).link with silent := true } } ∧
    (∀ h, h ≠ g → (s.silenced g).group h = s.group h) ∧
    (s.hostUp = true → (s.silenced g).ev.src[(linkSrc g).val].pending = true) := by
  have hl := (s.modLink g fun l => { l with silent := true }).raiseLink_logs g 2
  refine ⟨fun n => hl.chan n, ?_, fun h hh => ?_, fun hu =>
    (State.raiseLink_pending (s := s.modLink g fun l => { l with silent := true }) hu g 2).1⟩
  · exact (hl.group g).trans (State.group_modLink_same ..)
  · exact (hl.group h).trans (State.group_modLink_ne _ _ hh)

/-- A die that begins to extrapolate: its link, its position and its event (07 R250). -/
theorem State.beginExtrap_spec (s : State) (g : Grp) :
    (∀ n, (s.beginExtrap g).chan n = s.chan n) ∧
    ((s.beginExtrap g).group g).link.silent = (s.group g).link.silent ∧
    (∀ h, h ≠ g → (s.beginExtrap g).group h = s.group h) ∧
    (∀ k : Fin 128, s.ev.src[k.val].pending = true → (s.beginExtrap g).ev.src[k.val].pending = true) := by
  unfold State.beginExtrap
  split
  case isFalse => exact ⟨fun _ => rfl, rfl, fun _ _ => rfl, fun _ e => e⟩
  case isTrue =>
    set v := (s.modLink g fun l => { l with extrap := true, rate := s.rateNow }).modPos g fun p =>
      { p with frac := 0 } with hv
    have hl := v.raiseLink_logs g 5
    refine ⟨fun n => hl.chan n, ?_, fun h hh => ?_, fun k e => State.raiseLink_keeps_pending (s := v) e g 5⟩
    · rw [hl.group, hv, State.group_modPos_same, State.group_modLink_same]
    · rw [hl.group, hv, State.group_modPos_ne _ _ hh, State.group_modLink_ne _ _ hh]

/-- What the guard of a silent die does alone: it takes over, tells it, and extrapolates (08 R263, 07 R250). -/
def State.guardsAlone (s : State) (g : Grp) (before : Bool) : State :=
  let s2 := s.takeover g 4 fun _ => true
  (if (s2.group g).guard.held && !before then s2.raiseLink g 3 else s2).beginExtrap g

theorem exec_fieldLinkSilence (hs : (s.group g).link.silent = false) (hf : (s.group g).link.failed = false)
    (hr : (s.group g).sup.ready = true) (hm : (s.group g).guard.limitMicros = 50) (hj : s.comb.jobs = []) :
    exec (.fieldLinkSilence g) s = .next (if (s.silenced g).dieUp g then
      (s.silenced g).guardsAlone g (s.group g).guard.held else s.silenced g) := by
  have hd : (s.silenced g).dieUp g = s.dieUp g := by
    unfold State.dieUp
    rw [(s.silenced_spec g).2.1]
  rw [hd]
  change execFieldLinkSilence g s = _
  unfold execFieldLinkSilence
  simp only [hs, hf, hr, hm, State.dropShares_of_none hj, Bool.not_true, Bool.or_self, bne_self_eq_false,
    Bool.false_eq_true, if_false]
  cases s.dieUp g <;> rfl

theorem State.guardsAlone_spec (s : State) (g : Grp) (before : Bool) :
    ((s.guardsAlone g before).group g).link.silent = (s.group g).link.silent ∧
    (∀ k : Fin 128, s.ev.src[k.val].pending = true → (s.guardsAlone g before).ev.src[k.val].pending = true) ∧
    (∀ n, grpOf n = g → s.takes n = true → ((s.guardsAlone g before).chan n).guard.held = true) ∧
    (∀ n, grpOf n ≠ g → (s.guardsAlone g before).chan n = s.chan n) ∧
    ∀ h, h ≠ g → (s.guardsAlone g before).group h = s.group h := by
  unfold State.guardsAlone
  dsimp only
  set v := s.takeover g 4 fun _ => true with hv
  set w := if (v.group g).guard.held && !before then v.raiseLink g 3 else v with hw
  have hlog : v.logsOver w := by
    rw [hw]
    split
    · exact v.raiseLink_logs g 3
    · exact logsOver_refl _
  have hpend : ∀ k : Fin 128, s.ev.src[k.val].pending = true → w.ev.src[k.val].pending = true := fun k e => by
    have e' : v.ev.src[k.val].pending = true := by rw [hv, State.takeover_ev]; exact e
    rw [hw]
    split
    · exact State.raiseLink_keeps_pending e' g 3
    · exact e'
  obtain ⟨hc, hs, hg, hp⟩ := w.beginExtrap_spec g
  refine ⟨?_, fun k e => hp k (hpend k e), fun n hn ht => ?_, fun n hn => ?_, fun h hh => ?_⟩
  · rw [hs, hlog.group, hv, State.takeover_link]
  · rw [hc, hlog.chan, hv]
    exact State.takeover_held hn rfl ht 4
  · rw [hc, hlog.chan, hv]
    exact (s.takeover_only ..).2.2 n fun e => hn (mem_chOf.mp e)
  · rw [hg h hh, hlog.group, hv, State.takeover_group_ne hh]

theorem State.takes_congr (hc : s.chan n = t.chan n)
    (hf : (s.group (grpOf n)).link.failed = (t.group (grpOf n)).link.failed) : s.takes n = t.takes n := by
  unfold State.takes State.guardMode State.modeOf State.failedCh
  rw [hc, hf]

/-- A link falls silent: it is marked and told, and the guard of a working die takes its channels (01 R12, 08 R263). -/
theorem fieldLinkSilence_takes (hs : (s.group g).link.silent = false) (hf : (s.group g).link.failed = false)
    (hr : (s.group g).sup.ready = true) (hm : (s.group g).guard.limitMicros = 50) (hj : s.comb.jobs = []) :
    ∃ t, exec (.fieldLinkSilence g) s = .next t ∧ (t.group g).link.silent = true ∧
      (s.hostUp = true → t.ev.src[(linkSrc g).val].pending = true) ∧
      ((s.group g).link.stopped = false → ∀ n, grpOf n = g → s.takes n = true → (t.chan n).guard.held = true) ∧
      (∀ n, grpOf n ≠ g → t.chan n = s.chan n) ∧ ∀ h, h ≠ g → t.group h = s.group h := by
  obtain ⟨hc, hg, hne, hp⟩ := s.silenced_spec g
  refine ⟨_, exec_fieldLinkSilence hs hf hr hm hj, ?_⟩
  split
  case isTrue =>
    obtain ⟨k1, k2, k3, k4, k5⟩ := (s.silenced g).guardsAlone_spec g (s.group g).guard.held
    refine ⟨by rw [k1, hg], fun hu => k2 _ (hp hu), fun _ n hn ht => k3 n hn ?_,
      fun n hn => (k4 n hn).trans (hc n), fun h hh => (k5 h hh).trans (hne h hh)⟩
    rw [State.takes_congr (hc n) (by rw [hn, hg]), ht]
  case isFalse hdown =>
    refine ⟨by rw [hg], hp, fun hst => absurd ?_ hdown, fun n _ => hc n, hne⟩
    unfold State.dieUp
    rw [hg]
    simp [hr, hf, hst]

/-! ### FIELD_LINK_RESTORED -/

/-- The link of a die that speaks again. -/
def State.linkBack (s : State) (g : Grp) : State :=
  (s.adoptPos g).modLink g fun l => { l with silent := false, extrap := false }

theorem exec_fieldLinkRestored (hs : (s.group g).link.silent = true) (hd : s.dieUp g = true)
    (hu : s.hostUp = true) (hw : s.pw.window = none) :
    exec (.fieldLinkRestored g) s = .next (((s.linkBack g).raiseHeld g).raiseLink g 6) := by
  change execFieldLinkRestored g s = _
  unfold execFieldLinkRestored
  simp only [hs, hd, hu, hw, Bool.not_true, Option.isSome_none, Bool.or_self, Bool.false_eq_true, if_false]
  rfl

/-- A link returns: its mark and its held events are gone, and the event tells it (07 R250, 08 R263, 02 R61). -/
theorem fieldLinkRestored_clears (hs : (s.group g).link.silent = true) (hd : s.dieUp g = true)
    (hu : s.hostUp = true) (hw : s.pw.window = none) :
    ∃ t, exec (.fieldLinkRestored g) s = .next t ∧ (t.group g).link.silent = false ∧
      (t.group g).link.events = [] ∧ t.pendingWith (linkSrc g) 6 ∧ t.ch = s.ch ∧
      (s.comb.active = none → s.touchesGrp t [] [g]) := by
  have h1 := (s.linkBack g).raiseHeld_logs g
  have h2 := ((s.linkBack g).raiseHeld g).raiseLink_logs g 6
  have h12 := logsOver_trans h1 h2
  obtain ⟨hch, hst⟩ := s.adoptPos_spec g
  have hgrp : (((s.linkBack g).raiseHeld g).raiseLink g 6).group g =
      { (s.linkBack g).group g with link := { ((s.linkBack g).group g).link with events := [] } } := by
    rw [h12.group, State.group_modLink_same]
  refine ⟨_, exec_fieldLinkRestored hs hd hu hw, ?_, by rw [hgrp], State.raiseLink_pending ?_ g 6,
    h12.ch.trans hch, fun ha => ?_⟩
  · rw [hgrp]
    unfold State.linkBack
    rw [State.group_modLink_same]
  · have hback : (s.linkBack g).still = s.still := hst
    rw [still_hostUp h1.still, ← hu]
    exact still_hostUp hback
  · have hb : s.touchesGrp (s.linkBack g) [] [g] := by
      unfold State.linkBack
      rw [State.adoptPos_of_idle ha]
      exact s.touchesGrp_modLink ..
    exact (hb.trans (State.touchesGrp_modLink ..)).trans (State.touchesGrp_of_logs h12 ..)

/-! ### FIELD_DIE_FAILURE and DIE_SUPERVISOR_TRIP -/

/-- A channel of a die that has failed: halted, held by no guard, with VALID 0 (01 R29, 02 R35). -/
def Channel.failed (c : Channel) : Channel :=
  { c.halted with guard := .reset, inp := { c.inp with valid := false } }

/-- A die that has failed, with its link event raised. -/
def State.dieFailed (s : State) (g : Grp) : State :=
  (((s.haltDie g).each (chOf g) fun t n =>
    (t.modGuard n fun _ => ChGuard.reset).modIn n fun i => { i with valid := false }).modGrp g fun x => { x with
      link := { x.link with failed := true, silent := false, events := [], entries := [] }
      guard := { x.guard with held := false, stallHold := false } }).raiseLink g 4

theorem State.dieFailed_spec (hj : s.comb.jobs = []) (hu : s.hostUp = true) (g : Grp) :
    s.touchesGrp (s.dieFailed g) (chOf g) [g] ∧ ((s.dieFailed g).group g).link.failed = true ∧
    (s.dieFailed g).pendingWith (linkSrc g) 4 ∧
    ∀ n ∈ chOf g, (s.dieFailed g).chan n = (s.chan n).failed := by
  obtain ⟨h1, -, h3⟩ := State.haltDie_spec hj g
  obtain ⟨k1, k2⟩ := State.each_local (s := s.haltDie g)
    (op := fun t n => (t.modGuard n fun _ => ChGuard.reset).modIn n fun i => { i with valid := false })
    (f := fun c => { c with guard := .reset, inp := { c.inp with valid := false } })
    (fun t _ n _ => ⟨State.touches_trans (State.touches_of_modCh ..) (State.touches_of_modCh ..), by
      rw [State.chan_modIn_same, State.chan_modGuard_same]⟩) (chOf_nodup g)
  unfold State.dieFailed
  set v := ((s.haltDie g).each (chOf g) fun t n =>
    (t.modGuard n fun _ => ChGuard.reset).modIn n fun i => { i with valid := false }).modGrp g fun x => { x with
      link := { x.link with failed := true, silent := false, events := [], entries := [] }
      guard := { x.guard with held := false, stallHold := false } } with hv
  have hl := v.raiseLink_logs g 4
  have ht : s.touchesGrp v (chOf g) [g] :=
    (h1.trans (State.touchesGrp_of_touches k1 _)).trans (State.touchesGrp_modGrp ..)
  refine ⟨ht.trans (State.touchesGrp_of_logs hl ..), ?_, State.raiseLink_pending ?_ g 4, fun n hn => ?_⟩
  · rw [hl.group, hv, State.group_modGrp_same]
  · rw [still_hostUp (rest_still (touchesGrp_iff.mp ht).2.2), hu]
  · rw [hl.chan, hv, State.chan_modGrp, k2 n hn, h3 n hn]
    rfl

/-- What a comb does when a die fails: it stalls where the die carried the source of TB1 (07 R248). -/
theorem exec_fieldDieFailure (hf : (s.group g).link.failed = false) (hr : (s.group g).sup.ready = true)
    (hu : s.hostUp = true) (hw : s.pw.window = none) :
    (s.comb.active = none ∧ exec (.fieldDieFailure g) s = .next (s.dieFailed g)) ∨
    ∃ c, s.comb.active = some c ∧ exec (.fieldDieFailure g) s = .next
      ((if c.hdr.tb == 1 && grpOf c.source == g then (s.dieFailed g).stall else s.dieFailed g).countGen s) := by
  have hexec : exec (.fieldDieFailure g) s = execFieldDieFailure g s := rfl
  rw [hexec]
  unfold execFieldDieFailure
  simp only [hf, hr, hu, hw, Bool.not_true, Option.isSome_none, Bool.or_self, Bool.false_eq_true, if_false]
  cases s.comb.active with
  | none => exact .inl ⟨rfl, rfl⟩
  | some c => exact .inr ⟨c, rfl, rfl⟩

theorem State.dead_dieFailed (hj : s.comb.jobs = []) (hu : s.hostUp = true) (g : Grp) : (s.dieFailed g).dead g := by
  obtain ⟨-, hf, -, hc⟩ := State.dieFailed_spec hj hu g
  exact ⟨hf, fun n hn => by rw [hc n hn]; rfl⟩

/-- What a comb that goes on leaves of the failed die: its channels, its mark and its event. -/
theorem State.stalledOrNot_spec (hj : s.comb.jobs = []) (hu : s.hostUp = true) (b : Bool) :
    (((if b then (s.dieFailed g).stall else s.dieFailed g).countGen s).group g).link.failed = true ∧
    ((if b then (s.dieFailed g).stall else s.dieFailed g).countGen s).pendingWith (linkSrc g) 4 ∧
    ∀ n ∈ chOf g, ((if b then (s.dieFailed g).stall else s.dieFailed g).countGen s).chan n = (s.chan n).failed := by
  obtain ⟨-, hf, hp, hc⟩ := State.dieFailed_spec hj hu g
  obtain ⟨hq, h90⟩ := linkSrc_noQueue g
  have hv := State.countGen_view (k := linkSrc g) (if b then (s.dieFailed g).stall else s.dieFailed g) s
  have hch (n : Ch) : ((if b then (s.dieFailed g).stall else s.dieFailed g).countGen s).chan n =
      (if b then (s.dieFailed g).stall else s.dieFailed g).chan n := by unfold State.chan; rw [view_ch hv]
  have hgr : ((if b then (s.dieFailed g).stall else s.dieFailed g).countGen s).group g =
      (if b then (s.dieFailed g).stall else s.dieFailed g).group g := by unfold State.group; rw [view_grp hv]
  obtain ⟨k1, k2, k3⟩ := State.stall_dead hq h90 (State.dead_dieFailed hj hu g)
  refine ⟨?_, State.pendingWith_congr (view_src hv) ?_, fun n hn => ?_⟩
  · rw [hgr]; cases b
    · exact hf
    · exact k3
  · cases b
    · exact hp
    · exact State.pendingWith_congr k2 hp
  · rw [hch]; cases b
    · exact hc n hn
    · exact (k1 n hn).trans (hc n hn)

/-- A die fails: its channels are off and held by no guard, and its event tells it (01 R29). -/
theorem fieldDieFailure_fails (hf : (s.group g).link.failed = false) (hr : (s.group g).sup.ready = true)
    (hu : s.hostUp = true) (hw : s.pw.window = none) (hj : s.comb.jobs = []) :
    ∃ t, exec (.fieldDieFailure g) s = .next t ∧ (t.group g).link.failed = true ∧ t.pendingWith (linkSrc g) 4 ∧
      (∀ n ∈ chOf g, t.chan n = (s.chan n).failed) ∧
      (s.comb.active = none → s.touchesGrp t (chOf g) [g]) := by
  rcases exec_fieldDieFailure hf hr hu hw with ⟨-, he⟩ | ⟨c, ha, he⟩
  · obtain ⟨ht, h1, h2, h3⟩ := State.dieFailed_spec hj hu g
    exact ⟨_, he, h1, h2, h3, fun _ => ht⟩
  · obtain ⟨h1, h2, h3⟩ := State.stalledOrNot_spec (g := g) hj hu (c.hdr.tb == 1 && grpOf c.source == g)
    exact ⟨_, he, h1, h2, h3, fun hn => by rw [ha] at hn; cases hn⟩

theorem exec_dieSupervisorTrip (hd : s.dieUp g = true) :
    exec (.dieSupervisorTrip g) s = .next (s.haltDie g) := by
  change execDieSupervisorTrip g s = _
  unfold execDieSupervisorTrip
  rw [if_pos hd]

end

end Sys2Proof.Machine

open Sys2Proof Sys2Proof.Machine

/-- Settles O42: one lemma for each of the five rows. -/
theorem fieldLinks : Obligations.FieldLinks := by
  unfold Obligations.FieldLinks
  refine ⟨fieldLinkFrameError_counts, fun s g => fieldLinkSilence_takes, fun s g => fieldLinkRestored_clears,
    fun s g hf hr hu hw hj => ?_, fun s g hd hj => ?_⟩
  · obtain ⟨t, ht, hfail, hpend, hc, htouch⟩ := fieldDieFailure_fails hf hr hu hw hj
    refine ⟨t, ht, hfail, hpend, fun n hn => ?_, htouch⟩
    rw [hc n (mem_chOf.mpr hn)]
    obtain ⟨hout, hcode, hloop⟩ := (s.chan n).halted_off
    exact ⟨hout, hcode, hloop, rfl⟩
  · obtain ⟨htouch, hgrp, hc⟩ := State.haltDie_spec hj g
    refine ⟨_, exec_dieSupervisorTrip hd, by rw [hgrp], by rw [hgrp], fun n hn => ?_, htouch⟩
    rw [hc n (mem_chOf.mpr hn)]
    exact (s.chan n).halted_off
end

section
/-! ## The detections that set one bit of CH_FAULT (02 R37, R77, 03 R94 to R109, 04 R145, 06 R195) -/

namespace Sys2Proof.Machine

section
variable {s : State} {n : Ch} {b : Nat}

theorem State.failedCh_of_heard (h : s.heard n = true) : s.failedCh n = false := by
  unfold State.heard State.inTouch at h
  simp only [Bool.and_eq_true, Bool.not_eq_true'] at h
  exact h.2.2

/-- A row that sets a bit of CH_FAULT under its condition, on a channel that is heard and meets it. -/
theorem faults_of_detection {c : Instr} {p : Bool} (hh : s.heard n = true)
    (hc : exec c s = if p then .next (s.setFault n b) else .next s) (hp : p = true) :
    ∃ t, exec c s = .next t ∧ s.faults t n b :=
  ⟨_, by rw [hc, if_pos hp], State.setFault_faults hh b⟩

theorem exec_openLoadCondition {ma : Int} (hh : s.heard n = true) (hs : s.steadyOn n = true)
    (hi : (s.cfgOf n).inductive = true) (hm : ma < s.openLoadMa n) :
    exec (.openLoadCondition n ma) s = .next (s.setFault n 25) := by
  change execOpenLoadCondition n ma s = _
  unfold execOpenLoadCondition
  rw [State.leadOf_of_heard hh, hs, decide_eq_true hm, hi]
  rfl

theorem exec_shortVfOff (ho : s.offState n = true) (hm : s.modeOf n = .doHs) :
    exec (.shortVfOffDetected n) s = .next (s.setFault n 23) := by
  change execShortVfOffDetected n s = _
  unfold execShortVfOffDetected
  rw [ho, hm]
  rfl

end

end Sys2Proof.Machine

open Sys2Proof Sys2Proof.Machine

/-- Settles O43: each row sets its bit where its condition holds, and a channel that is heard tells it. -/
theorem channelFaults : Obligations.ChannelFaults := by
  unfold Obligations.ChannelFaults
  intro s n hh
  have hf := State.failedCh_of_heard hh
  have hd := State.dieUp_of_heard hh
  refine ⟨fun hs hm => faults_of_detection hh rfl ?_, fun hs hp => faults_of_detection hh rfl ?_,
    fun hm ho => ⟨faults_of_detection hh rfl ?_, fun hl => faults_of_detection hh rfl ?_⟩,
    fun hm => faults_of_detection hh rfl ?_,
    fun hs => ⟨faults_of_detection hh rfl hs, faults_of_detection hh rfl hs,
      fun ma hi hlt => ⟨_, exec_openLoadCondition hh hs hi hlt, State.setFault_faults hh 25⟩,
      faults_of_detection hh rfl hs⟩,
    fun ho hm => ⟨fun hb => faults_of_detection hh rfl ?_,
      ⟨_, exec_shortVfOff ho hm, State.setFault_faults hh 23⟩⟩,
    fun ho hp => faults_of_detection hh rfl ?_, fun hm hb => faults_of_detection hh rfl ?_⟩
  · rcases hm with hm | ⟨hm, hb⟩
    · simp [hf, hs, hm]
    · simp [hf, hs, hm, hb]
  · rcases hp with hp | hp <;> simp [hf, hs, hp]
  · simp [hm, ho, hd]
  · simpa [hm, ho, hd] using hl
  · simp [hm, hf]
  · simp [ho, hm, hb]
  · simp [ho, hp]
  · simp [State.aoLive, ChMode.isAo, hm, hd, hb]
end

section
/-! ## The digital input of a channel (02 R53 to R64)

An accepted level, an accepted change and the return of VALID write the input part of one channel; beside it they
change what raising an event and the capture change, and what a die holds for the host. -/

namespace Sys2Proof.Machine

/-! ### Writing an input -/

/-- What raising an event, the capture and the list of events that a die holds leave of a state. -/
def State.bare (s : State) : State :=
  { s with
    grp := State.reset.grp, res := State.reset.res, ev := State.reset.ev, rcd := State.reset.rcd
    pw := { s.pw with waking := false } }

/-- t is s with the input part i on channel n, but for what telling a change of it does. -/
def State.inputIs (s t : State) (n : Ch) (i : ChIn) : Prop := t.bare = (s.modIn n fun _ => i).bare

section
variable {s t u : State} {n m : Ch} {i j : ChIn}

theorem State.modCh_modCh (s : State) (n : Ch) (f g : Channel → Channel) :
    (s.modCh n f).modCh n g = s.modCh n fun c => g (f c) := by
  simp [State.modCh, State.setCh, State.chan]

theorem State.modIn_modIn (s : State) (n : Ch) (f g : ChIn → ChIn) :
    (s.modIn n f).modIn n g = s.modIn n fun i => g (f i) := State.modCh_modCh ..

theorem State.modIn_congr {f g : ChIn → ChIn} (h : f (s.chan n).inp = g (s.chan n).inp) :
    s.modIn n f = s.modIn n g := by
  simp [State.modIn, State.modCh, h]

theorem State.heard_modIn (h : s.heard n = true) (f : ChIn → ChIn) : (s.modIn n f).heard n = true :=
  State.heard_of_touches (State.touches_of_modCh ..) (State.only_modCh s n _ ⟨rfl, rfl⟩).2.1 h

theorem State.logsOver.bare (h : s.logsOver t) : t.bare = s.bare := by
  unfold State.logsOver at h; rw [h]; rfl

theorem bare_chan (h : t.bare = s.bare) (n : Ch) : t.chan n = s.chan n :=
  show t.bare.chan n = s.bare.chan n by rw [h]

theorem bare_comb (h : t.bare = s.bare) : t.comb = s.comb := show t.bare.comb = s.bare.comb by rw [h]

theorem State.bare_ite {c : Prop} [Decidable c] (ht : t.bare = s.bare) (hu : u.bare = s.bare) :
    (if c then t else u).bare = s.bare := by
  split
  · exact ht
  · exact hu

theorem State.inputIs_modIn (s : State) (n : Ch) (f : ChIn → ChIn) :
    s.inputIs (s.modIn n f) n (f (s.chan n).inp) := rfl

theorem State.inputIs.trans (h : s.inputIs t n i) (h' : t.inputIs u n j) : s.inputIs u n j := by
  unfold State.inputIs at *
  have e : (t.modIn n fun _ => j).bare = ((s.modIn n fun _ => i).modIn n fun _ => j).bare :=
    congrArg (fun x : State => x.modIn n fun _ => j) h
  rw [h', e, State.modIn_modIn]

theorem State.inputIs.chan_same (h : s.inputIs t n i) : t.chan n = { s.chan n with inp := i } := by
  rw [bare_chan h, State.chan_modIn_same]

theorem State.inputIs.chan_ne (h : s.inputIs t n i) (hm : m ≠ n) : t.chan m = s.chan m := by
  rw [bare_chan h, State.chan_modIn_ne _ _ hm]

theorem State.inputIs.comb (h : s.inputIs t n i) : t.comb = s.comb :=
  bare_comb (s := s.modIn n fun _ => i) h

theorem State.inputIs.setup (h : s.inputIs t n i) : t.setup = s.setup := by
  funext m
  unfold State.setup
  by_cases hm : m = n
  · subst hm; rw [h.chan_same]
  · rw [h.chan_ne hm]

theorem State.inputIs.isSource (h : s.inputIs t n i) (m : Ch) : t.isSource m = s.isSource m := by
  unfold State.isSource; rw [h.comb]

/-! ### The capture (05 R183, R184) -/

theorem State.capFinish_bare (s : State) : s.capFinish.bare = s.bare := by
  unfold State.capFinish
  split
  · exact (raise_logs ..).bare
  · rfl

theorem State.capTrigger_bare (s : State) (w : Word) : (s.capTrigger w).bare = s.bare := by
  unfold State.capTrigger
  dsimp only
  split
  · exact State.capFinish_bare _
  · rfl

theorem State.capChange_bare (s : State) (n : Ch) (r : Bool) (w : Word) : (s.capChange n r w).bare = s.bare :=
  State.bare_ite (s.capTrigger_bare w) rfl

/-- The capture raises EV82 and no other. -/
theorem State.capFinish_src {k : Fin 128} (hk : k ≠ 82) (s : State) :
    s.capFinish.ev.src[k.val] = s.ev.src[k.val] := by
  unfold State.capFinish
  split
  · exact State.raise_src_ne hk ..
  · rfl

theorem State.capChange_src {k : Fin 128} (hk : k ≠ 82) (s : State) (n : Ch) (r : Bool) (w : Word) :
    (s.capChange n r w).ev.src[k.val] = s.ev.src[k.val] := by
  unfold State.capChange State.capTrigger
  dsimp only
  split
  · split
    · exact State.capFinish_src hk _
    · rfl
  · rfl

/-! ### Accepted changes -/

/-- An input after an accepted change of STATE (02 R58, R59). -/
def ChIn.changed (i : ChIn) (st invert : Bool) (stamp : Word) : ChIn :=
  { i with state := st, lastValid := some (st != invert), cosCount := i.cosCount + 1, cosStamp := stamp }

theorem State.acceptChange_inputIs (s : State) (n : Ch) (st : Bool) (stamp : Word) (nc : Bool) :
    s.inputIs (s.acceptChange n st stamp nc) n ((s.chan n).inp.changed st (s.cfgOf n).invert stamp) := by
  unfold State.inputIs State.acceptChange
  dsimp only
  rw [State.capChange_bare]
  exact State.bare_ite (State.bare_ite rfl (raiseAt_logs ..).bare) rfl

/-- Raising a source leaves it pending and undelivered with its code (11 R359). -/
theorem State.raiseAt_pending {k : Fin 128} {c : Nat} {a : BitVec 16} {p q r w : Word} {nc : Bool}
    (h : s.hostUp = true) (hk : neverRaised k.val = false) :
    (s.raiseAt k a (BitVec.ofNat 16 c) p q r w nc).pendingWith k c := by
  unfold State.pendingWith State.raiseAt
  simp [h, hk, EvState.raised]

/-- The change-of-state event of a channel is raised, and not by the capture (11 R360, R361). -/
theorem changeSrc_raised (n : Ch) :
    srcNo (32 + n.val) ≠ 82 ∧ neverRaised (srcNo (32 + n.val)).val = false := by
  revert n; decide

/-- A change that COS_EDGE 3 selects is told at once on a channel that is heard (02 R58). -/
theorem State.acceptChange_pending (hh : s.heard n = true) (hm : s.modeOf n = .di ∨ s.modeOf n = .diNamur)
    (he : fld (s.cfgOf n).inCfg 29 28 = 3) (st : Bool) (stamp : Word) (nc : Bool) :
    (s.acceptChange n st stamp nc).pendingWith (srcNo (32 + n.val)) (if st then 1 else 2) := by
  obtain ⟨h82, hr⟩ := changeSrc_raised n
  have hsel : ((s.modeOf n == .di || s.modeOf n == .diNamur) &&
      (if st then fld (s.cfgOf n).inCfg 29 28 == 1 || fld (s.cfgOf n).inCfg 29 28 == 3
        else fld (s.cfgOf n).inCfg 29 28 == 2 || fld (s.cfgOf n).inCfg 29 28 == 3)) = true := by
    rcases hm with hm | hm <;> cases st <;> simp [hm, he]
  unfold State.acceptChange
  dsimp only
  have hu := State.hostUp_of_heard hh
  rw [if_pos hsel, State.silent_of_heard hh, hu]
  exact State.pendingWith_congr (State.capChange_src h82 ..) (State.raiseAt_pending hu hr)

/-! ### A fault that comes with a change -/

/-- A bit of CH_FAULT set after a change of a heard channel that keeps its configuration. -/
theorem State.setFault_modCh (hh : s.heard n = true) {f : Channel → Channel}
    (hf : (f (s.chan n)).cfg = (s.chan n).cfg ∧ (f (s.chan n)).actMode = (s.chan n).actMode) (b : Nat) :
    ((s.modCh n f).setFault n b).chan n = { f (s.chan n) with fault := (f (s.chan n)).fault ||| bitW b } ∧
    s.touches ((s.modCh n f).setFault n b) [n] := by
  have h1 := State.touches_of_modCh s n f
  have hh' := State.heard_of_touches h1 (State.only_modCh s n f hf).2.1 hh
  refine ⟨?_, State.touches_trans h1 ?_⟩
  · rw [State.setFault_chan (State.isOdd_of_heard hh'), State.chan_modCh_same]
  · unfold State.setFault
    rw [State.leadOf_of_heard hh']
    dsimp only
    split
    · exact State.touches_refl ..
    · have h2 := State.touches_of_modCh (s.modCh n f) n fun c => { c with fault := putBit c.fault b true }
      exact State.touches_trans h2 (State.touches_raiseFault
        (State.heard_of_touches h2 (State.only_modCh _ n _ ⟨rfl, rfl⟩).2.1 hh') ..)

/-! ### Accepted levels and the return of VALID -/

/-- A valid, unbroken input takes a level: a STATE that stays is no change (02 R53). -/
theorem State.acceptLevel_valid (hs : s.supplied n = true) (hb : (s.chan n).inp.brk = false)
    (hsh : (s.chan n).inp.short = false) (hv : (s.chan n).inp.valid = true) (level : Bool) (w : Word) (nc : Bool) :
    s.acceptLevel n level w nc =
      if (level != (s.cfgOf n).invert) = (s.chan n).inp.state then
        s.modIn n fun i => { i with deb := level, run := none }
      else (s.modIn n fun i => { i with deb := level, run := none }).acceptChange n
        (level != (s.cfgOf n).invert) w nc := by
  unfold State.acceptLevel
  simp [hs, hb, hsh, hv]

/-- VALID returns with the debounced level (02 R61). -/
theorem State.validReturn_spec (s : State) (n : Ch) : ∃ i, s.inputIs (s.validReturn n) n i ∧ i.valid = true ∧
    i.state = ((s.chan n).inp.deb != (s.cfgOf n).invert) ∧ i.deb = (s.chan n).inp.deb ∧
    i.raw = (s.chan n).inp.raw ∧ i.brk = (s.chan n).inp.brk ∧ i.short = (s.chan n).inp.short := by
  have h1 := s.inputIs_modIn n fun i => { i with
    valid := true, state := (s.chan n).inp.deb != (s.cfgOf n).invert, lastValid := some i.deb }
  have h2 := h1.trans (State.acceptChange_inputIs _ n ((s.chan n).inp.deb != (s.cfgOf n).invert) s.stampNow s.nocomb)
  rw [h1.chan_same] at h2
  unfold State.validReturn
  dsimp only
  split
  · split
    · exact ⟨_, h1, rfl, rfl, rfl, rfl, rfl, rfl⟩
    · exact ⟨_, h2, rfl, rfl, rfl, rfl, rfl, rfl⟩
  · exact ⟨_, h1, rfl, rfl, rfl, rfl, rfl, rfl⟩

/-- An accepted level is the debounced one (02 R53). -/
theorem State.acceptLevel_spec (s : State) (n : Ch) (level : Bool) (w : Word) (nc : Bool) :
    ∃ i, s.inputIs (s.acceptLevel n level w nc) n i ∧ i.deb = level ∧ i.raw = (s.chan n).inp.raw := by
  have h1 := s.inputIs_modIn n fun i => { i with deb := level, run := none }
  unfold State.acceptLevel
  dsimp only
  split
  · exact ⟨_, h1, rfl, rfl⟩
  split
  · exact ⟨_, h1.trans (State.inputIs_modIn ..), by rw [h1.chan_same], by rw [h1.chan_same]⟩
  split
  · obtain ⟨i, hi, -, -, hdeb, hraw, -⟩ := State.validReturn_spec (s.modIn n fun i =>
      { i with deb := level, run := none }) n
    rw [h1.chan_same] at hdeb hraw
    exact ⟨i, h1.trans hi, hdeb, hraw⟩
  split
  · exact ⟨_, h1, rfl, rfl⟩
  · refine ⟨_, h1.trans (State.acceptChange_inputIs ..), ?_, ?_⟩ <;> rw [h1.chan_same] <;> rfl

/-- A level on a counting input is its raw and its debounced one (02 R64). -/
theorem State.countLevel_spec (s : State) (n : Ch) (level : Bool) :
    ∃ i, s.inputIs (s.countLevel n level) n i ∧ i.raw = level ∧ i.deb = level := by
  have h1 := s.inputIs_modIn n fun i => { i with raw := level }
  unfold State.countLevel
  dsimp only
  split
  case isTrue h =>
    simp only [Bool.and_eq_true, beq_iff_eq] at h
    exact ⟨_, h1, rfl, h.1.symm⟩
  case isFalse =>
    obtain ⟨i, hi, hdeb, hraw⟩ := State.acceptLevel_spec (s.modIn n fun i => { i with raw := level }) n level
      s.stampNow s.nocomb
    rw [h1.chan_same] at hraw
    exact ⟨i, h1.trans hi, hraw, hdeb⟩

end

end Sys2Proof.Machine
end

section
/-! ## Rows of digital inputs (02 R49 to R63, R69) -/

namespace Sys2Proof.Machine

section
variable {s : State} {n : Ch} {mv ua : Int} {k : Nat}

/-! ### Crossings -/

/-- A crossing of a digital input (02 R53). -/
theorem exec_terminalCrossing_digital (hd : s.dieUp (grpOf n) = true) (hb : (s.chan n).cfgBusy = false)
    (hm : s.modeOf n = .di ∨ s.modeOf n = .diNamur) :
    exec (.terminalCrossing n mv ua k) s =
      if (s.classed n && !s.currentClass n ua) ||
          (s.levelOf n mv ua == (s.chan n).inp.deb && (s.chan n).inp.valid) then
        .next (s.modIn n fun i => { i with
          raw := s.levelOf n mv ua, inClass := s.currentClass n ua, run := none })
      else
        let start := if s.levelOf n mv ua == (s.chan n).inp.raw then
            (s.chan n).inp.run.getD (s.stampNow, s.nocomb) else (s.stampNow, s.nocomb)
        if fld (s.cfgOf n).inCfg 7 0 = 0 then
          .next ((s.modIn n fun i => { i with raw := s.levelOf n mv ua, inClass := s.currentClass n ua }).acceptLevel
            n (s.levelOf n mv ua) start.1 start.2)
        else .next (s.modIn n fun i => { i with
          raw := s.levelOf n mv ua, inClass := s.currentClass n ua, run := some start }) := by
  change execTerminalCrossing n mv ua k s = _
  unfold execTerminalCrossing
  simp only [hd, hb, Bool.not_true, Bool.or_self, Bool.false_eq_true, if_false]
  rcases hm with hm | hm <;> simp only [hm, State.modIn_modIn]

/-- The crossings of O44 in DI and DI_NAMUR with a debounce time: outside the classes, to the debounced level, and
to a new one. -/
theorem terminalCrossing_digital (hh : s.heard n = true) (hb : (s.chan n).cfgBusy = false)
    (hm : s.modeOf n = .di ∨ s.modeOf n = .diNamur) {level cls : Bool} (hl : level = s.levelOf n mv ua)
    (hc : cls = s.currentClass n ua) :
    (s.classed n = true → cls = false → exec (.terminalCrossing n mv ua k) s =
      .next (s.modIn n fun i => { i with raw := level, inClass := false, run := none })) ∧
    ((s.classed n = false ∨ cls = true) → (s.chan n).inp.valid = true → level = (s.chan n).inp.deb →
      exec (.terminalCrossing n mv ua k) s =
        .next (s.modIn n fun i => { i with raw := level, inClass := cls, run := none })) ∧
    ((s.classed n = false ∨ cls = true) → (s.chan n).inp.valid = true → level ≠ (s.chan n).inp.deb →
      fld (s.cfgOf n).inCfg 7 0 ≠ 0 →
      exec (.terminalCrossing n mv ua k) s = .next (s.modIn n fun i => { i with
        raw := level, inClass := cls
        run := some (if level = i.raw then i.run.getD (s.stampNow, s.nocomb) else (s.stampNow, s.nocomb)) })) := by
  rw [exec_terminalCrossing_digital (State.dieUp_of_heard hh) hb hm, ← hl, ← hc]
  refine ⟨fun hcl hf => ?_, fun hcl hv he => ?_, fun hcl hv hne hdeb => ?_⟩
  · rw [hcl, hf]; rfl
  · rw [if_pos (by simp [he, hv])]
  · have hin : (s.classed n && !cls) = false := by rcases hcl with h | h <;> simp [h]
    rw [hin, if_neg (by simp [hne])]
    dsimp only
    rw [if_neg hdeb]
    refine congrArg _ (State.modIn_congr ?_)
    simp

/-- The 17th short pulse within 1 ms sets ORATE (02 R69). -/
theorem State.noteShort_orate
    (hc : 16 ≤ ((s.chan n).inp.shorts.filter fun t => decide (s.time < t + milli)).length) :
    ∃ l, s.noteShort n = (s.modIn n fun i => { i with shorts := l }).setFault n 3 := by
  have hnow : decide (s.time < s.time + milli) = true := decide_eq_true (Nat.lt_add_of_pos_right (by decide))
  unfold State.noteShort
  dsimp only
  rw [if_pos]
  · exact ⟨_, rfl⟩
  · rw [List.filter_append, List.length_drop]
    simp only [List.length_append, List.filter_cons, hnow, if_true, List.filter_nil, List.length_singleton]
    omega

theorem terminalCrossing_short (hh : s.heard n = true) (hb : (s.chan n).cfgBusy = false)
    (hm : s.modeOf n = .count) (hl : s.levelOf n mv ua ≠ (s.chan n).inp.raw)
    (hk : k < fld (s.cfgOf n).cntCfg 7 0)
    (hc : 16 ≤ ((s.chan n).inp.shorts.filter fun t => decide (s.time < t + milli)).length) :
    ∃ t, exec (.terminalCrossing n mv ua k) s = .next t ∧
      (t.chan n).fault = (s.chan n).fault ||| bitW 3 ∧ s.touches t [n] := by
  have hexec : exec (.terminalCrossing n mv ua k) s =
      .next ((s.modIn n fun i => { i with raw := s.levelOf n mv ua }).noteShort n) := by
    change execTerminalCrossing n mv ua k s = _
    unfold execTerminalCrossing
    simp [State.dieUp_of_heard hh, hb, hm, hl, hk]
  obtain ⟨l, hs⟩ := State.noteShort_orate (s := s.modIn n fun i => { i with raw := s.levelOf n mv ua }) (n := n)
    (by rw [State.chan_modIn_same]; exact hc)
  rw [hs, State.modIn_modIn] at hexec
  obtain ⟨hchan, htouch⟩ := State.setFault_modCh hh (f := fun c => { c with
    inp := { c.inp with raw := s.levelOf n mv ua, shorts := l } }) ⟨rfl, rfl⟩ 3
  exact ⟨_, hexec, congrArg Channel.fault hchan, htouch⟩

/-! ### Debounced levels -/

theorem exec_debounceExpired {r : Word × Bool} (hm : s.modeOf n = .di ∨ s.modeOf n = .diNamur)
    (hr : (s.chan n).inp.run = some r) :
    exec (.debounceExpired n) s = .next (s.acceptLevel n (s.chan n).inp.raw r.1 r.2) := by
  change execDebounceExpired n s = _
  unfold execDebounceExpired
  rcases hm with hm | hm <;> rw [hm, hr]

theorem debounceExpired_accepts {r : Word × Bool} (hh : s.heard n = true)
    (hm : s.modeOf n = .di ∨ s.modeOf n = .diNamur) (hs : s.supplied n = true)
    (hr : (s.chan n).inp.run = some r) (hb : (s.chan n).inp.brk = false) (hsh : (s.chan n).inp.short = false)
    (hv : (s.chan n).inp.valid = true) :
    ∃ t, exec (.debounceExpired n) s = .next t ∧ (t.chan n).inp.run = none ∧
      (t.chan n).inp.deb = (s.chan n).inp.raw ∧
      (t.chan n).inp.state = ((s.chan n).inp.raw != (s.cfgOf n).invert) ∧
      ((t.chan n).inp.state = (s.chan n).inp.state → (t.chan n).inp.cosCount = (s.chan n).inp.cosCount) ∧
      ((t.chan n).inp.state ≠ (s.chan n).inp.state →
        (t.chan n).inp.cosCount = (s.chan n).inp.cosCount + 1 ∧ (t.chan n).inp.cosStamp = r.1 ∧
        (fld (s.cfgOf n).inCfg 29 28 = 3 →
          t.pendingWith (srcNo (32 + n.val)) (if (t.chan n).inp.state then 1 else 2))) ∧
      ∀ m, m ≠ n → t.chan m = s.chan m := by
  set u := s.modIn n fun i => { i with deb := (s.chan n).inp.raw, run := none } with hu
  have h1 : s.inputIs u n { (s.chan n).inp with deb := (s.chan n).inp.raw, run := none } := State.inputIs_modIn ..
  refine ⟨_, exec_debounceExpired hm hr, ?_⟩
  rw [State.acceptLevel_valid hs hb hsh hv]
  split
  case isTrue he =>
    rw [h1.chan_same]
    exact ⟨rfl, rfl, he.symm, fun _ => rfl, fun hne => absurd rfl hne, fun m hne => h1.chan_ne hne⟩
  case isFalse hne =>
    have h2 := h1.trans (State.acceptChange_inputIs u n ((s.chan n).inp.raw != (s.cfgOf n).invert) r.1 r.2)
    rw [h2.chan_same, h1.chan_same]
    refine ⟨rfl, rfl, rfl, fun he => absurd he hne, fun _ => ⟨rfl, rfl, fun hcos => ?_⟩,
      fun m hm => h2.chan_ne hm⟩
    exact State.acceptChange_pending (State.heard_modIn hh _) (by rwa [setup_modeOf h1.setup])
      (by rwa [setup_cfgOf h1.setup]) ..

/-! ### Wire breaks and NAMUR faults -/

/-- VALID returns once a break or short has cleared (02 R61): the input has the debounced level again. -/
theorem State.validReturn_cleared (s : State) (n : Ch) (f : ChIn → ChIn)
    (hdeb : (f (s.chan n).inp).deb = (s.chan n).inp.deb) :
    ∃ i, s.inputIs ((s.modIn n f).validReturn n) n i ∧ i.valid = true ∧
      i.state = ((s.chan n).inp.deb != (s.cfgOf n).invert) ∧
      i.brk = (f (s.chan n).inp).brk ∧ i.short = (f (s.chan n).inp).short := by
  have h1 := s.inputIs_modIn n f
  obtain ⟨i, hi, hvalid, hstate, -, -, hbrk, hshort⟩ := State.validReturn_spec (s.modIn n f) n
  rw [h1.chan_same] at hstate hbrk hshort
  rw [setup_cfgOf h1.setup] at hstate
  exact ⟨i, h1.trans hi, hvalid, hdeb ▸ hstate, hbrk, hshort⟩

theorem exec_wireBreakDeclared (hh : s.heard n = true) (hm : s.modeOf n = .di) (hs : s.supplied n = true)
    (hw : bit (s.cfgOf n).inCfg 27 = true) : exec (.wireBreakDeclared n) s =
      .next ((s.modIn n fun i => { i.invalid with brk := true, inClass := false }).setFault n 0) := by
  change execWireBreakDeclared n s = _
  unfold execWireBreakDeclared
  simp [hm, hw, hs, State.dieUp_of_heard hh]

theorem exec_wireBreakEnd (hh : s.heard n = true) (hm : s.modeOf n = .di) (hs : s.supplied n = true)
    (hb : (s.chan n).inp.brk = true) : exec (.wireBreakEnd n) s =
      .next ((s.modIn n fun i => { i with brk := false, inClass := true }).validReturn n) := by
  change execWireBreakEnd n s = _
  unfold execWireBreakEnd
  simp [hm, hb, hs, State.dieUp_of_heard hh]

theorem exec_namurFaultDeclared (hh : s.heard n = true) (hm : s.modeOf n = .diNamur) (hs : s.supplied n = true)
    (short : Bool) : exec (.namurFaultDeclared n short) s =
      .next ((s.modIn n fun i => { i.invalid with
        brk := !short, short := short, inClass := false, state := s.faultState n }).setFault n
          (if short then 1 else 0)) := by
  change execNamurFaultDeclared n short s = _
  unfold execNamurFaultDeclared
  simp [hm, hs, State.dieUp_of_heard hh]

theorem exec_namurFaultEnd (hh : s.heard n = true) (hm : s.modeOf n = .diNamur) (hs : s.supplied n = true)
    (hb : (s.chan n).inp.brk = true ∨ (s.chan n).inp.short = true) : exec (.namurFaultEnd n) s =
      .next ((s.modIn n fun i => { i with brk := false, short := false, inClass := true }).validReturn n) := by
  change execNamurFaultEnd n s = _
  unfold execNamurFaultEnd
  simp [hm, hb, hs, State.dieUp_of_heard hh]

/-- STATE of a faulty NAMUR input as NFAULT selects (02 R63). -/
theorem State.faultState_namur (hm : s.modeOf n = .diNamur) :
    (fld (s.cfgOf n).inCfg 17 16 = 0 → s.faultState n = (s.cfgOf n).invert) ∧
    (fld (s.cfgOf n).inCfg 17 16 = 1 → s.faultState n = !(s.cfgOf n).invert) ∧
    (2 ≤ fld (s.cfgOf n).inCfg 17 16 →
      s.faultState n = ((s.chan n).inp.lastValid.getD (s.chan n).inp.deb != (s.cfgOf n).invert)) := by
  unfold State.faultState
  simp only [hm]
  refine ⟨fun h => by rw [h]; rfl, fun h => by rw [h]; rfl, fun h => ?_⟩
  split
  · omega
  · omega
  · rfl

end

end Sys2Proof.Machine

open Sys2Proof Sys2Proof.Machine

/-- Settles O44: the crossings, the accepted level, and the two kinds of fault with their ends. -/
theorem digitalInputs : Obligations.DigitalInputs := by
  unfold Obligations.DigitalInputs
  refine ⟨fun s n mv ua k level cls hh hb hm hl hc => terminalCrossing_digital hh hb hm hl hc,
    fun s n mv ua k hh hb hm hl hk hc => terminalCrossing_short hh hb hm hl hk hc,
    fun s n r hh hm hs hr hb hsh hv => debounceExpired_accepts hh hm hs hr hb hsh hv,
    fun s n hh hm hs => ⟨fun hw => ?_, fun hb => ?_⟩, fun s n hh hm hs => ⟨fun short => ?_, fun hb => ?_⟩⟩
  · obtain ⟨hchan, htouch⟩ := State.setFault_modCh hh
      (f := fun c => { c with inp := { c.inp.invalid with brk := true, inClass := false } }) ⟨rfl, rfl⟩ 0
    refine ⟨_, exec_wireBreakDeclared hh hm hs hw, ?_⟩
    unfold State.modIn
    rw [hchan]
    exact ⟨rfl, rfl, rfl, rfl, rfl, htouch⟩
  · obtain ⟨i, hi, hvalid, hstate, hbrk, -⟩ := State.validReturn_cleared s n
      (fun i => { i with brk := false, inClass := true }) rfl
    refine ⟨_, exec_wireBreakEnd hh hm hs hb, ?_⟩
    rw [hi.chan_same]
    exact ⟨hbrk, hvalid, hstate, fun m hne => hi.chan_ne hne⟩
  · obtain ⟨hchan, htouch⟩ := State.setFault_modCh hh (f := fun c => { c with inp := { c.inp.invalid with
      brk := !short, short := short, inClass := false, state := s.faultState n } }) ⟨rfl, rfl⟩
      (if short then 1 else 0)
    obtain ⟨hzero, hone, hlast⟩ := State.faultState_namur hm
    refine ⟨_, exec_namurFaultDeclared hh hm hs short, ?_⟩
    unfold State.modIn
    rw [hchan]
    exact ⟨rfl, rfl, rfl, rfl, hzero, hone, hlast, rfl, by cases short <;> rfl, htouch⟩
  · obtain ⟨i, hi, hvalid, hstate, hbrk, hshort⟩ := State.validReturn_cleared s n
      (fun i => { i with brk := false, short := false, inClass := true }) rfl
    refine ⟨_, exec_namurFaultEnd hh hm hs hb, ?_⟩
    rw [hi.chan_same]
    exact ⟨hbrk, hshort, hvalid, hstate, fun m hne => hi.chan_ne hne⟩
end

section
/-! ## Mains trackers and loop supplies (02 R73 to R77) -/

namespace Sys2Proof.Machine

section
variable {s : State} {n : Ch}

/-! ### Mains -/

@[simp] theorem State.retrack_chan (s : State) (n : Ch) : s.retrack.chan n = s.chan n := rfl

theorem exec_mainsLockAcquired {phase freq vrms : BitVec 16} (hh : s.heard n = true) (hm : s.modeOf n = .mainsSense)
    (hsrc : s.isSource n = false) (hl : (s.chan n).mains.lock = false) :
    exec (.mainsLockAcquired n phase freq vrms) s = .next (s.retrack.modCh n fun c => { c with
      mains := { lock := true, holdover := false, phase, freq, vrms, acc := 0 }
      inp := { c.inp with valid := s.supplied n } }).retrack := by
  change execMainsLockAcquired n phase freq vrms s = _
  unfold execMainsLockAcquired
  simp [hm, hl, hsrc, State.dieUp_of_heard hh]

theorem exec_mainsHoldoverEnter (hh : s.heard n = true) (hm : s.modeOf n = .mainsSense)
    (hl : (s.chan n).mains.lock = true) : exec (.mainsHoldoverEnter n) s =
      .next (s.modCh n fun c => { c with mains := { c.mains with holdover := true } }) := by
  change execMainsHoldoverEnter n s = _
  unfold execMainsHoldoverEnter
  simp [hm, hl, State.dieUp_of_heard hh]

theorem exec_mainsLockResumed (hh : s.heard n = true) (hm : s.modeOf n = .mainsSense)
    (ho : (s.chan n).mains.holdover = true) : exec (.mainsLockResumed n) s =
      .next (s.modCh n fun c => { c with mains := { c.mains with holdover := false } }) := by
  change execMainsLockResumed n s = _
  unfold execMainsLockResumed
  simp [hm, ho, State.dieUp_of_heard hh]

theorem exec_mainsLockLost (hh : s.heard n = true) (hm : s.modeOf n = .mainsSense) (hsrc : s.isSource n = false)
    (ho : (s.chan n).mains.holdover = true) : exec (.mainsLockLost n) s =
      .next ((s.retrack.modCh n fun c => { c with
        mains := { c.mains with lock := false, holdover := false }
        inp := { c.inp with valid := false } }).setFault n 4).retrack := by
  change execMainsLockLost n s = _
  unfold execMainsLockLost
  simp [hm, ho, hsrc, State.dieUp_of_heard hh]

/-! ### Loop supplies -/

/-- A loop supply off for overload (02 R77). -/
theorem exec_loopOverload (hh : s.heard n = true) (hm : s.modeOf n = .loopPwr) (ho : (s.chan n).loop.on = true) :
    exec (.loopOverload n) s = .next ((s.modCh n fun c => { c with
      loop := { c.loop with on := false, limit := false, iloop := 0, ovlOff := true } }).setFault n 5) := by
  change execLoopOverload n s = _
  unfold execLoopOverload State.setLoop
  simp [hm, ho, State.dieUp_of_heard hh, State.modCh_modCh]

/-- A loop supply restarts above VF_LOW (02 R77). -/
theorem exec_loopRestart (hh : s.heard n = true) (hm : s.modeOf n = .loopPwr) (ho : (s.chan n).loop.ovlOff = true)
    (hu : (s.group (grpOf n)).sup.uvlo = false) (hl : (s.group (grpOf n)).sup.low = false) :
    exec (.loopRestart n) s =
      .next ((s.modCh n fun c => { c with loop := { c.loop with ovlOff := false } }).setLoop n true) := by
  change execLoopRestart n s = _
  unfold execLoopRestart State.loopOn
  simp [hm, ho, hu, hl, State.dieUp_of_heard hh]

/-- Turning a loop supply on reaches its channel and notes the instant in its group (02 R76). -/
theorem State.setLoop_on (s : State) (n : Ch) :
    ((s.setLoop n true).chan n).loop.on = true ∧
    ((s.setLoop n true).chan n).loop.ovlOff = (s.chan n).loop.ovlOff ∧
    s.touchesGrp (s.setLoop n true) [n] [grpOf n] := by
  unfold State.setLoop State.noteOn
  dsimp only
  have h1 := State.touchesGrp_of_touches (State.touches_of_modCh s n fun c => { c with loop := { c.loop with
    on := true, limit := c.loop.limit && true, iloop := c.loop.iloop } }) [grpOf n]
  split
  · exact ⟨by simp, by simp, h1.trans (State.touchesGrp_modGrp ..)⟩
  · exact ⟨by simp, by simp, h1⟩

end

end Sys2Proof.Machine

open Sys2Proof Sys2Proof.Machine

/-- Settles O46: what each row writes on its channel, and the fault that comes with a loss or an overload. -/
theorem mainsAndLoops : Obligations.MainsAndLoops := by
  unfold Obligations.MainsAndLoops
  refine ⟨fun s n phase freq vrms hh hm hsrc => ⟨fun hl => ?_, fun hl => ?_, fun ho => ⟨?_, ?_⟩⟩,
    fun s n hh hm => ⟨fun ho => ?_, fun ho hu hl => ?_⟩⟩
  · refine ⟨_, exec_mainsLockAcquired hh hm hsrc hl, ?_⟩
    simp only [State.retrack_chan, State.chan_modCh_same, true_and]
    exact fun m hne => State.chan_modCh_ne _ _ hne
  · refine ⟨_, exec_mainsHoldoverEnter hh hm hl, ?_⟩
    rw [State.chan_modCh_same]
    exact ⟨rfl, hl, State.touches_of_modCh ..⟩
  · refine ⟨_, exec_mainsLockResumed hh hm ho, ?_⟩
    rw [State.chan_modCh_same]
    exact ⟨rfl, rfl, State.touches_of_modCh ..⟩
  · obtain ⟨hchan, htouch⟩ := State.setFault_modCh (s := s.retrack) hh (f := fun c => { c with
      mains := { c.mains with lock := false, holdover := false }
      inp := { c.inp with valid := false } }) ⟨rfl, rfl⟩ 4
    refine ⟨_, exec_mainsLockLost hh hm hsrc ho, ?_⟩
    simp only [State.retrack_chan]
    rw [hchan]
    exact ⟨rfl, rfl, rfl, rfl, fun m hne => htouch.1 m (by simpa using hne)⟩
  · obtain ⟨hchan, htouch⟩ := State.setFault_modCh hh (f := fun c => { c with
      loop := { c.loop with on := false, limit := false, iloop := 0, ovlOff := true } }) ⟨rfl, rfl⟩ 5
    refine ⟨_, exec_loopOverload hh hm ho, ?_⟩
    rw [hchan]
    exact ⟨rfl, rfl, rfl, rfl, htouch⟩
  · obtain ⟨hon, hovl, htouch⟩ := State.setLoop_on
      (s.modCh n fun c => { c with loop := { c.loop with ovlOff := false } }) n
    refine ⟨_, exec_loopRestart hh hm ho hu hl, hon, by rw [hovl, State.chan_modCh_same], ?_⟩
    exact (State.touchesGrp_of_touches (State.touches_of_modCh ..) _).trans htouch
end

section
/-! ## Counting and the terminal monitor (02 R47, R48, R64 to R68) -/

namespace Sys2Proof.Machine

section
variable {s t u : State} {n m p : Ch} {dt : Nat} {rising : Bool}

/-! ### Counts -/

/-- On a channel that is no source of the time base a count moves nothing else (02 R66, 07 R214). -/
theorem State.addCount_free (h : s.isSource n = false) (d : Int) :
    s.addCount n d = s.modCh n fun c => { c with cnt := { c.cnt with val := c.cnt.val + BitVec.ofInt 32 d } } := by
  unfold State.addCount
  simp [h]

/-- A count that an edge selection may take (02 R66). -/
theorem State.addCount_if (h : s.isSource n = false) (b : Bool) :
    (if b then s.addCount n 1 else s).chan n =
      { s.chan n with cnt := { (s.chan n).cnt with val := (s.chan n).cnt.val + if b then 1 else 0 } } ∧
    ∀ m, m ≠ n → (if b then s.addCount n 1 else s).chan m = s.chan m := by
  cases b
  case false => simp
  case true =>
    rw [if_pos rfl, State.addCount_free h, State.chan_modCh_same]
    exact ⟨rfl, fun m hm => State.chan_modCh_ne _ _ hm⟩

/-! ### Edges -/

/-- What a rising edge of SINGLE notes: one edge more, and the period (02 R66). -/
def ChCnt.risen (c : ChCnt) (dt : Nat) : ChCnt :=
  { c with
    edges := min 2 (c.edges + 1)
    per := if c.edges = 0 then c.per else BitVec.ofNat 32 (min dt 0xFFFFFFFE) }

/-- From the second rising edge on, the time since the one before is the period (02 R66). -/
theorem ChCnt.risen_per {c : ChCnt} (he : c.edges ≠ 0) (hd : dt < 0xFFFFFFFF) :
    (c.risen dt).per = BitVec.ofNat 32 dt := by
  have hmin : min dt 0xFFFFFFFE = dt := Nat.min_eq_left (by omega)
  simp only [ChCnt.risen, if_neg he, hmin]

/-- Whether the edge selection of SINGLE takes an edge (02 R65). -/
def ChCfg.takesEdge (c : ChCfg) (rising : Bool) : Bool :=
  let e := fld c.cntCfg 23 22
  if rising then e == 1 || e == 3 else e == 2 || e == 3

theorem ChCfg.takesEdge_iff (c : ChCfg) (rising : Bool) : c.takesEdge rising = true ↔
    fld c.cntCfg 23 22 = 3 ∨ fld c.cntCfg 23 22 = if rising then 1 else 2 := by
  unfold ChCfg.takesEdge
  cases rising <;> simp [or_comm]

theorem exec_countEdge_single (hh : s.heard n = true) (hm : s.modeOf n = .count) (hp : s.pairOf n = .none)
    (hc : fld (s.cfgOf n).cntCfg 27 24 = 0) : exec (.countEdge n false rising dt) s =
      let u := if (s.cfgOf n).takesEdge rising then (s.countLevel n rising).addCount n 1 else s.countLevel n rising
      .next (if rising then u.modCh n fun c => { c with cnt := c.cnt.risen dt } else u) := by
  change execCountEdge n false rising dt s = _
  unfold execCountEdge
  rw [State.leadOf_of_heard hh]
  simp only [hm, State.dieUp_of_heard hh, hp, hc]
  cases rising <;> rfl

theorem countEdge_single (hh : s.heard n = true) (hm : s.modeOf n = .count) (hsrc : s.isSource n = false)
    (hp : s.pairOf n = .none) (hc : fld (s.cfgOf n).cntCfg 27 24 = 0) :
    ∃ t, exec (.countEdge n false rising dt) s = .next t ∧
      (t.chan n).cnt.val = (s.chan n).cnt.val + (if (s.cfgOf n).takesEdge rising then 1 else 0) ∧
      (t.chan n).cnt.per = (if rising then ((s.chan n).cnt.risen dt).per else (s.chan n).cnt.per) ∧
      ∀ m, m ≠ n → t.chan m = s.chan m := by
  obtain ⟨i, hi, -, -⟩ := s.countLevel_spec n rising
  obtain ⟨hsame, hne⟩ := State.addCount_if ((hi.isSource n).trans hsrc) ((s.cfgOf n).takesEdge rising)
  rw [hi.chan_same] at hsame
  refine ⟨_, exec_countEdge_single hh hm hp hc, ?_⟩
  cases rising
  case false =>
    simp only [Bool.false_eq_true, if_false]
    rw [hsame]
    exact ⟨rfl, rfl, fun m hm => (hne m hm).trans (hi.chan_ne hm)⟩
  case true =>
    simp only [if_true]
    rw [State.chan_modCh_same, hsame]
    exact ⟨rfl, rfl, fun m hm => by rw [State.chan_modCh_ne _ _ hm, hne m hm, hi.chan_ne hm]⟩

theorem exec_countEdge_both (hh : s.heard n = true) (hm : s.modeOf n = .count) (hp : s.pairOf n = .quad) :
    exec (.countEdge n true rising dt) s = .next
      (((s.countLevel n rising).countLevel (mateOf n) !(s.chan (mateOf n)).inp.deb).setFault n 2) := by
  change execCountEdge n true rising dt s = _
  unfold execCountEdge
  rw [State.leadOf_of_heard hh]
  simp [hm, State.dieUp_of_heard hh, hp]

/-- Both inputs of a pair changed at once: its fault, and no count (02 R67). -/
theorem countEdge_both (hh : s.heard n = true) (hm : s.modeOf n = .count) (hp : s.pairOf n = .quad) :
    ∃ t, exec (.countEdge n true rising dt) s = .next t ∧
      (t.chan n).fault = (s.chan n).fault ||| bitW 2 ∧ (t.chan n).cnt = (s.chan n).cnt ∧
      ∀ m, m ≠ n → m ≠ mateOf n → t.chan m = s.chan m := by
  obtain ⟨i, hi, -, -⟩ := s.countLevel_spec n rising
  obtain ⟨j, hj, -, -⟩ := (s.countLevel n rising).countLevel_spec (mateOf n) !(s.chan (mateOf n)).inp.deb
  have hodd := (setup_isOdd (hj.setup.trans hi.setup) n).trans (State.isOdd_of_heard hh)
  refine ⟨_, exec_countEdge_both hh hm hp, ?_⟩
  rw [State.setFault_chan hodd, hj.chan_ne (mateOf_ne n).symm, hi.chan_same]
  refine ⟨rfl, rfl, fun m hn hmate => ?_⟩
  rw [(State.setFault_only hodd 2).2.2 m (by simpa using hn), hj.chan_ne hmate, hi.chan_ne hn]

/-- The step of an edge on a pair in x4 (02 R67), onA its even channel. -/
def State.quadStep (s : State) (n : Ch) (rising : Bool) : Int :=
  if (rising != (s.chan (mateOf n)).inp.deb) != bit (s.cfgOf n).cntCfg 19 then 1 else -1

theorem exec_countEdge_quad (hh : s.heard n = true) (hm : s.modeOf n = .count) (hp : s.pairOf n = .quad)
    (hq : fld (s.cfgOf n).cntCfg 21 20 = 2) : exec (.countEdge n false rising dt) s =
      .next (((s.countLevel n rising).modCh n fun c => { c with cnt := c.cnt.noteFirst (s.quadStep n rising) }).addCount
        n (s.quadStep n rising)) := by
  obtain ⟨i, hi, -, hdeb⟩ := s.countLevel_spec n rising
  change execCountEdge n false rising dt s = _
  unfold execCountEdge State.quadStep
  rw [State.leadOf_of_heard hh]
  simp [hm, State.dieUp_of_heard hh, hp, hq, hi.chan_same, hi.chan_ne (mateOf_ne n), hdeb, quadUp, quadCounts]

theorem countEdge_quad (hh : s.heard n = true) (hm : s.modeOf n = .count) (hsrc : s.isSource n = false)
    (hp : s.pairOf n = .quad) (hq : fld (s.cfgOf n).cntCfg 21 20 = 2) :
    ∃ t, exec (.countEdge n false rising dt) s = .next t ∧ (t.chan n).inp.raw = rising ∧
      (t.chan n).cnt.val = (s.chan n).cnt.val + BitVec.ofInt 32 (s.quadStep n rising) ∧
      ∀ m, m ≠ n → t.chan m = s.chan m := by
  obtain ⟨i, hi, hraw, -⟩ := s.countLevel_spec n rising
  refine ⟨_, exec_countEdge_quad hh hm hp hq, ?_⟩
  rw [State.addCount_free (s := State.modCh _ n _) ((hi.isSource n).trans hsrc), State.modCh_modCh,
    State.chan_modCh_same, hi.chan_same]
  exact ⟨hraw, rfl, fun m hne => by rw [State.chan_modCh_ne _ _ hne, hi.chan_ne hne]⟩

/-! ### Indices -/

/-- A pair that an index channel serves is another pair's (02 R68). -/
theorem State.indexedBy_pair (hp : s.pairOf n = .none) (hi : p ∈ s.indexedBy n) : p ≠ n := by
  rintro rfl
  simp [State.indexedBy, hp] at hi

/-- The first index of a pair that resets at it, when the pair is no source of the time base: the position is
latched and cleared (02 R68). -/
theorem State.indexPair_first (ha : fld (s.cfgOf p).cntCfg 17 16 = 1) (hl : (s.chan p).cnt.lastIdx = none)
    (hsrc : s.isSource p = false) :
    ((s.indexPair p).chan p).cnt.per = (s.chan p).cnt.val ∧ ((s.indexPair p).chan p).cnt.val = 0 ∧
    ∀ m, m ≠ p → (s.indexPair p).chan m = s.chan m := by
  have hfree : ∀ cb, s.comb.active = some cb → (cb.hdr.tb == 1 && cb.source == p) = false :=
    fun cb hcb => by
      simp only [State.isSource, hcb, Bool.and_eq_false_iff, Bool.or_eq_false_iff] at hsrc ⊢
      exact hsrc.imp_left And.left
  have he : s.indexPair p = s.modCh p fun x => { x with cnt := { x.cnt with
      per := (s.chan p).cnt.val, lastIdx := some (s.chan p).cnt.val, val := 0
      gateVal := x.cnt.gateVal - (s.chan p).cnt.val } } := by
    unfold State.indexPair
    simp only [ha, hl]
    cases hc : s.comb.active with
    | none => simp [State.modCh_modCh]
    | some cb =>
      simp only [hfree cb hc]
      simp [State.modCh_modCh]
  rw [he, State.chan_modCh_same]
  exact ⟨rfl, rfl, fun m hm => State.chan_modCh_ne _ _ hm⟩

theorem exec_indexEdge (hm : s.modeOf n = .count) (hd : s.dieUp (grpOf n) = true) (hp : s.pairOf n = .none)
    (hc : fld (s.cfgOf n).cntCfg 27 24 = 2) (hi : s.indexedBy n = [p]) :
    exec (.indexEdge n) s = .next ((s.countLevel n true).indexPair p) := by
  change execIndexEdge n s = _
  unfold execIndexEdge
  simp [hm, hd, hp, hc, hi]

theorem indexEdge_first (hm : s.modeOf n = .count) (hd : s.dieUp (grpOf n) = true) (hp : s.pairOf n = .none)
    (hc : fld (s.cfgOf n).cntCfg 27 24 = 2) (hx : s.indexedBy n = [p]) (ha : fld (s.cfgOf p).cntCfg 17 16 = 1)
    (hl : (s.chan p).cnt.lastIdx = none) (hsrc : s.isSource p = false) :
    ∃ t, exec (.indexEdge n) s = .next t ∧ (t.chan p).cnt.per = (s.chan p).cnt.val ∧
      (t.chan p).cnt.val = 0 ∧ (t.chan n).inp.raw = true ∧ ∀ m, m ≠ n → m ≠ p → t.chan m = s.chan m := by
  obtain ⟨i, hi, hraw, -⟩ := s.countLevel_spec n true
  have hpn : p ≠ n := State.indexedBy_pair hp (by simp [hx])
  have hchan := hi.chan_ne hpn
  obtain ⟨hper, hval, hne⟩ := State.indexPair_first (s := s.countLevel n true) (p := p)
    (by rwa [setup_cfgOf hi.setup]) (by rwa [hchan]) ((hi.isSource p).trans hsrc)
  refine ⟨_, exec_indexEdge hm hd hp hc hx, by rw [hper, hchan], hval, ?_, fun m hn hmp => ?_⟩
  · rw [hne n hpn.symm, hi.chan_same, hraw]
  · rw [hne m hmp, hi.chan_ne hn]

/-! ### The gate and its time-out -/

theorem exec_freqGateExpired {k span : Nat} (hh : s.heard n = true) (hm : s.modeOf n = .count)
    (hp : s.pairOf n = .none) (hk : 2 ≤ k) (hs : 0 < span) {a : Nat} (ha : a = (k - 1) * 80000000000) :
    exec (.freqGateExpired n k span) s = .next (s.modCh n fun x => { x with cnt := { x.cnt with
      freq := BitVec.ofInt 32 (roundDiv (Config.tieUp a span) a span), gateVal := x.cnt.val } }) := by
  change execFreqGateExpired n k span s = _
  unfold execFreqGateExpired
  subst ha
  simp [hm, State.isOdd_of_heard hh, State.dieUp_of_heard hh, hp, hk, hs]
  rfl

theorem exec_countEdgeTimeout (hh : s.heard n = true) (hm : s.modeOf n = .count)
    (hp : s.pairOf n = .none) (hc : fld (s.cfgOf n).cntCfg 27 24 = 0) :
    exec (.countEdgeTimeout n) s = .next (s.modCh n fun x => { x with cnt := { x.cnt with
      freq := 0, per := 0xFFFFFFFF#32, edges := 0 } }) := by
  change execCountEdgeTimeout n s = _
  unfold execCountEdgeTimeout
  simp [hm, State.dieUp_of_heard hh, hp, hc]

/-! ### The terminal monitor -/

/-- What a monitor conversion first writes on a channel (02 R47): the voltage, and on a switch its temperatures. -/
structure Channel.monitoredBy (c d : Channel) (m : ChMeas) : Prop where
  setup : d.cfg = c.cfg ∧ d.actMode = c.actMode
  fault : d.fault = c.fault
  termv : d.termv = m.termv
  tvValid : d.tvValid = true
  load : d.out.diag = c.out.diag ∧ d.out.iload = c.out.iload
  heat : c.actMode.isSwitch = true → d.out.tj = m.tj ∧ d.out.dtc = m.dtc

/-- A monitor conversion: what it first writes, the fault of the voltage, and what the mode makes of the rest. -/
theorem State.terminalMeasured_eq (s : State) (n : Ch) (m : ChMeas) : ∃ f : Channel → Channel,
    (s.chan n).monitoredBy (f (s.chan n)) m ∧
    s.terminalMeasured n m =
      let mv := m.termv.toInt * 2
      let u := if mv < -35000 ∨ 45000 < mv then (s.modCh n f).setFault n 8 else s.modCh n f
      if (s.modeOf n).isSwitch then u.measureLoad n m.iload
      else if s.modeOf n == .mainsSense then u.measureMains n m
      else if s.modeOf n == .count && s.supplied n && !(s.chan n).inp.valid then
        (u.modIn n fun i => { i with deb := i.raw }).validReturn n
      else u := by
  refine ⟨_, ?_, rfl⟩
  constructor
  case load => dsimp only; split <;> exact ⟨rfl, rfl⟩
  case heat => intro h; simp [State.modeOf, h]
  case setup => exact ⟨rfl, rfl⟩
  all_goals rfl

theorem State.even_of_parallel (hodd : s.isOdd n = false) (hp : s.pairOf n = .parallel) : evenOf n = n := by
  have hv : n.val % 2 = 0 := by simpa [State.isOdd, hp] using hodd
  exact Fin.ext (by simp [evenOf, hv])

/-- The current that a switch reports for the one measured, on a channel that is no odd pair member (03 R94). -/
def State.loadOf (s : State) (n : Ch) (w : BitVec 16) : BitVec 16 :=
  if s.pairOf n = .parallel then w + (s.chan (mateOf n)).out.own else w

/-- Outside an off-pulse a switch takes the current measured; through one it keeps the current before it (03 R94,
R110). -/
theorem State.measureLoad_eq (hodd : s.isOdd n = false) (w : BitVec 16) : s.measureLoad n w =
    if (s.chan n).out.diag then s else s.modOut n fun o => { o with own := w, iload := s.loadOf n w } := by
  unfold State.measureLoad State.loadOf
  split
  · rfl
  · have hpair : (s.modOut n fun o => { o with own := w, iload := w }).pairOf n = s.pairOf n :=
      setup_pairOf (State.only_modCh s n _ ⟨rfl, rfl⟩).2.1 n
    dsimp only
    rw [hpair]
    split
    case isTrue hp =>
      rw [State.even_of_parallel hodd hp, State.chan_modOut_ne _ _ (mateOf_ne n)]
      exact State.modCh_modCh ..
    case isFalse => rfl

theorem State.measureMains_spec (hsrc : s.isSource n = false) (m : ChMeas) :
    (∃ x, (s.measureMains n m).chan n = { s.chan n with mains := x }) ∧
    ∀ k, k ≠ n → (s.measureMains n m).chan k = s.chan k := by
  unfold State.measureMains
  dsimp only
  split
  · rw [if_neg (by simp [hsrc]), State.modCh_modCh]
    simp only [State.retrack_chan]
    exact ⟨⟨_, State.chan_modCh_same ..⟩, fun k hk => State.chan_modCh_ne _ _ hk⟩
  · exact ⟨⟨_, State.chan_modCh_same ..⟩, fun k hk => State.chan_modCh_ne _ _ hk⟩

/-- A terminal voltage outside -35 to 45 V is a fault of its channel (02 R48). -/
theorem State.voltageFault_spec (hh : s.heard n = true) (f : Channel → Channel)
    (hf : (f (s.chan n)).cfg = (s.chan n).cfg ∧ (f (s.chan n)).actMode = (s.chan n).actMode)
    (b : Prop) [Decidable b] :
    (if b then (s.modCh n f).setFault n 8 else s.modCh n f).chan n =
      { f (s.chan n) with fault := if b then (f (s.chan n)).fault ||| bitW 8 else (f (s.chan n)).fault } ∧
    s.touches (if b then (s.modCh n f).setFault n 8 else s.modCh n f) [n] ∧
    (if b then (s.modCh n f).setFault n 8 else s.modCh n f).setup = s.setup := by
  have h1 := (State.only_modCh s n f hf).2.1
  split
  · obtain ⟨hchan, htouch⟩ := State.setFault_modCh hh hf 8
    have h2 := (State.setFault_only ((setup_isOdd h1 n).trans (State.isOdd_of_heard hh)) 8).2.1
    exact ⟨hchan, htouch, h2.trans h1⟩
  · exact ⟨State.chan_modCh_same .., State.touches_of_modCh .., h1⟩

/-- What a monitor conversion leaves on its channel, which is no source of the time base (02 R47, R48, 03 R94). -/
theorem State.terminalMeasured_spec (hh : s.heard n = true) (hsrc : s.isSource n = false) (m : ChMeas) :
    ∃ c, (s.chan n).monitoredBy c m ∧
      ((s.terminalMeasured n m).chan n).termv = c.termv ∧ ((s.terminalMeasured n m).chan n).tvValid = c.tvValid ∧
      ((s.terminalMeasured n m).chan n).fault =
        (if m.termv.toInt * 2 < -35000 ∨ 45000 < m.termv.toInt * 2 then c.fault ||| bitW 8 else c.fault) ∧
      ((s.modeOf n).isSwitch = true → ((s.terminalMeasured n m).chan n).out =
        if c.out.diag then c.out else { c.out with own := m.iload, iload := s.loadOf n m.iload }) ∧
      ∀ k, k ≠ n → (s.terminalMeasured n m).chan k = s.chan k := by
  obtain ⟨f, hf, he⟩ := s.terminalMeasured_eq n m
  obtain ⟨hchan, htouch, hsetup⟩ := State.voltageFault_spec hh f hf.setup
    (m.termv.toInt * 2 < -35000 ∨ 45000 < m.termv.toInt * 2)
  refine ⟨f (s.chan n), hf, ?_⟩
  rw [he]
  dsimp only
  revert hchan htouch hsetup
  generalize (if m.termv.toInt * 2 < -35000 ∨ 45000 < m.termv.toInt * 2 then (s.modCh n f).setFault n 8
    else s.modCh n f) = u
  intro hchan htouch hsetup
  have hne : ∀ k, k ≠ n → u.chan k = s.chan k := fun k hk => htouch.1 k (by simpa using hk)
  split
  case isTrue hsw =>
    have hload : u.loadOf n m.iload = s.loadOf n m.iload := by
      unfold State.loadOf
      rw [setup_pairOf hsetup, hne _ (mateOf_ne n)]
    rw [State.measureLoad_eq ((setup_isOdd hsetup n).trans (State.isOdd_of_heard hh)), hload, hchan]
    dsimp only
    split
    · rw [hchan]; exact ⟨rfl, rfl, rfl, fun _ => rfl, hne⟩
    · rw [State.chan_modOut_same, hchan]
      exact ⟨rfl, rfl, rfl, fun _ => rfl, fun k hk => by rw [State.chan_modOut_ne _ _ hk, hne k hk]⟩
  case isFalse hsw =>
    split
    · have husrc : u.isSource n = false := by unfold State.isSource at *; rwa [htouch.comb]
      obtain ⟨⟨x, hx⟩, hxne⟩ := State.measureMains_spec husrc m
      rw [hx, hchan]
      exact ⟨rfl, rfl, rfl, fun h => absurd h hsw, fun k hk => (hxne k hk).trans (hne k hk)⟩
    split
    · obtain ⟨i, hi, -⟩ := State.validReturn_spec (u.modIn n fun i => { i with deb := i.raw }) n
      have hi := (u.inputIs_modIn n fun i => { i with deb := i.raw }).trans hi
      rw [hi.chan_same, hchan]
      exact ⟨rfl, rfl, rfl, fun h => absurd h hsw, fun k hk => (hi.chan_ne hk).trans (hne k hk)⟩
    · rw [hchan]; exact ⟨rfl, rfl, rfl, fun h => absurd h hsw, hne⟩

theorem exec_terminalMonitor {m : ChMeas} (hh : s.heard n = true) (hb : (s.chan n).cfgBusy = false)
    (hr : s.monitorReady (grpOf n) = true) :
    exec (.terminalMonitorConversion n m) s = .next (s.terminalMeasured n m) := by
  change execTerminalMonitorConversion n m s = _
  unfold execTerminalMonitorConversion State.monitored
  simp [State.dieUp_of_heard hh, State.silent_of_heard hh, hb, hr]

end

end Sys2Proof.Machine

open Sys2Proof Sys2Proof.Machine

/-- Settles O45: edges of SINGLE and of a pair, the index, the gate and its time-out, and the terminal monitor. -/
theorem counting : Obligations.Counting := by
  unfold Obligations.Counting
  refine ⟨fun s n rising dt hh hm hsrc hp hc => ?_,
    fun s n rising dt hh hm hsrc hp => ⟨countEdge_both hh hm hp, fun hq => ?_⟩,
    fun s n p hm hd hp hc hx ha hl hsrc => indexEdge_first hm hd hp hc hx ha hl hsrc,
    fun s n k span hh hm => ⟨fun a hp hk hs ha => exec_freqGateExpired hh hm hp hk hs ha,
      exec_countEdgeTimeout hh hm⟩, fun s n m hh hb hsrc hr => ?_⟩
  · obtain ⟨t, ht, hval, hper, hne⟩ := countEdge_single (dt := dt) (rising := rising) hh hm hsrc hp hc
    simp only [ChCfg.takesEdge_iff] at hval
    refine ⟨t, ht, hval, fun hr hedge hdt => ?_, fun hr => ?_, hne⟩
    · exact hper.trans ((if_pos hr).trans (ChCnt.risen_per hedge hdt))
    · rw [hper, hr]; rfl
  · obtain ⟨t, ht, hraw, hval, hne⟩ := countEdge_quad (dt := dt) (rising := rising) hh hm hsrc hp hq
    refine ⟨t, ht, hraw, ?_, hne⟩
    rw [hval, State.quadStep]
    split
    · rfl
    · have hneg : BitVec.ofInt 32 (-1) = -(1 : Word) := by decide
      rw [hneg, BitVec.sub_eq_add_neg]
  · obtain ⟨c, hc, htermv, hvalid, hfault, hout, hne⟩ := State.terminalMeasured_spec hh hsrc m
    refine ⟨_, exec_terminalMonitor hh hb hr, htermv.trans hc.termv, hvalid.trans hc.tvValid, fun hsw => ?_,
      fun hin => ?_, fun hbad => ?_, hne⟩
    · obtain ⟨hdiag, hiload⟩ := hc.load
      obtain ⟨htj, hdtc⟩ := hc.heat hsw
      rw [hout hsw, hdiag]
      cases hd : (s.chan n).out.diag
      · exact ⟨htj, hdtc, fun _ => rfl, fun e => (by cases e)⟩
      · exact ⟨htj, hdtc, fun e => (by cases e), fun _ => hiload⟩
    · rw [hfault, if_neg (by omega), hc.fault]
    · rw [hfault, if_pos hbad, hc.fault]
end

section
/-! ## SET_OBJ (02 R37, 11 R342, R351, R352) -/

namespace Sys2Proof.Machine

section
variable {s u : State} {c : Cmd} {w : Word} {n : Ch}

/-! ### Receiving a message -/

/-- Taking the last frame of a message changes no channel and no group (10 R317, R324). -/
theorem State.received_chGrp (s : State) (f : Frame) : (s.received f).ch = s.ch ∧ (s.received f).grp = s.grp := by
  unfold State.received State.supersede State.accept State.wake
  dsimp only
  split <;> split <;> exact ⟨rfl, rfl⟩

theorem State.received_chan (s : State) (f : Frame) (n : Ch) : (s.received f).chan n = s.chan n := by
  unfold State.chan; rw [(s.received_chGrp f).1]

theorem State.received_group (s : State) (f : Frame) (g : Grp) : (s.received f).group g = s.group g := by
  unfold State.group; rw [(s.received_chGrp f).2]

theorem State.received_isOdd (s : State) (f : Frame) (n : Ch) : (s.received f).isOdd n = s.isOdd n := by
  unfold State.isOdd State.pairOf; rw [State.received_chan]

/-! ### The objects of a channel -/

/-- An index of a channel object names its channel and its offset (11 R351). -/
theorem chIndex_fields (n : Ch) {off : Nat} (h : off < 32) :
    0x400 ≤ chIndex n off ∧ chIndex n off < 0x800 ∧ chNo ((chIndex n off - 0x400) / 32) = n ∧
    chIndex n off % 32 = off := by
  have hn := n.isLt
  unfold chIndex chNo
  refine ⟨by omega, by omega, Fin.ext ?_, by omega⟩
  dsimp only
  omega

theorem State.setObject_chIndex (s : State) (snd : Sender) (n : Ch) {off : Nat} (h : off < 32) (w : Word) :
    s.setObject snd (chIndex n off) w = s.writeCh n off w := by
  obtain ⟨hlo, hhi, hch, hoff⟩ := chIndex_fields n h
  unfold State.setObject
  rw [if_pos ⟨hlo, hhi⟩, hch, hoff]

theorem State.objects_chIndex (s : State) (n : Ch) {off : Nat} (h : off < 32) :
    s.objects [chIndex n off] = [s.readCh n off] := by
  obtain ⟨hlo, hhi, hch, hoff⟩ := chIndex_fields n h
  have hread : s.readObj (chIndex n off) = some (s.readCh n off) := by
    unfold State.readObj
    rw [if_neg (by omega), if_neg (by omega), if_neg (by omega), if_pos hhi, hch, hoff]
  simp [State.objects, hread]

/-- No check refuses a write of CH_FAULT on a channel that its die can reach (01 R29, 02 R41). -/
theorem State.writeFault_ok (hodd : s.isOdd n = false) (hd : s.dieUp (grpOf n) = true)
    (hl : (s.group (grpOf n)).link.silent = false) (hf : s.failedCh n = false) (hb : (s.chan n).cfgBusy = false) :
    s.writeCh n 0x03 w = .ok (s.clearFaults n w) := by
  unfold State.writeCh State.channelBusy
  simp [hodd, hd, hl, hf, hb, failIf, judge, worst]

/-- The modes in which no bit of CH_FAULT acts are neither outputs nor AI_I (03 R105, 04 R148, 06 R197). -/
theorem ChMode.plainFaults {m : ChMode} (h : m = .off ∨ m.isDigital = true) :
    m.isSwitch = false ∧ m ≠ .aiI ∧ m.isAo = false := by
  cases m <;> simp [ChMode.isDigital] at h <;> decide

/-- Where no bit of CH_FAULT acts, the bits written 1 clear and nothing else changes (02 R37). -/
theorem State.clearFaults_plain (hm : (s.chan n).actMode = .off ∨ (s.chan n).actMode.isDigital = true) :
    s.clearFaults n w = s.modCh n fun x => { x with fault := x.fault &&& ~~~w } := by
  obtain ⟨hsw, hai, hao⟩ := ChMode.plainFaults hm
  unfold State.clearFaults
  simp [hsw, hai, hao]

/-- The index range that no object has (11 R351). -/
theorem State.setObject_reserved (s : State) (snd : Sender) {i : Nat} (hlo : 0x300 ≤ i) (hhi : i < 0x400) (w : Word) :
    s.setObject snd i w = .error .range := by
  have hread : s.readObj i = none := by
    unfold State.readObj
    rw [if_neg (by omega), if_neg (by omega), if_pos hhi]
  unfold State.setObject State.writeObj
  rw [if_neg (by omega), hread]
  rfl

/-! ### The command -/

theorem exec_setObj (s : State) (c : Cmd) : exec (.setObj c) s = .next (s.hostCmd setObjSpec setObjBody c) := rfl

theorem setObj_written (ha : s.accepts setObjSpec c = true) (hw : c.words = [w])
    (hs : (s.received c.frame).setObject .host (objIndex c.args) w = .ok u) :
    State.answers s u (s.hostCmd setObjSpec setObjBody c) c 0x04 .ok 0 (u.objects [objIndex c.args]) :=
  hostCmd_answers (by decide) (by decide) (by decide) (by decide) ha (by
    unfold setObjBody
    simp only [hw, wAt, List.getElem?_cons_zero, Option.getD_some, hs])

theorem setObj_refused (ha : s.accepts setObjSpec c = true) (hw : c.words = [w])
    (hs : (s.received c.frame).setObject .host (objIndex c.args) w = .error .range) :
    State.answers s (s.received c.frame) (s.hostCmd setObjSpec setObjBody c) c 0x04 .range 0 [] :=
  hostCmd_answers (by decide) (by decide) (by decide) (by decide) ha (by
    unfold setObjBody
    simp only [hw, wAt, List.getElem?_cons_zero, Option.getD_some, hs]
    rfl)

end

end Sys2Proof.Machine

open Sys2Proof Sys2Proof.Machine

/-- Settles O9: what the command answers follows what the write of the object does. -/
theorem objectWrite : Obligations.ObjectWrite := by
  unfold Obligations.ObjectWrite
  refine ⟨fun s u c w ha hw hs => ⟨_, exec_setObj s c, setObj_written ha hw hs⟩,
    fun s c w n ha hw hi hodd hd hl hf hb hm => ?_,
    fun s c w ha hw hlo hhi =>
      ⟨_, exec_setObj s c, setObj_refused ha hw (State.setObject_reserved _ _ hlo hhi w)⟩⟩
  have hs : (s.received c.frame).setObject .host (objIndex c.args) w =
      .ok ((s.received c.frame).modCh n fun x => { x with fault := x.fault &&& ~~~w }) := by
    rw [hi, State.setObject_chIndex _ _ n (by decide), State.writeFault_ok, State.clearFaults_plain]
    · rwa [State.received_chan]
    · rwa [State.received_isOdd]
    · unfold State.dieUp at *; rwa [State.received_group]
    · rwa [State.received_group]
    · unfold State.failedCh at *; rwa [State.received_group]
    · rwa [State.received_chan]
  refine ⟨_, _, exec_setObj s c, ?_, rfl⟩
  have ht := setObj_written ha hw hs
  rw [hi, State.objects_chIndex _ n (by decide)] at ht
  simp only [State.readCh, State.chan_modCh_same, State.received_chan] at ht
  exact ht
end

section
/-! ## CH_CONFIG and mode changes (02 R40 to R43, 11 R344) -/

namespace Sys2Proof.Machine

/-! ### What stands of a channel -/

/-- The configuration of a channel, its mode in force, and whether a mode change is in progress. -/
def Channel.standing (c : Channel) : ChCfg × ChMode × Bool := (c.cfg, c.actMode, c.cfgBusy)

/-- What stands of every channel, and its faults. -/
def State.front (s : State) (n : Ch) : (ChCfg × ChMode × Bool) × Word := ((s.chan n).standing, (s.chan n).fault)

section
variable {s t u : State} {n m : Ch}

theorem front_of_ch (h : t.ch = s.ch) : t.front = s.front := by
  unfold State.front State.chan; rw [h]

theorem front_of_bare (h : t.bare = s.bare) : t.front = s.front := by
  funext n; unfold State.front; rw [bare_chan h]

theorem front_ite {c : Prop} [Decidable c] (ht : t.front = s.front) (hu : u.front = s.front) :
    (if c then t else u).front = s.front := by
  split
  · exact ht
  · exact hu

theorem State.logsOver.front (h : s.logsOver t) : t.front = s.front := front_of_ch h.ch

theorem State.modCh_front (s : State) (n : Ch) {f : Channel → Channel}
    (hf : (f (s.chan n)).standing = (s.chan n).standing ∧ (f (s.chan n)).fault = (s.chan n).fault) :
    (s.modCh n f).front = s.front := by
  funext m
  unfold State.front
  by_cases hm : m = n
  · subst hm; rw [State.chan_modCh_same, hf.1, hf.2]
  · rw [State.chan_modCh_ne _ _ hm]

/-- A change of one channel leaves what stands of the others. -/
theorem State.modCh_front_ne (s : State) (f : Channel → Channel) (hm : m ≠ n) :
    (s.modCh n f).front m = s.front m := by
  unfold State.front; rw [State.chan_modCh_ne _ _ hm]

/-! ### Results of the conversions that a mode change loses (05 R170) -/

theorem State.putEntry_front (s : State) (strm : Bool) (e : QEntry) : (s.putEntry strm e).front = s.front :=
  front_of_ch (view_ch (State.putEntry_view (k := 0) ⟨by decide, by decide⟩ s strm e))

theorem State.noteOvr_front (s : State) (n : Ch) : (s.noteOvr n).front = s.front := by
  unfold State.noteOvr
  exact front_ite rfl (raise_logs ..).front

theorem State.capResult_front (s : State) (n : Ch) (w v : Word) : (s.capResult n w v).front = s.front := by
  unfold State.capResult
  exact (front_of_bare ((State.capFinish_bare _).trans (State.bare_ite (State.capTrigger_bare ..) rfl))).trans
    ((State.modCh_front _ _ ⟨rfl, rfl⟩).trans (front_ite (front_of_ch rfl) rfl))

theorem State.routeEntry_front (s : State) (n : Ch) (e : QEntry) : (s.routeEntry n e).front = s.front := by
  unfold State.routeEntry
  dsimp only
  split
  · exact State.putEntry_front ..
  · exact State.putEntry_front ..
  · rfl

theorem State.takeResult_front (s : State) (n : Ch) (d : DieEntry) : (s.takeResult n d).front = s.front := by
  have hwin : (s.setWindow n d.window).front = s.front := State.modCh_front _ _ ⟨rfl, rfl⟩
  unfold State.takeResult
  dsimp only
  set u := State.capResult (if bit d.entry.word 25 then (s.setWindow n d.window).noteOvr n
    else s.setWindow n d.window) n d.entry.word (d.entry.stamp.getD s.stampNow)
  have hcap : u.front = s.front :=
    (State.capResult_front ..).trans (front_ite ((State.noteOvr_front ..).trans hwin) hwin)
  rw [State.routeEntry_front]
  cases d.late with
  | none => exact hcap
  | some k => exact front_ite ((State.putEntry_front ..).trans hcap) hcap

theorem State.keepResult_front (s : State) (n : Ch) (d : DieEntry) : (s.keepResult n d).front = s.front := by
  unfold State.keepResult
  split <;> rfl

theorem State.putCell_front (s : State) (late : Option Nat) (rs : List (Ch × DieEntry)) :
    (s.putCell late rs).front = s.front := by
  unfold State.putCell State.enterCell
  dsimp only
  split
  · exact (State.each_keeps (op := fun t (r : Ch × DieEntry) => t.keepResult r.1 r.2) State.front
      (fun t r => t.keepResult_front r.1 r.2) ..)
  · split
    · exact State.each_keeps (op := fun t (r : Ch × DieEntry) => t.takeResult r.1 r.2) State.front
        (fun t r => t.takeResult_front r.1 r.2) ..
    · rfl

theorem State.finishJobs_front (s : State) : s.finishJobs.front = s.front := by
  unfold State.finishJobs
  exact (State.each_keeps State.front (fun t (j : CellJob) => t.putCell_front ..) _ _).trans (front_of_ch rfl)

theorem State.loseReq_front (s : State) (n : Ch) (r : Option ConvReq) : (s.loseReq n r).front = s.front := by
  unfold State.loseReq State.jobResult
  split
  · exact State.finishJobs_front _
  · rfl

theorem State.dropConv_front (s : State) (n : Ch) : (s.dropConv n).front = s.front := by
  unfold State.dropConv
  dsimp only
  rw [State.loseReq_front, State.loseReq_front]
  exact State.modCh_front _ _ ⟨rfl, rfl⟩

/-! ### Outputs that a mode change turns off -/

theorem State.modOutP_front (s : State) (n : Ch) (f : ChOut → ChOut) : (s.modOutP n f).front = s.front := by
  have h1 : (s.modOut n f).front = s.front := State.modCh_front _ _ ⟨rfl, rfl⟩
  unfold State.modOutP
  exact front_ite ((State.modCh_front _ _ ⟨rfl, rfl⟩).trans h1) h1

theorem State.commandOff_front (s : State) (n : Ch) : (s.commandOff n).front = s.front := by
  unfold State.commandOff State.switchOff State.clearRetry
  split
  · rfl
  · simp only [State.modOutP_front]

theorem State.outputsOff_front (s : State) (n : Ch) : (s.outputsOff n).front = s.front := by
  have h1 : (s.modCh n fun c => { c with pend := none }).front = s.front := State.modCh_front _ _ ⟨rfl, rfl⟩
  unfold State.outputsOff
  exact front_ite ((State.commandOff_front ..).trans h1)
    (front_ite ((State.modCh_front _ _ ⟨rfl, rfl⟩).trans h1) h1)

/-! ### The start of a mode change -/

/-- A channel in a mode change: its new configuration, its front end off, no fault (02 R40, R41). -/
theorem State.startChange_same (s : State) (n : Ch) (c : ChCfg) :
    (s.startChange n c).front n = ((c, .off, true), 0) := by
  unfold State.startChange State.front
  rw [State.chan_modCh_same]
  rfl

theorem State.startChange_ne (s : State) (c : ChCfg) (hm : m ≠ n) : (s.startChange n c).front m = s.front m := by
  unfold State.startChange
  rw [State.modCh_front_ne _ _ hm, State.dropConv_front, State.outputsOff_front]

/-- The odd channel that follows its pair leaves the even one (02 R42, R43). -/
theorem State.changeOdd_front (s : State) (n : Ch) (o : Option ChMode) : (s.changeOdd n o).front n = s.front n := by
  unfold State.changeOdd
  split
  · rfl
  · dsimp only
    split
    · rfl
    · exact State.startChange_ne _ _ (mateOf_ne n).symm

/-- A new copy of the safe-state table changes the guard of a group alone (08 R256). -/
theorem State.front_tableWritten {c : Prop} [Decidable c] (s : State) (g : Grp) :
    (if c then s.tableWritten g else s).front = s.front := front_ite (front_of_ch rfl) rfl

/-- A configuration with another mode starts a mode change (02 R40, 11 R344). -/
theorem State.applyConfig_front {l : List (Nat × Word)} (h : (s.configLeft n l).mode ≠ (s.chan n).cfg.mode) :
    (s.applyConfig n l).front n = ((s.configLeft n l, .off, true), 0) := by
  have h1 : ((s.startChange n (s.configLeft n l)).changeOdd n (s.oddTarget n (s.configLeft n l))).front n = _ :=
    (State.changeOdd_front ..).trans (s.startChange_same n (s.configLeft n l))
  unfold State.applyConfig
  dsimp only
  rw [if_pos (bne_iff_ne.mpr h), State.front_tableWritten]
  exact h1

/-! ### The command -/

theorem exec_chConfig (s : State) (c : Cmd) :
    exec (.chConfig c) s = .next (s.hostCmd chConfigSpec chConfigBody c) := rfl

/-- A CH_CONFIG that no check refuses, on a channel that carries its own configuration (11 R344). -/
theorem chConfigBody_applies {a : BitVec 24} {ws : List Word} {l : List (Nat × Word)} (hn : n = chNo (arg a 4 0))
    (hl : l = maskWords (wAt ws 0) (ws.drop 1)) (hw : wAt ws 0 ≠ 0) (hodd : s.isOdd n = false)
    (hc : s.configChecks n l = []) : chConfigBody .host a ws s =
      (s.applyConfig n l, if (s.configLeft n l).mode = (s.chan n).cfg.mode then
        .now .ok 0 [(s.applyConfig n l).chModeW n] else .later (configKey n)) := by
  subst hn hl
  have hz : (wAt ws 0 == 0) = false := by simpa using hw
  unfold chConfigBody
  simp only [hodd, hc, hz, failIf, Bool.false_eq_true, if_false, List.append_nil, worst_nil]
  split <;> rfl

/-! ### The answer of a command, at the port or over the swarm (11 R335, 12 R378) -/

theorem State.sendHead_ch {p : Port} {c : SwClass} (h : s.sendHead p c = some t) : t.ch = s.ch := by
  unfold State.sendHead State.freeBlocks at h
  dsimp only at h
  split at h
  · cases h
  split at h
  · cases h
    split
    · rfl
    · split <;> rfl
  · cases h

theorem drainFuel_ch (k : Nat) (s : State) (p : Port) (c : SwClass) : (drainFuel k s p c).ch = s.ch := by
  induction k generalizing s with
  | zero => rfl
  | succ k ih =>
    unfold drainFuel
    split
    case h_1 t ht => exact (ih t).trans (State.sendHead_ch ht)
    case h_2 => rfl

theorem State.sendOn_ch (s : State) (p : Port) (f : SwFrame) : (s.sendOn p f).ch = s.ch := by
  unfold State.sendOn State.drain
  rw [drainFuel_ch]
  unfold State.enqueue
  split <;> rfl

theorem State.sendMsg_ch (s : State) (c : SwClass) (k : Nat) (b : Bool) (d : Addr) (x : BitVec 8) (ws : List Word) :
    (s.sendMsg c k b d x ws).ch = s.ch := by
  unfold State.sendMsg
  exact State.each_keeps State.ch
    (fun t (p : Port) => State.each_keeps State.ch (fun u (g : SwFrame) => u.sendOn_ch p g) _ t) _ s

theorem State.sendRsp_ch (s : State) (o : Outst) (ws : List Word) (b : Bool) : (s.sendRsp o ws b).ch = s.ch := by
  unfold State.sendRsp
  dsimp only
  split
  · rfl
  · split
    · rfl
    · exact State.sendMsg_ch ..

theorem State.complete_ch (s : State) (k : Nat) (st : Status) (d : Nat) (ws : List Word) :
    (s.complete k st d ws).ch = s.ch := by
  have hcount (u : State) : (u.countStatus st).ch = u.ch := by cases st <;> rfl
  unfold State.complete State.respond
  split
  · dsimp only
    rw [State.sendRsp_ch]
    split <;> exact hcount s
  · rfl

/-! ### The end of a mode change (02 R40) -/

/-- What a channel that connects may change beside itself: its pair alone, and of no channel what stands. -/
def State.standsIn (s t : State) (n : Ch) : Prop :=
  (∀ m, (t.chan m).standing = (s.chan m).standing) ∧ ∀ m, m ≠ n → m ≠ mateOf n → t.chan m = s.chan m

theorem State.standsIn_modCh (s : State) {f : Channel → Channel} (hm : m = n ∨ m = mateOf n)
    (hf : (f (s.chan m)).standing = (s.chan m).standing) : s.standsIn (s.modCh m f) n := by
  refine ⟨fun k => ?_, fun k hn hmate => State.chan_modCh_ne _ _ ?_⟩
  · by_cases hk : k = m
    · subst hk; rw [State.chan_modCh_same, hf]
    · rw [State.chan_modCh_ne _ _ hk]
  · rcases hm with rfl | rfl <;> assumption

theorem State.leadOf_pair (s : State) (n : Ch) : s.leadOf n = n ∨ s.leadOf n = mateOf n := by
  have hpair : ∀ n : Ch, evenOf n = n ∨ evenOf n = mateOf n := by decide
  unfold State.leadOf
  split
  · exact hpair n
  · exact .inl rfl

theorem State.setFault_standsIn (s : State) (n : Ch) (b : Nat) : s.standsIn (s.setFault n b) n := by
  have h := s.standsIn_modCh (f := fun c => { c with fault := putBit c.fault b true }) (s.leadOf_pair n) rfl
  unfold State.setFault
  dsimp only
  split
  · exact ⟨fun _ => rfl, fun _ _ _ => rfl⟩
  · unfold State.standsIn at h ⊢
    simpa only [State.raiseFault_chan] using h

theorem State.loopOn_standsIn (s : State) (n : Ch) : s.standsIn (s.loopOn n) n := by
  unfold State.loopOn State.setLoop State.noteOn
  dsimp only
  split
  · exact s.standsIn_modCh (.inl rfl) rfl
  split
  · exact ⟨fun _ => rfl, fun _ _ _ => rfl⟩
  · have h := s.standsIn_modCh (n := n) (m := n) (f := fun c => { c with loop := { c.loop with
      on := true, limit := c.loop.limit && true, iloop := c.loop.iloop } }) (.inl rfl) rfl
    split <;> exact h

/-- A channel that connects is in its configured mode, and its change is over; of the other channels, only its mate may
get a fault (02 R40). -/
theorem State.connect_spec (s : State) (n : Ch) (ok : Bool) :
    ((s.connect n ok).chan n).standing = ((s.chan n).cfg, (s.chan n).cfg.mode, false) ∧
    ((s.connect n ok).chan (mateOf n)).standing = (s.chan (mateOf n)).standing ∧
    ∀ m, m ≠ n → m ≠ mateOf n → (s.connect n ok).chan m = s.chan m := by
  set u := s.modCh n fun c => { c with
    actMode := c.cfg.mode, cfgBusy := false, cnt := freshCnt c.cfg.mode c.cfg.cntCfg
    ao := { c.ao with railAt := s.time } } with hu
  have hstands : u.standsIn (s.connect n ok) n := by
    unfold State.connect
    dsimp only
    split
    · exact u.setFault_standsIn n 28
    split
    · exact u.loopOn_standsIn n
    · exact ⟨fun _ => rfl, fun _ _ _ => rfl⟩
  obtain ⟨hstand, hother⟩ := hstands
  refine ⟨?_, ?_, fun m hn hmate => ?_⟩
  · rw [hstand, hu, State.chan_modCh_same]; rfl
  · rw [hstand, hu, State.chan_modCh_ne _ _ (mateOf_ne n)]
  · rw [hother m hn hmate, hu, State.chan_modCh_ne _ _ hn]

/-- s with channel n connected, and with it its mate that changes too (02 R40). -/
def State.connected (s : State) (n : Ch) (ok : Bool) : State :=
  if s.pairOf n != .none && (s.chan (mateOf n)).cfgBusy then (s.connect n ok).connect (mateOf n) ok
  else s.connect n ok

theorem mateOf_mateOf (n : Ch) : mateOf (mateOf n) = n := by revert n; decide

theorem State.connected_spec (s : State) (n : Ch) (ok : Bool) :
    ((s.connected n ok).chan n).standing = ((s.chan n).cfg, (s.chan n).cfg.mode, false) ∧
    ∀ m, m ≠ n → m ≠ mateOf n → (s.connected n ok).chan m = s.chan m := by
  obtain ⟨hsame, -, hother⟩ := s.connect_spec n ok
  obtain ⟨-, hsame', hother'⟩ := (s.connect n ok).connect_spec (mateOf n) ok
  rw [mateOf_mateOf] at hsame' hother'
  unfold State.connected
  split
  · exact ⟨hsame'.trans hsame, fun m hn hmate => (hother' m hmate hn).trans (hother m hn hmate)⟩
  · exact ⟨hsame, hother⟩

theorem modeChangeComplete_connects (hb : (s.chan n).cfgBusy = true) (hd : s.dieUp (grpOf n) = true) (ok : Bool) :
    ∃ t, exec (.modeChangeComplete n ok) s = .next t ∧ t.ch = (s.connected n ok).ch := by
  change ∃ t, execModeChangeComplete n ok s = .next t ∧ _
  unfold execModeChangeComplete
  rw [hb, hd]
  exact ⟨_, rfl, by rw [State.complete_ch, State.complete_ch]; rfl⟩

end

end Sys2Proof.Machine

open Sys2Proof Sys2Proof.Machine

/-- Settles O12: the body of the command, what starts a mode change, and what ends it. -/
theorem channelConfig : Obligations.ChannelConfig := by
  unfold Obligations.ChannelConfig
  refine ⟨fun s c n l ha hn hl hw hodd hc => ?_, fun s n ok hb hd => ?_⟩
  · have hbody := chConfigBody_applies hn hl hw ((s.received_isOdd c.frame n).trans hodd) hc
    have hchan := s.received_chan c.frame n
    rw [hchan] at hbody
    refine ⟨_, _, exec_chConfig s c, rfl, fun hmode => ?_, fun hmode => ?_⟩
    · rw [if_pos hmode] at hbody
      exact hostCmd_answers (by decide) (by decide) (by decide) (by decide) ha hbody
    · rw [if_neg hmode] at hbody
      have hfront := State.applyConfig_front (s := s.received c.frame) (n := n) (l := l) (by rwa [hchan])
      simp only [State.front, Channel.standing, Prod.mk.injEq] at hfront
      obtain ⟨⟨hcfg, hact, hbusy⟩, hfault⟩ := hfront
      exact ⟨hostCmd_awaits ha hbody, hbusy, hfault, hact, hcfg⟩
  · obtain ⟨t, ht, hch⟩ := modeChangeComplete_connects hb hd ok
    have hchan (m : Ch) : t.chan m = (s.connected n ok).chan m := by unfold State.chan; rw [hch]
    obtain ⟨hsame, hother⟩ := s.connected_spec n ok
    simp only [Channel.standing, Prod.mk.injEq] at hsame
    obtain ⟨-, hact, hbusy⟩ := hsame
    exact ⟨t, ht, by rw [hchan, hbusy], by rw [hchan, hact], fun m hn hmate => by rw [hchan, hother m hn hmate]⟩
end

section
/-! ## The rails and the measurements of analogue outputs (06 R189 to R195) -/

namespace Sys2Proof.Machine

section
variable {s t u : State} {n m : Ch} {g : Grp}

/-! ### Rails -/

theorem clampInt_le {lo hi : Int} (h : lo ≤ hi) (x : Int) : clampInt lo hi x ≤ hi := by
  unfold clampInt
  split
  · exact h
  · split <;> omega

/-- The rail target never stands above the limit (06 R189). -/
theorem State.railTarget_le (s : State) (n : Ch) (mv tone : Int) : s.railTarget n mv tone ≤ s.railLimit n := by
  have hfloor : (2500 : Int) ≤ s.railLimit n := by unfold State.railLimit; omega
  have := clampInt_le hfloor (s.railNeed n mv tone)
  unfold State.railTarget
  omega

theorem State.railReach_le (s : State) (n : Ch) (target : Nat) : s.railReach n target ≤ target := by
  unfold State.railReach
  dsimp only
  split
  · exact Nat.le_refl _
  · exact Nat.min_le_left ..

/-- Where a slot may leave the rail of a channel: from where it stands to where it reaches (06 R189). -/
def State.railSpan (s : State) (n : Ch) (mv tone : Int) (v : Nat) : Prop :=
  min (min (s.chan n).ao.rail (s.railLimit n)) (s.railReach n (s.railTarget n mv tone)) ≤ v ∧
  v ≤ max (min (s.chan n).ao.rail (s.railLimit n)) (s.railReach n (s.railTarget n mv tone)) ∧
  v ≤ s.railLimit n

/-- A slot writes the rail, its time and HCLIP of one channel (06 R189, R212). -/
theorem State.railSlot_spec (s : State) (n : Ch) (mv tone : Int) : ∃ v, s.railSpan n mv tone v ∧
    (s.railSlot n mv tone).chan n = { s.chan n with
      ao := { (s.chan n).ao with rail := v, railAt := s.time }
      hart := { (s.chan n).hart with
        hclip := bit (s.cfgOf n).hart 31 && decide ((s.railLimit n : Int) < tone + 1200) } } ∧
    (∀ m, m ≠ n → (s.railSlot n mv tone).chan m = s.chan m) ∧ (s.railSlot n mv tone).ev = s.ev := by
  unfold State.railSlot
  dsimp only
  refine ⟨_, ?_, by rw [State.chan_modHart_same, State.chan_modAo_same]; rfl,
    fun m hm => by rw [State.chan_modHart_ne _ _ hm, State.chan_modAo_ne _ _ hm]; rfl, rfl⟩
  have hreach := (s.railReach_le n (s.railTarget n mv tone)).trans (s.railTarget_le n mv tone)
  unfold State.railSpan
  generalize s.railReach n (s.railTarget n mv tone) = r at hreach ⊢
  have hold : min (s.chan n).ao.rail (s.railLimit n) ≤ s.railLimit n := Nat.min_le_right ..
  generalize min (s.chan n).ao.rail (s.railLimit n) = old at hold ⊢
  have hmod := Nat.mod_lt s.freeWord.toNat (Nat.succ_pos (max old r - min old r))
  rw [Nat.succ_eq_add_one] at hmod
  omega

theorem exec_railSlot (h : s.railServed n = true) (hs : s.schedNow n = false) (mv tone : Int) :
    exec (.railSlot n mv tone) s = .next (s.railSlot n mv tone) := by
  change execRailSlot n mv tone s = _
  unfold execRailSlot
  simp [h, hs]

theorem exec_railSlotInserted (h : s.railServed n = true) (hs : s.schedNow n = true)
    (ht : (s.chan n).ao.railAt + 200 * micro ≤ s.time) (mv tone : Int) : exec (.railSlotInserted n mv tone) s =
    .next ((s.railSlot n mv tone).modAo n fun a => { a with inserted := satInc a.inserted }) := by
  change execRailSlotInserted n mv tone s = _
  unfold execRailSlotInserted
  simp [h, hs, ht]

/-! ### Faults of a heard channel -/

/-- t is s with channel n, which is heard, changed to c and nothing else but what events change. -/
structure State.leaves (s t : State) (n : Ch) (c : Channel) : Prop where
  heard : t.heard n = true
  chan : t.chan n = c
  touches : s.touches t [n]

theorem State.leaves_modCh (hh : s.heard n = true) {f : Channel → Channel}
    (hf : (f (s.chan n)).cfg = (s.chan n).cfg ∧ (f (s.chan n)).actMode = (s.chan n).actMode) :
    s.leaves (s.modCh n f) n (f (s.chan n)) :=
  ⟨State.heard_of_touches (State.touches_of_modCh ..) (State.only_modCh s n f hf).2.1 hh, State.chan_modCh_same ..,
    State.touches_of_modCh ..⟩

theorem State.setFault_touches (hh : s.heard n = true) (b : Nat) : s.touches (s.setFault n b) [n] := by
  obtain ⟨-, -, f, hf⟩ := State.setFault_faults hh b
  exact State.touches_trans (State.touches_of_modCh s n fun x => { x with fault := f })
    (State.touches_of_logs (t := s.setFault n b) (s := { s.modCh n (fun x => { x with fault := f }) with ev := s.ev }) hf [n])

theorem State.leaves.setFault {c : Channel} (h : s.leaves t n c) (b : Nat) :
    s.leaves (t.setFault n b) n { c with fault := c.fault ||| bitW b } := by
  have hodd := State.isOdd_of_heard h.heard
  have htouch := State.setFault_touches h.heard b
  exact ⟨State.heard_of_touches htouch (State.setFault_only hodd b).2.1 h.heard,
    by rw [State.setFault_chan hodd, h.chan], State.touches_trans h.touches htouch⟩

theorem State.leaves.setFault_if {c : Channel} (h : s.leaves t n c) (p : Bool) (b : Nat) :
    s.leaves (if p then t.setFault n b else t) n
      { c with fault := if p then c.fault ||| bitW b else c.fault } := by
  cases p
  · exact h
  · exact h.setFault b

/-! ### Measurements (06 R193, R195) -/

theorem State.aoLive_of_heard (hh : s.heard n = true) (hm : (s.modeOf n).isAo = true) : s.aoLive n = true := by
  unfold State.aoLive; rw [hm, State.dieUp_of_heard hh]; rfl

/-- The stage before a measurement with the settled codes that the measurement leaves (06 R193). -/
def ChAo.after (a : ChAo) (m : AoMeas) : ChAo := if m.settled then a.settle m else a

/-- Whether a measurement judges the flags of R195. -/
def State.aoJudged (s : State) (n : Ch) : Bool :=
  !(s.chan n).ao.blocked && !(s.chan n).ao.off && s.supplied n

/-- What a measurement writes of its stage. -/
def ChAo.measured (a : ChAo) (mode : ChMode) (m : AoMeas) (flagged : Bool) : ChAo :=
  { a with
    settled := (a.after m).settled
    readback := BitVec.ofInt 16 (clampInt (-32768) 32767 m.mean)
    rloop := rloopOf mode (a.after m) m
    compl := flagged || (a.compl && mode != .aoV && shortfall a.code m.mean) }

/-- CH_FAULT after a measurement, with the verdicts on compliance, open loop and read-back (06 R195). -/
def measuredFault (f : Word) (comp opn dev : Bool) : Word :=
  let f1 := if comp || opn then f ||| bitW 31 else f
  let f2 := if opn then f1 ||| bitW 30 else f1
  if dev then f2 ||| bitW 26 else f2

theorem measuredFault_compl (f : Word) {comp opn : Bool} (h : (comp || opn) = true) (dev : Bool) :
    bit (measuredFault f comp opn dev) 31 = true := by
  have h31 := bit_or_bitW f (b := 31) (by decide)
  unfold measuredFault
  rw [if_pos h]
  dsimp only
  split <;> split <;> simp only [bit_or_of_bit, h31]

theorem measuredFault_open (f : Word) (comp dev : Bool) : bit (measuredFault f comp true dev) 30 = true := by
  have h30 (w : Word) := bit_or_bitW w (b := 30) (by decide)
  unfold measuredFault
  dsimp only
  rw [if_pos rfl]
  split <;> simp only [bit_or_of_bit, h30]

theorem ChAo.after_fields (a : ChAo) (m : AoMeas) :
    (a.after m).code = a.code ∧ (a.after m).blocked = a.blocked ∧ (a.after m).off = a.off := by
  unfold ChAo.after; split <;> exact ⟨rfl, rfl, rfl⟩

theorem aoMeasUpdate_leaves (hh : s.heard n = true) (hm : (s.modeOf n).isAo = true) (m : AoMeas) :
    ∃ (t : State) (dev : Bool), exec (.aoMeasUpdate n m) s = .next t ∧
      s.leaves t n { s.chan n with
        ao := (s.chan n).ao.measured (s.modeOf n) m
          (s.aoJudged n && complianceNow (s.modeOf n) (s.chan n).ao.code m ||
            s.aoJudged n && openNow (s.modeOf n) (s.chan n).ao.code m)
        fault := measuredFault (s.chan n).fault
          (s.aoJudged n && complianceNow (s.modeOf n) (s.chan n).ao.code m)
          (s.aoJudged n && openNow (s.modeOf n) (s.chan n).ao.code m) dev } := by
  obtain ⟨hcode, hblocked, hoff⟩ := (s.chan n).ao.after_fields m
  change ∃ (t : State) (dev : Bool), execAoMeasUpdate n m s = .next t ∧ _
  unfold execAoMeasUpdate
  simp only [State.aoLive_of_heard hh hm, Bool.not_true, Bool.false_eq_true, if_false]
  rw [show (if m.settled = true then (s.chan n).ao.settle m else (s.chan n).ao) = (s.chan n).ao.after m from rfl,
    hcode, hblocked, hoff,
    show (!(s.chan n).ao.blocked && !(s.chan n).ao.off && s.supplied n) = s.aoJudged n from rfl]
  generalize (s.aoJudged n && complianceNow (s.modeOf n) (s.chan n).ao.code m) = comp
  generalize (s.aoJudged n && openNow (s.modeOf n) (s.chan n).ao.code m) = opn
  refine ⟨_, s.aoJudged n && m.deviates && !comp && !opn && !m.limiting, rfl, ?_⟩
  have h1 := State.leaves_modCh hh (f := fun c => { c with ao := { c.ao with
      settled := ((s.chan n).ao.after m).settled
      readback := BitVec.ofInt 16 (clampInt (-32768) 32767 m.mean)
      rloop := rloopOf (s.modeOf n) ((s.chan n).ao.after m) m
      compl := (comp || opn) || (c.ao.compl && s.modeOf n != .aoV && shortfall (s.chan n).ao.code m.mean) } })
    ⟨rfl, rfl⟩
  exact ((h1.setFault_if (comp || opn) 31).setFault_if opn 30).setFault_if
    (s.aoJudged n && m.deviates && !comp && !opn && !m.limiting) 26

/-- A current source at its rail limit short of its command by more than 24 µA, and one whose loop is open (06
R195). -/
theorem complianceNow_src {code : BitVec 16} {a : AoMeas} (hr : a.railAtLimit = true)
    (hs : (a.mean + 24) * 65535 < (code.toNat * 24000 : Nat)) : complianceNow .aoISrc code a = true := by
  unfold complianceNow shortfall
  rw [hr, decide_eq_true hs]
  rfl

theorem openNow_src {code : BitVec 16} {a : AoMeas} (hr : a.railAtLimit = true)
    (hc : 1000 * 65535 ≤ code.toNat * 24000) (hm : a.mean < 100) : openNow .aoISrc code a = true := by
  unfold openNow atLeast1mA
  rw [hr, decide_eq_true hc, decide_eq_true hm]
  rfl

end

end Sys2Proof.Machine
end

section
/-! ## Blocked stages and the turn that a stage takes (03 R119, 06 R197 to R201) -/

namespace Sys2Proof.Machine

section
variable {s t u : State} {n m : Ch} {g h : Grp}

/-! ### What the sequence of a group leaves -/

/-- Why a stage is blocked, and whether its re-test runs (06 R197, R198). -/
def ChAo.blocks (a : ChAo) : Bool × Bool × Bool := (a.miswire, a.therm, a.retest)

/-- What a turn of the sequence of group g leaves: why each stage is blocked, the other groups, and the voltage
of its own. -/
def State.apart (g : Grp) (s : State) : (Ch → Bool × Bool × Bool) × (Grp → Option Group) × BitVec 16 :=
  (fun n => (s.chan n).ao.blocks, fun h => if h = g then none else some (s.group h), (s.group g).sup.vf)

theorem apart_blocks (e : t.apart g = s.apart g) (n : Ch) : (t.chan n).ao.blocks = (s.chan n).ao.blocks :=
  congrFun (congrArg Prod.fst e) n

theorem apart_group (e : t.apart g = s.apart g) (hh : h ≠ g) : t.group h = s.group h := by
  have := congrFun (congrArg (fun x => x.2.1) e) h
  simpa [State.apart, hh] using this

theorem apart_vf (e : t.apart g = s.apart g) : (t.group g).sup.vf = (s.group g).sup.vf :=
  congrArg (fun x => x.2.2) e

theorem State.modCh_apart (s : State) (n : Ch) {f : Channel → Channel}
    (hf : (f (s.chan n)).ao.blocks = (s.chan n).ao.blocks) : (s.modCh n f).apart g = s.apart g := by
  refine Prod.ext (funext fun m => ?_) rfl
  by_cases hm : m = n
  · subst hm; simpa [State.apart] using hf
  · simp [State.apart, State.chan_modCh_ne _ _ hm]

theorem State.modGrp_apart (s : State) {f : Group → Group} (hf : (f (s.group g)).sup.vf = (s.group g).sup.vf) :
    (s.modGrp g f).apart g = s.apart g := by
  refine Prod.ext rfl (Prod.ext (funext fun h => ?_) ?_)
  · by_cases hh : h = g
    · simp [State.apart, hh]
    · simp [State.apart, hh, State.group_modGrp_ne _ _ hh]
  · simpa [State.apart] using hf

theorem State.logsOver.apart (h : s.logsOver t) : t.apart g = s.apart g := by
  unfold State.apart; simp only [h.chan, h.group]

theorem State.modOutP_apart (s : State) (n : Ch) (f : ChOut → ChOut) : (s.modOutP n f).apart g = s.apart g := by
  have h1 : (s.modOut n f).apart g = s.apart g := State.modCh_apart s n rfl
  unfold State.modOutP
  dsimp only
  split
  · exact (State.modCh_apart _ (mateOf n) rfl).trans h1
  · exact h1

theorem State.switchOn_apart (s : State) (n : Ch) : (s.switchOn n).apart (grpOf n) = s.apart (grpOf n) := by
  unfold State.switchOn State.noteOn
  exact (State.modGrp_apart _ rfl).trans (State.modOutP_apart ..)

theorem State.policyOn_apart (s : State) (n : Ch) : (s.policyOn n).apart (grpOf n) = s.apart (grpOf n) := by
  unfold State.policyOn
  split
  · exact State.modOutP_apart ..
  · exact State.switchOn_apart ..

theorem State.fieldRaise_apart (s : State) (k : Fin 128) (a b : Nat) (p q r : Word) :
    (s.fieldRaise g k a b p q r).apart g = s.apart g := by
  unfold State.fieldRaise
  split
  · exact State.modGrp_apart _ rfl
  · exact (raise_logs ..).apart

theorem State.lockOff_apart (hodd : s.isOdd n = false) : (s.lockOff n).apart (grpOf n) = s.apart (grpOf n) := by
  have h1 : ((s.switchOff n .lockedOff).modOutP n fun o => { o with
      cmdOn := false, hostOn := false, cmdDuty := 0 }).apart (grpOf n) = s.apart (grpOf n) :=
    (State.modOutP_apart ..).trans (State.modOutP_apart ..)
  have hsetup := (State.only_modOutP (s.switchOff n .lockedOff) n fun o => { o with
    cmdOn := false, hostOn := false, cmdDuty := 0 }).2.1.trans (s.switchOff_only n .lockedOff).2.1
  unfold State.lockOff State.tripFault
  rw [State.leadOf_of_lead ((setup_isOdd hsetup n).trans hodd)]
  exact (State.fieldRaise_apart ..).trans ((State.modCh_apart _ n rfl).trans h1)

theorem State.retryNow_apart (hodd : s.isOdd n = false) : (s.retryNow n).apart (grpOf n) = s.apart (grpOf n) := by
  cases hc : s.cooled n
  case true =>
    rw [State.retryNow_cooled hc]
    exact (State.policyOn_apart ..).trans (State.modOutP_apart ..)
  case false =>
    rw [State.retryNow_hot hc]
    split
    · exact State.lockOff_apart hodd
    · exact State.modOutP_apart ..

theorem State.setLoop_apart (s : State) (n : Ch) (on : Bool) :
    (s.setLoop n on).apart (grpOf n) = s.apart (grpOf n) := by
  have h1 := State.modCh_apart (g := grpOf n) s n (f := fun c => { c with loop := { c.loop with
    on := on, limit := c.loop.limit && on, iloop := if on then c.loop.iloop else 0 } }) rfl
  unfold State.setLoop
  dsimp only
  split
  · exact (State.modGrp_apart _ rfl).trans h1
  · exact h1

theorem State.setCode_apart (s : State) (n : Ch) (k : BitVec 16) :
    (s.setCode n k).apart (grpOf n) = s.apart (grpOf n) := by
  have h1 := State.modCh_apart (g := grpOf n) s n (f := fun c => { c with ao := { c.ao with
    code := k, heldCode := none, down := false, off := false } }) rfl
  unfold State.setCode
  dsimp only
  split
  · exact (State.modGrp_apart _ rfl).trans h1
  · exact h1

/-- What a turn changes where the die of its group is in touch (03 R119). -/
def State.turnsIn (s t : State) (g : Grp) : Prop :=
  t.apart g = s.apart g ∧ (s.inTouch g = true → s.touchesGrp t (chOf g) [g])

theorem State.turnsIn_modSup (s : State) (g : Grp) {f : GrpSup → GrpSup}
    (hf : (f (s.group g).sup).vf = (s.group g).sup.vf) : s.turnsIn (s.modSup g f) g :=
  ⟨State.modGrp_apart _ hf, fun _ => State.touchesGrp_modGrp ..⟩

theorem State.touchesGrp.mono {l k : List Ch} {gs : List Grp} (h : s.touchesGrp t l gs) (hk : ∀ n ∈ l, n ∈ k) :
    s.touchesGrp t k gs := by
  obtain ⟨hc, hg, hr⟩ := h
  exact ⟨fun n hn => hc n fun e => hn (hk n e), hg, hr⟩

theorem mem_chOf_pair (n : Ch) : ∀ m ∈ [n, mateOf n], m ∈ chOf (grpOf n) := by
  intro m hm
  obtain rfl | rfl : m = n ∨ m = mateOf n := by simpa using hm
  exacts [mem_chOf.mpr rfl, mem_chOf.mpr (grpOf_mateOf n)]

theorem State.touchesGrp_modCh (s : State) (n : Ch) (f : Channel → Channel) :
    s.touchesGrp (s.modCh n f) (chOf (grpOf n)) [grpOf n] :=
  State.touchesGrp.mono (State.touchesGrp_of_touches (State.touches_of_modCh s n f) _)
    (by simpa using mem_chOf.mpr rfl)

theorem State.setLoop_touchesGrp (s : State) (n : Ch) (on : Bool) :
    s.touchesGrp (s.setLoop n on) (chOf (grpOf n)) [grpOf n] := by
  unfold State.setLoop
  dsimp only
  split
  · exact (State.touchesGrp_modCh ..).trans (State.touchesGrp_modGrp ..)
  · exact State.touchesGrp_modCh ..

theorem State.setCode_touchesGrp (s : State) (n : Ch) (k : BitVec 16) :
    s.touchesGrp (s.setCode n k) (chOf (grpOf n)) [grpOf n] := by
  unfold State.setCode
  dsimp only
  split
  · exact (State.touchesGrp_modCh ..).trans (State.touchesGrp_modGrp ..)
  · exact State.touchesGrp_modCh ..

/-- A step of the sequence of a group stays in the group (03 R119). -/
theorem State.staggerStep_turnsIn (s : State) (g : Grp) : s.turnsIn (s.staggerStep g) g := by
  unfold State.staggerStep
  split
  case h_1 => exact State.turnsIn_modSup _ _ rfl
  case h_2 m hm =>
    obtain ⟨hw, rfl⟩ := State.nextTurn_spec hm
    have hend {u : State} (h : s.turnsIn u (grpOf m)) : s.turnsIn (if (u.nextTurn (grpOf m)).isNone then
        u.modSup (grpOf m) fun x => { x with recovering := false } else u) (grpOf m) := by
      split
      · exact ⟨(State.modGrp_apart _ rfl).trans h.1, fun hi => (h.2 hi).trans (State.touchesGrp_modGrp ..)⟩
      · exact h
    have hsw (he : (s.modeOf m).isSwitch = true) : s.turnsIn
        (if (s.chan m).out.ps == PState.tripWait && !(s.chan m).out.polOn then s.retryNow m else s.switchOn m)
        (grpOf m) := by
      have hodd := State.isOdd_of_waitsTurn hw he
      split
      · refine ⟨State.retryNow_apart hodd, fun hi => (State.retryNow_touchesGrp ?_).mono (mem_chOf_pair m)⟩
        unfold State.heard; rw [hodd, hi]; rfl
      · exact ⟨State.switchOn_apart .., fun _ => (State.switchOn_touchesGrp ..).mono (mem_chOf_pair m)⟩
    refine hend ?_
    split
    · rename_i he; exact hsw (by rw [he]; rfl)
    · rename_i he; exact hsw (by rw [he]; rfl)
    · exact ⟨(State.modCh_apart _ m rfl).trans (State.setLoop_apart ..),
        fun _ => (State.setLoop_touchesGrp ..).trans (State.touchesGrp_modCh ..)⟩
    · exact ⟨State.setCode_apart .., fun _ => State.setCode_touchesGrp ..⟩

/-! ### Blocking and release (06 R197 to R199) -/

theorem State.inTouch_of_heard (hh : s.heard n = true) : s.inTouch (grpOf n) = true := by
  unfold State.heard at hh
  simp only [Bool.and_eq_true] at hh
  exact hh.2

/-- A stage that resumes keeps why the stages are blocked, and reaches its group alone. -/
theorem State.unblock_turnsIn (s : State) (n : Ch) : s.turnsIn (s.unblock n) (grpOf n) := by
  have hself : s.turnsIn s (grpOf n) := ⟨rfl, fun _ => ⟨fun _ _ => rfl, fun _ _ => rfl, rfl⟩⟩
  have hqueue : s.turnsIn (s.queueTurns (grpOf n)) (grpOf n) := State.turnsIn_modSup _ _ rfl
  unfold State.unblock
  dsimp only
  split
  · split
    · exact hself
    · split
      · split
        · have hstep := (s.queueTurns (grpOf n)).staggerStep_turnsIn (grpOf n)
          have hin : (s.queueTurns (grpOf n)).inTouch (grpOf n) = s.inTouch (grpOf n) := by
            unfold State.inTouch State.dieUp State.queueTurns
            simp only [State.group_modSup_same]
            rfl
          exact ⟨hstep.1.trans hqueue.1, fun hi => (hqueue.2 hi).trans (hstep.2 (hin.trans hi))⟩
        · exact hqueue
      · unfold State.applyCode
        split
        · exact ⟨State.modCh_apart _ n rfl, fun _ => State.touchesGrp_modCh ..⟩
        · exact ⟨State.setCode_apart .., fun _ => State.setCode_touchesGrp ..⟩
  · exact hself

/-- A change of a heard stage after which it resumes. -/
theorem State.modAo_unblock (hh : s.heard n = true) (f : ChAo → ChAo) :
    (((s.modAo n f).unblock n).chan n).ao.blocks = (f (s.chan n).ao).blocks ∧
    s.touchesGrp ((s.modAo n f).unblock n) (chOf (grpOf n)) [grpOf n] := by
  obtain ⟨hkeep, htouch⟩ := (s.modAo n f).unblock_turnsIn n
  have h1 := State.leaves_modCh hh (f := fun c => { c with ao := f c.ao }) ⟨rfl, rfl⟩
  refine ⟨(apart_blocks hkeep n).trans (by rw [State.chan_modAo_same]), ?_⟩
  exact (State.touchesGrp_modCh ..).trans (htouch (State.inTouch_of_heard h1.heard))

theorem exec_miswireDetected (hh : s.heard n = true) (hm : (s.modeOf n).isAo = true) :
    exec (.miswireDetected n) s = .next ((s.modAo n fun a => { a with
      miswire := true, retest := false
      rail := if s.modeOf n == .aoISrc then 2500 else a.rail, railAt := s.time }).setFault n 29) := by
  change execMiswireDetected n s = _
  unfold execMiswireDetected
  rw [State.aoLive_of_heard hh hm]
  rfl

theorem exec_miswireRetestEnd (hh : s.heard n = true) (hm : (s.modeOf n).isAo = true)
    (hr : (s.chan n).ao.retest = true) (driven : Bool) : exec (.miswireRetestEnd n driven) s =
    if driven then .next ((s.modAo n fun a => { a with retest := false }).setFault n 29)
    else .next ((s.modAo n fun a => { a with retest := false, miswire := false }).unblock n) := by
  change execMiswireRetestEnd n driven s = _
  unfold execMiswireRetestEnd
  rw [State.aoLive_of_heard hh hm, hr]
  rfl

theorem exec_aoThermalTrip (hh : s.heard n = true) (hm : (s.modeOf n).isAo = true) :
    exec (.aoThermalTrip n) s = .next ((s.modAo n fun a => { a with therm := true }).setFault n 28) := by
  change execAoThermalTrip n s = _
  unfold execAoThermalTrip
  rw [State.aoLive_of_heard hh hm]
  rfl

theorem exec_aoThermalRestart (hh : s.heard n = true) (hm : (s.modeOf n).isAo = true)
    (ht : (s.chan n).ao.therm = true) :
    exec (.aoThermalRestart n) s = .next ((s.modAo n fun a => { a with therm := false }).unblock n) := by
  change execAoThermalRestart n s = _
  unfold execAoThermalRestart
  rw [State.aoLive_of_heard hh hm, ht]
  rfl

theorem exec_aiISenseTrip (hh : s.heard n = true) (hm : s.modeOf n = .aiI)
    (ho : (s.chan n).ai.senseOpen = false) : exec (.aiISenseTrip n) s =
    .next (((s.modAi n fun a => { a with senseOpen := true }).modIn n fun i => { i with valid := false }).setFault
      n 31) := by
  change execAiISenseTrip n s = _
  unfold execAiISenseTrip
  rw [hm, ho, State.failedCh_of_heard hh]
  rfl

end

end Sys2Proof.Machine

open Sys2Proof Sys2Proof.Machine

/-- Settles O52: the rail by the span of a slot, the stages by what a change of a heard channel leaves and by what
the turn of a stage that resumes keeps. -/
theorem analogueRows : Obligations.AnalogueRows := by
  unfold Obligations.AnalogueRows
  refine ⟨?_, fun s n hh hm => ?_, fun s n hh hm ho => ?_⟩
  · rintro s n mv tone hserved lo hi rfl rfl
    obtain ⟨v, ⟨hlo, hhi, hlim⟩, hchan, hne, hev⟩ := s.railSlot_spec n mv tone
    refine ⟨fun hfree => ⟨_, exec_railSlot hserved hfree mv tone, ?_⟩,
      fun hsched hat => ⟨_, exec_railSlotInserted hserved hsched hat mv tone, ?_⟩⟩
    · rw [hchan]
      exact ⟨hlo, hhi, hlim, rfl, rfl, hev, hne⟩
    · rw [State.chan_modAo_same, hchan]
      exact ⟨hlo, hhi, hlim, rfl, rfl, hev, fun m hm => by rw [State.chan_modAo_ne _ _ hm, hne m hm]⟩
  · refine ⟨fun m => ?_, ?_, fun hr hmis => ⟨?_, ?_⟩, ?_, fun ht => ?_⟩
    · obtain ⟨t, dev, hexec, ht⟩ := aoMeasUpdate_leaves hh hm m
      refine ⟨t, hexec, congrArg (·.ao.readback) ht.chan, congrArg (·.ao.rloop) ht.chan, congrArg (·.ao.code) ht.chan,
        fun hsrc hb ho hsup hr hshort => ?_, ht.touches⟩
      have hj : s.aoJudged n = true := by unfold State.aoJudged; rw [hb, ho, hsup]; rfl
      rw [ht.chan, hsrc, hj, complianceNow_src hr hshort]
      refine ⟨by simp [ChAo.measured], measuredFault_compl _ rfl _, fun hc hmean => ?_⟩
      rw [openNow_src hr hc hmean]
      exact measuredFault_open ..
    · have h1 := (State.leaves_modCh hh (f := fun c => { c with ao := { c.ao with
        miswire := true, retest := false
        rail := if s.modeOf n == .aoISrc then 2500 else c.ao.rail, railAt := s.time } }) ⟨rfl, rfl⟩).setFault 29
      refine ⟨_, exec_miswireDetected hh hm, congrArg (·.ao.blocked) h1.chan, congrArg (·.ao.miswire) h1.chan,
        fun hsrc => (congrArg (·.ao.rail) h1.chan).trans (if_pos (by simp [hsrc])), congrArg (·.fault) h1.chan,
        h1.touches⟩
    · have h1 := (State.leaves_modCh hh (f := fun c => { c with ao := { c.ao with retest := false } })
        ⟨rfl, rfl⟩).setFault 29
      exact ⟨_, exec_miswireRetestEnd hh hm hr true, (congrArg (·.ao.miswire) h1.chan).trans hmis,
        congrArg (·.ao.retest) h1.chan, congrArg (·.fault) h1.chan, h1.touches⟩
    · obtain ⟨hblocks, htouch⟩ := State.modAo_unblock hh fun a => { a with retest := false, miswire := false }
      simp only [ChAo.blocks, Prod.mk.injEq] at hblocks
      exact ⟨_, exec_miswireRetestEnd hh hm hr false, hblocks.1, hblocks.2.2, htouch⟩
    · have h1 := (State.leaves_modCh hh (f := fun c => { c with ao := { c.ao with therm := true } })
        ⟨rfl, rfl⟩).setFault 28
      exact ⟨_, exec_aoThermalTrip hh hm, (congrArg (·.ao.blocked) h1.chan).trans (Bool.or_true _),
        congrArg (·.ao.therm) h1.chan, congrArg (·.fault) h1.chan, h1.touches⟩
    · obtain ⟨hblocks, htouch⟩ := State.modAo_unblock hh fun a => { a with therm := false }
      simp only [ChAo.blocks, Prod.mk.injEq] at hblocks
      exact ⟨_, exec_aoThermalRestart hh hm ht, hblocks.2.1, htouch⟩
  · have h1 := (State.leaves_modCh hh (f := fun c => { c with
      ai := { c.ai with senseOpen := true }, inp := { c.inp with valid := false } }) ⟨rfl, rfl⟩).setFault 31
    have hexec := exec_aiISenseTrip hh hm ho
    unfold State.modAi State.modIn at hexec
    rw [State.modCh_modCh] at hexec
    exact ⟨_, hexec, congrArg (·.ai.senseOpen) h1.chan, congrArg (·.inp.valid) h1.chan, congrArg (·.fault) h1.chan,
      h1.touches⟩
end

section
/-! ## What the slices of a group take (04 R122, R128, R130)

Giving the slices of a group out changes which conversions of its channels are in a slice and the group's conversion
part, and nothing else. `State.deals` says so; its parameter is what of the conversion part stays. -/

namespace Sys2Proof.Machine

section
variable {s t u : State} {n m : Ch} {g h : Grp} {k : GrpConv → GrpConv}

/-- The conversion part of a group but for what taking conversions changes. -/
def GrpConv.standing (c : GrpConv) : GrpConv := { c with calLeft := 0, calBusy := none, monWait := [], monBusy := none }

/-- The conversion part of a group but for what giving the slices out changes, a calibration's among them. -/
def GrpConv.lasting (c : GrpConv) : GrpConv := { c.standing with spare := 0, inserv := 0, released := none }

@[simp] theorem GrpConv.lasting_winEnd (c : GrpConv) : c.lasting.winEnd = c.winEnd := rfl
@[simp] theorem GrpConv.lasting_calState (c : GrpConv) : c.lasting.calState = c.calState := rfl
@[simp] theorem GrpConv.lasting_calDone (c : GrpConv) : c.lasting.calDone = c.calDone := rfl
@[simp] theorem GrpConv.lasting_calRuns (c : GrpConv) : c.lasting.calRuns = c.calRuns := rfl
@[simp] theorem GrpConv.lasting_coefOff (c : GrpConv) : c.lasting.coefOff = c.coefOff := rfl
@[simp] theorem GrpConv.lasting_coefGain (c : GrpConv) : c.lasting.coefGain = c.coefGain := rfl
@[simp] theorem GrpConv.lasting_coefLin (c : GrpConv) : c.lasting.coefLin = c.coefLin := rfl
@[simp] theorem GrpConv.lasting_refSettled (c : GrpConv) : c.lasting.refSettled = c.refSettled := rfl

/-- Every channel but for its conversion part. -/
def State.noAi (s : State) (n : Ch) : Channel := { s.chan n with ai := ChAi.reset }

theorem noAi_chan (e : t.noAi = s.noAi) (n : Ch) : t.chan n = { s.chan n with ai := (t.chan n).ai } :=
  congrArg (fun c : Channel => { c with ai := (t.chan n).ai }) (congrFun e n)

theorem noAi_of_ch (e : t.ch = s.ch) : t.noAi = s.noAi := by unfold State.noAi State.chan; rw [e]

theorem State.modAi_noAi (s : State) (n : Ch) (f : ChAi → ChAi) : (s.modAi n f).noAi = s.noAi := by
  funext m
  unfold State.noAi
  by_cases hm : m = n
  · subst hm; rw [State.chan_modAi_same]
  · rw [State.chan_modAi_ne _ _ hm]

/-- The conversion part of a channel whose slice takes the conversion that waits (04 R122). -/
def ChAi.takes (now : Word) (a : ChAi) (r : ConvReq) : ChAi :=
  { a with
    req := none, held := false, void := false
    busy := some { r with stamp := if r.cls == .free then now else r.stamp } }

/-- A channel keeps its conversion part, or its slice has taken the conversion that waited. -/
def ChAi.dealt (now : Word) (a b : ChAi) : Prop :=
  b = a ∨ ∃ r, a.req = some r ∧ a.busy = none ∧ b = a.takes now r

theorem ChAi.dealt.trans {now : Word} {a b c : ChAi} (h : a.dealt now b) (h' : b.dealt now c) : a.dealt now c := by
  rcases h with rfl | ⟨r, hr, hb, rfl⟩
  · exact h'
  · rcases h' with rfl | ⟨_, hr', -⟩
    · exact .inr ⟨r, hr, hb, rfl⟩
    · cases hr'

/-- A channel of which nothing waits keeps its conversion part. -/
theorem ChAi.dealt.of_none {now : Word} {a b : ChAi} (h : a.dealt now b) (hr : a.req = none) : b = a := by
  rcases h with rfl | ⟨r, hr', -⟩
  · rfl
  · rw [hr] at hr'; cases hr'

theorem ChAi.dealt.inj {now : Word} {a b : ChAi} (h : a.dealt now b) : b.inj = a.inj := by
  rcases h with rfl | ⟨r, -, -, rfl⟩ <;> rfl

/-- A conversion that waits still waits or is in a slice; one of the free rate is stamped when it is taken. -/
theorem ChAi.dealt.asks {now : Word} {a b : ChAi} {r : ConvReq} (h : a.dealt now b) (hr : a.req = some r)
    (hs : r.cls = .free → r.stamp = now) : b.req = some r ∨ b.busy = some r := by
  rcases h with rfl | ⟨r', hr', -, rfl⟩
  · exact .inl hr
  · obtain rfl : r = r' := Option.some.inj (hr.symm.trans hr')
    refine .inr (congrArg some ?_)
    by_cases hc : r.cls = .free
    · rw [if_pos (by simp [hc]), ← hs hc]
    · rw [if_neg (by simpa using hc)]

/-- t is s with slices of group g given out, of whose conversion part k stays. -/
structure State.deals (k : GrpConv → GrpConv) (s t : State) (g : Grp) : Prop where
  rest : t = { s with ch := t.ch, grp := t.grp }
  chan : t.noAi = s.noAi
  ai : ∀ n, (s.chan n).ai.dealt s.stampNow (t.chan n).ai
  group_ne : ∀ h, h ≠ g → t.group h = s.group h
  group : t.group g = { s.group g with conv := (t.group g).conv }
  conv : k (t.group g).conv = k (s.group g).conv

/-- Changes of conversion parts alone leave the stamp of now (05 R169). -/
theorem State.stampNow_congr (ht : t.time = s.time) (hc : t.comb = s.comb)
    (hg : ∀ h, t.group h = { s.group h with conv := (t.group h).conv }) : t.stampNow = s.stampNow := by
  have hlink (h : Grp) : (t.group h).link = (s.group h).link := congrArg (·.link) (hg h)
  have hpos (h : Grp) : (t.group h).pos = (s.group h).pos := congrArg (·.pos) (hg h)
  unfold State.stampNow State.horizon State.posGrp
  simp only [ht, hc, hlink, hpos]

theorem State.deals.groups (h : s.deals k t g) (i : Grp) :
    t.group i = { s.group i with conv := (t.group i).conv } := by
  by_cases hi : i = g
  · subst hi; exact h.group
  · rw [h.group_ne i hi]

theorem State.deals.ev (h : s.deals k t g) : t.ev = s.ev := by rw [h.rest]

theorem State.deals.comb (h : s.deals k t g) : t.comb = s.comb := by rw [h.rest]

theorem State.deals.stampNow (h : s.deals k t g) : t.stampNow = s.stampNow :=
  State.stampNow_congr (by rw [h.rest]) h.comb h.groups

theorem State.deals_refl (k : GrpConv → GrpConv) (s : State) (g : Grp) : s.deals k s g :=
  ⟨rfl, rfl, fun _ => .inl rfl, fun _ _ => rfl, rfl, rfl⟩

theorem State.deals.trans (h : s.deals k t g) (h' : t.deals k u g) : s.deals k u g where
  rest := by rw [h'.rest]; conv_lhs => rw [h.rest]
  chan := h'.chan.trans h.chan
  ai n := (h.ai n).trans (h.stampNow ▸ h'.ai n)
  group_ne i hi := (h'.group_ne i hi).trans (h.group_ne i hi)
  group := by rw [h'.group, h.group]
  conv := h'.conv.trans h.conv

/-- What stays with `standing` stays with what depends on it alone. -/
theorem State.deals.lasting (h : s.deals GrpConv.standing t g) : s.deals GrpConv.lasting t g :=
  { h with conv := congrArg (fun c : GrpConv => { c with spare := 0, inserv := 0, released := none }) h.conv }

theorem State.deals_modConv (s : State) (g : Grp) {f : GrpConv → GrpConv}
    (hf : k (f (s.group g).conv) = k (s.group g).conv) : s.deals k (s.modConv g f) g :=
  ⟨rfl, rfl, fun _ => .inl rfl, fun _ hi => State.group_modConv_ne _ _ hi, by rw [State.group_modConv_same],
    by rw [State.group_modConv_same]; exact hf⟩

/-- A slice takes the conversion that a channel waits for (04 R122). -/
theorem State.deals_takeReq {r : ConvReq} (hr : (s.chan n).ai.req = some r) (hb : (s.chan n).ai.busy = none) :
    s.deals k (s.takeReq n r) g where
  rest := rfl
  chan := State.modAi_noAi ..
  ai m := by
    by_cases hm : m = n
    · subst hm
      refine .inr ⟨r, hr, hb, ?_⟩
      unfold State.takeReq
      rw [State.chan_modAi_same]
      rfl
    · refine .inl ?_
      unfold State.takeReq
      rw [State.chan_modAi_ne _ _ hm]
  group_ne _ _ := rfl
  group := rfl
  conv := rfl

/-- The conversion that a slice takes next waits on its channel (04 R122). -/
theorem State.nextReq_waits {c : QClass} {x : Ch × ConvReq} (h : s.nextReq g c = some x) :
    (s.chan x.1).ai.req = some x.2 ∧ (s.chan x.1).ai.busy = none := by
  unfold State.nextReq at h
  split at h
  · obtain ⟨n, -, hn⟩ := List.exists_of_findSome?_eq_some h
    split at hn
    · rename_i hr hb
      split at hn
      · cases hn; exact ⟨hr, hb⟩
      · cases hn
    · cases hn
  · cases h

theorem State.deals_takeMon (h : s.takeMon g = some t) : s.deals GrpConv.standing t g := by
  unfold State.takeMon at h
  split at h
  · split at h
    · cases h; exact State.deals_modConv _ _ rfl
    · cases h
  · cases h

theorem State.deals_takeCal (h : s.takeCal g = some t) : s.deals GrpConv.standing t g := by
  unfold State.takeCal at h
  dsimp only at h
  split at h
  · cases h; exact State.deals_modConv _ _ rfl
  · cases h

theorem State.dispatchOne_deals (s : State) (g : Grp) : s.deals GrpConv.standing (s.dispatchOne g) g := by
  have htake {c : QClass} {x : Ch × ConvReq} (h : s.nextReq g c = some x) :
      s.deals GrpConv.standing (s.takeReq x.1 x.2) g :=
    State.deals_takeReq (State.nextReq_waits h).1 (State.nextReq_waits h).2
  unfold State.dispatchOne
  split
  · rename_i hx; exact htake hx
  · cases hmon : s.takeMon g with
    | some t => exact State.deals_takeMon hmon
    | none =>
      simp only [Option.getD_none]
      split
      · rename_i hx; exact htake hx
      · split
        · rename_i hx; exact htake hx
        · cases hcal : s.takeCal g with
          | some t => exact State.deals_takeCal hcal
          | none => exact State.deals_refl ..

theorem State.dispatch_deals (s : State) (g : Grp) : s.deals GrpConv.standing (s.dispatch g) g :=
  State.each_inv (P := fun t => s.deals GrpConv.standing t g) (op := fun t _ => t.dispatchOne g)
    (fun t _ ht => ht.trans (t.dispatchOne_deals g)) (List.range 8) (State.deals_refl ..)

/-- A conversion that is asked for waits for a slice or is in one (04 R122). -/
theorem State.startConv_asks (s : State) (n : Ch) {r : ConvReq} (hs : r.cls = .free → r.stamp = s.stampNow) :
    ((s.startConv n r.cls r.stamp r.job).chan n).ai.req = some r ∨
    ((s.startConv n r.cls r.stamp r.job).chan n).ai.busy = some r := by
  unfold State.startConv
  have h1 := ((s.modAi n fun a => { a with req := some r }).dispatch_deals (grpOf n)).ai n
  rw [State.chan_modAi_same] at h1
  exact h1.asks rfl hs

theorem State.startConv_inj (s : State) (n : Ch) (c : QClass) (w : Word) (j : Option Nat) :
    ((s.startConv n c w j).chan n).ai.inj = (s.chan n).ai.inj := by
  unfold State.startConv
  rw [(((s.modAi n fun a => { a with req := some { cls := c, stamp := w, job := j } }).dispatch_deals
    (grpOf n)).ai n).inj, State.chan_modAi_same]

/-- Asking for a conversion changes conversion parts alone. -/
theorem State.startConv_frame (s : State) (n : Ch) (c : QClass) (w : Word) (j : Option Nat) :
    s.startConv n c w j = { s with ch := (s.startConv n c w j).ch, grp := (s.startConv n c w j).grp } ∧
    (s.startConv n c w j).noAi = s.noAi ∧ (∀ h, h ≠ grpOf n → (s.startConv n c w j).group h = s.group h) ∧
    ((s.startConv n c w j).group (grpOf n)).conv.standing = (s.group (grpOf n)).conv.standing := by
  unfold State.startConv
  have h1 := (s.modAi n fun a => { a with req := some { cls := c, stamp := w, job := j } }).dispatch_deals (grpOf n)
  exact ⟨h1.rest, h1.chan.trans (State.modAi_noAi ..), h1.group_ne, h1.conv⟩

/-! ### Slices under calibration (04 R133 to R135) -/

/-- t is s with the conversion part of group g rewritten, of which `lasting` stays. -/
def State.recast (s t : State) (g : Grp) : Prop :=
  ∃ c, t = s.modConv g (fun _ => c) ∧ c.lasting = (s.group g).conv.lasting

theorem State.modConv_modConv (s : State) (g : Grp) (f f' : GrpConv → GrpConv) :
    (s.modConv g f).modConv g f' = s.modConv g fun c => f' (f c) := by
  simp [State.modConv, State.modGrp, State.setGrp, State.group]

theorem State.recast_modConv (s : State) (g : Grp) {f : GrpConv → GrpConv}
    (hf : (f (s.group g).conv).lasting = (s.group g).conv.lasting) : s.recast (s.modConv g f) g := ⟨_, rfl, hf⟩

theorem State.modConv_self (s : State) (g : Grp) : s.modConv g (fun c => c) = s := by
  show ({ s with grp := s.grp.set g.val (s.grp[g.val]) g.isLt } : State) = s
  rw [Vector.set_getElem_self]

theorem State.recast_refl (s : State) (g : Grp) : s.recast s g := ⟨_, (s.modConv_self g).symm, rfl⟩

theorem State.recast.trans (h : s.recast t g) (h' : t.recast u g) : s.recast u g := by
  obtain ⟨c, rfl, hc⟩ := h
  obtain ⟨d, rfl, hd⟩ := h'
  rw [State.group_modConv_same] at hd
  exact ⟨d, by rw [State.modConv_modConv], hd.trans hc⟩

theorem State.recast.deals (h : s.recast t g) : s.deals GrpConv.lasting t g := by
  obtain ⟨c, rfl, hc⟩ := h
  exact State.deals_modConv _ _ hc

theorem State.recast.touchesGrp (h : s.recast t g) (l : List Ch) : s.touchesGrp t l [g] := by
  obtain ⟨c, rfl, -⟩ := h
  exact State.touchesGrp_modGrp ..

theorem State.recast.ev (h : s.recast t g) : t.ev = s.ev := by
  obtain ⟨c, rfl, -⟩ := h
  rfl

/-- The first step of `calNext`: a released slice returns at the end of its window (04 R134). -/
def State.slicesBack (s : State) (g : Grp) : State :=
  let back := match (s.group g).conv.released with
    | some _ => !(decide (s.time < (s.group g).conv.winEnd) || !(chOf g).any s.schedNow)
    | none => false
  if back then s.modConv g fun c => GrpConv.recount { c with released := none } else s

/-- Its second step: the spare moves to the next slice still to calibrate (04 R133). -/
def GrpConv.spareMoved (c : GrpConv) : GrpConv :=
  if 5 ≤ c.spare.toNat || c.todo ⟨c.spare.toNat % 5, Nat.mod_lt _ (by decide)⟩ then c
  else match allSlices.find? fun k => c.todo k && c.released != some k with
    | some k => GrpConv.recount { c with spare := BitVec.ofNat 3 k.val }
    | none => c

/-- Its third step: a further slice is released where that is allowed (04 R134). -/
def State.sliceReleased (s : State) (g : Grp) : State :=
  let d := (s.group g).conv
  if d.released.isNone && s.mayRelease g && decide (4 ≤ d.slots) && decide (s.busyCount g < d.slots) then
    match allSlices.find? fun k => d.todo k && k.val != d.spare.toNat with
    | some k => s.modConv g fun c => GrpConv.recount { c with released := some k }
    | none => s
  else s

theorem State.calNext_eq (s : State) (g : Grp) : s.calNext g =
    if (s.group g).conv.calState != 2 || (s.slicesBack g).calWaits g then s.slicesBack g
    else ((s.slicesBack g).modConv g GrpConv.spareMoved).sliceReleased g := rfl

theorem GrpConv.spareMoved_lasting (c : GrpConv) : c.spareMoved.lasting = c.lasting := by
  unfold GrpConv.spareMoved
  split
  · rfl
  · split <;> rfl

theorem State.slicesBack_recast (s : State) (g : Grp) : s.recast (s.slicesBack g) g := by
  unfold State.slicesBack
  dsimp only
  generalize (match (s.group g).conv.released with
    | some _ => !(decide (s.time < (s.group g).conv.winEnd) || !(chOf g).any s.schedNow)
    | none => false) = back
  split
  · exact State.recast_modConv _ _ rfl
  · exact State.recast_refl ..

theorem State.sliceReleased_recast (s : State) (g : Grp) : s.recast (s.sliceReleased g) g := by
  unfold State.sliceReleased
  dsimp only
  split
  · split
    · exact State.recast_modConv _ _ rfl
    · exact State.recast_refl ..
  · exact State.recast_refl ..

theorem State.calNext_recast (s : State) (g : Grp) : s.recast (s.calNext g) g := by
  rw [State.calNext_eq]
  split
  · exact s.slicesBack_recast g
  · exact (s.slicesBack_recast g).trans ((State.recast_modConv _ _ (GrpConv.spareMoved_lasting _)).trans
      (State.sliceReleased_recast ..))

/-- The conversion part with which a foreground run begins: the overlap of a rotation is over (04 R133). -/
def GrpConv.calBegun (c : GrpConv) : GrpConv := { c with calState := 2, overlap := none }

/-- The first healthy slice is the spare of a foreground run, where there is a spare (04 R133). -/
def GrpConv.calFirst (c : GrpConv) : GrpConv :=
  let d : GrpConv := GrpConv.recount c.calBegun
  match allSlices.find? d.todo with
  | some k => if d.spare.toNat < 5 then GrpConv.recount { d with spare := BitVec.ofNat 3 k.val } else d
  | none => d

theorem GrpConv.calFirst_lasting (c : GrpConv) : c.calFirst.lasting = c.calBegun.lasting := by
  unfold GrpConv.calFirst
  dsimp only
  split
  · split <;> rfl
  · rfl

theorem State.beginCal_recast (s : State) (g : Grp) : (s.modConv g GrpConv.calBegun).recast (s.beginCal g) g := by
  refine State.recast.trans (t := s.modConv g GrpConv.calFirst) ⟨(s.group g).conv.calFirst, ?_, ?_⟩
    (State.calNext_recast ..)
  · rw [State.modConv_modConv]; rfl
  · rw [State.group_modConv_same]; exact GrpConv.calFirst_lasting _

theorem State.serveGroup_deals (s : State) (g : Grp) : s.deals GrpConv.lasting (s.serveGroup g) g :=
  (s.calNext_recast g).deals.trans ((s.calNext g).dispatch_deals g).lasting

end

end Sys2Proof.Machine
end

section
/-! ## Cells that sample and convert (04 R122 to R124, R134) -/

namespace Sys2Proof.Machine

section
variable {s t u : State} {n m : Ch} {g h : Grp} {c : Cell} {x : Started} {conv : Bool}

/-! ### The channels of a cell -/

/-- A cell with the mask of one channel covers that channel. -/
theorem Cell.covered_of_bitW (h : c.mask = bitW n.val) : c.covered = [n] := by
  have hall : ∀ n : Ch, (allCh.filter fun m => bit (bitW n.val) m.val) = [n] := by decide
  unfold Cell.covered
  rw [h, hall]

theorem State.coveredBy_of_bitW (h : c.mask = bitW n.val) (hn : s.isOdd n = false) : s.coveredBy c = [n] := by
  unfold State.coveredBy
  rw [Cell.covered_of_bitW h]
  simp [hn]

/-- An action on the one channel of a cell, which the cell meets (07 R225). -/
theorem State.eachCovered_one (hc : s.coveredBy c = [n]) (hm : s.meets conv n = .run) (f : State → Ch → State) :
    s.eachCovered c conv f = f s n := by
  unfold State.eachCovered
  rw [hc, State.each_cons, State.each_nil, hm]

/-- How a cell meets a channel depends on the channel, its link and its supply (01 R15). -/
theorem State.meets_congr (hc : t.ch = s.ch) (hl : ∀ h, (t.group h).link = (s.group h).link)
    (hs : ∀ h, (t.group h).sup = (s.group h).sup) (conv : Bool) (n : Ch) : t.meets conv n = s.meets conv n := by
  have hchan (m : Ch) : t.chan m = s.chan m := by unfold State.chan; rw [hc]
  unfold State.meets State.failedCh State.dieUp State.protected State.pstateOf State.failedCh State.modeOf
  simp only [hchan, hl, hs]

/-! ### A cell that has started -/

/-- What the start of a cell leaves of the state: all but the claims of its die and the late cells that are kept
in mind (07 R226, R227). -/
theorem State.cellStarted_eq (s : State) (g : Grp) (c : Cell) :
    ∃ p l, s.cellStarted g c = { s.modPos g (fun _ => p) with comb.lateSeen := l } := by
  unfold State.cellStarted
  split
  · exact ⟨_, _, rfl⟩
  · refine ⟨(s.group g).pos, s.comb.lateSeen, ?_⟩
    show s = ({ s with grp := s.grp.set g.val (s.grp[g.val]) g.isLt } : State)
    rw [Vector.set_getElem_self]

/-- What a state shares with one in which a cell starts. -/
structure State.beforeCell (s t : State) : Prop where
  ch : t.ch = s.ch
  time : t.time = s.time
  jobs : t.comb.jobs = s.comb.jobs
  nextJob : t.comb.nextJob = s.comb.nextJob
  conv : ∀ h, (t.group h).conv = (s.group h).conv
  link : ∀ h, (t.group h).link = (s.group h).link
  sup : ∀ h, (t.group h).sup = (s.group h).sup

theorem State.cellStarted_before (s : State) (g : Grp) (c : Cell) : s.beforeCell (s.cellStarted g c) := by
  obtain ⟨p, l, he⟩ := s.cellStarted_eq g c
  have hgroup (h : Grp) : (s.cellStarted g c).group h = { s.group h with pos := ((s.cellStarted g c).group h).pos } := by
    rw [he]
    by_cases hh : h = g
    · subst hh
      show (s.modPos h fun _ => p).group h = { s.group h with pos := ((s.modPos h fun _ => p).group h).pos }
      rw [State.group_modPos_same]
    · show (s.modPos g fun _ => p).group h = { s.group h with pos := ((s.modPos g fun _ => p).group h).pos }
      rw [State.group_modPos_ne _ _ hh]
  exact ⟨by rw [he]; rfl, by rw [he]; rfl, by rw [he]; rfl, by rw [he]; rfl, fun h => by rw [hgroup h],
    fun h => by rw [hgroup h], fun h => by rw [hgroup h]⟩

theorem State.beforeCell.chan (h : s.beforeCell t) (n : Ch) : t.chan n = s.chan n := by
  unfold State.chan; rw [h.ch]

theorem State.beforeCell.coveredBy (h : s.beforeCell t) (hc : c.mask = bitW n.val) (hn : s.isOdd n = false) :
    t.coveredBy c = [n] := by
  refine State.coveredBy_of_bitW hc ?_
  rw [← hn]
  unfold State.isOdd State.pairOf
  rw [h.chan]

theorem State.beforeCell.meets (h : s.beforeCell t) (conv : Bool) (n : Ch) : t.meets conv n = s.meets conv n :=
  State.meets_congr h.ch h.link h.sup conv n

/-! ### HOLD -/

/-- A sample that replaces one not yet converted loses it, and is counted (04 R124). -/
theorem State.loseSample_of_idle (hr : (s.chan n).ai.req = none) : s.loseSample n =
    if (s.chan n).ai.held then (s.modAi n fun a => { a with held := false, req := none }).modConv (grpOf n) fun x =>
      { x with overrun := satInc x.overrun }
    else s := by
  unfold State.loseSample
  simp [hr, State.loseReq]

/-- A channel that holds a new sample: it counts an overrun when it loses one, and nothing else differs. -/
theorem State.holdSample_spec (hr : (s.chan n).ai.req = none) :
    ((((s.loseSample n).modAi n fun a => { a with held := true }).chan n).ai.held = true) ∧
    (((s.loseSample n).modAi n fun a => { a with held := true }).group (grpOf n)).conv.overrun =
      (if (s.chan n).ai.held then satInc (s.group (grpOf n)).conv.overrun
        else (s.group (grpOf n)).conv.overrun) ∧
    s.touchesGrp ((s.loseSample n).modAi n fun a => { a with held := true }) [n] [grpOf n] := by
  have hmod (v : State) (f : ChAi → ChAi) : v.touchesGrp (v.modAi n f) [n] [grpOf n] :=
    State.touchesGrp_of_touches (State.touches_of_modCh ..) _
  rw [State.loseSample_of_idle hr]
  split
  · rw [State.chan_modAi_same, State.group_modAi, State.group_modConv_same]
    exact ⟨rfl, rfl, ((hmod ..).trans (State.touchesGrp_modGrp ..)).trans (hmod ..)⟩
  · rw [State.chan_modAi_same]
    exact ⟨rfl, rfl, hmod ..⟩

theorem exec_hold {idx : Nat} {d : DueCell} (hd : s.dueOn 0x01 idx c g d) (hc : c.mask = bitW n.val)
    (hn : s.isOdd n = false) (hm : s.meets true n = .run) (ha : (s.modeOf n).isAnalogue = true) :
    exec (.hold idx) s =
      .next (((s.cellStarted g c).loseSample n).modAi n fun a => { a with held := true }) := by
  have hb := s.cellStarted_before g c
  change execHold idx s = _
  unfold execHold
  rw [State.runCell_dueOn hd, State.eachCovered_one (hb.coveredBy hc hn) ((hb.meets ..).trans hm)]
  have ha' : ((s.cellStarted g c).modeOf n).isAnalogue = true := by unfold State.modeOf at *; rwa [hb.chan]
  rw [if_pos ha']

/-! ### CONVERT and SAMPLE -/

/-- A cell that still waits for a conversion does not end (05 R170). -/
theorem State.finishJobs_of_waiting (h : ∀ j ∈ s.comb.jobs, j.wait ≠ 0) : s.finishJobs = s := by
  have hwait : ∀ j ∈ s.comb.jobs, (j.wait == 0 && j.dies == 0) = false := fun j hj => by
    rw [beq_eq_false_iff_ne.mpr (h j hj), Bool.false_and]
  have hdone : (s.comb.jobs.filter fun j => j.wait == 0 && j.dies == 0) = [] :=
    List.filter_eq_nil_iff.mpr fun j hj => by rw [hwait j hj]; decide
  have hleft : (s.comb.jobs.filter fun j => !(j.wait == 0 && j.dies == 0)) = s.comb.jobs :=
    List.filter_eq_self.mpr fun j hj => by rw [hwait j hj]; rfl
  unfold State.finishJobs
  simp only [hdone, hleft, State.each_nil]

theorem putBit_ne_zero (n : Ch) : putBit 0 n.val true ≠ 0 := by revert n; decide

/-- The results that the channels of a cell have ready, which convert nothing (05 R166). -/
def State.readyResults (s : State) (c : Cell) (x : Started) (useHeld : Bool) : List (Nat × DieEntry) :=
  (((s.coveredBy c).filter fun n => s.meets true n == .run).filter fun n =>
    (s.modeOf n).isNonAnalogue && !useHeld && s.arrives (grpOf n)).map fun n =>
      (n.val, s.dieResult n (resultW n.val false false (s.plainData n)) x.stamp)

/-- The channels whose conversions a cell awaits, as a mask. -/
def State.awaitedBy (s : State) (c : Cell) : Word :=
  (((s.coveredBy c).filter fun n => s.meets true n == .run).filter fun n => (s.modeOf n).isAnalogue).foldl
    (fun w n => putBit w n.val true) 0

/-- What a cell asks of one channel for its job (04 R123, R124). -/
def State.cellAsk (x : Started) (useHeld : Bool) (job : Nat) (s : State) (n : Ch) : State :=
  if (s.modeOf n).isAnalogue then
    let r := (s.chan n).ai.req
    let u := if useHeld then (s.modAi n fun a => { a with req := none }).loseReq n r else s.loseSample n
    (u.modAi n fun a => { a with held := true }).startConv n .comb x.stamp (some job)
  else s

theorem State.sampleCell_eq (s : State) (c : Cell) (x : Started) (useHeld : Bool) : s.sampleCell c x useHeld =
    ((s.joinJob x (s.awaitedBy c) (s.readyResults c x useHeld)).1.eachCovered c true
      (State.cellAsk x useHeld (s.joinJob x (s.awaitedBy c) (s.readyResults c x useHeld)).2)).finishJobs := rfl

theorem State.awaitedBy_one (hc : s.coveredBy c = [n]) (hm : s.meets true n = .run)
    (ha : (s.modeOf n).isAnalogue = true) : s.awaitedBy c = putBit 0 n.val true := by
  unfold State.awaitedBy
  simp [hc, hm, ha]

/-- s with the job of a cell open, on the first of its shares (05 R170). -/
def State.jobOpened (s : State) (x : Started) (wait : Word) (got : List (Nat × DieEntry)) : State :=
  { s with
    comb.nextJob := s.comb.nextJob + 1
    comb.jobs := [{ id := s.comb.nextJob, pos := x.pos, idx := x.idx, dies := s.diesAwaited x, late := x.late
                    wait := wait, got := got }] }

theorem State.joinJob_of_none (h : s.comb.jobs = []) (wait : Word) (got : List (Nat × DieEntry)) :
    s.joinJob x wait got = (s.jobOpened x wait got, s.comb.nextJob) := by
  unfold State.joinJob State.jobOpened
  simp [h]

/-- A channel of which nothing waits, and whose sample a cell uses or which holds none: its conversion is asked for,
and only conversion parts change. -/
theorem State.cellAsk_spec {useHeld : Bool} {job : Nat} {r : ConvReq} (ha : (s.modeOf n).isAnalogue = true)
    (hr : (s.chan n).ai.req = none) (hh : useHeld = false → (s.chan n).ai.held = false)
    (hreq : r = { cls := .comb, stamp := x.stamp, job := some job }) :
    (((s.cellAsk x useHeld job n).chan n).ai.req = some r ∨ ((s.cellAsk x useHeld job n).chan n).ai.busy = some r) ∧
    (s.cellAsk x useHeld job n).comb = s.comb ∧ (s.cellAsk x useHeld job n).noAi = s.noAi := by
  have hask : ∃ f, s.cellAsk x useHeld job n = (s.modAi n f).startConv n r.cls r.stamp r.job := by
    subst hreq
    unfold State.cellAsk
    rw [if_pos ha, hr]
    cases useHeld
    · refine ⟨fun a => { a with held := true }, ?_⟩
      simp [State.loseSample_of_idle hr, hh rfl]
    · refine ⟨fun a => { a with req := none, held := true }, ?_⟩
      simp only [if_true, State.loseReq]
      exact congrArg (fun u : State => u.startConv n .comb x.stamp (some job)) (State.modCh_modCh ..)
  obtain ⟨f, he⟩ := hask
  obtain ⟨hrest, hnoAi, -⟩ := (s.modAi n f).startConv_frame n r.cls r.stamp r.job
  rw [he]
  refine ⟨State.startConv_asks _ n fun hc => ?_, by rw [hrest]; rfl, hnoAi.trans (State.modAi_noAi ..)⟩
  rw [hreq] at hc
  cases hc

/-- A cell of one analogue channel asks for its conversion for the job that it opens (04 R123, 05 R170). -/
theorem State.sampleCell_one {useHeld : Bool} {r : ConvReq} (hj : s.comb.jobs = []) (hc : s.coveredBy c = [n])
    (hm : s.meets true n = .run) (ha : (s.modeOf n).isAnalogue = true) (hr : (s.chan n).ai.req = none)
    (hh : useHeld = false → (s.chan n).ai.held = false)
    (hreq : r = { cls := .comb, stamp := x.stamp, job := some s.comb.nextJob }) :
    (((s.sampleCell c x useHeld).chan n).ai.req = some r ∨ ((s.sampleCell c x useHeld).chan n).ai.busy = some r) ∧
    (s.sampleCell c x useHeld).comb.nextJob = s.comb.nextJob + 1 ∧ (s.sampleCell c x useHeld).noAi = s.noAi := by
  rw [State.sampleCell_eq, State.awaitedBy_one hc hm ha, State.joinJob_of_none hj]
  dsimp only
  generalize s.readyResults c x useHeld = got
  rw [State.eachCovered_one (s := s.jobOpened x (putBit 0 n.val true) got) hc hm]
  obtain ⟨hasks, hcomb, hnoAi⟩ := State.cellAsk_spec (s := s.jobOpened x (putBit 0 n.val true) got) ha hr hh hreq
  rw [State.finishJobs_of_waiting]
  · exact ⟨hasks, by rw [hcomb]; rfl, hnoAi⟩
  · rw [hcomb]
    intro j hj
    obtain rfl := List.mem_singleton.mp hj
    exact putBit_ne_zero n

theorem exec_convert {idx : Nat} {d : DueCell} (hd : s.dueOn 0x02 idx c g d) :
    exec (.convert idx) s = .next ((s.cellStarted g c).sampleCell c
      { dies := [g], idx := idx, pos := d.pos, stamp := s.stampAt d.pos, late := none } true) := by
  change execConvert idx s = _
  unfold execConvert
  rw [State.runCell_dueOn hd]

theorem exec_sample {idx : Nat} {d : DueCell} (hd : s.dueOn 0x03 idx c g d) :
    exec (.sample idx) s = .next ((s.cellStarted g c).sampleCell c
      { dies := [g], idx := idx, pos := d.pos, stamp := s.stampAt d.pos, late := none } false) := by
  change execSample idx s = _
  unfold execSample
  rw [State.runCell_dueOn hd]

/-- A cell of one analogue channel that has started asks for its conversion with the stamp of its position. -/
theorem sampleCell_started {idx : Nat} {d : DueCell} {useHeld : Bool} {r : ConvReq} (hc : c.mask = bitW n.val)
    (hn : s.isOdd n = false) (hm : s.meets true n = .run) (ha : (s.modeOf n).isAnalogue = true)
    (hr : (s.chan n).ai.req = none) (hh : useHeld = false → (s.chan n).ai.held = false) (hj : s.comb.jobs = [])
    (hreq : r = { cls := .comb, stamp := s.stampAt d.pos, job := some s.comb.nextJob }) :
    ∀ t, t = (s.cellStarted g c).sampleCell c
      { dies := [g], idx := idx, pos := d.pos, stamp := s.stampAt d.pos, late := none } useHeld →
    ((t.chan n).ai.req = some r ∨ (t.chan n).ai.busy = some r) ∧ t.comb.nextJob = s.comb.nextJob + 1 ∧
      ∀ m, (t.chan m).out = (s.chan m).out ∧ (t.chan m).ao = (s.chan m).ao ∧ (t.chan m).cfg = (s.chan m).cfg := by
  rintro t rfl
  have hb := s.cellStarted_before g c
  obtain ⟨hasks, hnext, hnoAi⟩ := State.sampleCell_one (s := s.cellStarted g c)
    (x := { dies := [g], idx := idx, pos := d.pos, stamp := s.stampAt d.pos, late := none }) (hb.jobs.trans hj)
    (hb.coveredBy hc hn) ((hb.meets ..).trans hm) (by unfold State.modeOf at *; rwa [hb.chan])
    (by rwa [hb.chan]) (by rwa [hb.chan]) (r := r) (by rw [hreq, hb.nextJob])
  refine ⟨hasks, by rw [hnext, hb.nextJob], fun m => ?_⟩
  rw [noAi_chan hnoAi m, hb.chan]
  exact ⟨rfl, rfl, rfl⟩

/-! ### CAL_WIN -/

theorem exec_calWin {idx : Nat} {d : DueCell} (hd : s.dueOn 0x0D idx c g d) (ht : 240000 ≤ c.ticks)
    (hk : s.dieUp (grpNo c.lead.toNat) = true) : exec (.calWin idx) s =
    .next (((s.cellStarted g c).modConv (grpNo c.lead.toNat) fun x => { x with
      winEnd := max x.winEnd (s.time + c.ticks / 4) }).serveGroup (grpNo c.lead.toNat)) := by
  have hb := s.cellStarted_before g c
  have hlead : (s.cellStarted g c).leadUp c = true := by
    unfold State.leadUp State.dieUp
    simp only [hb.link, hb.sup]
    exact hk
  change execCalWin idx s = _
  unfold execCalWin
  rw [State.runCell_dueOn hd]
  dsimp only
  rw [if_pos ⟨ht, hlead⟩, hb.time]

end

end Sys2Proof.Machine

open Sys2Proof Sys2Proof.Machine

/-- Settles O17: a sample held, a conversion asked for the job of the cell, and a window that giving the slices out
leaves open. -/
theorem inputCells : Obligations.InputCells := by
  unfold Obligations.InputCells
  refine ⟨fun s idx c g d n hd hc hn hm ha hr => ?_, fun s idx c g d n r hd hc hn hm ha hr hj hreq => ?_,
    fun s idx c g d n r hd hc hn hm ha hr hh hj hreq => ?_, ?_⟩
  · have hb := s.cellStarted_before g c
    obtain ⟨hheld, hover, htouch⟩ := State.holdSample_spec (s := s.cellStarted g c) (n := n) (by rwa [hb.chan])
    rw [hb.chan, hb.conv] at hover
    exact ⟨_, exec_hold hd hc hn hm ha, hheld, hover, htouch⟩
  · exact ⟨_, exec_convert hd, sampleCell_started hc hn hm ha hr (fun h => by cases h) hj hreq _ rfl⟩
  · exact ⟨_, exec_sample hd, sampleCell_started hc hn hm ha hr (fun _ => hh) hj hreq _ rfl⟩
  · rintro s idx c g d k hd ht rfl hk
    have hb := s.cellStarted_before g c
    have h1 := State.serveGroup_deals ((s.cellStarted g c).modConv (grpNo c.lead.toNat) fun x => { x with
      winEnd := max x.winEnd (s.time + c.ticks / 4) }) (grpNo c.lead.toNat)
    refine ⟨_, exec_calWin hd ht hk, ?_, fun m => ?_⟩
    · have hwin := congrArg GrpConv.winEnd h1.conv
      rwa [State.group_modConv_same, hb.conv, GrpConv.lasting_winEnd, GrpConv.lasting_winEnd] at hwin
    · rw [noAi_chan h1.chan m, State.chan_modConv, hb.chan]
      exact ⟨rfl, rfl, rfl⟩
end

section
/-! ## The references of the groups (04 R137 to R139) -/

namespace Sys2Proof.Machine

section
variable {s t u : State} {n m : Ch} {g h : Grp}

theorem State.raiseRef_logs (s : State) (g : Grp) (c : Nat) : s.logsOver (s.raiseRef g c) := raise_logs ..

theorem State.raiseRef_pending (hu : s.hostUp = true) (g : Grp) (c : Nat) : (s.raiseRef g c).pendingWith 84 c :=
  raise_pending _ _ _ _ _ _ _ hu (by decide)

/-- A reference settles: a calibration that waits starts, and the channels stay (04 R135, R137). -/
theorem State.settleRef_spec (s : State) (g : Grp) :
    ((s.settleRef g).group g).conv.refSettled = true ∧
    ((s.settleRef g).group g).conv.calState =
      (if (s.group g).conv.calState = 1 then 2 else (s.group g).conv.calState) ∧
    (s.hostUp = true → (s.settleRef g).pendingWith 84 1) ∧ s.touchesGrp (s.settleRef g) [] [g] := by
  unfold State.settleRef
  dsimp only
  have hlog := (s.modConv g fun c => { c with refSettled := true }).raiseRef_logs g 1
  have hpend (hu : s.hostUp = true) := State.raiseRef_pending (s := s.modConv g fun c => { c with
    refSettled := true }) hu g 1
  have hgroup := hlog.group g
  rw [State.group_modConv_same] at hgroup
  have htouch := (State.touchesGrp_modGrp s g _ []).trans (State.touchesGrp_of_logs hlog [] [g])
  generalize (s.modConv g fun c => { c with refSettled := true }).raiseRef g 1 = u at hpend hgroup htouch ⊢
  split
  case isTrue h =>
    have hcast := u.beginCal_recast g
    have hconv := hcast.deals.conv
    have hev : (u.beginCal g).ev = u.ev := hcast.ev
    rw [hgroup] at h
    rw [if_pos h]
    refine ⟨?_, ?_, fun hu => State.pendingWith_congr (by rw [hev]) (hpend hu),
      htouch.trans ((State.touchesGrp_modGrp ..).trans (hcast.touchesGrp []))⟩
    · simpa [GrpConv.calBegun, hgroup] using congrArg GrpConv.refSettled hconv
    · simpa [GrpConv.calBegun] using congrArg GrpConv.calState hconv
  case isFalse h =>
    rw [hgroup] at h
    rw [hgroup]
    exact ⟨rfl, (if_neg h).symm, hpend, htouch⟩

theorem exec_refSettled (hd : s.dieUp g = true) (hs : (s.group g).conv.refSettled = false)
    (hr : (s.group g).conv.refSel ≠ 1 ∨ (s.group g).conv.fallback = true) :
    exec (.refSettled g) s = .next (s.settleRef g) := by
  have hr' : ((s.group g).conv.refSel != 1 || (s.group g).conv.fallback) = true := by simpa using hr
  change execRefSettled g s = _
  unfold execRefSettled
  dsimp only
  rw [hd, hs, hr']
  rfl

/-- A channel of a group whose reference is lost (04 R138). -/
def Channel.unsettled (c : Channel) : Channel :=
  if c.actMode.isAnalogue then { c with inp := { c.inp with valid := false } } else c

/-- A reference that is lost clears VALID on the analogue channels of its group (04 R137, R138). -/
theorem State.clearRef_spec (s : State) (g : Grp) : s.touchesGrp (s.clearRef g) (chOf g) [g] ∧
    (s.clearRef g).group g = { s.group g with conv := { (s.group g).conv with refSettled := false } } ∧
    ∀ n, grpOf n = g → (s.modeOf n).isAnalogue = true → ((s.clearRef g).chan n).inp.valid = false := by
  obtain ⟨htouch, hchan⟩ := State.each_local (s := s.modConv g fun c => { c with refSettled := false })
    (l := chOf g) (op := fun t n => if (t.modeOf n).isAnalogue then t.modIn n fun i => { i with valid := false } else t)
    (f := Channel.unsettled) (fun t _ n _ => by
      unfold Channel.unsettled State.modeOf
      dsimp only
      split
      · exact ⟨State.touches_of_modCh .., State.chan_modIn_same ..⟩
      · exact ⟨State.touches_refl .., rfl⟩) (chOf_nodup g)
  unfold State.clearRef
  refine ⟨(State.touchesGrp_modGrp ..).trans (State.touchesGrp_of_touches htouch _), ?_, fun n hn ha => ?_⟩
  · rw [htouch.group, State.group_modConv_same]
  · rw [hchan n (mem_chOf.mpr hn)]
    unfold Channel.unsettled
    rw [if_pos (show ((s.modConv g fun c => { c with refSettled := false }).chan n).actMode.isAnalogue = true from ha)]

/-- s with the reference of a group fallen back to the internal one (04 R139). -/
def State.fellBack (s : State) (g : Grp) : State :=
  ((s.clearRef g).modConv g fun c => { c with refFault := true, fallback := true }).raiseRef g 3

theorem exec_refinMonitorCheck (hd : s.dieUp g = true) (hs : (s.group g).conv.refSel = 1)
    (hf : (s.group g).conv.fallback = false) (inRange : Bool) : exec (.refinMonitorCheck g inRange) s = .next
      (if inRange then (if (s.group g).conv.refSettled then s else s.settleRef g) else s.fellBack g) := by
  change execRefinMonitorCheck g inRange s = _
  unfold execRefinMonitorCheck State.fellBack
  have hguard : (s.dieUp g && (s.group g).conv.refSel == 1 && !(s.group g).conv.fallback) = true := by
    rw [hd, hs, hf]; decide
  dsimp only
  rw [if_pos hguard]
  cases inRange
  · rw [if_neg Bool.false_ne_true, if_neg Bool.false_ne_true]
  · rw [if_pos rfl, if_pos rfl]
    split
    · rfl
    · rfl

theorem State.fellBack_spec (hu : s.hostUp = true) (g : Grp) :
    ((s.fellBack g).group g).conv = { (s.group g).conv with refSettled := false, refFault := true, fallback := true } ∧
    (s.fellBack g).pendingWith 84 3 ∧
    (∀ n, grpOf n = g → (s.modeOf n).isAnalogue = true → ((s.fellBack g).chan n).inp.valid = false) ∧
    s.touchesGrp (s.fellBack g) (chOf g) [g] := by
  obtain ⟨htouch, hgroup, hvalid⟩ := s.clearRef_spec g
  have hu' : (s.clearRef g).hostUp = true := by rw [still_hostUp (rest_still (touchesGrp_iff.mp htouch).2.2), hu]
  unfold State.fellBack
  have hlog := ((s.clearRef g).modConv g fun c => { c with refFault := true, fallback := true }).raiseRef_logs g 3
  refine ⟨?_, State.raiseRef_pending (s := (s.clearRef g).modConv g _) hu' g 3, fun n hn ha => ?_,
    (htouch.trans (State.touchesGrp_modGrp ..)).trans (State.touchesGrp_of_logs hlog _ _)⟩
  · rw [hlog.group, State.group_modConv_same, hgroup]
  · rw [hlog.chan]; exact hvalid n hn ha

/-! ### What the internal monitors measure (04 R147, 13 R398) -/

/-- What a monitor entry of group g leaves: the channels, the other groups, and its own but for the link. -/
def State.monKept (g : Grp) (s : State) : Vector Channel 32 × (Grp → Option Group) × GrpSup × GrpConv :=
  (s.ch, fun h => if h = g then none else some (s.group h), (s.group g).sup, (s.group g).conv)

theorem monKept_group (e : t.monKept g = s.monKept g) (hh : h ≠ g) : t.group h = s.group h := by
  have := congrFun (congrArg (fun x => x.2.1) e) h
  simpa [State.monKept, hh] using this

theorem monKept_ch (e : t.monKept g = s.monKept g) : t.ch = s.ch := congrArg Prod.fst e

theorem monKept_sup (e : t.monKept g = s.monKept g) : (t.group g).sup = (s.group g).sup :=
  congrArg (fun x => x.2.2.1) e

theorem monKept_conv (e : t.monKept g = s.monKept g) : (t.group g).conv = (s.group g).conv :=
  congrArg (fun x => x.2.2.2) e

theorem State.putMonitor_kept (s : State) (g : Grp) (tag : Nat) (data : BitVec 24) :
    (s.putMonitor g tag data).monKept g = s.monKept g := by
  have hput (strm : Bool) (e : QEntry) : (s.putEntry strm e).monKept g = s.monKept g := by
    have hview := State.putEntry_view (k := 0) ⟨by decide, by decide⟩ s strm e
    have hgroup (h : Grp) : (s.putEntry strm e).group h = s.group h := by unfold State.group; rw [view_grp hview]
    unfold State.monKept
    simp only [view_ch hview, hgroup]
  unfold State.putMonitor
  dsimp only
  split
  · split
    · exact hput ..
    · exact hput ..
    · rfl
  · split
    · unfold State.keepOnDie State.monKept
      refine Prod.ext rfl (Prod.ext (funext fun h => ?_) ?_)
      · by_cases hh : h = g
        · simp [hh]
        · simp [hh, State.group_modLink_ne _ _ hh]
      · rw [State.group_modLink_same]
    · rfl

/-- A measured voltage stands in its group, and turns of the sequence follow where the supply comes up (03 R119). -/
theorem State.measureVf_spec (s : State) (g : Grp) (vf : BitVec 16) : ((s.measureVf g vf).group g).sup.vf = vf ∧
    (∀ h, h ≠ g → (s.measureVf g vf).group h = s.group h) ∧
    (s.vfReady g = true ∨ vf.toNat < 13500 → (s.measureVf g vf).ch = s.ch) := by
  have hset : ((s.setVf g vf).group g).sup.vf = vf := by unfold State.setVf; rw [State.group_modSup_same]
  have hne : ∀ h, h ≠ g → (s.setVf g vf).group h = s.group h := fun h hh => State.group_modSup_ne _ _ hh
  have hafter {u : State} (e : u.apart g = (s.setVf g vf).apart g) : (u.group g).sup.vf = vf ∧
      (∀ h, h ≠ g → u.group h = s.group h) :=
    ⟨(apart_vf e).trans hset, fun h hh => (apart_group e hh).trans (hne h hh)⟩
  unfold State.measureVf
  dsimp only
  split
  case isTrue => exact ⟨hset, hne, fun _ => rfl⟩
  case isFalse hup =>
    have hrises : ¬(s.vfReady g = true ∨ vf.toNat < 13500) := by
      rintro (hr | hlow)
      · simp [hr] at hup
      · refine hup ?_
        have : (s.setVf g vf).vfReady g = false := by
          unfold State.vfReady State.setVf
          simp [hlow]
        simp [this]
    have hqueue : ((s.setVf g vf).queueTurns g).apart g = (s.setVf g vf).apart g := State.modGrp_apart _ rfl
    split
    · obtain ⟨h1, h2⟩ := hafter (((State.staggerStep_turnsIn _ g).1).trans hqueue)
      exact ⟨h1, h2, fun hr => absurd hr hrises⟩
    · obtain ⟨h1, h2⟩ := hafter hqueue
      exact ⟨h1, h2, fun hr => absurd hr hrises⟩

theorem State.internalMeasured_spec (s : State) (g : Grp) (vf tdie cj : BitVec 16) (ref : BitVec 24) :
    ((s.internalMeasured g vf tdie ref cj).group g).sup.vf = vf ∧
    ((s.internalMeasured g vf tdie ref cj).group g).sup.tdie = tdie ∧
    ((s.internalMeasured g vf tdie ref cj).group g).conv.cjt = cj ∧
    ((s.internalMeasured g vf tdie ref cj).group g).conv.cjValid = true ∧
    (s.vfReady g = true ∨ vf.toNat < 13500 → (s.internalMeasured g vf tdie ref cj).ch = s.ch) ∧
    ∀ h, h ≠ g → (s.internalMeasured g vf tdie ref cj).group h = s.group h := by
  obtain ⟨hvf, hne, hch⟩ := s.measureVf_spec g vf
  have hkept : (s.internalMeasured g vf tdie ref cj).monKept g = ((s.measureVf g vf).modGrp g fun x => { x with
      sup := { x.sup with tdie := tdie }, conv := { x.conv with cjt := cj, cjValid := true } }).monKept g := by
    unfold State.internalMeasured
    dsimp only
    rw [State.putMonitor_kept, State.putMonitor_kept, State.putMonitor_kept, State.putMonitor_kept]
  rw [monKept_sup hkept, monKept_conv hkept, State.group_modGrp_same]
  refine ⟨hvf, rfl, rfl, rfl, fun hr => ?_, fun h hh => ?_⟩
  · rw [monKept_ch hkept]; exact hch hr
  · rw [monKept_group hkept hh, State.group_modGrp_ne _ _ hh, hne h hh]

theorem exec_internalMonitor {vf tdie cj : BitVec 16} {ref : BitVec 24} (hd : s.dieUp g = true)
    (hl : (s.group g).link.silent = false) (hr : s.monitorReady g = true) :
    exec (.internalMonitorConversion g vf tdie ref cj) s = .next (s.internalMeasured g vf tdie ref cj) := by
  change execInternalMonitorConversion g vf tdie ref cj s = _
  unfold execInternalMonitorConversion State.monitorsGo
  simp [hd, hl, hr]

end

end Sys2Proof.Machine
end

section
/-! ## Calibration and rotation of the slices (04 R127 to R135) -/

namespace Sys2Proof.Machine

section
variable {s t u : State} {n m : Ch} {g h : Grp} {k : Slice} {off gain : Int} {lin : List Int}

@[simp] theorem GrpConv.standing_turns (c : GrpConv) : c.standing.turns = c.turns := rfl
@[simp] theorem GrpConv.standing_spare (c : GrpConv) : c.standing.spare = c.spare := rfl
@[simp] theorem GrpConv.standing_inserv (c : GrpConv) : c.standing.inserv = c.inserv := rfl
@[simp] theorem GrpConv.standing_faulty (c : GrpConv) : c.standing.faulty = c.faulty := rfl
@[simp] theorem GrpConv.standing_coefOff (c : GrpConv) : c.standing.coefOff = c.coefOff := rfl
@[simp] theorem GrpConv.standing_coefGain (c : GrpConv) : c.standing.coefGain = c.coefGain := rfl

theorem State.raiseCal_logs (s : State) (g : Grp) (c : Nat) : s.logsOver (s.raiseCal g c) := raise_logs ..

theorem State.raiseCal_pending (hu : s.hostUp = true) (g : Grp) (c : Nat) : (s.raiseCal g c).pendingWith 85 c :=
  raise_pending _ _ _ _ _ _ _ hu (by decide)

/-! ### ADC_CAL (04 R133, R135) -/

/-- What the start of a calibration makes of its group's idle conversion part. -/
def GrpConv.calStartedFrom (a b : GrpConv) : Prop :=
  a.calState = 0 → b.calState = (if a.refSettled then 2 else 1) ∧ b.calDone = 0

/-- A calibration starts at once or waits for its reference; a group that runs one is left as it is. -/
theorem State.startCal_spec (s : State) (g : Grp) : (s.startCal g).noAi = s.noAi ∧
    (∀ h, h ≠ g → (s.startCal g).group h = s.group h) ∧
    (s.group g).conv.calStartedFrom ((s.startCal g).group g).conv := by
  unfold State.startCal GrpConv.calStartedFrom
  dsimp only
  split
  case isTrue hne => exact ⟨rfl, fun _ _ => rfl, fun h0 => by simp [h0] at hne⟩
  case isFalse =>
    split
    case isTrue hs =>
      set u := s.modConv g fun c => { c with calDone := 0, calFault := false, calWait := s.injMask g } with hu
      have hdeals := (u.beginCal_recast g).deals.trans ((u.beginCal g).dispatch_deals g).lasting
      have hgroup : (u.group g).conv = { (s.group g).conv with
          calDone := 0, calFault := false, calWait := s.injMask g } := by rw [hu, State.group_modConv_same]
      have hstate := congrArg GrpConv.calState hdeals.conv
      have hdone := congrArg GrpConv.calDone hdeals.conv
      simp only [GrpConv.lasting_calState, GrpConv.lasting_calDone, State.group_modConv_same, hgroup,
        GrpConv.calBegun] at hstate hdone
      refine ⟨hdeals.chan, fun h hh => ?_, fun _ => ⟨hstate, hdone⟩⟩
      rw [hdeals.group_ne h hh, State.group_modConv_ne _ _ hh, hu, State.group_modConv_ne _ _ hh]
    case isFalse hs =>
      refine ⟨rfl, fun h hh => by rw [State.group_modConv_ne _ _ hh, State.group_modConv_ne _ _ hh], fun _ => ?_⟩
      rw [State.group_modConv_same, State.group_modConv_same]
      exact ⟨rfl, rfl⟩

/-- Steps that each change their own group: each group is as its own step leaves it. -/
theorem State.each_groups {op : State → Grp → State} {P : Group → Group → Prop} {gs : List Grp}
    (hop : ∀ t g, (∀ h, h ≠ g → (op t g).group h = t.group h) ∧ P (t.group g) ((op t g).group g))
    (hnd : gs.Nodup) (s : State) : (∀ h, h ∉ gs → (s.each gs op).group h = s.group h) ∧
      ∀ g ∈ gs, P (s.group g) ((s.each gs op).group g) := by
  induction gs generalizing s with
  | nil => exact ⟨fun _ _ => rfl, by simp⟩
  | cons a gs ih =>
    obtain ⟨hag, hnd'⟩ := List.nodup_cons.mp hnd
    obtain ⟨hne, hP⟩ := hop s a
    obtain ⟨hrest, hall⟩ := ih hnd' (op s a)
    refine ⟨fun h hh => ?_, fun g hg => ?_⟩
    · rw [State.each_cons, hrest h fun e => hh (List.mem_cons_of_mem _ e), hne h fun e => hh (e ▸ List.mem_cons_self)]
    · rw [State.each_cons]
      rcases List.mem_cons.mp hg with rfl | hg'
      · rw [hrest _ hag]; exact hP
      · rw [← hne g fun e => hag (e ▸ hg')]; exact hall g hg'

theorem groupsOf_nodup (mask : Nat) : (groupsOf mask).Nodup := List.Nodup.filter _ (by decide)

theorem exec_adcCal (s : State) (c : Cmd) : exec (.adcCal c) s = .next (s.hostCmd adcCalSpec adcCalBody c) := rfl

/-- No check refuses a calibration of groups whose dies are up and whose links speak (04 R133). -/
theorem adcCalBody_ok {args : BitVec 24} (ws : List Word) (hne : groupsOf (arg args 3 0) ≠ [])
    (hg : ∀ g ∈ groupsOf (arg args 3 0), s.dieUp g = true ∧ (s.group g).link.silent = false) :
    adcCalBody .host args ws s = (s.each (groupsOf (arg args 3 0)) State.startCal, .now .ok 0 []) := by
  have hempty : (groupsOf (arg args 3 0)).isEmpty = false := by simpa using hne
  have hfailed : ((groupsOf (arg args 3 0)).any fun g => (s.group g).link.failed) = false := by
    rw [List.any_eq_false]
    intro g hmem hf
    have hup := (hg g hmem).1
    unfold State.dieUp at hup
    simp [hf] at hup
  have hbusy : ((groupsOf (arg args 3 0)).any fun g => !s.dieUp g || (s.group g).link.silent) = false := by
    rw [List.any_eq_false]
    intro g hmem
    simp [hg g hmem]
  unfold adcCalBody
  simp only [hempty, hfailed, hbusy, failIf, checked]
  rfl

/-! ### The end of a slice's calibration (04 R133 to R135) -/

theorem getLsbD_sliceBit (k : Slice) : (sliceBit k.val).getLsbD k.val = true := by revert k; decide

/-- The conversion part after a slice's calibration (04 R133). -/
def GrpConv.sliceDone (c : GrpConv) (k : Slice) (off gain : Int) (lin : List Int) : GrpConv :=
  GrpConv.recount { c with
    calDone := c.calDone ||| sliceBit k.val
    released := if c.released == some k then none else c.released
    coefOff := c.coefOff.set k.val off
    coefGain := c.coefGain.set k.val gain
    coefLin := c.coefLin.set k.val lin }

/-- s after a slice's calibration, whose run ends with the last slice. -/
def State.sliceCalibrated (s : State) (g : Grp) (k : Slice) (off gain : Int) (lin : List Int) : State :=
  let u := s.modConv g fun c => c.sliceDone k off gain lin
  if allSlices.any (u.group g).conv.todo then u else u.endCal g

theorem exec_adcCalSliceDone (hd : s.dieUp g = true) (hc : (s.group g).conv.calState = 2)
    (hw : s.calWaits g = false) (hf : (s.group g).conv.faulty.getLsbD k.val = false)
    (hdone : (s.group g).conv.calDone.getLsbD k.val = false)
    (hk : (s.group g).conv.spare.toNat = k.val ∨ (s.group g).conv.released = some k)
    (hok : sliceFails off gain = false) : exec (.adcCalSliceDone g k off gain lin) s =
      .next ((s.sliceCalibrated g k off gain lin).serveGroup g) := by
  have hguard : (!s.dieUp g || (s.group g).conv.calState != 2 || s.calWaits g || !(s.group g).conv.todo k ||
      !((s.group g).conv.spare.toNat == k.val || (s.group g).conv.released == some k)) = false := by
    have htodo : (s.group g).conv.todo k = true := by unfold GrpConv.todo; rw [hf, hdone]; rfl
    rw [hd, hc, hw, htodo]
    rcases hk with hk | hk <;> simp [hk]
  change execAdcCalSliceDone g k off gain lin s = _
  unfold execAdcCalSliceDone
  dsimp only
  rw [hguard, hok]
  rfl

theorem State.sliceCalibrated_spec (s : State) (g : Grp) (k : Slice) (off gain : Int) (lin : List Int) :
    (s.sliceCalibrated g k off gain lin).ch = s.ch ∧
    (∀ h, h ≠ g → (s.sliceCalibrated g k off gain lin).group h = s.group h) ∧
    (((s.sliceCalibrated g k off gain lin).group g).conv.coefOff = (s.group g).conv.coefOff.set k.val off ∧
      ((s.sliceCalibrated g k off gain lin).group g).conv.coefGain = (s.group g).conv.coefGain.set k.val gain ∧
      ((s.sliceCalibrated g k off gain lin).group g).conv.coefLin = (s.group g).conv.coefLin.set k.val lin) ∧
    (allSlices.any ((s.group g).conv.sliceDone k off gain lin).todo = false →
      ((s.sliceCalibrated g k off gain lin).group g).conv.calState = 0 ∧
      ((s.sliceCalibrated g k off gain lin).group g).conv.calRuns = (s.group g).conv.calRuns + 1 ∧
      (s.hostUp = true → (s.sliceCalibrated g k off gain lin).pendingWith 85 1)) := by
  unfold State.sliceCalibrated
  dsimp only
  rw [State.group_modConv_same]
  have hne : ∀ h, h ≠ g → (s.modConv g fun c => c.sliceDone k off gain lin).group h = s.group h :=
    fun h hh => State.group_modConv_ne _ _ hh
  split
  case isTrue h =>
    rw [State.group_modConv_same]
    exact ⟨rfl, hne, ⟨rfl, rfl, rfl⟩, fun e => by rw [e] at h; cases h⟩
  case isFalse =>
    unfold State.endCal
    dsimp only
    rw [State.modConv_modConv]
    generalize hf : (fun c : GrpConv => GrpConv.recount _) = f
    have hlog := (s.modConv g f).raiseCal_logs g 1
    have hpend (hu : s.hostUp = true) := State.raiseCal_pending (s := s.modConv g f) hu g 1
    rw [hlog.group, State.group_modConv_same, hlog.ch]
    refine ⟨rfl, fun h hh => ?_, ?_, fun _ => ⟨?_, ?_, hpend⟩⟩
    · rw [hlog.group, State.group_modConv_ne _ _ hh]
    all_goals subst hf
    · exact ⟨rfl, rfl, rfl⟩
    · rfl
    · rfl

/-- With every other slice done or faulty, none is left to calibrate (04 R133). -/
theorem GrpConv.sliceDone_all {c : GrpConv}
    (h : ∀ j : Slice, j = k ∨ c.calDone.getLsbD j.val = true ∨ c.faulty.getLsbD j.val = true) :
    allSlices.any (c.sliceDone k off gain lin).todo = false := by
  rw [List.any_eq_false]
  intro j _ htodo
  unfold GrpConv.todo at htodo
  simp only [Bool.and_eq_true, Bool.not_eq_true'] at htodo
  obtain ⟨hfaulty, hdone⟩ := htodo
  have hor : (c.calDone ||| sliceBit k.val).getLsbD j.val = false := hdone
  rw [BitVec.getLsbD_or, Bool.or_eq_false_iff] at hor
  rcases h j with rfl | hj | hj
  · rw [getLsbD_sliceBit] at hor; cases hor.2
  · rw [hj] at hor; cases hor.1
  · have : c.faulty.getLsbD j.val = false := hfaulty
    rw [hj] at this; cases this

theorem exec_adcCalRefTimeout (hc : (s.group g).conv.calState = 1) : exec (.adcCalRefTimeout g) s =
    .next ((s.modConv g fun c => { c with calState := 0, calOutcome := 2 }).raiseCal g 2) := by
  change execAdcCalRefTimeout g s = _
  unfold execAdcCalRefTimeout
  rw [hc]
  rfl

/-! ### A faulty slice (04 R130, 08 R265) -/

/-- What a policy fault leaves: the conversion part of a group and the calibration's event source. -/
def State.calView (g : Grp) (s : State) : GrpConv × EvState := ((s.group g).conv, s.ev.src[85])

/-- A takeover changes no conversion part. -/
theorem State.takenOver_conv (s : State) (h : Grp) (cause : Nat) (sel : Ch → Bool) :
    ((s.takenOver h cause sel).group g).conv = (s.group g).conv := by
  by_cases hg : g = h
  · subst hg
    have hgrp : (s.each (s.taken g sel) State.takeChannel).grp = s.grp :=
      State.each_keeps (op := State.takeChannel) State.grp (fun _ _ => rfl) _ _
    have hgroup : ((s.each (s.taken g sel) State.takeChannel).group g).conv = (s.group g).conv := by
      unfold State.group; rw [hgrp]
    unfold State.takenOver
    dsimp only
    split
    · rw [State.group_modGrp_same]; exact hgroup
    · rw [State.group_modGrp_same]; exact hgroup
  · obtain ⟨-, -, -, hne, -⟩ := s.takenOver_spec h cause sel
    rw [hne g hg]

theorem State.calView_congr (hc : t.group g = s.group g) (he : t.ev = s.ev) : t.calView g = s.calView g := by
  unfold State.calView; rw [hc, he]

theorem State.takeover_calView (s : State) (h : Grp) (cause : Nat) (sel : Ch → Bool) :
    (s.takeover h cause sel).calView g = s.calView g := by
  have hgroup : (s.takeover h cause sel).group g = (s.takenOver h cause sel).group g := by
    unfold State.group; rw [holds_grp (s.takeover_holds ..)]
  unfold State.calView
  rw [hgroup, State.takenOver_conv, State.takeover_ev]

theorem State.modGrp_calView (s : State) (h : Grp) {f : Group → Group} (hf : ∀ x, (f x).conv = x.conv) :
    (s.modGrp h f).calView g = s.calView g := by
  refine Prod.ext ?_ rfl
  show ((s.modGrp h f).group g).conv = (s.group g).conv
  by_cases hg : g = h
  · subst hg; rw [State.group_modGrp_same, hf]
  · rw [State.group_modGrp_ne _ _ hg]

theorem State.enterMode_calView (s : State) (m : Mode) (c : Nat) : (s.enterMode m c).calView g = s.calView g := by
  have hfok (t : State) : t.fokRefresh.calView g = t.calView g := by
    unfold State.fokRefresh
    refine State.each_keeps (State.calView g) (fun t h => ?_) allGrp t
    exact State.modGrp_calView t h fun _ => rfl
  have hraise (t : State) (a b : Nat) (p q r : Word) : (t.raise 120 a b p q r).calView g = t.calView g := by
    have hsrc : (t.raise 120 a b p q r).ev.src[85] = t.ev.src[85] :=
      State.raise_src_ne (k := 85) (j := 120) (by decide) ..
    unfold State.calView
    rw [(raise_logs ..).group, hsrc]
  unfold State.enterMode
  dsimp only
  split
  · rfl
  · rw [hraise, hfok]; exact State.calView_congr rfl rfl

/-- The part of F_OKn that goes though no channel of the group may be taken (08 R273). -/
def State.fokDrop (s : State) (x : Group) : Group :=
  { x with guard := { x.guard with fok := x.guard.fok && decide (s.fokDly ≠ 0) } }

theorem State.policyFault_calView (s : State) (sel src a b : Nat) (p q r : Word) :
    (s.policyFault sel src a b p q r).calView g = s.calView g := by
  have htake (c : Nat) : (s.takeAll c).calView g = s.calView g := by
    have hone (t : State) (h : Grp) :
        ((t.takeover h c fun _ => true).modGrp h (State.fokDrop s)).calView g = t.calView g := by
      rw [State.modGrp_calView (f := State.fokDrop s) _ _ fun _ => rfl, State.takeover_calView]
    have heach := State.each_keeps (State.calView g) hone allGrp s
    unfold State.calView State.group State.fokDrop at heach
    unfold State.calView State.group State.takeAll State.takeGroups
    dsimp only at heach ⊢
    split
    · dsimp only
      exact heach
    · exact heach
  unfold State.policyFault
  split
  · rfl
  · split
    · unfold State.calView
      rw [(recordOnly_logs ..).group, State.recordOnly_ev]
    · unfold State.safeTrigger
      split
      · rw [State.enterMode_calView, htake]
      · rw [State.enterMode_calView, htake]
      · rfl

/-- The conversion part when a slice is declared faulty (04 R130). -/
def GrpConv.without (c : GrpConv) (k : Slice) : GrpConv :=
  GrpConv.recount { c with
    faulty := c.faulty ||| sliceBit k.val, spare := 7, overlap := none, calLeft := 0
    released := if c.released == some k then none else c.released
    calFault := c.calFault || c.calState == 2 }

theorem GrpConv.without_faulty (c : GrpConv) (k : Slice) : (c.without k).faulty.getLsbD k.val = true := by
  show (c.faulty ||| sliceBit k.val).getLsbD k.val = true
  rw [BitVec.getLsbD_or, getLsbD_sliceBit, Bool.or_true]

/-- The events of a slice that fails, before the policy answers (04 R130). -/
def State.sliceFailed (s : State) (g : Grp) (k : Slice) : State :=
  let u := (s.modConv g fun c => c.without k).raiseCal g 3
  if (u.group g).conv.healthy < 4 then u.raiseCal g 4 else u

theorem State.sliceFailed_spec (s : State) (g : Grp) (k : Slice) :
    ((s.sliceFailed g k).group g).conv = (s.group g).conv.without k ∧ (s.hostUp = true →
      (s.sliceFailed g k).pendingWith 85 (if ((s.group g).conv.without k).healthy < 4 then 4 else 3)) := by
  have hlog := (s.modConv g fun c => c.without k).raiseCal_logs g 3
  have hconv : (((s.modConv g fun c => c.without k).raiseCal g 3).group g).conv = (s.group g).conv.without k := by
    rw [hlog.group, State.group_modConv_same]
  have hpend (hu : s.hostUp = true) :=
    State.raiseCal_pending (s := s.modConv g fun c => c.without k) hu g 3
  have hup : ((s.modConv g fun c => c.without k).raiseCal g 3).hostUp = s.hostUp := still_hostUp hlog.still
  unfold State.sliceFailed
  dsimp only
  generalize (s.modConv g fun c => c.without k).raiseCal g 3 = u at hconv hpend hup ⊢
  rw [hconv]
  split
  · exact ⟨by rw [(State.raiseCal_logs ..).group, hconv],
      fun hu => State.raiseCal_pending (hup.trans hu) g 4⟩
  · exact ⟨hconv, hpend⟩

/-- A slice declared faulty is out of rotation for good, and EV85 tells it (04 R130). -/
theorem State.declareFaulty_spec (s : State) (g : Grp) (k : Slice) :
    ((s.declareFaulty g k).group g).conv = (s.group g).conv.without k ∧ (s.hostUp = true →
      (s.declareFaulty g k).pendingWith 85 (if ((s.group g).conv.without k).healthy < 4 then 4 else 3)) := by
  obtain ⟨hconv, hpend⟩ := s.sliceFailed_spec g k
  have hview : (s.declareFaulty g k).calView g = (s.sliceFailed g k).calView g := by
    change (if (((s.modConv g fun c => c.without k).raiseCal g 3).group g).conv.healthy < 3 then
      (s.sliceFailed g k).policyFault 31 85 g.val 4 ((s.sliceFailed g k).convSliceW g)
        ((s.sliceFailed g k).convCalW g) 0 else s.sliceFailed g k).calView g = _
    split
    · exact State.policyFault_calView ..
    · rfl
  obtain ⟨hc, hsrc⟩ := Prod.ext_iff.mp hview
  exact ⟨hc.trans hconv, fun hu => State.pendingWith_congr hsrc (hpend hu)⟩

/-! ### SPARE_ROTATION (04 R127 to R131) -/

/-- What a turn of the spare makes of its group's conversion part, with a conversion under way or not. -/
def GrpConv.turned (a : GrpConv) (k : Slice) (off gain : Int) (busy : Prop) (b : GrpConv) : Prop :=
  b.turns = a.turns + 1 ∧ b.spare.toNat = (k.val + 1) % 5 ∧
  (a.calRo = false → b.coefOff[k.val] = stepTo a.coefOff[k.val] off 500 ∧
    b.coefGain[k.val] = stepTo a.coefGain[k.val] gain 5000) ∧
  (a.faulty = 0 → a.released = none → busy → b.inserv = 31)

theorem GrpConv.turned.standing {a b c : GrpConv} {busy : Prop} (h : a.turned k off gain busy b)
    (e : c.standing = b.standing) : a.turned k off gain busy c := by
  have hturns := congrArg GrpConv.turns e
  have hspare := congrArg GrpConv.spare e
  have hoff := congrArg GrpConv.coefOff e
  have hgain := congrArg GrpConv.coefGain e
  have hinserv := congrArg GrpConv.inserv e
  simp only [GrpConv.standing_turns, GrpConv.standing_spare, GrpConv.standing_coefOff, GrpConv.standing_coefGain,
    GrpConv.standing_inserv] at hturns hspare hoff hgain hinserv
  unfold GrpConv.turned
  rw [hturns, hspare, hoff, hgain, hinserv]
  exact h

/-- The slices that convert the calibration source after a turn, and the count of working conversions (04 R128). -/
def GrpConv.reloaded (c : GrpConv) : GrpConv :=
  { c with calLeft := if c.working < 256 then c.slots else 0, working := 0 }

/-- The next slice is the spare; the old one overlaps with it while a conversion is under way (04 R127). -/
def GrpConv.rotated (c : GrpConv) (k : Slice) (overlap : Option Nat) : GrpConv :=
  GrpConv.recount { c with turns := c.turns + 1, spare := BitVec.ofNat 3 ((k.val + 1) % 5), overlap := overlap }

theorem spareAfter_toNat (k : Slice) : (BitVec.ofNat 3 ((k.val + 1) % 5)).toNat = (k.val + 1) % 5 := by
  revert k; decide

theorem GrpConv.rotated_inserv {c : GrpConv} {o : Nat} (hf : c.faulty = 0) (hr : c.released = none) :
    (c.rotated k (some o)).inserv = 31 := by
  unfold GrpConv.rotated GrpConv.recount
  dsimp only
  rw [hf, hr]
  simp

/-- s after a turn of spare k whose correction is within its limits, before the slices are served again. -/
def State.rotatedAt (s : State) (g : Grp) (k : Slice) (off gain : Int) : State :=
  let u := (s.modConv g GrpConv.reloaded).modConv g fun c =>
    c.rotated k (if 0 < s.busyCount g then some s.time else none)
  let c := (s.group g).conv
  if c.calRo then
    if (decide (2000 < (off - c.coefOff[k.val]).natAbs) || decide (10000 < (gain - c.coefGain[k.val]).natAbs)) &&
        !c.residual.getLsbD k.val then
      let v := u.modConv g fun c => { c with residual := c.residual ||| sliceBit k.val }
      v.recordOnly 85 (BitVec.ofNat 16 g.val) (BitVec.ofNat 16 reportOnly) (v.convSliceW g) (v.convCalW g) 0
    else u
  else u.modConv g fun c => { c with
    coefOff := c.coefOff.set k.val (stepTo c.coefOff[k.val] off 500)
    coefGain := c.coefGain.set k.val (stepTo c.coefGain[k.val] gain 5000) }

/-- What a turn of spare k does. -/
def State.rotation (s : State) (g : Grp) (k : Slice) (off gain : Int) : Out :=
  .next ((if sliceFails off gain then (s.modConv g GrpConv.reloaded).declareFaulty g k
    else s.rotatedAt g k off gain).dispatch g)

theorem exec_spareRotation (hd : s.dieUp g = true) (hk : (s.group g).conv.spare.toNat = k.val)
    (hc : (s.group g).conv.calState ≠ 2) : exec (.spareRotation g off gain) s = s.rotation g k off gain := by
  have hguard : (!s.dieUp g || decide ((s.group g).conv.spare.toNat ≥ 5) ||
      (s.group g).conv.calState == 2) = false := by
    rw [hd, hk, beq_eq_false_iff_ne.mpr hc, decide_eq_false (Nat.not_le.mpr k.isLt)]
    rfl
  obtain rfl : (⟨(s.group g).conv.spare.toNat % 5, Nat.mod_lt _ (by decide)⟩ : Slice) = k :=
    Fin.ext (by rw [hk]; exact Nat.mod_eq_of_lt k.isLt)
  change execSpareRotation g off gain s = _
  unfold execSpareRotation
  dsimp only
  rw [if_neg (by rw [hguard]; exact Bool.false_ne_true)]
  unfold State.rotation State.rotatedAt
  dsimp only
  split
  · rfl
  · split
    · split
      · rfl
      · rfl
    · rfl

theorem State.rotatedAt_spec (s : State) (g : Grp) (k : Slice) (off gain : Int) :
    (s.rotatedAt g k off gain).ch = s.ch ∧ (∀ h, h ≠ g → (s.rotatedAt g k off gain).group h = s.group h) ∧
    (s.group g).conv.turned k off gain (0 < s.busyCount g) ((s.rotatedAt g k off gain).group g).conv := by
  set c := (s.group g).conv with hc
  set o := (if 0 < s.busyCount g then some s.time else none) with ho
  have hserv : c.faulty = 0 → c.released = none → 0 < s.busyCount g → (c.reloaded.rotated k o).inserv = 31 :=
    fun hf hr hb => by rw [ho, if_pos hb]; exact GrpConv.rotated_inserv hf hr
  have hne (f : GrpConv → GrpConv) (h : Grp) (hh : h ≠ g) : (s.modConv g f).group h = s.group h :=
    State.group_modConv_ne _ _ hh
  unfold State.rotatedAt
  dsimp only
  simp only [State.modConv_modConv]
  rw [← ho]
  split
  case isTrue hro =>
    have hro' {P : Prop} : c.calRo = false → P := fun e => by rw [hro] at e; cases e
    split
    · refine ⟨by rw [(recordOnly_logs ..).ch]; rfl,
        fun h hh => by rw [(recordOnly_logs ..).group]; exact hne _ h hh, ?_⟩
      rw [(recordOnly_logs ..).group, State.group_modConv_same]
      exact ⟨rfl, spareAfter_toNat k, hro', hserv⟩
    · refine ⟨rfl, hne _, ?_⟩
      rw [State.group_modConv_same]
      exact ⟨rfl, spareAfter_toNat k, hro', hserv⟩
  case isFalse =>
    refine ⟨rfl, hne _, ?_⟩
    rw [State.group_modConv_same]
    exact ⟨rfl, spareAfter_toNat k, fun _ => ⟨Vector.getElem_set_self .., Vector.getElem_set_self ..⟩, hserv⟩

end

end Sys2Proof.Machine

open Sys2Proof Sys2Proof.Machine

/-- Settles O20: each command and row changes the conversion part of its group as its lemma says, and giving the
slices out again afterwards changes which conversions they hold and nothing more. -/
theorem calibrationAndReferences : Obligations.CalibrationAndReferences := by
  unfold Obligations.CalibrationAndReferences
  refine ⟨fun s c hacc hne hg => ?adcCal, fun s g k off gain lin hd hu hcs hw hf hdone hk hok => ?sliceDone,
    fun s g hcs hu => ?refTimeout, fun s g k off gain hd hk hcs => ?rotation,
    fun s g hd hu hs hr => ⟨_, exec_refSettled hd hs hr, ?settled⟩,
    fun s g hd hu hs hf => ⟨_, exec_refinMonitorCheck hd hs hf false, ?fallsBack⟩,
    fun s g hd hu hs hf => ⟨_, exec_refinMonitorCheck hd hs hf true, ?inRange⟩,
    fun s g vf tdie cj ref hd hl hr => ⟨_, exec_internalMonitor hd hl hr, State.internalMeasured_spec ..⟩⟩
  case adcCal =>
    obtain ⟨hother, hstarts⟩ := State.each_groups (op := State.startCal)
      (P := fun a b => a.conv.calStartedFrom b.conv)
      (fun t g => ⟨(t.startCal_spec g).2.1, (t.startCal_spec g).2.2⟩)
      (groupsOf_nodup (arg c.args 3 0)) (s.received c.frame)
    have hai : ((s.received c.frame).each (groupsOf (arg c.args 3 0)) State.startCal).noAi = s.noAi :=
      (State.each_keeps State.noAi (fun t g => (t.startCal_spec g).1) _ _).trans
        (noAi_of_ch (s.received_chGrp c.frame).1)
    refine ⟨(s.received c.frame).each (groupsOf (arg c.args 3 0)) State.startCal, _, exec_adcCal s c,
      hostCmd_answers (by decide) (by decide) (by decide) (by decide) hacc (adcCalBody_ok _ hne fun g hmem => ?_),
      noAi_chan hai, fun g hmem hidle => ?_, fun g hmem => ?_⟩
    · unfold State.dieUp; rw [State.received_group]; exact hg g hmem
    · have := hstarts g hmem
      rw [State.received_group] at this
      exact this hidle
    · rw [hother g hmem, State.received_group]
  case sliceDone =>
    obtain ⟨hch, hgroup, ⟨hoff, hgain, hlin⟩, hends⟩ := s.sliceCalibrated_spec g k off gain lin
    have hdeals := (s.sliceCalibrated g k off gain lin).serveGroup_deals g
    refine ⟨_, exec_adcCalSliceDone hd hcs hw hf hdone hk hok, ?_, ?_, ?_, fun hall => ?_,
      noAi_chan (hdeals.chan.trans (noAi_of_ch hch)), fun h hh => (hdeals.group_ne h hh).trans (hgroup h hh)⟩
    all_goals generalize (s.sliceCalibrated g k off gain lin).serveGroup g = t at hdeals ⊢
    · have := congrArg GrpConv.coefOff hdeals.conv
      simp only [GrpConv.lasting_coefOff] at this
      simp [this, hoff]
    · have := congrArg GrpConv.coefGain hdeals.conv
      simp only [GrpConv.lasting_coefGain] at this
      simp [this, hgain]
    · have := congrArg GrpConv.coefLin hdeals.conv
      simp only [GrpConv.lasting_coefLin] at this
      simp [this, hlin]
    · obtain ⟨hstate, hruns, hpend⟩ := hends (GrpConv.sliceDone_all hall)
      have h1 := congrArg GrpConv.calState hdeals.conv
      have h2 := congrArg GrpConv.calRuns hdeals.conv
      simp only [GrpConv.lasting_calState, GrpConv.lasting_calRuns] at h1 h2
      exact ⟨h1.trans hstate, h2.trans hruns, State.pendingWith_congr (by rw [hdeals.ev]) (hpend hu)⟩
  case refTimeout =>
    have hlog := State.raiseCal_logs (s.modConv g fun c => { c with calState := 0, calOutcome := 2 }) g 2
    refine ⟨_, exec_adcCalRefTimeout hcs, ?_, ?_, State.raiseCal_pending (s := s.modConv g _) hu g 2,
      (State.touchesGrp_modGrp ..).trans (State.touchesGrp_of_logs hlog _ _)⟩
    · rw [hlog.group, State.group_modConv_same]
    · rw [hlog.group, State.group_modConv_same]
  case rotation =>
    refine ⟨_, exec_spareRotation hd hk hcs, fun hok => ?_, fun hbad => ?_⟩
    · obtain ⟨hch, hgroup, hturned⟩ := s.rotatedAt_spec g k off gain
      have hdeals := (s.rotatedAt g k off gain).dispatch_deals g
      rw [if_neg (by rw [hok]; exact Bool.false_ne_true)]
      obtain ⟨hturns, hspare, hcoef, hserv⟩ := hturned.standing hdeals.conv
      exact ⟨hturns, hspare, hcoef, hserv, noAi_chan (hdeals.chan.trans (noAi_of_ch hch)),
        fun h hh => (hdeals.group_ne h hh).trans (hgroup h hh)⟩
    · obtain ⟨hconv, hpend⟩ := (s.modConv g GrpConv.reloaded).declareFaulty_spec g k
      rw [if_pos hbad]
      have hdeals := ((s.modConv g GrpConv.reloaded).declareFaulty g k).dispatch_deals g
      have hfaulty := congrArg GrpConv.faulty hdeals.conv
      have hspare := congrArg GrpConv.spare hdeals.conv
      rw [hconv] at hfaulty hspare
      simp only [GrpConv.standing_faulty, GrpConv.standing_spare] at hfaulty hspare
      refine ⟨?_, hspare, fun hu => ?_⟩
      · rw [hfaulty]; exact GrpConv.without_faulty ..
      · unfold GrpConv.healthy at hpend ⊢
        rw [hfaulty]
        exact State.pendingWith_congr (by rw [hdeals.ev]) (hpend hu)
  case settled =>
    obtain ⟨hsettled, hstate, hpend, htouch⟩ := s.settleRef_spec g
    exact ⟨hsettled, hstate, hpend hu, htouch⟩
  case fallsBack =>
    obtain ⟨hconv, hpend, hvalid, htouch⟩ := State.fellBack_spec hu g
    rw [if_neg Bool.false_ne_true, hconv]
    exact ⟨rfl, rfl, rfl, hpend, hvalid, htouch⟩
  case inRange =>
    obtain ⟨hsettled, -, -, htouch⟩ := s.settleRef_spec g
    rw [if_pos rfl]
    split
    case isTrue h => exact ⟨h, State.touchesGrp_of_touches (State.touches_refl ..) _⟩
    case isFalse => exact ⟨hsettled, htouch⟩
end

section
/-! ## Conversions and their results (04 R142, R157 to R161, 05 R163 to R180) -/

namespace Sys2Proof.Machine

section
variable {s t u : State} {n p : Ch} {g : Grp} {m : ConvMeas} {x : Int} {r : ConvReq}

@[simp] theorem GrpConv.standing_injLate (c : GrpConv) : c.standing.injLate = c.injLate := rfl
@[simp] theorem GrpConv.standing_lastEv86 (c : GrpConv) : c.standing.lastEv86 = c.lastEv86 := rfl

theorem noAi_setup (e : t.noAi = s.noAi) : t.setup = s.setup := by
  funext n
  unfold State.setup
  rw [noAi_chan e n]

/-! ### What the host die takes of a result (05 R170, R180, R183) -/

/-- Every channel but for the result before, which the capture buffer compares with. -/
def State.noPrev (s : State) (n : Ch) : Channel := { s.chan n with ai := { (s.chan n).ai with prev := none } }

theorem noPrev_of_ch (e : t.ch = s.ch) : t.noPrev = s.noPrev := by unfold State.noPrev State.chan; rw [e]

theorem noPrev_noAi (e : t.noPrev = s.noPrev) : t.noAi = s.noAi :=
  funext fun n => congrArg (fun c : Channel => { c with ai := ChAi.reset }) (congrFun e n)

theorem noPrev_req (e : t.noPrev = s.noPrev) (n : Ch) : (t.chan n).ai.req = (s.chan n).ai.req := by
  show (t.noPrev n).ai.req = (s.noPrev n).ai.req
  rw [e]

theorem noPrev_busy (e : t.noPrev = s.noPrev) (n : Ch) : (t.chan n).ai.busy = (s.chan n).ai.busy := by
  show (t.noPrev n).ai.busy = (s.noPrev n).ai.busy
  rw [e]

theorem State.modAi_noPrev (s : State) (n : Ch) (d : Option (BitVec 24)) :
    (s.modAi n fun a => { a with prev := d }).noPrev = s.noPrev := by
  funext k
  unfold State.noPrev
  by_cases hk : k = n
  · subst hk; rw [State.chan_modAi_same]
  · rw [State.chan_modAi_ne _ _ hk]

theorem State.noteOvr_ch (s : State) (n : Ch) : (s.noteOvr n).ch = s.ch := by
  unfold State.noteOvr
  split
  · rfl
  · rw [(raise_logs ..).ch]

theorem State.capResult_noPrev (s : State) (n : Ch) (w stamp : Word) : (s.capResult n w stamp).noPrev = s.noPrev := by
  have hbare {t u : State} (e : t.bare = u.bare) : t.noPrev = u.noPrev := by
    funext k; unfold State.noPrev; rw [bare_chan e]
  unfold State.capResult
  dsimp only
  rw [hbare ((State.capFinish_bare _).trans (State.bare_ite (State.capTrigger_bare ..) rfl)), State.modAi_noPrev]
  split <;> rfl

theorem State.putEntry_ch (s : State) (strm : Bool) (e : QEntry) : (s.putEntry strm e).ch = s.ch :=
  view_ch (State.putEntry_view (k := 0) ⟨by decide, by decide⟩ s strm e)

theorem State.routeEntry_ch (s : State) (n : Ch) (e : QEntry) : (s.routeEntry n e).ch = s.ch := by
  unfold State.routeEntry
  dsimp only
  split
  · exact State.putEntry_ch ..
  · exact State.putEntry_ch ..
  · rfl

/-- A result that the host die takes changes its window word on the channels, and what the capture compares with. -/
theorem State.takeResult_noPrev (s : State) (n : Ch) (d : DieEntry) :
    (s.takeResult n d).noPrev = (s.setWindow n d.window).noPrev := by
  unfold State.takeResult
  dsimp only
  rw [noPrev_of_ch (State.routeEntry_ch ..)]
  have hovr : (if bit d.entry.word 25 then (s.setWindow n d.window).noteOvr n else s.setWindow n d.window).noPrev =
      (s.setWindow n d.window).noPrev := by
    split
    · exact noPrev_of_ch (State.noteOvr_ch ..)
    · rfl
  have hcap := (State.capResult_noPrev _ n d.entry.word (d.entry.stamp.getD s.stampNow)).trans hovr
  generalize State.capResult _ n d.entry.word (d.entry.stamp.getD s.stampNow) = v at hcap ⊢
  split
  · split
    · exact (noPrev_of_ch (State.putEntry_ch ..)).trans hcap
    · exact hcap
  · exact hcap

/-! ### CONVERSION_COMPLETE -/

/-- s with the slice of a conversion free again (04 R122, R127, R135). -/
def State.sliceFreed (s : State) (n : Ch) (r : ConvReq) : State :=
  (s.modAi n fun a => { a with busy := none, void := false }).modConv (grpOf n) fun c => GrpConv.recount { c with
    overlap := none
    working := c.working + 1
    calWait := if r.cls == .inj then putBit c.calWait n.val false else c.calWait }

/-- A conversion outside a cell ends with a result on an open link: the window word and a free slice. -/
theorem State.convDone_result (hj : r.job = none) (hreq : (s.chan n).ai.req = none) (hl : s.linkOpen (grpOf n) = true)
    (d : DieEntry) : (s.convDone n r (some d)).noAi = (s.setWindow n d.window).noAi ∧
    ((s.convDone n r (some d)).chan n).ai.busy = none := by
  have hopen : (s.sliceFreed n r).linkOpen (grpOf n) = true := by
    unfold State.linkOpen State.dieUp at hl ⊢
    unfold State.sliceFreed
    rw [State.group_modConv_same, State.group_modAi]
    exact hl
  have hdone : s.convDone n r (some d) = ((s.sliceFreed n r).takeResult n d).serveGroup (grpOf n) := by
    unfold State.convDone
    rw [hj]
    change ((s.sliceFreed n r).putResult n d).serveGroup (grpOf n) = _
    unfold State.putResult
    rw [if_pos hopen]
  have hprev := (s.sliceFreed n r).takeResult_noPrev n d
  have hchan : (((s.sliceFreed n r).setWindow n d.window).chan n).ai =
      { (s.chan n).ai with busy := none, void := false } := by
    unfold State.setWindow State.sliceFreed
    rw [State.chan_modCh_same, State.chan_modConv, State.chan_modAi_same]
  have hdeals := ((s.sliceFreed n r).takeResult n d).serveGroup_deals (grpOf n)
  have hnone : (((s.sliceFreed n r).takeResult n d).chan n).ai.req = none := by
    rw [noPrev_req hprev, hchan]; exact hreq
  rw [hdone]
  refine ⟨hdeals.chan.trans ((noPrev_noAi hprev).trans ?_), ?_⟩
  · funext k
    unfold State.noAi State.setWindow State.sliceFreed
    by_cases hk : k = n
    · subst hk; rw [State.chan_modCh_same, State.chan_modCh_same, State.chan_modConv, State.chan_modAi_same]
    · rw [State.chan_modCh_ne _ _ hk, State.chan_modCh_ne _ _ hk, State.chan_modConv, State.chan_modAi_ne _ _ hk]
  · rw [(hdeals.ai n).of_none hnone, noPrev_busy hprev, hchan]

/-- What may set OVR beyond a range must where it may at most (04 R150). -/
theorem overRange_must {c : ChCfg} {k : ChMode} (h : overRange c k x 4 = false) : overRange c k x 5 = false := by
  unfold overRange at h ⊢
  dsimp only at h ⊢
  generalize fullScale c k = f at h ⊢
  split
  case isTrue hs =>
    rw [if_pos hs, decide_eq_false_iff_not] at h
    rw [decide_eq_false_iff_not]
    omega
  case isFalse hs =>
    rw [if_neg hs] at h
    simp only [Bool.or_eq_false_iff, Bool.and_eq_false_iff, decide_eq_false_iff_not] at h ⊢
    obtain ⟨hhigh, hlow⟩ := h
    exact ⟨by omega, hlow.imp_right fun h => by omega⟩

/-- An input in its linear region and inside its range converts to what it measures (04 R141, R150). -/
theorem State.converted_linear (hai : (s.modeOf n).isAi = true) (ho : s.resOpen n m = false)
    (hlin : s.linear n m = true) (hq : s.quantity n m = (s, x))
    (hr : overRange (s.cfgOf n) (s.modeOf n) x 4 = false) : s.converted n m = (s, x, false, false) := by
  have hjudge : s.judgeOvr n x false = (s, false) := by
    unfold State.judgeOvr
    simp only [hr, overRange_must hr, Bool.or_self, Bool.false_eq_true, if_false]
  unfold State.converted
  simp only [hai, ho, hlin, hq, hjudge, Bool.not_true, Bool.false_eq_true, if_false, if_true]

/-- The filter of an unfiltered channel after a conversion (04 R152, R153). -/
def Filt.passed (f : Filt) : Filt :=
  { f with outs := min 3 (f.outs + 1), ovr := ageFlag f.ovr false, ovv := ageFlag f.ovv false }

theorem Filt.feed_unfiltered (f : Filt) (osr : Nat) (x : Int) :
    f.feed 0 osr x false false = (f.passed, some (x, 1, false, false)) := rfl

/-- s with channel n as an unfiltered conversion leaves it, before its slice is free. -/
def State.passed (s : State) (n : Ch) : State :=
  ((s.modAi n fun a => { a with ovv := false }).modAi n fun a => { a with filt := (s.chan n).ai.filt.passed }).modIn n
    fun i => { i with valid := true }

/-- The result word of an unfiltered conversion (04 R142, 05 R163, R165). -/
def State.codeWord (s : State) (n : Ch) (x : Int) : Word :=
  resultW n.val false false (alignCode (fld s.res.cfg 31 30 == 1) 18
    (codeOf (signedForm (s.cfgOf n) (s.modeOf n)) 18 x (fullScale (s.cfgOf n) (s.modeOf n))))

/-- A result outside a cell. -/
def plainEntry (r : ConvReq) (w : Word) : DieEntry :=
  { entry := { cls := r.cls, word := w, stamp := some r.stamp, src := 0 }, window := w, late := none, cell := 0 }

theorem State.outputData_code (hai : (s.modeOf n).isAi = true) (ho : (s.cfgOf n).osr = 1) :
    resultW n.val false false (s.outputData n x 1) = s.codeWord n x := by
  unfold State.outputData State.codeWord
  simp only [hai, ho, if_true, Nat.one_mul]

theorem exec_conversionComplete (hb : (s.chan n).ai.busy = some r) (hv : (s.chan n).ai.void = false)
    (hc : s.canConvert n = true) (hs : (s.group (grpOf n)).conv.refSettled = true)
    (hai : (s.modeOf n).isAi = true) (hconv : s.converted n m = (s, x, false, false))
    (hn : fld (s.cfgOf n).aiFilt 29 28 = 0) (hf : (s.cfgOf n).ftype = 0) (ho : (s.cfgOf n).osr = 1) :
    exec (.conversionComplete n m) s = .next ((s.passed n).convDone n r (some (plainEntry r (s.codeWord n x)))) := by
  have hset (f : ChAi → ChAi) : (s.modAi n f).setup = s.setup := noAi_setup (s.modAi_noAi n f)
  have hnotch : (s.modAi n fun a => { a with ovv := false }).notch n x =
      (s.modAi n fun a => { a with ovv := false }, x) := by
    unfold State.notch
    rw [setup_cfgOf (hset _), if_pos hn]
  have hdata : resultW n.val false false (((s.modAi n fun a => { a with ovv := false }).modAi n fun a => { a with
      filt := (s.chan n).ai.filt.passed }).outputData n x 1) = s.codeWord n x := by
    have hsetup := noAi_setup (((s.modAi n fun a => { a with ovv := false }).modAi_noAi n fun a => { a with
      filt := (s.chan n).ai.filt.passed }).trans (s.modAi_noAi n _))
    rw [State.outputData_code ((congrArg ChMode.isAi (setup_modeOf hsetup n)).trans hai)
      ((congrArg ChCfg.osr (setup_cfgOf hsetup n)).trans ho)]
    unfold State.codeWord
    rw [setup_cfgOf hsetup, setup_modeOf hsetup]
    rfl
  change execConversionComplete n m s = _
  unfold execConversionComplete
  rw [hb]
  dsimp only
  rw [if_neg (by rw [hv]; exact Bool.false_ne_true), if_neg (by rw [hc, hs]; decide), hconv]
  dsimp only
  rw [Bool.false_and, if_neg Bool.false_ne_true, hnotch]
  dsimp only
  rw [State.chan_modAi_same, hf, Filt.feed_unfiltered]
  dsimp only
  rw [hdata]
  rfl

theorem State.passed_spec (s : State) (n : Ch) : ((s.passed n).chan n).inp.valid = true ∧
    ((s.passed n).chan n).ai.req = (s.chan n).ai.req ∧ (s.passed n).linkOpen (grpOf n) = s.linkOpen (grpOf n) ∧
    ∀ k, k ≠ n → (s.passed n).chan k = s.chan k := by
  unfold State.passed
  rw [State.chan_modIn_same, State.chan_modAi_same, State.chan_modAi_same]
  exact ⟨rfl, rfl, rfl, fun k hk => by
    rw [State.chan_modIn_ne _ _ hk, State.chan_modAi_ne _ _ hk, State.chan_modAi_ne _ _ hk]⟩

/-! ### The free rate and injections (04 R157 to R161) -/

theorem exec_freeRateConversion (hc : s.canConvert n = true) (hsch : s.schedNow n = false)
    (ht : fld (s.cfgOf n).aiTrig 31 30 = 0) (hr : (s.chan n).ai.req = none) (hb : (s.chan n).ai.busy = none)
    (hp : s.paused n .free = false) : exec (.freeRateConversion n) s = .next (s.startConv n .free s.stampNow none) := by
  change execFreeRateConversion n s = _
  unfold execFreeRateConversion
  rw [if_pos (by simp [hc, hsch, ht, hr, hb]), if_neg (by rw [hp]; exact Bool.false_ne_true)]

/-- An injection trigger leaves an injection waiting, and one that still waited is counted (04 R161). -/
theorem State.inject_spec (hp : s.paused n .inj = false) : ((s.inject n).chan n).ai.inj = some s.stampNow ∧
    ((s.chan n).ai.inj.isSome = true →
      ((s.inject n).group (grpOf n)).conv.injDrop = satInc (s.group (grpOf n)).conv.injDrop) ∧
    s.touchesGrp (s.inject n) [n] [grpOf n] := by
  unfold State.inject
  rw [if_neg (by rw [hp]; exact Bool.false_ne_true)]
  dsimp only
  rw [State.chan_modAi_same, State.group_modAi]
  split
  case isTrue =>
    rw [State.group_modConv_same]
    exact ⟨rfl, fun _ => rfl,
      (State.touchesGrp_modGrp ..).trans (State.touchesGrp_of_touches (State.touches_of_modCh ..) _)⟩
  case isFalse h =>
    exact ⟨rfl, fun hi => by simp [hi] at h, State.touchesGrp_of_touches (State.touches_of_modCh ..) _⟩

theorem exec_injectTimer (hc : s.canConvert n = true) (hsch : s.schedNow n = false)
    (ht : fld (s.cfgOf n).aiTrig 31 30 = 1) : exec (.injectTimer n) s = .next (s.inject n) := by
  change execInjectTimer n s = _
  unfold execInjectTimer
  rw [if_pos (by simp [hc, hsch, ht])]

theorem exec_injectPwmEdge (hc : s.canConvert n = true) (hsch : s.schedNow n = false)
    (ht : fld (s.cfgOf n).aiTrig 31 30 = 2) (hsrc : p = chNo (fld (s.cfgOf n).aiTrig 27 23))
    (hm : (s.modeOf p).isSwitch = true) (hw : (s.cfgOf p).pwm = true) (hon : (s.chan p).out.ps.isOn = true)
    (h0 : (s.chan p).out.duty ≠ 0) (h1 : (s.chan p).out.duty ≠ 10000) :
    exec (.injectPwmEdge n) s = .next (s.inject n) := by
  subst hsrc
  change execInjectPwmEdge n s = _
  unfold execInjectPwmEdge
  dsimp only
  rw [if_pos (by rw [hc, hsch, ht, hm, hw, hon, bne_iff_ne.mpr h0, bne_iff_ne.mpr h1]; rfl)]

/-- An injection beyond the reserve is counted, with EV86 where one may come again (04 R161). -/
theorem State.noteLateInj_spec (s : State) (g : Grp) : (s.noteLateInj g).ch = s.ch ∧
    (∀ h, h ≠ g → (s.noteLateInj g).group h = s.group h) ∧
    ((s.noteLateInj g).group g).conv.injLate = satInc (s.group g).conv.injLate ∧
    (s.hostUp = true → s.spaced (s.group g).conv.lastEv86 (10 * milli) = true →
      (s.noteLateInj g).pendingWith 86 1) := by
  have hne (f : GrpConv → GrpConv) (h : Grp) (hh : h ≠ g) : (s.modConv g f).group h = s.group h :=
    State.group_modConv_ne _ _ hh
  unfold State.noteLateInj
  dsimp only
  split
  case isTrue =>
    generalize hlate : (s.modConv g fun c => { c with injLate := satInc c.injLate }) = v
    have hlog := raise_logs v 86 g.val 1 (v.convInjCntW g) 0 0
    have hpend (hu : v.hostUp = true) := raise_pending v 86 g.val 1 (v.convInjCntW g) 0 0 hu (by decide)
    generalize v.raise 86 g.val 1 (v.convInjCntW g) 0 0 = w at hlog hpend ⊢
    subst hlate
    refine ⟨hlog.ch, fun h hh => ?_, ?_, fun hu _ => hpend hu⟩
    · rw [State.group_modConv_ne _ _ hh, hlog.group, hne _ h hh]
    · rw [State.group_modConv_same, hlog.group, State.group_modConv_same]
  case isFalse h =>
    rw [State.group_modConv_same] at h ⊢
    exact ⟨rfl, hne _, rfl, fun _ hs => absurd hs h⟩

/-- s with a waiting injection held by its channel, before its conversion is asked for (04 R160). -/
def State.injHeld (s : State) (n : Ch) : State :=
  (s.modAi n fun a => { a with inj := none }).modConv (grpOf n) fun c => { c with
    injTimes := s.recentInj (grpOf n) ++ [s.time] }

theorem State.holdInj_eq (s : State) (n : Ch) : s.holdInj n =
    if s.injReserve (grpOf n) ≤ (s.recentInj (grpOf n)).length then
      ((s.injHeld n).startConv n .inj s.stampNow none).noteLateInj (grpOf n)
    else (s.injHeld n).startConv n .inj s.stampNow none := by
  unfold State.holdInj State.injHeld
  dsimp only
  simp only [decide_eq_true_eq]

theorem exec_injectHold (hc : s.canConvert n = true) (hsch : s.schedNow n = false)
    (hi : (s.chan n).ai.inj.isSome = true) (hw : s.convWaits n = false) :
    exec (.injectHold n) s = .next (s.holdInj n) := by
  change execInjectHold n s = _
  unfold execInjectHold
  rw [if_pos (by simp [hc, hsch, hi, hw])]

/-- An injection whose delay has passed holds its channel, and one beyond the reserve is late (04 R160, R161). -/
theorem State.holdInj_spec (s : State) (n : Ch) : ((s.holdInj n).chan n).ai.inj = none ∧
    (∀ r : ConvReq, r = { cls := .inj, stamp := s.stampNow, job := none } →
      ((s.holdInj n).chan n).ai.req = some r ∨ ((s.holdInj n).chan n).ai.busy = some r) ∧
    (s.injReserve (grpOf n) ≤ (s.recentInj (grpOf n)).length →
      ((s.holdInj n).group (grpOf n)).conv.injLate = satInc (s.group (grpOf n)).conv.injLate ∧
      (s.hostUp = true → s.spaced (s.group (grpOf n)).conv.lastEv86 (10 * milli) = true →
        (s.holdInj n).pendingWith 86 1)) ∧
    (s.holdInj n).noAi = s.noAi ∧ ∀ g, g ≠ grpOf n → (s.holdInj n).group g = s.group g := by
  have hnone : ((s.injHeld n).chan n).ai.inj = none := by
    unfold State.injHeld; rw [State.chan_modConv, State.chan_modAi_same]
  have hheld : (s.injHeld n).noAi = s.noAi := (noAi_of_ch rfl).trans (s.modAi_noAi n fun a => { a with inj := none })
  have hgrp : (s.injHeld n).group (grpOf n) = { s.group (grpOf n) with conv := { (s.group (grpOf n)).conv with
      injTimes := s.recentInj (grpOf n) ++ [s.time] } } := by
    unfold State.injHeld; rw [State.group_modConv_same, State.group_modAi]
  have hne (g : Grp) (hg : g ≠ grpOf n) : (s.injHeld n).group g = s.group g := by
    unfold State.injHeld; rw [State.group_modConv_ne _ _ hg, State.group_modAi]
  have hinj := (s.injHeld n).startConv_inj n .inj s.stampNow none
  have hasks := (s.injHeld n).startConv_asks n (r := { cls := .inj, stamp := s.stampNow, job := none })
    fun e => by cases e
  obtain ⟨hrest, hchan, hgroup, hstand⟩ := (s.injHeld n).startConv_frame n .inj s.stampNow none
  have hlate := congrArg GrpConv.injLate hstand
  have hlast := congrArg GrpConv.lastEv86 hstand
  have htime : ((s.injHeld n).startConv n .inj s.stampNow none).time = s.time := by
    rw [hrest]; rfl
  have hup := still_hostUp (rest_still (congrArg State.rest hrest))
  rw [hgrp] at hlate hlast
  simp only [GrpConv.standing_injLate, GrpConv.standing_lastEv86] at hlate hlast
  rw [State.holdInj_eq]
  generalize (s.injHeld n).startConv n .inj s.stampNow none = u at hinj hasks hchan hgroup hlate hlast htime hup ⊢
  have hgroups (g : Grp) (hg : g ≠ grpOf n) : u.group g = s.group g := (hgroup g hg).trans (hne g hg)
  split
  case isTrue =>
    obtain ⟨hch, hother, hcount, hpend⟩ := u.noteLateInj_spec (grpOf n)
    have hkeep : (u.noteLateInj (grpOf n)).chan n = u.chan n := by unfold State.chan; rw [hch]
    rw [hkeep]
    refine ⟨hinj.trans hnone, fun r hr => hr ▸ hasks, fun _ => ⟨?_, fun hu hs => ?_⟩,
      (noAi_of_ch hch).trans (hchan.trans hheld), fun g hg => (hother g hg).trans (hgroups g hg)⟩
    · rw [hcount, hlate]
    · refine hpend (hup.trans hu) ?_
      unfold State.spaced at hs ⊢
      rw [hlast, htime]
      exact hs
  case isFalse h =>
    exact ⟨hinj.trans hnone, fun r hr => hr ▸ hasks, fun hr => absurd hr h, hchan.trans hheld, hgroups⟩

theorem exec_nonanalogueResultTick (hm : (s.modeOf n).isNonAnalogue = true) (hsch : s.schedNow n = false)
    (ho : s.isOdd n = false) (hs : s.supplied n = true) (hl : s.linkOpen (grpOf n) = true) :
    exec (.nonanalogueResultTick n) s =
      .next (s.setWindow n (s.windowOf n (resultW n.val false false (s.plainData n)))) := by
  change execNonanalogueResultTick n s = _
  unfold execNonanalogueResultTick State.putWindowOnly
  rw [if_pos (by simp [hm, hsch, ho, hs]), if_pos hl]

end

end Sys2Proof.Machine
end

section
open Sys2Proof Sys2Proof.Machine

/-- Settles O21: a conversion ends in a result that the host die takes, whose other effects on the channels are
conversion parts; asking for one changes the conversion parts of its group alone. -/
theorem conversions : Obligations.Conversions := by
  unfold Obligations.Conversions
  refine ⟨fun s n m x r hb hv hj hr hc hs hai ho hlin hq hrange hn hf hosr hl => ?complete,
    fun s n r hc hsch ht hreq hb hp hr => ?free,
    fun s n hc hsch ht hp => ⟨_, exec_injectTimer hc hsch ht, State.inject_spec hp⟩,
    fun s n p hc hsch ht hsrc hm hw hon h0 h1 hp => ?edge,
    fun s n r hc hsch hi hw hu hr => ?hold,
    fun s n hm hsch ho hs hl => ⟨_, exec_nonanalogueResultTick hm hsch ho hs hl, ?tick⟩⟩
  case complete =>
    obtain ⟨hvalid, hreq, hopen, hother⟩ := s.passed_spec n
    obtain ⟨hai', hbusy⟩ := State.convDone_result hj (hreq.trans hr) (hopen.trans hl) (plainEntry r (s.codeWord n x))
    refine ⟨_, exec_conversionComplete hb hv hc hs hai (State.converted_linear hai ho hlin hq hrange) hn hf hosr,
      ?_, hbusy, ?_, fun k hk => ?_⟩
    · rw [noAi_chan hai' n]
      unfold State.setWindow
      rw [State.chan_modCh_same]
      exact hvalid
    · rw [noAi_chan hai' n]
      unfold State.setWindow
      rw [State.chan_modCh_same]
      rfl
    · have := noAi_chan hai' k
      unfold State.setWindow at this
      rwa [State.chan_modCh_ne _ _ hk, hother k hk] at this
  case free =>
    subst hr
    obtain ⟨hrest, hchan, hgroup, -⟩ := s.startConv_frame n .free s.stampNow none
    have hasks := s.startConv_asks n (r := { cls := .free, stamp := s.stampNow, job := none }) fun _ => rfl
    exact ⟨_, exec_freeRateConversion hc hsch ht hreq hb hp, hasks, hrest, noAi_chan hchan, hgroup⟩
  case edge =>
    obtain ⟨hinj, -, htouch⟩ := State.inject_spec hp
    exact ⟨_, exec_injectPwmEdge hc hsch ht hsrc hm hw hon h0 h1, hinj, htouch⟩
  case hold =>
    obtain ⟨hinj, hasks, hlate, hchan, hgroup⟩ := s.holdInj_spec n
    refine ⟨_, exec_injectHold hc hsch hi hw, hinj, hasks r hr, fun hres => ?_, noAi_chan hchan, hgroup⟩
    obtain ⟨hcount, hpend⟩ := hlate hres
    exact ⟨hcount, hpend hu⟩
  case tick =>
    unfold State.setWindow
    refine ⟨?_, fun m hm => State.chan_modCh_ne _ _ hm⟩
    rw [State.chan_modCh_same]
    unfold State.windowOf
    dsimp only
    congr 1
    by_cases hcnt : s.modeOf n = .count
    · rw [if_pos hcnt, if_pos (by rw [hcnt]; rfl)]
    · rw [if_neg hcnt, if_neg (by simpa using hcnt)]
end

section
/-! ## The capture commands (05 R183, R185) -/

namespace Sys2Proof.Machine

section
variable {s : State} {c : Cmd}

/-- Taking the last frame of a message leaves the results (10 R317, R324). -/
theorem State.received_res (s : State) (f : Frame) : (s.received f).res = s.res := by
  unfold State.received State.supersede State.accept State.wake
  dsimp only
  split <;> split <;> rfl

/-- Whether a channel can trigger the capture depends on the channels and the capture alone (05 R184). -/
theorem State.received_triggerFits (s : State) (f : Frame) : (s.received f).triggerFits = s.triggerFits := by
  unfold State.triggerFits State.modeOf
  simp only [State.received_res, State.received_chan, State.received_isOdd]

/-- A selector that a row puts in ARGS reads as the row's own (log entry 25). -/
theorem arg_stopFlag (a : BitVec 24) (v : Nat) : arg (withArg a 0 0 v) 0 0 = v % 2 :=
  arg_withArg a 0 0 v (by decide) (by decide)

/-- No check refuses an arming whose trigger can come and whose pre-trigger has a place (05 R183). -/
theorem captureArmBody_arms {a : BitVec 24} (ws : List Word) (ha : arg a 0 0 = 0) (ht : fld s.res.cap.cfg 29 27 ≠ 0)
    (hp : s.res.cap.ring = false → fld s.res.cap.cfg 16 9 = 0) (hf : s.triggerFits = true) :
    captureArmBody .host a ws s = (s.armCapture, .now .ok 0 [s.armCapture.capStatW]) := by
  have hpre : (!s.res.cap.ring && fld s.res.cap.cfg 16 9 != 0) = false := by
    cases hr : s.res.cap.ring
    · simp [hp hr]
    · rfl
  have hnow : (s.res.cap.ring && fld s.res.cap.cfg 29 27 == 0) = false := by simp [ht]
  unfold captureArmBody checked
  simp only [ha, hpre, hnow, hf, failIf]
  rfl

/-- Arming with a trigger source that gives its trigger later empties the buffer and waits (05 R183). -/
theorem State.armCapture_waits (ht : fld s.res.cap.cfg 29 27 ≠ 0) : s.armCapture =
    { s with res.cap := { s.res.cap with
      state := .armed, wrapped := false, words := [], toGo := 0, tidx := 0, tstamp := 0 } } := if_neg ht

theorem captureArmBody_stops {a : BitVec 24} (ws : List Word) (ha : arg a 0 0 = 1) :
    captureArmBody .host a ws s =
      ({ s with res.cap.state := .idle }, .now .ok 0 [({ s with res.cap.state := .idle } : State).capStatW]) :=
  if_pos ha

/-- A capture that is not running is read from an index within its words (05 R185). -/
theorem captureReadBody_reads {a : BitVec 24} {i n : Word} (hlo : 1 ≤ n.toNat) (hhi : n.toNat ≤ 1024)
    (harm : s.res.cap.state ≠ .armed) (htrig : s.res.cap.state ≠ .triggered)
    (hi : i.toNat < s.res.cap.words.length) : captureReadBody .host a [i, n] s =
      (s, .now .ok 0 (BitVec.ofNat 32 ((s.res.cap.words.drop i.toNat).take n.toNat).length ::
        (s.res.cap.words.drop i.toNat).take n.toNat)) := by
  have hcount : outside (wAt [i, n] 1).toNat 1 1024 = false :=
    decide_eq_false (by change ¬(n.toNat < 1 ∨ 1024 < n.toNat); omega)
  have hbusy : (s.res.cap.state == .armed || s.res.cap.state == .triggered) = false := by simp [harm, htrig]
  have hin : decide (s.res.cap.words.length ≤ (wAt [i, n] 0).toNat) = false := decide_eq_false (Nat.not_le.mpr hi)
  unfold captureReadBody checked
  simp only [hcount, hbusy, hin, failIf]
  rfl

end

end Sys2Proof.Machine

open Sys2Proof Sys2Proof.Machine

/-- Settles O22: each row answers what its body does to a capture that no check refuses. -/
theorem captureCommands : Obligations.CaptureCommands := by
  unfold Obligations.CaptureCommands
  refine ⟨fun s c ha ht hp hf => ?arm, fun s c ha => ?stop, fun s c i n ha hw hlo hhi harm htrig hi => ?read⟩
  case arm =>
    refine ⟨_, _, rfl, hostCmd_answers (by decide) (by decide) (by decide) (by decide) ha
      (captureArmBody_arms _ (arg_stopFlag ..) ?_ ?_ ?_), ?_⟩
    · rwa [State.received_res]
    · rwa [State.received_res]
    · rwa [State.received_triggerFits]
    · rw [State.armCapture_waits (by rwa [State.received_res])]
      simp only [State.received_res]
  case stop =>
    exact ⟨_, _, rfl, hostCmd_answers (by decide) (by decide) (by decide) (by decide) ha
      (captureArmBody_stops _ (arg_stopFlag ..)), rfl⟩
  case read =>
    refine ⟨_, rfl, hostCmd_answers (by decide) (by decide) (by decide) (by decide) ha ?_⟩
    have hres := s.received_res c.frame
    rw [hw, captureReadBody_reads hlo hhi (by rwa [hres]) (by rwa [hres]) (by rwa [hres]), hres]
end

section
/-! ## Window reads and stream credit (05 R178, 10 R328 to R332) -/

namespace Sys2Proof.Machine

section
variable {s : State} {q : BitVec 8} {a : BitVec 6} {n : BitVec 7}

/-! ### The frame is whole -/

/-- Taking a whole frame changes the timers, the mode of a dozing module and the receive state alone (10 R324). -/
theorem State.accept_keeps (s : State) : s.accept.ch = s.ch ∧ s.accept.comb = s.comb ∧ s.accept.ev = s.ev ∧
    s.accept.res = s.res ∧ s.accept.sec = s.sec ∧ s.accept.posHiW = s.posHiW := by
  unfold State.accept State.wake
  dsimp only
  split <;> exact ⟨rfl, rfl, rfl, rfl, rfl, rfl⟩

/-- The first frame of an exchange under no busy word is taken when its header is well formed (10 R315, R323). -/
theorem State.frameIn_first {cs1 : Bool} (hsel : s.port.sel = some cs1) (hrx : s.port.rx = .hunt)
    (hb : s.port.busy = false) (h : Word) :
    s.frameIn h = if hostHeaderOk cs1 h then (s.accept, true) else (s.rejectHdr h, false) := by
  unfold State.frameIn
  rw [hsel, hrx]
  simp only [hb]
  rfl

/-- The header of a WINRD is that of a host frame on H_CS0n and on no other select, and of no message (10 R315). -/
theorem winrdHeader (q : BitVec 8) : hostHeaderOk false (headerW 5 0 true q 1) = true ∧
    hostHeaderOk true (headerW 5 0 true q 1) = false ∧ fld (headerW 5 0 true q 1) 31 28 = 5 := by
  revert q; decide +kernel

theorem creditHeader : hostHeaderOk true (headerW 8 3 true 0 1) = true := by decide +kernel

/-- A discarded frame that carries no part of a message loses none (10 R317). -/
theorem State.lostFrame_of_type {h : Word} (h1 : fld h 31 28 ≠ 1) (h7 : fld h 31 28 ≠ 7) : s.lostFrame h = s := by
  unfold State.lostFrame messageOf
  simp [h1, h7]

/-! ### WINRD -/

theorem exec_winrd_cs0 (ho : s.portOpen = true) (hsel : s.port.sel = some false) (hrx : s.port.rx = .hunt)
    (hb : s.port.busy = false) : exec (.winrd q a n) s = .next (s.accept.readWindow q a n) := by
  change execWinrd q a n s = _
  unfold execWinrd
  rw [State.frameIn_first hsel hrx hb, (winrdHeader q).1, ho]
  rfl

theorem exec_winrd_cs1 (ho : s.portOpen = true) (hsel : s.port.sel = some true) (hrx : s.port.rx = .hunt)
    (hb : s.port.busy = false) : exec (.winrd q a n) s = .next (s.rejectHdr (headerW 5 0 true q 1)) := by
  change execWinrd q a n s = _
  unfold execWinrd
  rw [State.frameIn_first hsel hrx hb, (winrdHeader q).2.1, ho]
  rfl

/-- A window read answers with its response and its shadow and changes nothing else (10 R329). -/
theorem State.readWindow_keeps (s : State) (q : BitVec 8) (a : BitVec 6) (n : BitVec 7) :
    ∃ w sh l, s.readWindow q a n = { s with port := { s.port with winRsp := w, shadow := sh, lgen := l } } := by
  unfold State.readWindow
  dsimp only
  split
  · exact ⟨_, _, _, rfl⟩
  split
  · exact ⟨_, _, _, rfl⟩
  split
  · split <;> exact ⟨_, _, _, rfl⟩
  · exact ⟨_, _, _, rfl⟩

/-- Outside the 64 words a read is answered with ERR and no words (10 R329). -/
theorem State.readWindow_outside (h : n = 0 ∨ 64 < a.toNat + n.toNat) : (s.readWindow q a n).port.winRsp =
    some (q, [winWord true false s.comb.cgen s.port.lgen a n]) := by
  have hout : n.toNat = 0 ∨ 64 < a.toNat + n.toNat := h.imp_left fun e => by rw [e]; rfl
  unfold State.readWindow
  dsimp only
  rw [if_pos hout]

/-- The words of a window read at one instant (10 R329). -/
def State.windowWords (s : State) (a : BitVec 6) (n : BitVec 7) : List Word :=
  ((List.range n.toNat).map (a.toNat + ·)).map s.windowW

theorem within_window (h0 : n ≠ 0) (hin : a.toNat + n.toNat ≤ 64) : ¬(n.toNat = 0 ∨ 64 < a.toNat + n.toNat) := by
  rintro (hz | hz)
  · exact h0 (BitVec.eq_of_toNat_eq hz)
  · omega

/-- A read that covers COMB_POS_LO latches COMB_POS_HI with its generation (10 R331, R332). -/
theorem State.readWindow_latches (h0 : n ≠ 0) (hin : a.toNat + n.toNat ≤ 64) (hlo : a.toNat ≤ 0x30)
    (hhi : 0x30 < a.toNat + n.toNat) : s.readWindow q a n =
    { s with
      port.shadow := some s.posHiW
      port.lgen := s.comb.cgen
      port.winRsp := some (q, winWord false false s.comb.cgen s.comb.cgen a n :: s.windowWords a n) } := by
  unfold State.readWindow
  dsimp only
  rw [if_neg (within_window h0 hin), if_pos (decide_eq_true ⟨hlo, hhi⟩)]
  rfl

/-- A read that covers neither half of the position leaves the shadow (10 R332). -/
theorem State.readWindow_apart (h0 : n ≠ 0) (hin : a.toNat + n.toNat ≤ 64)
    (hap : a.toNat + n.toNat ≤ 0x30 ∨ 0x31 < a.toNat) : s.readWindow q a n =
    { s with port.winRsp := some (q, winWord false false s.comb.cgen s.port.lgen a n :: s.windowWords a n) } := by
  have hlo : decide (a.toNat ≤ 0x30 ∧ 0x30 < a.toNat + n.toNat) = false := decide_eq_false (by omega)
  have hhi : decide (a.toNat ≤ 0x31 ∧ 0x31 < a.toNat + n.toNat) = false := decide_eq_false (by omega)
  unfold State.readWindow
  simp only [if_neg (within_window h0 hin), hlo, hhi]
  cases s.port.shadow <;> rfl

/-! ### CREDIT -/

/-- A grant adds to the stream credit, which stops at its maximum (05 R178). -/
def State.granted (s : State) (grant : BitVec 24) : State :=
  { s with res.credit := BitVec.ofNat 24 (min (s.res.credit.toNat + grant.toNat) 0xFFFFFF) }

theorem exec_credit_cs1 (ho : s.portOpen = true) (hf : s.feat 6 = true) (hsel : s.port.sel = some true)
    (hrx : s.port.rx = .hunt) (hb : s.port.busy = false) (grant : BitVec 24) :
    exec (.credit grant) s = .next (s.accept.granted grant) := by
  obtain ⟨-, -, -, -, hsec, -⟩ := s.accept_keeps
  have hf' : s.accept.feat 6 = true := by unfold State.feat at *; rwa [hsec]
  change execCredit grant s = _
  unfold execCredit
  rw [State.frameIn_first hsel hrx hb, creditHeader, ho]
  simp only [if_true, hf']
  rfl

end

end Sys2Proof.Machine

open Sys2Proof Sys2Proof.Machine

/-- Settles O35: a WINRD on H_CS0n is taken and read at its instant, on H_CS1n its header is malformed; a CREDIT on
H_CS1n is taken and granted. -/
theorem windowAndCredit : Obligations.WindowAndCredit := by
  unfold Obligations.WindowAndCredit
  refine ⟨fun s q a n ho hsel hrx hb => ?read, fun s q a n ho hsel hrx hb => ?malformed,
    fun s grant ho hf hsel hrx hb => ?credit⟩
  case read =>
    obtain ⟨hch, hcomb, hev, -, -, hpos⟩ := s.accept_keeps
    obtain ⟨w, sh, l, he⟩ := s.accept.readWindow_keeps q a n
    refine ⟨_, exec_winrd_cs0 ho hsel hrx hb, ?_, ?_, ?_, ?_, fun hout => ?_, fun h0 hin hlo hhi => ?_,
      fun h0 hin hap => ?_⟩
    · rw [he]; exact hch
    · rw [he]; exact hcomb
    · rw [he]; exact hev
    · rw [he, State.accept_port]
    · rw [State.readWindow_outside hout, hcomb, State.accept_port]
    · rw [State.readWindow_latches h0 hin hlo hhi, hcomb, hpos]
      exact ⟨rfl, rfl, rfl⟩
    · rw [State.readWindow_apart h0 hin hap, hcomb, State.accept_port]
      exact ⟨rfl, rfl⟩
  case malformed =>
    have htype := (winrdHeader q).2.2
    refine ⟨_, exec_winrd_cs1 ho hsel hrx hb, ?_⟩
    unfold State.rejectHdr
    rw [State.lostFrame_of_type (by rw [htype]; decide) (by rw [htype]; decide)]
    exact ⟨rfl, rfl, rfl, rfl⟩
  case credit =>
    obtain ⟨-, -, -, hres, -, -⟩ := s.accept_keeps
    refine ⟨_, exec_credit_cs1 ho hf hsel hrx hb grant, ?_, ?_⟩
    · unfold State.granted
      rw [hres]
      exact Nat.mod_eq_of_lt (by omega)
    · unfold State.granted
      simp only [hres]
end

section
/-! ## Exchanges of the host port (05 R178, 10 R313 to R323, 11 R335, R337) -/

namespace Sys2Proof.Machine

section
variable {s t : State} {cs1 : Bool}

/-! ### The choice of a frame -/

/-- The frame of an exchange (10 R318, 05 R178). -/
def State.chooseFrame (s : State) (cs1 : Bool) : State × List TxItem := if cs1 then s.chooseCs1 else s.chooseCs0

/-- What the choice of a frame leaves: the channels and the selects. -/
def State.selects (s : State) : Vector Channel 32 × BitVec 2 × PortCounters := (s.ch, s.port.csLow, s.port.cnt)

theorem State.chooseReport_selects (s : State) (cs1 : Bool) : (s.chooseReport cs1).1.selects = s.selects := by
  unfold State.chooseReport
  split
  · rfl
  · split <;> rfl

theorem State.afterTake_keeps (s : State) (strm : Bool) : (s.afterTake strm).selects = s.selects ∧
    (s.afterTake strm).res.credit = s.res.credit ∧ (s.afterTake strm).res.strm.entries = s.res.strm.entries := by
  unfold State.afterTake State.settlePause
  cases strm
  · dsimp only
    split <;> exact ⟨rfl, rfl, rfl⟩
  · dsimp only
    split <;> exact ⟨rfl, rfl, rfl⟩

theorem State.chooseEvt_selects {x : State × TxItem} (h : s.chooseEvt = some x) : x.1.selects = s.selects := by
  unfold State.chooseEvt at h
  split at h
  · cases h; rfl
  · split at h
    · cases h
    · cases h; rfl

theorem State.chooseCs0_selects (s : State) : s.chooseCs0.1.selects = s.selects := by
  unfold State.chooseCs0
  split
  · rfl
  split
  · rename_i he
    split
    · exact State.chooseEvt_selects he
    · rfl
  · rfl
  · rename_i he
    exact State.chooseEvt_selects he
  · split <;> rfl

theorem State.chooseCs1_selects (s : State) : s.chooseCs1.1.selects = s.selects := by
  unfold State.chooseCs1
  split
  · rfl
  · rfl
  · dsimp only
    split
    · rfl
    · exact (State.afterTake_keeps _ _).1

theorem State.chooseFrame_selects (s : State) (cs1 : Bool) : (s.chooseFrame cs1).1.selects = s.selects := by
  unfold State.chooseFrame
  split
  · exact s.chooseCs1_selects
  · exact s.chooseCs0_selects

theorem State.findAgain_none (h : s.port.again = []) (cs1 : Bool) (f : TxItem → Bool) : s.findAgain cs1 f = none := by
  unfold State.findAgain; rw [h]; rfl

theorem State.chooseReport_none (h : s.port.again = []) (hr : s.port.repCount = 0) (cs1 : Bool) :
    s.chooseReport cs1 = (s, []) := by
  unfold State.chooseReport
  rw [State.findAgain_none h, if_pos hr]

/-- A window response goes before everything else (10 R318). -/
theorem State.chooseFrame_window {q : BitVec 8} {ws : List Word} (h : s.port.winRsp = some (q, ws)) :
    s.chooseFrame false = (s, [.winrsp q ws]) := by
  unfold State.chooseFrame State.chooseCs0
  simp only [h]
  rfl

/-- With no event record ready the first response of MB0 is sent (10 R318). -/
theorem State.chooseFrame_response {r : Rsp} (ha : s.port.again = []) (hw : s.port.winRsp = none)
    (he : s.readyRecords = []) (hr : (s.port.rsp.find? fun x => x.mb == 0) = some r) :
    s.chooseFrame false = (s, [.rsp r s.port.sent0]) := by
  have hevt : s.chooseEvt = none := by
    unfold State.chooseEvt
    rw [State.findAgain_none ha, he]
  unfold State.chooseFrame State.chooseCs0
  simp only [hw, hr, hevt]
  rfl

/-- The entries of a stream frame leave their partition and use up the credit (05 R178). -/
def State.streamed (s : State) (n : Nat) (es : List QEntry) : State :=
  State.afterTake { s with
    res.strm := s.res.strm.rest n, port.strmSeq := s.port.strmSeq + 1
    res.credit := s.res.credit - BitVec.ofNat 24 (es.map qsize).sum } true

/-- With feature 6 the whole entries within the credit are sent on H_CS1n (05 R178). -/
theorem State.chooseFrame_stream {e : QEntry} {es : List QEntry} (ha : s.port.again = []) (hf : s.feat 6 = true)
    (hh : s.res.strm.head (min s.res.credit.toNat 1024) = e :: es) :
    s.chooseFrame true =
      (s.streamed (min s.res.credit.toNat 1024) (e :: es), [.strm s.port.strmSeq (e :: es)]) := by
  unfold State.chooseFrame State.chooseCs1
  rw [State.findAgain_none ha, hf]
  simp only [if_true, hh]
  rfl

/-! ### SELECT_FALL -/

/-- s with an exchange open on a select, of which the choice of its frames has left `v` (10 R318 to R323). -/
def State.opened (s v : State) (cs1 busy : Bool) (tx : List TxItem) : State :=
  { v with
    port.sel := some cs1
    port.busy := busy
    port.rx := .hunt
    port.rxWords := []
    port.trailed := false
    port.rckAct := s.port.rckNext.getD s.port.rckAct
    port.rckNext := none
    port.cnt.busyWords := if busy then s.port.cnt.busyWords + 1 else s.port.cnt.busyWords
    port.tx := tx
    pw.waking := v.pw.waking || v.pw.mode == .doze }

/-- s with one select low (10 R313). -/
def State.oneLow (s : State) (cs1 : Bool) : State := { s with port.csLow := csBit cs1 }

/-- A select that falls with the other high opens an exchange (10 R313). -/
theorem exec_selectFall_opens (ho : s.portOpen = true) (hlow : s.port.csLow = 0) (b : Option BusyCause) :
    exec (.selectFall cs1 b) s = .next ((s.oneLow cs1).openExchange cs1 b) := by
  change execSelectFall cs1 b s = _
  unfold execSelectFall
  simp only [hlow, ho]
  cases cs1 <;> rfl

/-- No busy word goes before the frames: the core is awake and a receive buffer is free (10 R321, R322). -/
theorem State.busyWord_none (hm : s.pw.mode ≠ .doze) (hb : s.port.bufs.length < 2) : s.busyWord none = (s, []) := by
  unfold State.busyWord
  simp [hm, hb]

/-- A backlog of the awake core is told in a busy word of at least 1 µs (10 R321, R322). -/
theorem State.busyWord_backlog (hm : s.pw.mode ≠ .doze) (k : BitVec 16) :
    s.busyWord (some (.backlog k)) = (s, [.busy (if k = 0 then 1 else k)]) := by
  unfold State.busyWord
  simp [hm]

/-- An exchange with nothing to report and no busy word carries the frame chosen (10 R318). -/
theorem State.openExchange_plain (hm : s.pw.mode ≠ .doze) (hb : s.port.bufs.length < 2) (ha : s.port.again = [])
    (hr : s.port.repCount = 0) :
    s.openExchange cs1 none = s.opened (s.chooseFrame cs1).1 cs1 false (s.chooseFrame cs1).2 := by
  unfold State.openExchange
  rw [State.busyWord_none hm hb]
  dsimp only
  rw [State.chooseReport_none ha hr]
  rfl

theorem State.openExchange_busy (hm : s.pw.mode ≠ .doze) (k : BitVec 16) :
    s.openExchange cs1 (some (.backlog k)) =
      s.opened ((s.chooseReport cs1).1.chooseFrame cs1).1 cs1 true
        (.busy (if k = 0 then 1 else k) :: ((s.chooseReport cs1).2 ++ ((s.chooseReport cs1).1.chooseFrame cs1).2)) := by
  unfold State.openExchange
  rw [State.busyWord_backlog hm]
  rfl

/-- A select that falls with the other low is ignored, counted and reported (10 R313). -/
theorem exec_selectFall_collides (ho : s.portOpen = true) (hlow : s.port.csLow = csBit (!cs1)) (b : Option BusyCause) :
    exec (.selectFall cs1 b) s =
      .next (State.report { s with port.csLow := 3, port.cnt.selcol := satInc s.port.cnt.selcol } 6) := by
  change execSelectFall cs1 b s = _
  unfold execSelectFall
  simp only [hlow, ho]
  cases cs1 <;> rfl

/-! ### A host frame that is cut short -/

theorem getLsbD_report {n : Nat} (w : BitVec 7) (b : Nat) (h : (BitVec.ofNat 7 (1 <<< b)).getLsbD n = true) :
    (w ||| BitVec.ofNat 7 (1 <<< b)).getLsbD n = true := by
  rw [BitVec.getLsbD_or, h, Bool.or_true]

/-- What is discarded with a frame: the message it is part of, which is counted and reported (10 R317). -/
theorem State.lostFrame_keeps (s : State) (h : Word) : ∃ segs lost seg flags count, s.lostFrame h =
    { s with port := { s.port with
      segs := segs, lostMsgs := lost, cnt := { s.port.cnt with seg := seg }
      repFlags := s.port.repFlags ||| flags, repCount := count } } := by
  have hsame : ∃ segs lost seg flags count, s =
      { s with port := { s.port with
        segs := segs, lostMsgs := lost, cnt := { s.port.cnt with seg := seg }
        repFlags := s.port.repFlags ||| flags, repCount := count } } :=
    ⟨s.port.segs, s.port.lostMsgs, s.port.cnt.seg, 0#7, s.port.repCount, by rw [BitVec.or_zero]⟩
  unfold State.lostFrame
  dsimp only
  split
  · exact hsame
  split
  · exact ⟨s.port.segs, _, s.port.cnt.seg, 0#7, s.port.repCount, by rw [BitVec.or_zero]⟩
  split
  · exact ⟨_, _, _, _, _, rfl⟩
  · exact hsame

/-- A frame cut short is counted and reported; the exchange and the frames to send stay (10 R320, R323). -/
theorem State.rejectShort_spec (s : State) (h : Word) :
    (s.rejectShort h).port.cnt.short = satInc s.port.cnt.short ∧
    (s.rejectShort h).port.repFlags.getLsbD 4 = true ∧ (s.rejectShort h).port.sel = s.port.sel ∧
    (s.rejectShort h).port.rx = s.port.rx ∧ (s.rejectShort h).port.tx = s.port.tx ∧
    (s.rejectShort h).port.csLow = s.port.csLow ∧ (s.rejectShort h).port.again = s.port.again ∧
    (s.rejectShort h).ch = s.ch := by
  unfold State.rejectShort
  obtain ⟨segs, lost, seg, flags, count, he⟩ :=
    (State.report { s with port.cnt.short := satInc s.port.cnt.short } 4).lostFrame_keeps h
  rw [he]
  refine ⟨rfl, ?_, rfl, rfl, rfl, rfl, rfl, rfl⟩
  change (s.port.repFlags ||| BitVec.ofNat 7 (1 <<< 4) ||| flags).getLsbD 4 = true
  rw [BitVec.getLsbD_or, getLsbD_report _ 4 (by decide), Bool.true_or]

/-- The receive logic within a frame of header h of which the words k have come (10 R323). -/
def State.receiving (s : State) (h : Word) (k : List Word) : State :=
  { s with port.rx := if k.length = fld h 10 0 then .check else .body, port.rxWords := h :: k }

/-- A well-formed header opens a frame (10 R315, R323). -/
theorem State.rxWord_header {h : Word} (hrx : s.port.rx = .hunt) (hb : s.port.busy = false)
    (hsel : s.port.sel = some cs1) (h0 : h ≠ 0) (hok : hostHeaderOk cs1 h = true) :
    s.rxWord h = s.receiving h [] := by
  have hcs : (s.port.sel == some true) = cs1 := by rw [hsel]; cases cs1 <;> rfl
  unfold State.rxWord State.receiving
  simp only [hrx, hb, hcs, hok, if_neg h0, if_true, Bool.false_eq_true, if_false, List.length_nil,
    eq_comm (a := 0)]

/-- The words of a frame join it until its CRC word (10 R323). -/
theorem State.foldl_rxWord_receiving (s : State) (h : Word) (l k : List Word) (hlen : (k ++ l).length ≤ fld h 10 0) :
    l.foldl State.rxWord (s.receiving h k) = s.receiving h (k ++ l) := by
  induction l generalizing k with
  | nil => rw [List.append_nil]; rfl
  | cons w l ih =>
    have hk : k.length ≠ fld h 10 0 := by
      rw [List.length_append, List.length_cons] at hlen
      omega
    have hstep : (s.receiving h k).rxWord w = s.receiving h (k ++ [w]) := by
      unfold State.rxWord State.receiving
      simp [hk]
    rw [List.foldl_cons, hstep, ih (k ++ [w]) (by rwa [List.append_assoc]), List.append_assoc]
    rfl

/-! ### SELECT_RISE -/

/-- The module frames of an exchange that were cut short and are sent again (10 R320). -/
def State.cutFrames (s : State) (cs1 : Bool) : List (Bool × TxItem) :=
  (s.port.tx.filter fun x => x.isReport || x.isEvt || x.isStrm).map fun x => (cs1, x)

/-- s with its exchange over (10 R313, R320). -/
def State.closed (s : State) (cs1 : Bool) : State :=
  { s with
    port.sel := none, port.busy := false, port.rx := .idle, port.rxWords := [], port.tx := []
    port.again := s.port.again ++ s.cutFrames cs1 }

theorem State.closeExchange_cut {h : Word} {l : List Word} (hrx : s.port.rx = .body ∨ s.port.rx = .check)
    (hw : s.port.rxWords = h :: l) : s.closeExchange cs1 = (s.closed cs1).rejectShort h := by
  unfold State.closeExchange
  rcases hrx with hrx | hrx <;> rw [hrx, hw] <;> rfl

theorem State.closeExchange_whole (h : s.port.rxWords = [] ∨ s.port.rx ≠ .body ∧ s.port.rx ≠ .check) :
    s.closeExchange cs1 = s.closed cs1 := by
  unfold State.closeExchange
  split
  case h_1 hrx hw => simp [hrx, hw] at h
  case h_2 hrx hw => simp [hrx, hw] at h
  case h_3 => rfl

/-- The end of an exchange, whether or not it cuts a host frame short (10 R313, R320, R323). -/
theorem State.closeExchange_spec (s : State) (cs1 : Bool) :
    (s.closeExchange cs1).port.sel = none ∧ (s.closeExchange cs1).port.rx = .idle ∧
    (s.closeExchange cs1).port.tx = [] ∧ (s.closeExchange cs1).port.csLow = s.port.csLow ∧
    (s.closeExchange cs1).port.again = s.port.again ++ s.cutFrames cs1 ∧ (s.closeExchange cs1).ch = s.ch ∧
    ((s.port.rx = .body ∨ s.port.rx = .check) → s.port.rxWords ≠ [] →
      (s.closeExchange cs1).port.cnt.short = satInc s.port.cnt.short ∧
      (s.closeExchange cs1).port.repFlags.getLsbD 4 = true) ∧
    (s.port.rx ≠ .body → s.port.rx ≠ .check →
      (s.closeExchange cs1).port.cnt = s.port.cnt ∧ (s.closeExchange cs1).port.repFlags = s.port.repFlags) := by
  by_cases hcut : (s.port.rx = .body ∨ s.port.rx = .check) ∧ s.port.rxWords ≠ []
  · obtain ⟨hrx, hne⟩ := hcut
    obtain ⟨h, l, hw⟩ := List.exists_cons_of_ne_nil hne
    obtain ⟨hshort, hflag, hsel, hidle, htx, hlow, hagain, hch⟩ := (s.closed cs1).rejectShort_spec h
    rw [State.closeExchange_cut hrx hw]
    refine ⟨hsel, hidle, htx, hlow, hagain, hch, fun _ _ => ⟨hshort, hflag⟩, fun hb hc => ?_⟩
    exact absurd hrx (not_or.mpr ⟨hb, hc⟩)
  · have hwhole : s.port.rxWords = [] ∨ s.port.rx ≠ .body ∧ s.port.rx ≠ .check := by
      by_contra hno
      rw [not_or] at hno
      exact hcut ⟨by_contra fun hrx => hno.2 (not_or.mp hrx), hno.1⟩
    rw [State.closeExchange_whole hwhole]
    exact ⟨rfl, rfl, rfl, rfl, rfl, rfl, fun hrx hne => absurd ⟨hrx, hne⟩ hcut, fun _ _ => ⟨rfl, rfl⟩⟩

/-- The rise of the select of an exchange ends it after its last words (10 R313, R323). -/
theorem exec_selectRise (hsel : s.port.sel = some cs1) (ws : List Word) : exec (.selectRise cs1 ws) s = .next
    ((ws.foldl State.rxWord { s with port.csLow := s.port.csLow &&& ~~~(csBit cs1) }).closeExchange cs1) :=
  if_pos hsel

/-! ### MODULE_FRAME_DELIVERED -/

/-- The first module frame of an exchange is delivered (10 R320). -/
theorem exec_moduleFrameDelivered {x : TxItem} {rest : List TxItem} (htx : s.port.tx = x :: rest)
    (hx : x.isBusy = false) : exec .moduleFrameDelivered s =
    .next (State.deliver { s with port.tx := rest, port.sentAt := s.time } x) := by
  change execModuleFrameDelivered s = _
  unfold execModuleFrameDelivered
  rw [htx, List.dropWhile_cons, hx]
  rfl

/-- With its last words a response has left whole (11 R335, R337). -/
theorem State.deliver_last {r : Rsp} {first : Nat} (h : r.words.length ≤ first + 1024) :
    s.deliver (.rsp r first) = s.finishRsp r := if_neg (Nat.not_lt.mpr h)

/-- A response of MB0 that has left whole leaves the queue, is kept, and its command is outstanding no longer (11
R335, R337). -/
theorem State.finishRsp_spec {r : Rsp} (hc : r.counts = true) (hm : r.mb = 0) :
    (s.finishRsp r).port.tx = s.port.tx ∧ (s.finishRsp r).port.rsp = s.port.rsp.erase r ∧
    (s.finishRsp r).port.kept0 = keepRsp s.port.kept0 r ∧ (s.finishRsp r).port.sent0 = 0 ∧
    (∀ o, (s.port.outst.find? fun o => o.sender == .host && o.answered && o.frame.mb == r.mb &&
        o.frame.seq == r.seq && o.crc == r.crc) = some o →
      (s.finishRsp r).port.outst = s.port.outst.erase o) ∧
    (s.finishRsp r).ch = s.ch ∧ (s.finishRsp r).ev = s.ev := by
  unfold State.finishRsp
  simp only [hc, if_pos hm, Bool.not_true, Bool.false_eq_true, if_false]
  split
  case h_1 o ho =>
    refine ⟨rfl, rfl, rfl, rfl, fun o' ho' => ?_, rfl, rfl⟩
    rw [Option.some.inj (ho'.symm.trans ho)]
  case h_2 hn =>
    refine ⟨rfl, rfl, rfl, rfl, fun o' ho' => ?_, rfl, rfl⟩
    exact absurd (ho'.symm.trans hn) (Option.some_ne_none o')

end

end Sys2Proof.Machine

open Sys2Proof Sys2Proof.Machine

/-- Settles O36: the fall of a select chooses the frames of an exchange, its rise closes it, and what is delivered
leaves it. -/
theorem exchanges : Obligations.Exchanges := by
  unfold Obligations.Exchanges
  refine ⟨fun s cs1 ho hlow hm ha hr hb => ?fall, fun s cs1 k ho hlow hm => ?busy,
    fun s cs1 b ho hlow => ?collision, fun s cs1 hsel => ?rise, fun s cs1 h l hsel hrx hb h0 hok hlen => ?short,
    fun s r first rest htx hlen hc hmb => ?delivered, fun s q es rest htx => exec_moduleFrameDelivered htx rfl⟩
  case fall =>
    rw [exec_selectFall_opens ho hlow, State.openExchange_plain (s := s.oneLow cs1) hm hb ha hr]
    set v := s.oneLow cs1
    have hkeeps := v.chooseFrame_selects cs1
    refine ⟨_, rfl, rfl, rfl, rfl, congrArg (·.2.1) hkeeps, fun q ws hcs hw => ?_, fun r hcs hw he hr' => ?_,
      fun e es hcs hf hh => ?_, congrArg (·.1) hkeeps⟩
    · subst hcs
      exact congrArg Prod.snd (State.chooseFrame_window (s := v) hw)
    · subst hcs
      exact congrArg Prod.snd (State.chooseFrame_response (s := v) ha hw he hr')
    · subst hcs
      rw [State.chooseFrame_stream (s := v) ha hf hh]
      obtain ⟨-, hcredit, hentries⟩ := State.afterTake_keeps { v with
        res.strm := v.res.strm.rest (min v.res.credit.toNat 1024), port.strmSeq := v.port.strmSeq + 1
        res.credit := v.res.credit - BitVec.ofNat 24 ((e :: es).map qsize).sum } true
      exact ⟨rfl, hcredit, hentries⟩
  case busy =>
    rw [exec_selectFall_opens ho hlow, State.openExchange_busy (s := s.oneLow cs1) hm]
    set v := s.oneLow cs1
    have hkeeps := ((v.chooseReport cs1).1.chooseFrame_selects cs1).trans (v.chooseReport_selects cs1)
    exact ⟨_, _, rfl, rfl, rfl, rfl, congrArg (·.1) hkeeps⟩
  case collision =>
    exact ⟨_, exec_selectFall_collides ho hlow b, rfl, rfl, getLsbD_report _ 6 (by decide), rfl, rfl⟩
  case rise =>
    obtain ⟨hnone, hidle, htx, hcs, hagain, hch, hshort, hwhole⟩ :=
      State.closeExchange_spec { s with port.csLow := s.port.csLow &&& ~~~(csBit cs1) } cs1
    exact ⟨_, exec_selectRise hsel [], hnone, hidle, htx, hcs, hagain, hshort, hwhole, hch⟩
  case short =>
    set v : State := { s with port.csLow := s.port.csLow &&& ~~~(csBit cs1) }
    have hfold : (h :: l).foldl State.rxWord v = v.receiving h l := by
      rw [List.foldl_cons, State.rxWord_header (s := v) hrx hb hsel h0 hok]
      exact v.foldl_rxWord_receiving h l [] hlen
    obtain ⟨hnone, -, -, -, -, hch, hshort, -⟩ := (v.receiving h l).closeExchange_spec cs1
    have hin : (v.receiving h l).port.rx = .body ∨ (v.receiving h l).port.rx = .check := by
      unfold State.receiving
      dsimp only
      split
      · exact .inr rfl
      · exact .inl rfl
    obtain ⟨hcount, hflag⟩ := hshort hin (List.cons_ne_nil _ _)
    refine ⟨_, exec_selectRise hsel _, ?_⟩
    rw [hfold]
    exact ⟨hnone, hcount, hflag, hch⟩
  case delivered =>
    rw [exec_moduleFrameDelivered htx rfl, State.deliver_last hlen]
    exact ⟨_, rfl, State.finishRsp_spec (s := { s with port.tx := rest, port.sentAt := s.time }) hc hmb⟩
end

section
/-! ## Cells that mark, and cells that are late (05 R168, R169, R184, 07 R223, R245, R246, 09 R288) -/

namespace Sys2Proof.Machine

section
variable {s t : State} {idx action : Nat} {c : Cell} {g : Grp} {d : DueCell} {n : Ch} {e : QEntry} {cb : Comb}

/-! ### What the start of a cell leaves -/

/-- The start of a cell changes neither the results, the recorder, the events, the swarm nor the modes. -/
theorem State.cellStarted_keeps (s : State) (g : Grp) (c : Cell) :
    (s.cellStarted g c).res = s.res ∧ (s.cellStarted g c).rcd = s.rcd ∧ (s.cellStarted g c).sw = s.sw ∧
    (s.cellStarted g c).pw = s.pw ∧ (s.cellStarted g c).comb.active = s.comb.active := by
  obtain ⟨p, l, he⟩ := s.cellStarted_eq g c
  rw [he]
  exact ⟨rfl, rfl, rfl, rfl, rfl⟩

theorem State.beforeCell.dieUp (h : s.beforeCell t) (k : Grp) : t.dieUp k = s.dieUp k := by
  unfold State.dieUp
  simp only [h.link, h.sup]

theorem State.cellStarted_linkOpen (s : State) (g : Grp) (c : Cell) (k : Grp) :
    (s.cellStarted g c).linkOpen k = s.linkOpen k := by
  obtain ⟨-, -, -, hpw, -⟩ := s.cellStarted_keeps g c
  have hb := s.cellStarted_before g c
  unfold State.linkOpen State.hostUp
  rw [hb.dieUp, hb.link, hpw]

theorem State.cellStarted_leadUp (s : State) (g : Grp) (c x : Cell) : (s.cellStarted g c).leadUp x = s.leadUp x :=
  (s.cellStarted_before g c).dieUp _

theorem State.anyRouted_congr (hc : t.ch = s.ch) (hr : t.res = s.res) (strm : Bool) :
    t.anyRouted strm = s.anyRouted strm := by
  unfold State.anyRouted State.isOdd State.pairOf State.chan
  rw [hc, hr]

/-! ### STAMP -/

/-- What entries of the poll partition show: the channels, the comb, the stream and the entries themselves. -/
def State.polled (s : State) : Vector Channel 32 × CombState × Partition × List QEntry :=
  (s.ch, s.comb, s.res.strm, s.res.poll.entries)

theorem State.logsOver.polled (h : s.logsOver t) : t.polled = s.polled := by
  unfold State.logsOver at h; rw [h]; rfl

theorem State.afterPut_polled (s : State) : (s.afterPut false).polled = s.polled := by
  unfold State.afterPut
  simp only [Bool.false_eq_true, if_false]
  split
  · exact (raise_logs ..).polled
  · rfl

/-- An entry that has room in the poll partition enters it behind its markers (05 R173). -/
theorem State.putEntry_polled (h : s.res.poll.fill + s.res.poll.need e 0 ≤ s.res.sizeOf false) :
    (s.putEntry false e).polled = (s.ch, s.comb, s.res.strm, (s.res.poll.enter e 0).entries) := by
  have hput : s.putEntry false e = State.afterPut { s with res.poll := s.res.poll.enter e 0 } false := if_pos h
  rw [hput, State.afterPut_polled]
  rfl

/-- A stamped marker enters the poll partition alone while no channel is routed to the stream (05 R168). -/
theorem State.putMarkerAt_poll (hp : s.anyRouted false = true) (hs : s.anyRouted true = false) (tag data : Nat)
    (w : Word) : s.putMarkerAt tag data w =
      s.putEntry false { cls := .comb, word := markerW tag data, stamp := some w, src := 0 } := by
  unfold State.putMarkerAt
  rw [hp, hs]
  rfl

theorem exec_stamp (hd : s.dueOn 0x0B idx c g d) (hl : s.linkOpen (grpNo c.lead.toNat) = true) :
    exec (.stamp idx) s =
      .next ((s.cellStarted g c).putMarkerAt 50 (fld c.arg 23 0) (s.stampAt d.pos)) := by
  change execStamp idx s = _
  unfold execStamp
  rw [State.runCell_dueOn hd]
  dsimp only
  rw [State.cellStarted_linkOpen, if_pos hl]

/-- The marker of a STAMP cell that has room is the last entry of the poll partition (05 R168, R169). -/
theorem stamp_marks (hd : s.dueOn 0x0B idx c g d) (hl : s.linkOpen (grpNo c.lead.toNat) = true)
    (hp : s.anyRouted false = true) (hs : s.anyRouted true = false)
    (he : e = { cls := .comb, word := markerW 50 (fld c.arg 23 0), stamp := some (s.stampAt d.pos), src := 0 })
    (hroom : s.res.poll.fill + s.res.poll.need e 0 ≤ s.res.sizeOf false) :
    ∃ t, exec (.stamp idx) s = .next t ∧ t.res.poll.entries.getLast? = some e ∧
      t.res.strm = s.res.strm ∧ t.ch = s.ch := by
  have hch := (s.cellStarted_before g c).ch
  obtain ⟨hres, -, -, -, -⟩ := s.cellStarted_keeps g c
  have hpoll := State.putEntry_polled (s := s.cellStarted g c) (e := e) (by rwa [hres])
  refine ⟨_, exec_stamp hd hl, ?_⟩
  rw [State.putMarkerAt_poll (by rwa [State.anyRouted_congr hch hres]) (by rwa [State.anyRouted_congr hch hres]), ← he]
  have hentries : ((s.cellStarted g c).putEntry false e).res.poll.entries =
      ((s.cellStarted g c).res.poll.enter e 0).entries := congrArg (·.2.2.2) hpoll
  have hstrm : ((s.cellStarted g c).putEntry false e).res.strm = (s.cellStarted g c).res.strm :=
    congrArg (·.2.2.1) hpoll
  refine ⟨?_, by rw [hstrm, hres], (congrArg (·.1) hpoll).trans hch⟩
  rw [hentries]
  exact List.getLast?_concat

/-! ### TRIG_OUT -/

/-- The end of a capture changes the capture and the events alone (05 R183). -/
theorem State.capTrigger_keeps (s : State) (w : Word) : (s.capTrigger w).ch = s.ch ∧ (s.capTrigger w).sw = s.sw := by
  have hfin (v : State) : v.capFinish.ch = v.ch ∧ v.capFinish.sw = v.sw := by
    unfold State.capFinish
    split
    · have h := raise_logs { v with res.cap.state := .done } 82 0 1
        (State.capStatW { v with res.cap.state := .done }) (v.res.cap.tidx.setWidth 32) v.res.cap.tstamp
      unfold State.logsOver at h
      dsimp only
      rw [h]
      exact ⟨rfl, rfl⟩
    · exact ⟨rfl, rfl⟩
  unfold State.capTrigger
  dsimp only
  split
  · exact hfin _
  · exact ⟨rfl, rfl⟩

/-- A BLOCK capture that is armed waits for its words after its trigger (05 R183, R184). -/
theorem State.capTrigger_block (ha : s.res.cap.state = .armed) (hr : s.res.cap.ring = false) (w : Word) :
    (s.capTrigger w).res.cap.state = .triggered ∧ (s.capTrigger w).res.cap.tstamp = w := by
  have hlen : s.res.cap.length - 2 ≠ 0 := by unfold Capture.length; omega
  unfold State.capTrigger State.capFinish Capture.push
  simp only [ha, hr, if_true, Bool.false_eq_true, if_false, true_and, if_neg hlen, and_self]

/-- The capture after a TRIG_OUT cell with the stamp w (05 R184). -/
def State.cellTrigger (s : State) (c : Cell) (w : Word) : State :=
  if bit c.arg 0 && fld s.res.cap.cfg 29 27 == 3 && s.linkOpen (grpNo c.lead.toNat) then s.capTrigger w else s

/-- s after a TRIG_OUT cell with the stamp w (05 R184, 12 R387). -/
def State.trigOuts (s : State) (c : Cell) (w : Word) : State :=
  if bit c.arg 1 && s.sw.syncEn && s.hostUp && s.leadUp c then
    { s.cellTrigger c w with sw.syncPulses := (s.cellTrigger c w).sw.syncPulses + 1 }
  else s.cellTrigger c w

theorem State.cellTrigger_keeps (s : State) (c : Cell) (w : Word) :
    (s.cellTrigger c w).ch = s.ch ∧ (s.cellTrigger c w).sw = s.sw := by
  unfold State.cellTrigger
  split
  · exact s.capTrigger_keeps w
  · exact ⟨rfl, rfl⟩

theorem exec_trigOut (hd : s.dueOn 0x0C idx c g d) :
    exec (.trigOut idx) s = .next ((s.cellStarted g c).trigOuts c (s.stampAt d.pos)) := by
  change execTrigOut idx s = _
  unfold execTrigOut
  rw [State.runCell_dueOn hd]
  rfl

theorem State.trigOuts_spec (s : State) (c : Cell) (w : Word) : (s.trigOuts c w).ch = s.ch ∧
    (bit c.arg 0 = true → fld s.res.cap.cfg 29 27 = 3 → s.linkOpen (grpNo c.lead.toNat) = true →
      s.res.cap.state = .armed → s.res.cap.ring = false →
      (s.trigOuts c w).res.cap.state = .triggered ∧ (s.trigOuts c w).res.cap.tstamp = w) ∧
    (bit c.arg 1 = true → s.sw.syncEn = true → s.hostUp = true → s.leadUp c = true →
      (s.trigOuts c w).sw.syncPulses = s.sw.syncPulses + 1) := by
  obtain ⟨hch, hsw⟩ := s.cellTrigger_keeps c w
  have hres : (s.trigOuts c w).res = (s.cellTrigger c w).res := by unfold State.trigOuts; split <;> rfl
  refine ⟨?_, fun h0 h3 hl ha hr => ?_, fun h1 he hu hup => ?_⟩
  · unfold State.trigOuts
    split <;> exact hch
  · have htrig : s.cellTrigger c w = s.capTrigger w := if_pos (by simp [h0, h3, hl])
    rw [hres, htrig]
    exact State.capTrigger_block ha hr w
  · have hpulse : s.trigOuts c w =
        { s.cellTrigger c w with sw.syncPulses := (s.cellTrigger c w).sw.syncPulses + 1 } :=
      if_pos (by simp [h1, he, hu, hup])
    rw [hpulse, ← hsw]

/-! ### EVENT -/

/-- An entry joins a recorder's intake that has room (09 R296). -/
theorem Recorder.put_of_room {r : Recorder} (hs : r.stopped = false) (hl : r.intake.length < 255) (i : Intake) :
    r.put i = { r with intake := r.intake ++ [i] } := by
  unfold Recorder.put
  rw [hs, if_pos hl]
  rfl

theorem exec_event (hd : s.dueOn 0x0F idx c g d) (hu : s.hostUp = true) (hup : s.leadUp c = true)
    (hs : s.rcd.stopped = false) (hl : s.rcd.intake.length < 255) : exec (.event idx) s =
    .next { s.cellStarted g c with rcd.intake := s.rcd.intake ++
      [s.intakeOf 0xF5 (BitVec.ofNat 16 (fld c.arg 15 0)) (BitVec.ofNat 16 idx) (s.stampAt d.pos) s.combIdW 0] } := by
  obtain ⟨-, hrcd, -, hpw, hact⟩ := s.cellStarted_keeps g c
  have hin : ∀ a b w, (s.cellStarted g c).intakeOf 0xF5 a b w (s.cellStarted g c).combIdW 0 =
      s.intakeOf 0xF5 a b w s.combIdW 0 := fun a b w => by
    unfold State.intakeOf State.pcycle24 State.combIdW
    rw [hpw, hact]
  have hhost : (s.cellStarted g c).hostUp = true := by unfold State.hostUp at *; rwa [hpw]
  change execEvent idx s = _
  unfold execEvent
  rw [State.runCell_dueOn hd]
  dsimp only
  rw [State.cellStarted_leadUp, if_pos hup]
  unfold State.recordSpecial
  rw [if_pos hhost, hin, hrcd, Recorder.put_of_room hs hl]

/-! ### Late cells -/

theorem State.raiseLate_spec (s : State) (idx code : Nat) :
    ∃ x, State.logsOver { s with comb.lastEv89 := x } (s.raiseLate idx code) ∧
      (s.hostUp = true → s.spaced s.comb.lastEv89 (10 * milli) = true → (s.raiseLate idx code).pendingWith 89 code) := by
  unfold State.raiseLate
  split
  case isTrue =>
    have hlogs := raise_logs s 89 idx code s.combCntW s.combRateW 0
    refine ⟨some (s.raise 89 idx code s.combCntW s.combRateW 0).time, ?_, fun hup _ => ?_⟩
    · unfold State.logsOver at *
      dsimp only
      rw [hlogs]
    · exact raise_pending s 89 idx code s.combCntW s.combRateW 0 hup (by decide)
  case isFalse hno =>
    exact ⟨s.comb.lastEv89, logsOver_refl _, fun _ hsp => absurd hsp hno⟩

/-- s with a late cell counted (07 R245, R246). -/
def State.lateCounted (s : State) (d : DueCell) (code : Nat) : State :=
  { s with
    comb.lateSeen := s.comb.lateSeen ++ [(d.pos, d.idx)]
    comb.late := if code = 1 then satInc s.comb.late else s.comb.late
    comb.skipped := if code = 2 then satInc s.comb.skipped else s.comb.skipped }

/-- A late cell is counted and told once per 10 ms, and only once for all its dies (07 R227, R245, R246). -/
theorem State.noteLate_eq (hs : (d.pos, d.idx) ∉ s.comb.lateSeen) (code : Nat) :
    s.noteLate d code = (s.lateCounted d code).raiseLate d.idx code := if_neg (by simpa using hs)

/-- The group, the channels and the counts after a late cell is noted. -/
theorem State.noteLate_spec (hs : (d.pos, d.idx) ∉ s.comb.lateSeen) (code : Nat) :
    (s.noteLate d code).ch = s.ch ∧ (s.noteLate d code).grp = s.grp ∧ (s.noteLate d code).time = s.time ∧
    (s.noteLate d code).comb.active = s.comb.active ∧ (s.noteLate d code).comb.jobs = s.comb.jobs ∧
    (s.noteLate d code).comb.late = (if code = 1 then satInc s.comb.late else s.comb.late) ∧
    (s.noteLate d code).comb.skipped = (if code = 2 then satInc s.comb.skipped else s.comb.skipped) ∧
    (s.hostUp = true → s.spaced s.comb.lastEv89 (10 * milli) = true → (s.noteLate d code).pendingWith 89 code) := by
  obtain ⟨x, hlogs, hpend⟩ := (s.lateCounted d code).raiseLate_spec d.idx code
  rw [State.noteLate_eq hs]
  unfold State.logsOver at hlogs
  refine ⟨?_, ?_, ?_, ?_, ?_, ?_, ?_, hpend⟩ <;> rw [hlogs] <;> rfl

/-! ### A late SKIPPABLE cell -/

/-- A step that only one die takes part in. -/
theorem State.each_allGrp_one {op : State → Grp → State} (hg : op s g = t) (hs : ∀ h, h ≠ g → op s h = s)
    (ht : ∀ h, h ≠ g → op t h = t) : s.each allGrp op = t := by
  rcases grp_cases g with rfl | rfl | rfl | rfl <;> simp [allGrp, hg, hs, ht]

/-- The late SKIPPABLE cells at the front of the share of one die are skipped (07 R246). -/
def State.skipDie (cb : Comb) (s : State) (g : Grp) : State :=
  (List.range (s.group g).pos.due.length).foldl (fun u _ => u.skipFront cb g) s

theorem State.skipLate_eq (s : State) (cb : Comb) :
    s.skipLate cb = (s.each allGrp (State.skipDie cb)).keepSeen cb := rfl

theorem State.skipDie_idle (h : (s.group g).pos.due = []) : s.skipDie cb g = s := by
  unfold State.skipDie
  rw [h]
  rfl

/-- s with the only due cell of a die skipped (07 R246). -/
def State.skippedOn (s : State) (g : Grp) (d : DueCell) : State :=
  (s.modPos g fun p => { p with due := [] }).noteLate d 2

theorem State.skipFront_skips (hj : s.comb.jobs = []) (hdue : (s.group g).pos.due = [d])
    (hc : cb.cells[d.idx]? = some c) (hskip : c.skip = true) (hl : d.isLate s.time cb.hdr.jitter = true)
    (hseen : (d.pos, d.idx) ∉ s.comb.lateSeen) : s.skipFront cb g = s.skippedOn g d := by
  obtain ⟨-, -, -, -, hjobs, -⟩ :=
    State.noteLate_spec (s := s.modPos g fun p => { p with due := [] }) hseen 2
  have hnone : (s.skippedOn g d).comb.jobs = [] := hjobs.trans hj
  unfold State.skipFront
  simp only [hdue, hc, hskip, hl, Bool.and_self, if_true]
  change State.finishJobs { s.skippedOn g d with comb.jobs := (s.skippedOn g d).comb.jobs.map _ } = s.skippedOn g d
  simp only [hnone, List.map_nil]
  rw [← hnone]
  exact State.finishJobs_of_none hnone

theorem State.group_skippedOn (hseen : (d.pos, d.idx) ∉ s.comb.lateSeen) (h : Grp) :
    (s.skippedOn g d).group h = (s.modPos g fun p => { p with due := [] }).group h := by
  obtain ⟨-, hgrp, -⟩ := State.noteLate_spec (s := s.modPos g fun p => { p with due := [] }) hseen 2
  unfold State.group State.skippedOn
  rw [hgrp]

/-- With one due cell in all, a late SKIPPABLE one, nothing is left to start (07 R246). -/
theorem State.runCell_skips {f : State → Cell → Started → State} (h : s.lateOn action idx c g d)
    (hskip : c.skip = true) (hdue : (s.group g).pos.due = [d]) (hseen : (d.pos, d.idx) ∉ s.comb.lateSeen)
    (hj : s.comb.jobs = []) : ∃ cb, s.runCell action idx f = (s.skippedOn g d).keepSeen cb := by
  unfold State.lateOn State.startsOn at h
  obtain ⟨cb, rest, ha, hx, hact, -, hrun, hex, -, hi, -, hl, -, -, -, hother⟩ := h
  have hself : ((s.skippedOn g d).group g).pos.due = [] := by
    rw [State.group_skippedOn hseen, State.group_modPos_same]
  have hrest (k : Grp) (hk : k ≠ g) : ((s.skippedOn g d).group k).pos.due = [] := by
    rw [State.group_skippedOn hseen, State.group_modPos_ne _ _ hk]
    exact hother k hk
  have hdie : s.skipDie cb g = s.skippedOn g d := by
    unfold State.skipDie
    rw [hdue]
    exact State.skipFront_skips hj hdue (by rw [hi]; exact hx) hskip hl hseen
  have hlate : s.skipLate cb = (s.skippedOn g d).keepSeen cb := by
    rw [State.skipLate_eq, State.each_allGrp_one hdie (fun k hk => State.skipDie_idle (hother k hk))
      fun k hk => State.skipDie_idle (hrest k hk)]
  have hnone (k : Grp) : ((s.skippedOn g d).keepSeen cb).startable idx c k = none := by
    refine State.startable_none ?_
    by_cases hk : k = g
    · rw [hk]; exact hself
    · exact hrest k hk
  refine ⟨cb, ?_⟩
  unfold State.runCell
  simp only [ha, hx, hrun, hact, hex, Bool.not_true, bne_self_eq_false, Bool.or_self, Bool.false_eq_true,
    if_false, hlate, List.findSome?_eq_none_iff.mpr fun k _ => hnone k]

theorem exec_outSet_skips (h : s.lateOn 0x05 idx c g d) (hskip : c.skip = true)
    (hdue : (s.group g).pos.due = [d]) (hseen : (d.pos, d.idx) ∉ s.comb.lateSeen) (hj : s.comb.jobs = []) :
    ∃ cb, exec (.outSet idx) s = .next ((s.skippedOn g d).keepSeen cb) := by
  obtain ⟨cb, hr⟩ := State.runCell_skips h hskip hdue hseen hj
  refine ⟨cb, ?_⟩
  change execOutSet idx s = _
  unfold execOutSet
  rw [hr]

/-! ### A late MANDATORY cell -/

theorem State.skipFront_mandatory {rest : List DueCell} (hdue : (s.group g).pos.due = d :: rest)
    (hc : cb.cells[d.idx]? = some c) (hskip : c.skip = false) : s.skipFront cb g = s := by
  unfold State.skipFront
  simp [hdue, hc, hskip]

/-- s with a late cell started on one die (07 R226, R246). -/
def State.lateStarted (s : State) (cb : Comb) (g : Grp) (c : Cell) (d : DueCell) : State :=
  (((s.keepSeen cb).noteLate d 1).beginCell g c).keepSeen cb

/-- A MANDATORY cell that is late on one die runs there with its lateness (07 R217, R226, R246). -/
theorem State.runCell_late {f : State → Cell → Started → State} (h : s.lateOn action idx c g d)
    (hskip : c.skip = false) : ∃ cb k, s.runCell action idx f = f (s.lateStarted cb g c d) c
      { dies := [g], idx := idx, pos := d.pos, stamp := s.stampAt d.pos, late := some k } := by
  unfold State.lateOn State.startsOn at h
  obtain ⟨cb, rest, ha, hx, hact, hf, hrun, hex, hd, hi, hdue, hl, hlast, he, hr, hother⟩ := h
  have hdie : s.skipDie cb g = s :=
    foldl_fixed _ _ (fun _ => State.skipFront_mandatory hd (by rw [hi]; exact hx) hskip) _
  have hlate : s.skipLate cb = s.keepSeen cb := by
    have hidle (k : Grp) (hk : k ≠ g) : s.skipDie cb k = s := State.skipDie_idle (hother k hk)
    rw [State.skipLate_eq, State.each_allGrp_one hdie hidle hidle]
  have hst : s.startable idx c g = some d := by
    have hspaced : ((s.group g).pos.last.all fun t => decide (t + 8 ≤ 4 * s.time)) = true := by
      cases hp : (s.group g).pos.last with
      | none => rfl
      | some t => simpa using hlast t hp
    unfold State.startable
    simp [hd, hi, hdue, hspaced, he, hr]
  have hno (k : Grp) (hk : k ≠ g) : s.startable idx c k = none := State.startable_none (hother k hk)
  have hfirst : allGrp.findSome? (s.startable idx c) = some d ∧
      (allGrp.filter fun k => (s.startable idx c k).any fun e => e.pos == d.pos) = [g] := by
    rcases grp_cases g with rfl | rfl | rfl | rfl <;>
      simp [allGrp, hst, hno 0, hno 1, hno 2, hno 3]
  have hseen : (s.keepSeen cb).startable idx c = s.startable idx c := funext fun k => State.startable_keepSeen ..
  refine ⟨cb, max 0 (s.group g).pos.h - d.pos, ?_⟩
  unfold State.runCell
  simp only [ha, hx, hrun, hact, hex, Bool.not_true, bne_self_eq_false, Bool.or_self, Bool.false_eq_true,
    if_false, hlate, hseen, hfirst.1, hfirst.2, List.any_cons, List.any_nil, hst, Option.any_some,
    State.keepSeen_time, hl, Bool.or_false, if_true, State.each_cons, State.each_nil, hf]
  unfold State.lateStarted State.stampAt
  simp only [ha]
  rfl

theorem State.beginCell_eq (s : State) (g : Grp) (x : Cell) : ∃ f, s.beginCell g x = s.modPos g f := by
  unfold State.beginCell
  exact ⟨_, rfl⟩

/-- What a late cell that has started leaves: the channels, the links and the supplies; it is counted once. -/
theorem State.lateStarted_spec (cb : Comb) (hseen : (d.pos, d.idx) ∉ s.comb.lateSeen) :
    (s.lateStarted cb g c d).ch = s.ch ∧
    (∀ h, ((s.lateStarted cb g c d).group h).link = (s.group h).link) ∧
    (∀ h, ((s.lateStarted cb g c d).group h).sup = (s.group h).sup) ∧
    (s.lateStarted cb g c d).comb.late = satInc s.comb.late ∧
    (s.lateStarted cb g c d).comb.skipped = s.comb.skipped ∧
    (s.hostUp = true → s.spaced s.comb.lastEv89 (10 * milli) = true →
      (s.lateStarted cb g c d).pendingWith 89 1) := by
  have hseen' : (d.pos, d.idx) ∉ (s.keepSeen cb).comb.lateSeen := fun hmem => hseen (List.mem_of_mem_filter hmem)
  obtain ⟨hch, hgrp, -, -, -, hlate, hskip, hpend⟩ := State.noteLate_spec hseen' 1
  set v := (s.keepSeen cb).noteLate d 1 with hv
  have hnoted (h : Grp) : v.group h = s.group h := by
    unfold State.group
    rw [hgrp]
    rfl
  have hbegun (h : Grp) : ∃ p, (s.lateStarted cb g c d).group h = { s.group h with pos := p } := by
    obtain ⟨f, hf⟩ := v.beginCell_eq g c
    rw [← hnoted h]
    change ∃ p, (v.beginCell g c).group h = { v.group h with pos := p }
    rw [hf]
    by_cases hh : h = g
    · subst hh
      exact ⟨_, State.group_modPos_same v h f⟩
    · exact ⟨(v.group h).pos, State.group_modPos_ne v f hh⟩
  refine ⟨hch, fun h => ?_, fun h => ?_, hlate, hskip, hpend⟩ <;>
    obtain ⟨p, hp⟩ := hbegun h <;> rw [hp]

/-! ### OUT_SET -/

@[simp] theorem State.modOutP_comb (s : State) (n : Ch) (f : ChOut → ChOut) : (s.modOutP n f).comb = s.comb :=
  (State.modOutP_touches s n f).comb

/-- A command that no lockout refuses is in force; it raises no event and leaves the comb (03 R98). -/
theorem State.command_spec (hl : (s.chan n).out.ps ≠ .lockedOff) (on : Bool) (k : BitVec 14) :
    ((s.command n on k).chan n).out.cmdOn = on ∧ (s.command n on k).comb = s.comb ∧ (s.command n on k).ev = s.ev := by
  cases on
  case false =>
    have hoff : s.command n false k = ((s.modOutP n fun o => { o with
        cmdOn := false, hostOn := false, cmdDuty := 0, shedDie := false, shedEnv := false }).clearRetry n).switchOff
          n .off := by
      unfold State.command State.commandOff
      rw [if_neg Bool.false_ne_true]
      split
      · exact absurd ‹_› hl
      · rfl
    rw [hoff]
    unfold State.clearRetry State.switchOff
    simp
  case true =>
    have hon (v : State) : ((v.switchOn n).chan n).out.cmdOn = (v.chan n).out.cmdOn ∧
        (v.switchOn n).comb = v.comb ∧ (v.switchOn n).ev = v.ev := by
      unfold State.switchOn State.noteOn
      simp only [State.chan_modSup, State.modOutP_chan_same, State.modSup_comb, State.modSup_ev, State.modOutP_comb,
        State.modOutP_ev, and_true]
      split <;> rfl
    unfold State.command State.commandOn
    rw [if_pos rfl]
    dsimp only
    split
    · exact absurd ‹_› hl
    · split
      · simp [hon]
      · simp
    · simp

/-- A channel that a cell meets is not locked off (01 R15). -/
theorem State.unlocked_of_meets {conv : Bool} (h : s.meets conv n = .run) : (s.chan n).out.ps ≠ .lockedOff := by
  intro hl
  unfold State.meets at h
  cases hf : s.failedCh n
  · have hp : s.protected n = true := by
      unfold State.protected State.pstateOf
      simp [hf, hl]
    cases hd : s.dieUp (grpOf n) <;> simp [hf, hp, hd] at h
  · simp [hf] at h

/-- A late MANDATORY OUT_SET of one channel acts (07 R223, R246). -/
theorem exec_outSet_late (h : s.lateOn 0x05 idx c g d) (hskip : c.skip = false)
    (hseen : (d.pos, d.idx) ∉ s.comb.lateSeen) (hc : c.mask = bitW n.val) (hn : s.isOdd n = false)
    (hm : s.meets false n = .run) : ∃ cb, exec (.outSet idx) s =
      .next (((s.lateStarted cb g c d).command n (bit c.arg 31) (BitVec.ofNat 14 (fld c.arg 13 0))).modOutP n
        fun o => { o with hostOn := false }) := by
  obtain ⟨cb, k, hr⟩ := State.runCell_late (f := fun t c _ => t.eachCovered c false fun u n =>
    (u.command n (bit c.arg 31) (BitVec.ofNat 14 (fld c.arg 13 0))).modOutP n fun o => { o with hostOn := false })
    h hskip
  obtain ⟨hch, hlink, hsup, -⟩ := State.lateStarted_spec (g := g) (c := c) cb hseen
  have hodd : (s.lateStarted cb g c d).isOdd n = false := by
    rw [← hn]
    unfold State.isOdd State.pairOf State.chan
    rw [hch]
  refine ⟨cb, ?_⟩
  change execOutSet idx s = _
  unfold execOutSet
  rw [hr, State.eachCovered_one (State.coveredBy_of_bitW hc hodd) ((State.meets_congr hch hlink hsup false n).trans hm)]

end

end Sys2Proof.Machine

open Sys2Proof Sys2Proof.Machine

/-- Settles O19: the markers on time through what each row does to a cell that has started; a late cell through the
lateness that is noted once, skipped or run. -/
theorem markerAndLateCells : Obligations.MarkerAndLateCells := by
  unfold Obligations.MarkerAndLateCells
  refine ⟨fun s idx c g d e hd hl hp hs he hroom => stamp_marks hd hl hp hs he hroom,
    fun s idx c g d hd => ?trigOut, fun s idx c g d hd hu hup hs hl => ⟨_, exec_event hd hu hup hs hl, rfl⟩,
    fun s idx c g d h hskip hu hdue hseen hj => ?skipped, fun s idx c g d n h hskip hu hseen hc hn hm => ?late⟩
  case trigOut =>
    obtain ⟨hres, -, hsw, hpw, -⟩ := s.cellStarted_keeps g c
    obtain ⟨hch, htrig, hpulse⟩ := (s.cellStarted g c).trigOuts_spec c (s.stampAt d.pos)
    have hhost : (s.cellStarted g c).hostUp = s.hostUp := by unfold State.hostUp; rw [hpw]
    rw [hres, State.cellStarted_linkOpen] at htrig
    rw [hsw, hhost, State.cellStarted_leadUp] at hpulse
    exact ⟨_, exec_trigOut hd, hch.trans (s.cellStarted_before g c).ch, htrig, hpulse⟩
  case skipped =>
    obtain ⟨cb, hexec⟩ := exec_outSet_skips h hskip hdue hseen hj
    obtain ⟨hch, -, -, -, -, hlate, hskips, hpend⟩ :=
      State.noteLate_spec (s := s.modPos g fun p => { p with due := [] }) hseen 2
    refine ⟨_, hexec, hch, hskips, hlate, ?_, hpend hu⟩
    rw [State.keepSeen_group, State.group_skippedOn hseen, State.group_modPos_same]
  case late =>
    obtain ⟨cb, hexec⟩ := exec_outSet_late h hskip hseen hc hn hm
    obtain ⟨hch, -, -, hlate, hskips, hpend⟩ := State.lateStarted_spec (g := g) (c := c) cb hseen
    have hunlocked : ((s.lateStarted cb g c d).chan n).out.ps ≠ .lockedOff := by
      unfold State.chan
      rw [hch]
      exact State.unlocked_of_meets hm
    obtain ⟨hcmd, hcomb, hev⟩ := State.command_spec hunlocked (bit c.arg 31) (BitVec.ofNat 14 (fld c.arg 13 0))
    refine ⟨_, hexec, ?_, ?_, ?_, fun hsp => ?_⟩
    · rw [State.modOutP_comb, hcomb, hlate]
    · rw [State.modOutP_comb, hcomb, hskips]
    · rw [State.modOutP_chan_same]
      exact hcmd
    · refine State.pendingWith_congr ?_ (hpend hu hsp)
      rw [State.modOutP_ev, hev]
end

section
/-! ## Sending and hearing on the swarm link (12 R367 to R374, 08 R274, 13 R416) -/

namespace Sys2Proof.Machine

section
variable {s t u : State} {src : Addr} {tag : BitVec 8}

/-! ### What sending leaves -/

/-- All of a state but the frames on its swarm ports: what sending leaves (12 R371). -/
def State.unsent (s : State) : State := { s with sw.ports := State.reset.sw.ports, sw.out := [] }

theorem State.freeBlocks_unsent (s : State) (o : Option Port) (f : SwFrame) : (s.freeBlocks o f).unsent = s.unsent := by
  unfold State.freeBlocks
  split
  · rfl
  · split <;> rfl

theorem State.sendHead_unsent {p : Port} {c : SwClass} (h : s.sendHead p c = some t) : t.unsent = s.unsent := by
  unfold State.sendHead at h
  dsimp only at h
  split at h
  · cases h
  split at h
  · cases h
    exact State.freeBlocks_unsent ..
  · cases h

theorem drainFuel_unsent (k : Nat) (s : State) (p : Port) (c : SwClass) : (drainFuel k s p c).unsent = s.unsent := by
  induction k generalizing s with
  | zero => rfl
  | succ k ih =>
    unfold drainFuel
    split
    case h_1 t ht => exact (ih t).trans (State.sendHead_unsent ht)
    case h_2 => rfl

theorem State.sendOn_unsent (s : State) (p : Port) (f : SwFrame) : (s.sendOn p f).unsent = s.unsent := by
  unfold State.sendOn State.drain
  rw [drainFuel_unsent]
  unfold State.enqueue
  split <;> rfl

/-- Sending a message changes the swarm ports alone (12 R369 to R373). -/
theorem State.sendMsg_unsent (s : State) (c : SwClass) (k : Nat) (b : Bool) (d : Addr) (x : BitVec 8) (ws : List Word) :
    (s.sendMsg c k b d x ws).unsent = s.unsent := by
  unfold State.sendMsg
  exact State.each_keeps State.unsent
    (fun t (p : Port) => State.each_keeps State.unsent (fun v (g : SwFrame) => v.sendOn_unsent p g) _ t) _ s

/-! ### What a message that comes leaves -/

/-- All of a state but what a message that comes may change before its row acts on it: the watchdogs, the modes, the
segments held, and the credit sent back (08 R274, 12 R371, 13 R416). -/
def State.unheard (s : State) : State :=
  { s with
    wd := State.reset.wd, pw := State.reset.pw
    sw.heartbeatDue := false, sw.out := [], sw.segs := [], sw.lostMsgs := [] }

/-- t is s with a message taken: a dozing module may be awake (13 R416). -/
structure State.hears (s t : State) : Prop where
  unheard : t.unheard = s.unheard
  pw : t.pw = s.pw ∨ s.pw.mode = .doze ∧ t.pw = { s.pw with mode := .run, waking := false }

theorem State.hears_refl (s : State) : s.hears s := ⟨rfl, .inl rfl⟩

theorem State.hears.trans (h : s.hears t) (h' : t.hears u) : s.hears u := by
  refine ⟨h'.unheard.trans h.unheard, ?_⟩
  obtain hp | ⟨hd, hp⟩ := h.pw
  · rw [← hp]
    exact h'.pw
  · obtain hq | ⟨hd', -⟩ := h'.pw
    · exact .inr ⟨hd, hq.trans hp⟩
    · rw [hp] at hd'
      cases hd'

theorem State.hears_wake (s : State) : s.hears s.wake := by
  unfold State.wake
  split
  case isTrue hd => exact ⟨rfl, .inr ⟨hd, rfl⟩⟩
  case isFalse => exact s.hears_refl

theorem State.hears_swarmIn (s : State) (root addressed : Bool) : s.hears (s.swarmIn root addressed) := by
  have hserved : s.hears (if s.isNode && s.hostUp && root then s.serveHs else s) := by
    split
    · exact ⟨rfl, .inl rfl⟩
    · exact s.hears_refl
  have hwoken (v : State) : v.hears (if addressed && v.hostUp then v.wake else v) := by
    split
    · exact v.hears_wake
    · exact v.hears_refl
  exact hserved.trans (hwoken _)

theorem State.hears_took (s : State) (src : Addr) (c : SwClass) (len : Nat) : s.hears (s.took src c len) := by
  unfold State.took
  split
  · exact ⟨rfl, .inl rfl⟩
  · exact s.hears_refl

theorem State.hears_endMsg (s : State) (l : List SwClass) (src : Addr) (tag : BitVec 8) (len : Nat) (b : Bool) :
    s.hears (s.endMsg l src tag len b).1 := by
  have htook (c : SwClass) (k : Nat) : s.hears (if b then s else s.took src c k) := by
    split
    · exact s.hears_refl
    · exact s.hears_took ..
  unfold State.endMsg
  exact (htook _ _).trans ⟨rfl, .inl rfl⟩

theorem State.swarmIn_lostMsgs (s : State) (root addressed : Bool) :
    (s.swarmIn root addressed).sw.lostMsgs = s.sw.lostMsgs := by
  have hserved : (if s.isNode && s.hostUp && root then s.serveHs else s).sw.lostMsgs = s.sw.lostMsgs := by
    split <;> rfl
  have hwoken (v : State) : (if addressed && v.hostUp then v.wake else v).sw.lostMsgs = v.sw.lostMsgs := by
    unfold State.wake
    split
    · split <;> rfl
    · rfl
  exact (hwoken _).trans hserved

/-- A message of which no segment was discarded is whole (12 R369). -/
theorem State.endMsg_whole (h : ∀ x ∈ s.sw.lostMsgs, x.2.1 ≠ src) (l : List SwClass) (len : Nat) (b : Bool) :
    (s.endMsg l src tag len b).2 = true := by
  have hnone : (s.sw.lostMsgs.any fun x => l.contains x.1 && x.2.1 == src && x.2.2 == tag) = false := by
    rw [List.any_eq_false]
    intro x hx
    simp [h x hx]
  unfold State.endMsg
  simp only [hnone, Bool.not_false]

/-- s with the last segment of a whole message taken (12 R369). -/
def State.messageIn (s : State) (root : Bool) (l : List SwClass) (src : Addr) (tag : BitVec 8) (len : Nat) : State :=
  ((s.swarmIn root true).endMsg l src tag len false).1

theorem State.hears_messageIn (s : State) (root : Bool) (l : List SwClass) (src : Addr) (tag : BitVec 8) (len : Nat) :
    s.hears (s.messageIn root l src tag len) := (s.hears_swarmIn ..).trans (State.hears_endMsg ..)

theorem State.message_whole (h : ∀ x ∈ s.sw.lostMsgs, x.2.1 ≠ src) (root : Bool) (l : List SwClass) (len : Nat) :
    (s.swarmIn root true).endMsg l src tag len false = (s.messageIn root l src tag len, true) := by
  refine Prod.ext rfl (State.endMsg_whole ?_ ..)
  rwa [State.swarmIn_lostMsgs]

/-- A field that no message that comes can change. -/
theorem State.hears.get {α : Type} (h : s.hears t) (f : State → α) : f t.unheard = f s.unheard := by rw [h.unheard]

theorem State.hears.hostUp (h : s.hears t) : t.hostUp = s.hostUp := by
  unfold State.hostUp
  obtain hp | ⟨hd, hp⟩ := h.pw <;> rw [hp]
  rw [hd]
  rfl

theorem State.hears.portOpen (h : s.hears t) : t.portOpen = s.portOpen := by
  unfold State.portOpen
  rw [h.hostUp]
  obtain hp | ⟨hd, hp⟩ := h.pw <;> rw [hp]
  rw [hd]
  rfl

theorem State.hears.swarmOn (h : s.hears t) : t.swarmOn = s.swarmOn := by
  have hport : t.port = s.port := h.get (·.port)
  unfold State.swarmOn State.isRoot State.isNode State.landsFloat
  rw [hport]
  obtain hp | ⟨hd, hp⟩ := h.pw <;> rw [hp]
  rw [hd]
  rfl

theorem State.hears.isNode (h : s.hears t) : t.isNode = s.isNode := h.get (·.isNode)

theorem State.hears.halted (h : s.hears t) : t.pw.halted = s.pw.halted := by
  obtain hp | ⟨-, hp⟩ := h.pw <;> rw [hp]

theorem State.hears.window (h : s.hears t) : t.pw.window = s.pw.window := by
  obtain hp | ⟨-, hp⟩ := h.pw <;> rw [hp]

theorem State.hears.swarmCore (h : s.hears t) : t.swarmCore = s.swarmCore := by
  unfold State.swarmCore
  rw [h.swarmOn, h.portOpen, h.halted]

theorem State.swarmOn_of_core (h : s.swarmCore = true) : s.swarmOn = true := by
  unfold State.swarmCore at h
  simp only [Bool.and_eq_true] at h
  exact h.1.1

theorem State.hostUp_of_core (h : s.swarmCore = true) : s.hostUp = true := by
  unfold State.swarmCore State.portOpen at h
  simp only [Bool.and_eq_true] at h
  exact h.1.2.1

theorem State.halted_of_core (h : s.swarmCore = true) : s.pw.halted = false := by
  unfold State.swarmCore at h
  simpa using (Bool.and_eq_true_iff.mp h).2

end

end Sys2Proof.Machine
end

section
/-! ## Messages over the swarm (05 R173, 09 R304, 12 R374 to R381) -/

namespace Sys2Proof.Machine

section
variable {s t u : State} {src : Addr} {tag : BitVec 8}

/-! ### Routed commands (12 R374, R378) -/

/-- A routed command that repeats none and finds room is carried out (11 R335, 12 R378). -/
theorem State.swarmCmd_runs {c : CmdSpec} {body : Body} {f : Frame} {crc : Word} {args : BitVec 24} {ws : List Word}
    (hh : u.pw.halted = false) (hw : u.pw.window = none) (hk : ∀ k ∈ u.sw.kept, k.1 ≠ src)
    (ho : ∀ o ∈ u.port.outst, o.sender = .host) :
    u.swarmCmd c body src f crc false args ws = u.runCmd (.swarm src) c body f crc false args ws := by
  have hkept : (u.sw.kept.find? fun k => k.1 == src && k.2.mb == f.mb && k.2.seq == f.seq && k.2.crc == crc) = none :=
    List.find?_eq_none.mpr fun k hmem => by simp [hk k hmem]
  have hrep : u.repeatsOutst (.swarm src) f crc = false :=
    List.any_eq_false.mpr fun o hmem => by simp [ho o hmem]
  have hout : u.outstanding false f.mb = [] :=
    List.filter_eq_nil_iff.mpr fun o hmem => by simp [ho o hmem, Sender.isHost]
  have hlim : decide (mbLimit f.mb ≤ 0) = false := by
    unfold mbLimit
    split <;> rfl
  unfold State.swarmCmd
  simp only [hh, hkept, hrep, hw, hout, List.length_nil, hlim, Option.isSome_none, Bool.or_self, Bool.false_eq_true,
    if_false]

/-- A response to a sender of which none is kept is kept and sent, and nothing else differs (12 R378). -/
theorem State.sendRsp_swarm {o : Outst} {ws : List Word} (hs : o.sender = .swarm src) (hb : o.bcast = false)
    (hk : ∀ k ∈ u.sw.kept, k.1 ≠ src) : (u.sendRsp o ws true).unsent =
      State.unsent { u with sw.kept := u.sw.kept ++ [(src, { mb := o.frame.mb, seq := o.frame.seq
                                                             bulk := o.frame.bulk, words := ws, crc := o.crc
                                                             counts := true })] } := by
  have hleft (b : BitVec 2) (q : BitVec 8) : (u.sw.kept.filter fun k => !(k.1 == src && k.2.mb == b && k.2.seq == q)) =
      u.sw.kept := List.filter_eq_self.mpr fun k hmem => by simp [hk k hmem]
  have hsame (b : BitVec 2) : (u.sw.kept.filter fun k => k.1 == src && k.2.mb == b) = [] :=
    List.filter_eq_nil_iff.mpr fun k hmem => by simp [hk k hmem]
  have hothers (b : BitVec 2) : (u.sw.kept.filter (not ∘ fun k => k.1 == src && k.2.mb == b)) = u.sw.kept :=
    List.filter_eq_self.mpr fun k hmem => by simp [hk k hmem]
  have hdrop (b : BitVec 2) : 0 + 1 - (if b = 1 then 1 else 8) = 0 := by split <;> rfl
  unfold State.sendRsp
  simp only [hs, hb, Bool.false_eq_true, if_false, List.partition_eq_filter_filter, hleft, hsame, hothers,
    List.length_nil, hdrop, List.nil_append, List.drop_zero]
  rw [State.sendMsg_unsent]

/-- A routed command that answers OK at once and changes nothing: its response is kept and sent (12 R378). -/
theorem State.runCmd_swarm {c : CmdSpec} {body : Body} {f : Frame} {crc : Word} {args : BitVec 24} {ws r : List Word}
    (hop : c.op ≠ 0x12) (hop' : c.op < 256) (hr : u.refusal (.swarm src) c f.mb args ws = none)
    (hb : body (.swarm src) args ws u = (u, .now .ok 0 r)) (hk : ∀ k ∈ u.sw.kept, k.1 ≠ src)
    (ho : ∀ o ∈ u.port.outst, o.sender = .host) :
    (u.runCmd (.swarm src) c body f crc false args ws).unsent =
      State.unsent { u with sw.kept := u.sw.kept ++ [(src, { mb := f.mb, seq := f.seq, bulk := f.bulk
                                                             words := u.rspWord c.op .ok 0 :: r, crc := crc
                                                             counts := true })] } := by
  have herase (o : Outst) (hs : o.sender = .swarm src) : (u.port.outst ++ [o]).erase o = u.port.outst := by
    have hnew : o ∉ u.port.outst := fun hmem => by
      have := hs.symm.trans (ho o hmem)
      cases this
    rw [List.erase_append_right _ hnew, List.erase_cons_head, List.append_nil]
  have hcode : (BitVec.ofNat 8 c.op).toNat = c.op := Nat.mod_eq_of_lt hop'
  have hrun : u.runCmd (.swarm src) c body f crc false args ws = u.sendRsp
      { sender := .swarm src, frame := f, crc := crc, opcode := BitVec.ofNat 8 c.op, key := 0
        answered := false, bcast := false } (u.rspWord c.op .ok 0 :: r) true := by
    unfold State.runCmd State.judgeCmd
    simp only [hr, hb, bne_self_eq_false, Bool.false_and, Bool.false_eq_true, if_false]
    unfold State.respond
    simp only [State.countStatus, herase, State.rspWords, hcode, if_neg hop]
  rw [hrun, State.sendRsp_swarm rfl rfl hk]

/-- GET_OBJ of an object that is no half of the swarm time reads it and changes nothing (11 R342). -/
theorem getObjBody_reads {snd : Sender} {a : BitVec 24} (ws : List Word) {v : Word} (hlo : objIndex a ≠ 0xD08)
    (hhi : objIndex a ≠ 0xD09) (hv : u.readObj (objIndex a) = some v) :
    getObjBody snd a ws u = (u, .now .ok 0 [v, 0]) := by
  unfold getObjBody
  simp only [hv, if_neg hlo, if_neg hhi]

/-- A routed command of one word that reaches the control core of a node (12 R374, R378). -/
theorem exec_swarmCmdReceived {w : Word} {op : Nat} (hn : s.isNode = true) (hc : s.swarmCore = true)
    (hl : ∀ x ∈ s.sw.lostMsgs, x.2.1 ≠ src) (hop : opcodeOf w = op) : exec (.swarmCmdReceived src tag false [w]) s =
    .next ((s.messageIn (src == 0) [classOfMb (routedMb op)] src tag 1).wake.swarmCmd (commandOf op).1 (commandOf op).2
      src { mb := routedMb op, seq := tag, bulk := false } (frameCrc [w]) false (w.setWidth 24) []) := by
  have hcore := (s.hears_messageIn (src == 0) [classOfMb (routedMb op)] src tag 1).swarmCore
  change execSwarmCmdReceived src tag false [w] s = _
  unfold execSwarmCmdReceived
  simp only [hn, State.swarmOn_of_core hc, wAt, List.getElem?_cons_zero, Option.getD_some, hop, Bool.not_false,
    List.length_singleton, State.message_whole hl, hcore, hc]
  rfl

/-- A message from the root serves the host-silence timer of a node (08 R274). -/
theorem State.messageIn_served (hn : s.isNode = true) (hu : s.hostUp = true) (l : List SwClass) (src : Addr)
    (tag : BitVec 8) (len : Nat) : (s.messageIn true l src tag len).wake.wd.hsLast = s.time := by
  have hwake (v : State) : v.wake.wd = v.wd := by
    unfold State.wake
    split <;> rfl
  have htook (v : State) (c : SwClass) (k : Nat) : (v.took src c k).wd = v.wd := by
    unfold State.took
    split <;> rfl
  have hend (v : State) : (v.endMsg l src tag len false).1.wd = v.wd := htook ..
  have hserved : (if s.isNode && s.hostUp && true then s.serveHs else s) = s.serveHs := if_pos (by simp [hn, hu])
  have hin : (s.swarmIn true true).wd = s.serveHs.wd := by
    unfold State.swarmIn
    rw [hserved]
    dsimp only
    split
    · exact hwake _
    · rfl
  unfold State.messageIn
  rw [hwake, hend, hin]
  rfl

/-- A routed GET_OBJ is run on a node as one of its own; its response is kept and sent (12 R378). -/
theorem swarmCmdReceived_reads {w v : Word} (hn : s.isNode = true) (hc : s.swarmCore = true)
    (hw : s.pw.window = none) (hop : opcodeOf w = 3) (hk : ∀ k ∈ s.sw.kept, k.1 ≠ src)
    (ho : ∀ o ∈ s.port.outst, o.sender = .host) (hl : ∀ x ∈ s.sw.lostMsgs, x.2.1 ≠ src)
    (hu : u = (s.messageIn (src == 0) [.control] src tag 1).wake)
    (hr : u.refusal (.swarm src) getObjSpec 0 (w.setWidth 24) [] = none)
    (hlo : objIndex (w.setWidth 24) ≠ 0xD08) (hhi : objIndex (w.setWidth 24) ≠ 0xD09)
    (hv : u.readObj (objIndex (w.setWidth 24)) = some v) :
    ∃ t, exec (.swarmCmdReceived src tag false [w]) s = .next t ∧ t.unsent = State.unsent { u with sw.kept :=
      u.sw.kept ++ [(src, { mb := 0, seq := tag, bulk := false, words := [u.rspWord 0x03 .ok 0, v, 0]
                            crc := frameCrc [w], counts := true })] } := by
  have hears : s.hears u := by
    rw [hu]
    exact (s.hears_messageIn ..).trans (State.hears_wake _)
  have hkept : u.sw.kept = s.sw.kept := hears.get (·.sw.kept)
  have hport : u.port = s.port := hears.get (·.port)
  have hexec : exec (.swarmCmdReceived src tag false [w]) s = .next (u.swarmCmd getObjSpec getObjBody src
      { mb := 0, seq := tag, bulk := false } (frameCrc [w]) false (w.setWidth 24) []) := by
    have hmb : routedMb 3 = 0 := by decide
    have hclass : classOfMb 0 = .control := rfl
    have hcmd : commandOf 3 = (getObjSpec, getObjBody) := rfl
    rw [exec_swarmCmdReceived hn hc hl hop, hmb, hclass, hcmd, hu]
  refine ⟨_, hexec, ?_⟩
  rw [State.swarmCmd_runs (hears.halted.trans (State.halted_of_core hc)) (hears.window.trans hw) (by rwa [hkept])
    (by rwa [hport])]
  exact State.runCmd_swarm (by decide) (by decide) hr (getObjBody_reads _ hlo hhi hv) (by rwa [hkept]) (by rwa [hport])

/-! ### Responses at the root (12 R379) -/

/-- A command of the host that awaits some work is answered OK (11 R335, R340). -/
theorem State.complete_host {key : Nat} {o : Outst} {ws : List Word} (hop : o.opcode.toNat ≠ 0x12)
    (ho : (u.port.outst.find? fun x => x.key == key && !x.answered) = some o) (hs : o.sender = .host) :
    u.complete key .ok 0 ws = { u with
      port.outst := u.port.outst.map fun x => if x = o then { x with answered := true } else x
      port.rsp := u.port.rsp ++ [{ mb := o.frame.mb, seq := o.frame.seq, bulk := o.frame.bulk, crc := o.crc
                                   counts := true, words := u.rspWord o.opcode.toNat .ok 0 :: ws }] } := by
  unfold State.complete
  rw [ho]
  dsimp only
  unfold State.respond State.sendRsp State.rspWords
  simp only [hs, if_neg hop]
  rfl

/-- s with the wait for a routed command over (12 R379). -/
def State.routeAnswered (s : State) (tag : BitVec 8) : State :=
  { s with sw.waits := s.sw.waits.filter fun x => x.1 != tag }

theorem exec_swarmRspReceived (hr : s.isRoot = true) (hc : s.swarmCore = true)
    (hl : ∀ x ∈ s.sw.lostMsgs, x.2.1 ≠ src) (hk : s.leavingKey (routeKey tag) = false) (ws : List Word) :
    exec (.swarmRspReceived src tag ws) s =
      .next (((s.messageIn false [.control, .bulk] src tag ws.length).routeAnswered tag).complete (routeKey tag) .ok 0
        (src.setWidth 32 :: ws)) := by
  have hears := s.hears_messageIn false [.control, .bulk] src tag ws.length
  have hleave : (s.messageIn false [.control, .bulk] src tag ws.length).leavingKey (routeKey tag) = false :=
    (hears.get (·.leavingKey (routeKey tag))).trans hk
  change execSwarmRspReceived src tag ws s = _
  unfold execSwarmRspReceived
  simp only [hr, State.swarmOn_of_core hc, State.message_whole hl, hears.swarmCore, hc, hleave]
  rfl

/-! ### Event records at the root (12 R381) -/

theorem satAdd_zero {n : Nat} (x : BitVec n) : satAdd x 0 = x := by
  unfold satAdd
  rw [if_pos (by simpa using x.isLt)]
  exact BitVec.add_zero x

theorem satAdd_satInc {n : Nat} (x : BitVec n) (k : Nat) : satAdd (satInc x) k = satAdd x (k + 1) := by
  have hlt := x.isLt
  unfold satInc
  split
  case isTrue hall =>
    subst hall
    have hmax : (BitVec.allOnes n).toNat + 1 = 2 ^ n := by rw [BitVec.toNat_allOnes]; omega
    unfold satAdd
    rw [if_neg (by omega : ¬(BitVec.allOnes n).toNat + (k + 1) < 2 ^ n)]
    split
    case isTrue hk =>
      obtain rfl : k = 0 := by omega
      exact BitVec.add_zero _
    case isFalse => rfl
  case isFalse hall =>
    have hnext : x.toNat + 1 < 2 ^ n := by
      have hne : x.toNat ≠ (BitVec.allOnes n).toNat := fun h => hall (BitVec.eq_of_toNat_eq h)
      rw [BitVec.toNat_allOnes] at hne
      omega
    have hval : (x + 1).toNat = x.toNat + 1 := by
      have hone : (1 : BitVec n).toNat = 1 := by
        rw [BitVec.ofNat_eq_ofNat, BitVec.toNat_ofNat]
        exact Nat.mod_eq_of_lt (Nat.lt_of_le_of_lt (Nat.le_add_left 1 x.toNat) hnext)
      rw [BitVec.toNat_add, hone, Nat.mod_eq_of_lt hnext]
    unfold satAdd
    rw [hval, show x.toNat + 1 + k = x.toNat + (k + 1) by omega]
    split
    · rw [BitVec.add_assoc, BitVec.ofNat_add, BitVec.add_comm 1]
      rfl
    · rfl

/-- A record that finds a place in the queue enters it and is told (12 R381). -/
theorem State.relayEvent_room (h : s.sw.revq.length < 256) (r : EvRecord) :
    (s.relayEvent src r).ch = s.ch ∧ (s.relayEvent src r).still = s.still ∧
    (s.relayEvent src r).sw = { s.sw with revq := s.sw.revq ++ [(src, r)] } ∧
    (s.hostUp = true → (s.relayEvent src r).pendingWith 103 1) := by
  set v : State := { s with sw.revq := s.sw.revq ++ [(src, r)] } with hv
  have he : s.relayEvent src r = v.raise 103 src.toNat 1 v.swRevstatW 0 0 := if_pos h
  have hlogs := raise_logs v 103 src.toNat 1 v.swRevstatW 0 0
  have hsw : (v.raise 103 src.toNat 1 v.swRevstatW 0 0).sw = v.sw := by
    unfold State.logsOver at hlogs
    rw [hlogs]
  rw [he]
  exact ⟨hlogs.ch, hlogs.still, hsw, fun hu => raise_pending v 103 src.toNat 1 v.swRevstatW 0 0 hu (by decide)⟩

/-- A record that finds the queue full is refused, counted, and told once per 10 ms (12 R381). -/
theorem State.relayEvent_full (h : 256 ≤ s.sw.revq.length) (r : EvRecord) :
    (s.relayEvent src r).ch = s.ch ∧ (s.relayEvent src r).still = s.still ∧
    (∃ x, (s.relayEvent src r).sw = { s.sw with holds := satInc s.sw.holds, lastEv103 := x }) ∧
    (s.hostUp = true → s.spaced s.sw.lastEv103 (10 * milli) = true →
      (s.relayEvent src r).pendingWith 103 2 ∧ (s.relayEvent src r).sw.lastEv103 = some s.time) ∧
    (s.spaced s.sw.lastEv103 (10 * milli) = false →
      (s.relayEvent src r).ev = s.ev ∧ (s.relayEvent src r).sw.lastEv103 = s.sw.lastEv103) := by
  set v : State := { s with sw.holds := satInc s.sw.holds } with hv
  cases hsp : s.spaced s.sw.lastEv103 (10 * milli)
  case false =>
    have he : s.relayEvent src r = v := by
      unfold State.relayEvent
      rw [if_neg (Nat.not_lt.mpr h)]
      exact if_neg (by rw [show v.spaced v.sw.lastEv103 (10 * milli) = false from hsp]; decide)
    rw [he]
    exact ⟨rfl, rfl, ⟨s.sw.lastEv103, rfl⟩, fun _ hno => (by cases hno), fun _ => ⟨rfl, rfl⟩⟩
  case true =>
    set w := v.raise 103 src.toNat 2 v.swRevstatW 0 0 with hw
    have he : s.relayEvent src r = { w with sw.lastEv103 := some w.time } := by
      unfold State.relayEvent
      rw [if_neg (Nat.not_lt.mpr h)]
      exact if_pos hsp
    have hlogs : v.logsOver w := raise_logs v 103 src.toNat 2 v.swRevstatW 0 0
    have hpend (hu : s.hostUp = true) : w.pendingWith 103 2 :=
      raise_pending v 103 src.toNat 2 v.swRevstatW 0 0 hu (by decide)
    have hsw : w.sw = v.sw := by
      unfold State.logsOver at hlogs
      rw [hlogs]
    have htime : w.time = s.time := still_time hlogs.still
    rw [he]
    refine ⟨hlogs.ch, hlogs.still, ⟨some w.time, ?_⟩, fun hu _ => ⟨hpend hu, congrArg some htime⟩,
      fun hno => (by cases hno)⟩
    dsimp only
    rw [hsw]

/-- The records of a frame are relayed in order (12 R381). -/
def State.relayAll (s : State) (src : Addr) (recs : List EvRecord) : State :=
  s.each recs fun t e => t.relayEvent src e

/-- The first records of a frame enter the queue as far as it has places, the others are counted (12 R381). -/
theorem State.relayAll_spec (s : State) (src : Addr) (recs : List EvRecord) :
    (s.relayAll src recs).ch = s.ch ∧
    (s.relayAll src recs).sw.revq =
      s.sw.revq ++ (recs.take (256 - s.sw.revq.length)).map (fun r => (src, r)) ∧
    (s.relayAll src recs).sw.holds = satAdd s.sw.holds (recs.length - (256 - s.sw.revq.length)) := by
  induction recs generalizing s with
  | nil =>
    refine ⟨rfl, ?_, ?_⟩
    · rw [List.take_nil, List.map_nil, List.append_nil]; rfl
    · rw [List.length_nil, Nat.zero_sub, satAdd_zero]; rfl
  | cons r recs ih =>
    obtain ⟨hch, hrevq, hholds⟩ := ih (s.relayEvent src r)
    change ((s.relayEvent src r).relayAll src recs).ch = s.ch ∧ _ ∧ _
    by_cases hroom : s.sw.revq.length < 256
    · obtain ⟨hch', -, hsw, -⟩ := s.relayEvent_room (src := src) hroom r
      rw [hsw] at hrevq hholds
      obtain ⟨m, hm⟩ : ∃ m, 256 - s.sw.revq.length = m + 1 := ⟨255 - s.sw.revq.length, by omega⟩
      have hm' : 256 - (s.sw.revq ++ [(src, r)]).length = m := by
        rw [List.length_append, List.length_singleton]; omega
      rw [hm'] at hrevq hholds
      refine ⟨hch.trans hch', hrevq.trans ?_, hholds.trans ?_⟩
      · rw [hm, List.take_succ_cons, List.map_cons, List.append_assoc]
        rfl
      · rw [hm, List.length_cons, Nat.add_sub_add_right]
    · obtain ⟨hch', -, ⟨x, hsw⟩, -⟩ := s.relayEvent_full (src := src) (Nat.not_lt.mp hroom) r
      rw [hsw] at hrevq hholds
      have hzero : 256 - s.sw.revq.length = 0 := by omega
      refine ⟨hch.trans hch', hrevq.trans ?_, hholds.trans ?_⟩
      · rw [hzero, List.take_zero, List.take_zero]
      · rw [hzero, Nat.sub_zero, Nat.sub_zero, satAdd_satInc, List.length_cons]

/-- A frame whose records all fit tells of its last (12 R381). -/
theorem State.relayAll_fits {recs : List EvRecord} (hu : s.hostUp = true) (hne : recs ≠ [])
    (hfit : recs.length ≤ 256 - s.sw.revq.length) : (s.relayAll src recs).pendingWith 103 1 := by
  induction recs generalizing s with
  | nil => exact absurd rfl hne
  | cons r recs ih =>
    rw [List.length_cons] at hfit
    obtain ⟨-, hstill, hsw, hpend⟩ := s.relayEvent_room (src := src) (by omega) r
    by_cases hlast : recs = []
    · rw [hlast]
      exact hpend hu
    · refine ih ((still_hostUp hstill).trans hu) hlast ?_
      rw [hsw, List.length_append, List.length_singleton]
      omega

/-- Within 10 ms of a refusal told, further refusals raise nothing (12 R381). -/
theorem State.relayAll_quiet {recs : List EvRecord} (hfull : 256 ≤ s.sw.revq.length)
    (hsp : s.spaced s.sw.lastEv103 (10 * milli) = false) : (s.relayAll src recs).ev = s.ev := by
  induction recs generalizing s with
  | nil => rfl
  | cons r recs ih =>
    obtain ⟨-, hstill, ⟨x, hsw⟩, -, hquiet⟩ := s.relayEvent_full (src := src) hfull r
    obtain ⟨hev, hlast⟩ := hquiet hsp
    refine (ih ?_ ?_).trans hev
    · rw [hsw]
      exact hfull
    · unfold State.spaced at hsp ⊢
      rw [hlast, still_time hstill]
      exact hsp

/-- A frame that finds the queue full tells of its first record (12 R381). -/
theorem State.relayAll_refused {recs : List EvRecord} (hu : s.hostUp = true) (hne : recs ≠ [])
    (hfull : 256 ≤ s.sw.revq.length) (hsp : s.spaced s.sw.lastEv103 (10 * milli) = true) :
    (s.relayAll src recs).pendingWith 103 2 := by
  obtain ⟨r, recs, rfl⟩ := List.exists_cons_of_ne_nil hne
  obtain ⟨-, hstill, ⟨x, hsw⟩, htold, -⟩ := s.relayEvent_full (src := src) hfull r
  obtain ⟨hpend, hlast⟩ := htold hu hsp
  have hquiet : ((s.relayEvent src r).relayAll src recs).ev = (s.relayEvent src r).ev := by
    refine State.relayAll_quiet ?_ ?_
    · rw [hsw]
      exact hfull
    · unfold State.spaced
      rw [hlast, still_time hstill]
      exact decide_eq_false (by unfold milli; omega)
  exact State.pendingWith_congr (congrArg (·.src[103]) hquiet) hpend

theorem exec_swarmEventReceived (hr : s.isRoot = true) (hc : s.swarmCore = true)
    (hl : ∀ x ∈ s.sw.lostMsgs, x.2.1 ≠ src) (recs : List EvRecord)
    (hu : u = s.messageIn false [.event] src tag (6 * recs.length)) :
    exec (.swarmEventReceived src tag recs) s = .next ((u.relayAll src recs).sendMsg .control 3 false src tag
      (revackWords (min recs.length (256 - u.sw.revq.length)))) := by
  have hcore : u.swarmCore = true := by
    rw [hu, (s.hears_messageIn ..).swarmCore, hc]
  change execSwarmEventReceived src tag recs s = _
  unfold execSwarmEventReceived
  simp only [hr, State.swarmOn_of_core hc, State.message_whole hl, ← hu, hcore]
  rfl

/-- The records of a frame at the root (12 R381). -/
theorem swarmEventReceived_relays {recs : List EvRecord} {n : Nat} (hr : s.isRoot = true) (hc : s.swarmCore = true)
    (hl : ∀ x ∈ s.sw.lostMsgs, x.2.1 ≠ src) (hn : n = 256 - s.sw.revq.length) :
    ∃ t, exec (.swarmEventReceived src tag recs) s = .next t ∧
      t.sw.revq = s.sw.revq ++ (recs.take n).map (fun r => (src, r)) ∧
      t.sw.holds = satAdd s.sw.holds (recs.length - n) ∧ t.ch = s.ch ∧
      (recs ≠ [] → recs.length ≤ n → t.pendingWith 103 1) ∧
      (recs ≠ [] → n = 0 → s.spaced s.sw.lastEv103 (10 * milli) = true → t.pendingWith 103 2) := by
  obtain ⟨u, hu⟩ : ∃ u, u = s.messageIn false [.event] src tag (6 * recs.length) := ⟨_, rfl⟩
  have hears : s.hears u := hu ▸ s.hears_messageIn ..
  have hrevq : u.sw.revq = s.sw.revq := hears.get (·.sw.revq)
  have hholds : u.sw.holds = s.sw.holds := hears.get (·.sw.holds)
  have hspaced : u.spaced u.sw.lastEv103 (10 * milli) = s.spaced s.sw.lastEv103 (10 * milli) :=
    hears.get fun x => x.spaced x.sw.lastEv103 (10 * milli)
  have hup : u.hostUp = true := hears.hostUp.trans (State.hostUp_of_core hc)
  obtain ⟨hch, hq, hh⟩ := u.relayAll_spec src recs
  rw [hrevq, ← hn] at hq hh
  have hsent := (u.relayAll src recs).sendMsg_unsent .control 3 false src tag
    (revackWords (min recs.length (256 - u.sw.revq.length)))
  have hev := congrArg State.ev hsent
  refine ⟨_, exec_swarmEventReceived hr hc hl recs hu, (congrArg (·.sw.revq) hsent).trans hq,
    (congrArg (·.sw.holds) hsent).trans (hh.trans (by rw [hholds])),
    (congrArg (·.ch) hsent).trans (hch.trans (hears.get (·.ch))), fun hne hfit => ?_, fun hne hzero hsp => ?_⟩
  · exact State.pendingWith_congr (congrArg (·.src[103]) hev) (State.relayAll_fits hup hne (by rwa [hrevq, ← hn]))
  · exact State.pendingWith_congr (congrArg (·.src[103]) hev)
      (State.relayAll_refused hup hne (by rw [hrevq]; omega) (hspaced.trans hsp))

end

end Sys2Proof.Machine
end

section
/-! ## Acknowledged records, results, and what a message does as a whole (05 R173, 09 R304, 12 R378 to R381) -/

namespace Sys2Proof.Machine

section
variable {s t u : State} {src : Addr} {tag : BitVec 8}

/-! ### Answers and offers (12 R381) -/

/-- s with the message of an acknowledgement taken (12 R371). -/
def State.ackIn (s : State) (src : Addr) : State := (s.swarmIn (src == 0) true).took src .control 1

theorem State.hears_ackIn (s : State) (src : Addr) : s.hears (s.ackIn src) :=
  (s.hears_swarmIn ..).trans (State.hears_took ..)

/-- An acknowledgement whose TAG no FOREIGN record has is of the node's own offer (12 R381). -/
theorem exec_swarmRevackReceived_own (hn : s.isNode = true) (hc : s.swarmCore = true)
    (hf : ∀ x ∈ s.sw.foreign, x.1 ≠ tag) (accepted : Nat) :
    exec (.swarmRevackReceived src tag accepted) s =
      .next { (s.ackIn src).each (s.sw.offer.take accepted) State.deliverEvent with
              sw.offer := s.sw.offer.drop accepted } := by
  have hears := s.hears_ackIn src
  have hforeign : (s.ackIn src).sw.foreign = s.sw.foreign := hears.get (·.sw.foreign)
  have hoffer : (s.ackIn src).sw.offer = s.sw.offer := hears.get (·.sw.offer)
  have hon : ¬(!s.swarmOn) = true := by simp [State.swarmOn_of_core hc]
  have hcore : ¬(!(s.ackIn src).swarmCore) = true := by simp [hears.swarmCore, hc]
  have hnone : ¬((s.ackIn src).sw.foreign.any fun x => x.1 == tag) = true := by
    rw [hforeign, Bool.not_eq_true, List.any_eq_false]
    exact fun x hx => by simp [hf x hx]
  rw [← hoffer]
  change execSwarmRevackReceived src tag accepted s = _
  unfold execSwarmRevackReceived
  exact (if_neg hon).trans ((if_neg hcore).trans ((if_neg hnone).trans (if_pos (hears.isNode.trans hn))))

/-- An acknowledgement whose TAG a FOREIGN record has answers that record (09 R304; log entry 76). -/
theorem exec_swarmRevackReceived_foreign {d : Nat} (hc : s.swarmCore = true) (hf : (tag, d) ∈ s.sw.foreign)
    (accepted : Nat) : exec (.swarmRevackReceived src tag accepted) s =
      .next { s.ackIn src with
              sw.foreign := s.sw.foreign.filter fun x => x.1 != tag
              rcd := { s.rcd with peerRef := if accepted = 0 then satInc s.rcd.peerRef else s.rcd.peerRef } } := by
  have hears := s.hears_ackIn src
  have hforeign : (s.ackIn src).sw.foreign = s.sw.foreign := hears.get (·.sw.foreign)
  have hrcd : (s.ackIn src).rcd = s.rcd := hears.get (·.rcd)
  have hon : ¬(!s.swarmOn) = true := by simp [State.swarmOn_of_core hc]
  have hcore : ¬(!(s.ackIn src).swarmCore) = true := by simp [hears.swarmCore, hc]
  have hsome : ((s.ackIn src).sw.foreign.any fun x => x.1 == tag) = true := by
    rw [hforeign]
    exact List.any_eq_true.mpr ⟨(tag, d), hf, beq_self_eq_true tag⟩
  rw [← hforeign, ← hrcd]
  change execSwarmRevackReceived src tag accepted s = _
  unfold execSwarmRevackReceived
  exact (if_neg hon).trans ((if_neg hcore).trans (if_pos hsome))

theorem srcNo_eventRecord (s : State) (k : Fin 128) : srcNo (s.eventRecord k).source.toNat = k := by
  have hk := k.isLt
  refine Fin.ext ?_
  change (BitVec.ofNat 8 k.val).toNat % 128 = k.val
  rw [BitVec.toNat_ofNat]
  omega

/-- The record of a source as it stands is delivered: the source is, and no other changes (11 R359). -/
theorem State.deliverEvent_current (s : State) (k : Fin 128) : s.deliverEvent (s.eventRecord k) =
    { s with ev.src := s.ev.src.set k.val { s.ev.src[k.val] with undel := false, raises := 0 } } := by
  unfold State.deliverEvent
  simp only [srcNo_eventRecord, if_true]

/-- An accepted record that has not been raised again is delivered (12 R381). -/
theorem swarmRevackReceived_delivers {k : Fin 128} (hn : s.isNode = true) (hc : s.swarmCore = true)
    (hf : ∀ x ∈ s.sw.foreign, x.1 ≠ tag) (ho : s.sw.offer = [s.eventRecord k]) :
    ∃ t, exec (.swarmRevackReceived src tag 1) s = .next t ∧ t.sw.offer = [] ∧ t.ev.src[k.val].undel = false ∧
      t.ev.src[k.val].raises = 0 ∧ (∀ j : Fin 128, j ≠ k → t.ev.src[j.val] = s.ev.src[j.val]) ∧ t.ch = s.ch := by
  have hears := s.hears_ackIn src
  have hev : (s.ackIn src).ev = s.ev := hears.get (·.ev)
  have hrec : s.eventRecord k = (s.ackIn src).eventRecord k := (hears.get (·.eventRecord k)).symm
  have hexec := exec_swarmRevackReceived_own (src := src) hn hc hf 1
  rw [ho, List.take_succ_cons, List.take_zero, State.each_cons, State.each_nil, hrec,
    State.deliverEvent_current] at hexec
  refine ⟨_, hexec, rfl, ?_, ?_, fun j hj => ?_, hears.get (·.ch)⟩
  · simp
  · simp
  · have hjk : k.val ≠ j.val := fun h => hj (Fin.ext h.symm)
    simp [hjk, hev]

/-- A re-offer sends the ready records and changes no event (12 R381). -/
theorem State.offerEvents_spec (s : State) :
    s.offerEvents.sw.offer = s.readyRecords ∧ s.offerEvents.ev = s.ev ∧ s.offerEvents.ch = s.ch := by
  unfold State.offerEvents
  split
  case h_1 hnone => exact ⟨hnone.symm, rfl, rfl⟩
  case h_2 =>
    have hsent := State.sendMsg_unsent { s with sw.offer := s.readyRecords, sw.tag := s.newTag } .event 2 false 0
      s.newTag (s.readyRecords.flatMap eventWords)
    exact ⟨congrArg (·.sw.offer) hsent, congrArg (·.ev) hsent, congrArg (·.ch) hsent⟩

/-! ### Results at the root (05 R173, 12 R381) -/

/-- A result that fits enters its partition in the name of its node (05 R173, 12 R381). -/
theorem swarmResultsReceived_enters {e : QEntry} (hr : s.isRoot = true) (hs : s.swarmOn = true)
    (hu : s.hostUp = true) (hl : ∀ x ∈ s.sw.lostMsgs, x.2.1 ≠ src)
    (hfit : s.res.poll.fill + s.res.poll.need (relayed src e) 0 ≤ s.res.sizeOf false) :
    ∃ t, exec (.swarmResultsReceived src tag false [e]) s = .next t ∧
      t.res.poll.entries = (s.res.poll.enter (relayed src e) 0).entries ∧ t.res.strm = s.res.strm ∧
      t.ch = s.ch ∧ t.comb = s.comb := by
  obtain ⟨u, hu'⟩ : ∃ u, u = s.messageIn false [.event] src tag (([e]).map qsize).sum := ⟨_, rfl⟩
  have hears : s.hears u := hu' ▸ s.hears_messageIn ..
  have hres : u.res = s.res := hears.get (·.res)
  have hexec : exec (.swarmResultsReceived src tag false [e]) s = .next (u.putEntry false (relayed src e)) := by
    change execSwarmResultsReceived src tag false [e] s = _
    unfold execSwarmResultsReceived
    simp only [hr, hs, State.message_whole hl, ← hu', hears.hostUp, hu, Bool.false_eq_true, if_false]
    rfl
  have hpolled := State.putEntry_polled (s := u) (e := relayed src e) (by rwa [hres])
  rw [hres] at hpolled
  exact ⟨_, hexec, congrArg (·.2.2.2) hpolled, congrArg (·.2.2.1) hpolled,
    (congrArg (·.1) hpolled).trans (hears.get (·.ch)), (congrArg (·.2.1) hpolled).trans (hears.get (·.comb))⟩

end

end Sys2Proof.Machine

open Sys2Proof Sys2Proof.Machine

/-- Settles O53: a message that comes changes what `State.hears` allows, and its row acts on that state. -/
theorem swarmMessages : Obligations.SwarmMessages := by
  unfold Obligations.SwarmMessages
  refine ⟨?command, ?response, ?records, ?node, ?result⟩
  case command =>
    intro s src tag w v hn hc hw hop hk ho hl u hu href hlo hhi hv
    have hears : s.hears u := hu ▸ (s.hears_messageIn ..).trans (State.hears_wake _)
    obtain ⟨t, hexec, hsent⟩ := swarmCmdReceived_reads hn hc hw hop hk ho hl hu href hlo hhi hv
    refine ⟨t, hexec, (congrArg (·.ch) hsent).trans (hears.get (·.ch)),
      (congrArg (·.comb) hsent).trans (hears.get (·.comb)), (congrArg (·.ev) hsent).trans (hears.get (·.ev)),
      (congrArg (·.port.outst) hsent).trans (hears.get (·.port.outst)), fun hsrc => ?_, _,
      (congrArg (·.sw.kept) hsent).trans (congrArg (· ++ _) (hears.get (·.sw.kept))), rfl, rfl⟩
    have hserved : u.wd.hsLast = s.time := by
      rw [hu, hsrc]
      exact State.messageIn_served hn (State.hostUp_of_core hc) ..
    exact (congrArg (·.wd.hsLast) hsent).trans hserved
  case response =>
    intro s src tag ws o hr hc hk hl ho hs hop
    have hears := s.hears_messageIn false [.control, .bulk] src tag ws.length
    have hport : ((s.messageIn false [.control, .bulk] src tag ws.length).routeAnswered tag).port = s.port :=
      hears.get (·.port)
    have hcode : o.opcode.toNat = 0x31 := by rw [hop]; rfl
    have hexec := exec_swarmRspReceived hr hc hl hk ws
    rw [State.complete_host (by rw [hcode]; decide) (by rwa [hport]) hs, hcode] at hexec
    exact ⟨_, hexec, congrArg (·.rsp ++ _) hport, hears.get (·.ch), hears.get (·.comb)⟩
  case records =>
    intro s src tag recs n hr hc hl hn
    exact swarmEventReceived_relays hr hc hl hn
  case node =>
    intro s src tag hn hc
    have hears := s.hears_ackIn src
    refine ⟨fun hf => ⟨fun k ho => swarmRevackReceived_delivers hn hc hf ho,
      _, exec_swarmRevackReceived_own hn hc hf 0, rfl, hears.get (·.ev), hears.get (·.ch)⟩, fun d hf => ?_,
      fun ha ho => ⟨s.offerEvents, ?_, s.offerEvents_spec⟩⟩
    · have hgone : ∀ x ∈ s.sw.foreign.filter (fun x => x.1 != tag), x.1 ≠ tag := fun x hx => by
        simpa using (List.mem_filter.mp hx).2
      exact ⟨⟨_, exec_swarmRevackReceived_foreign hc hf 0, rfl, hgone, hears.get (·.sw.offer), hears.get (·.ch)⟩,
        ⟨_, exec_swarmRevackReceived_foreign hc hf 1, rfl, hgone, hears.get (·.sw.offer),
          hears.get (·.ch)⟩⟩
    · change execRemoteEventReoffer s = _
      unfold execRemoteEventReoffer
      simp [hn, hc, ha, ho]
  case result =>
    intro s src tag e hr hs hu hl hfit
    exact swarmResultsReceived_enters hr hs hu hl hfit
end

section
/-! ## Cells that drive an analogue output: AO_SET, RAIL and HART_WIN (06 R188 to R190, R210, 07 R223, R231) -/

namespace Sys2Proof.Machine

section
variable {s t : State} {n : Ch} {c : Cell} {g : Grp} {idx : Nat} {d : DueCell} {k : BitVec 16} {p : PendCmd}

/-! ### What the start of a cell keeps -/

theorem State.beforeCell.setup (h : s.beforeCell t) : t.setup = s.setup := by
  funext m; unfold State.setup; rw [h.chan]

/-- Whether a code must wait depends on the stage and on the supply of its group (06 R199, R201). -/
theorem State.codeWaits_congr (ha : (t.chan n).ao = (s.chan n).ao)
    (hs : (t.group (grpOf n)).sup = (s.group (grpOf n)).sup) (k : BitVec 16) : t.codeWaits n k = s.codeWaits n k := by
  unfold State.codeWaits; rw [ha, hs]

theorem State.beforeCell.codeWaits (h : s.beforeCell t) (n : Ch) (k : BitVec 16) :
    t.codeWaits n k = s.codeWaits n k := State.codeWaits_congr (by rw [h.chan]) (h.sup _) k

theorem State.beforeCell.tooSoon (h : s.beforeCell t) (n : Ch) (p : PendCmd) : t.tooSoon n p = s.tooSoon n p := by
  unfold State.tooSoon State.clearOn State.spaced
  rw [setup_modeOf h.setup, h.chan, h.sup, h.time]

theorem State.beforeCell.railLimit (h : s.beforeCell t) (n : Ch) : t.railLimit n = s.railLimit n := by
  unfold State.railLimit; rw [h.sup]

theorem State.beforeCell.railReach (h : s.beforeCell t) (n : Ch) (mv tone : Int) :
    t.railReach n (t.railTarget n mv tone) = s.railReach n (s.railTarget n mv tone) := by
  unfold State.railReach State.railTarget State.railNeed
  rw [h.railLimit, setup_cfgOf h.setup, h.chan, h.time]

/-! ### Codes -/

/-- The stage with a code in force, nothing held back (06 R187). -/
def ChAo.atCode (a : ChAo) (k : BitVec 16) : ChAo := { a with code := k, heldCode := none, down := false, off := false }

/-- Taking a code writes the stage, and of the group the time of the switch-on at most (06 R187, R202). -/
theorem State.setCode_spec (s : State) (n : Ch) (k : BitVec 16) :
    (s.setCode n k).chan n = { s.chan n with ao := (s.chan n).ao.atCode k } ∧
    s.touchesGrp (s.setCode n k) [n] [grpOf n] := by
  have hstage := State.touchesGrp_of_touches (State.touches_of_modCh s n fun c => { c with ao := c.ao.atCode k })
    [grpOf n]
  have hchan : (s.modAo n fun a => a.atCode k).chan n = { s.chan n with ao := (s.chan n).ao.atCode k } :=
    State.chan_modAo_same ..
  unfold State.setCode
  dsimp only
  split
  · exact ⟨hchan, hstage.trans (State.touchesGrp_modGrp ..)⟩
  · exact ⟨hchan, hstage⟩

theorem State.applyCode_now (h : s.codeWaits n k = false) : s.applyCode n k = s.setCode n k := by
  unfold State.applyCode; rw [h]; rfl

/-- A pending code that need not wait is in force and pends no longer (07 R231). -/
theorem State.takePend_code (ho : (s.modeOf n).isAo = true) (hw : s.codeWaits n p.code = false) :
    ((s.takePend n p).chan n).ao.code = p.code ∧ ((s.takePend n p).chan n).pend = none ∧
    s.touchesGrp (s.takePend n p) [n] [grpOf n] := by
  have htaken : ∃ f : Channel → Channel, s.takePend n p = (s.modCh n f).applyCode n p.code ∧
      (f (s.chan n)).ao = (s.chan n).ao ∧ (f (s.chan n)).pend = none := by
    unfold State.takePend
    rw [if_pos ho]
    split
    · exact ⟨_, rfl, rfl, rfl⟩
    · refine ⟨fun c => { c with pend := none, overridden := false }, ?_, rfl, rfl⟩
      unfold State.clearOverridden
      rw [State.modCh_modCh]
  obtain ⟨f, he, hao, hpend⟩ := htaken
  have hw' : (s.modCh n f).codeWaits n p.code = false := by
    rw [State.codeWaits_congr (t := s.modCh n f) (s := s) (by rw [State.chan_modCh_same, hao]) rfl, hw]
  obtain ⟨hchan, htouch⟩ := (s.modCh n f).setCode_spec n p.code
  rw [he, State.applyCode_now hw', hchan, State.chan_modCh_same]
  exact ⟨rfl, hpend, (State.touchesGrp_of_touches (State.touches_of_modCh ..) _).trans htouch⟩

/-- A channel on which a cell acts is neither held by the guard nor on a failed die (01 R16, R29). -/
theorem State.free_of_meets {conv : Bool} (h : s.meets conv n = .run) :
    (s.chan n).guard.held = false ∧ s.failedCh n = false := by
  unfold State.meets at h
  simp only [ite_eq_iff, reduceCtorEq, and_false, false_or, and_true, Bool.not_eq_true] at h
  obtain ⟨hfail, -, -, -, hheld, -⟩ := h
  exact ⟨hheld, hfail⟩

/-- AO_SET with FIXED 0 takes a pending code whose channel it meets (07 R231). -/
theorem State.aoApplyAt_takes (hm : s.meets false n = .run) (hp : (s.chan n).pend = some p)
    (ht : s.tooSoon n p = false) : s.aoApplyAt n = s.takePend n p := by
  obtain ⟨hheld, hfail⟩ := State.free_of_meets hm
  unfold State.aoApplyAt
  simp [hm, hp, ht, hheld, hfail]

/-! ### The rows -/

/-- A HART window after a cell that opens or closes it: the close waits for the end of a transmission (06 R210). -/
def ChHart.windowCell (h : ChHart) (isOpen : Bool) : ChHart :=
  if isOpen then { h with winOpen := true, closing := false }
  else if h.phase == .sending then { h with closing := true }
  else { h with winOpen := false, closing := false }

section
variable (hc : c.mask = bitW n.val) (hn : s.isOdd n = false)
include hc hn

theorem exec_aoSet_pending (hd : s.dueOn 0x08 idx c g d) (hf : bit c.arg 31 = false) :
    exec (.aoSet idx) s = .next ((s.cellStarted g c).aoApplyAt n) := by
  have hb := s.cellStarted_before g c
  change execAoSet idx s = _
  unfold execAoSet
  rw [State.runCell_dueOn hd, hf, hb.coveredBy hc hn]
  rfl

variable (hm : s.meets false n = .run)
include hm

theorem exec_aoSet_fixed (hd : s.dueOn 0x08 idx c g d) (hf : bit c.arg 31 = true) : exec (.aoSet idx) s =
    .next ((s.cellStarted g c).applyCode n (BitVec.ofNat 16 (fld c.arg 15 0))) := by
  have hb := s.cellStarted_before g c
  change execAoSet idx s = _
  unfold execAoSet
  rw [State.runCell_dueOn hd, if_pos hf, State.eachCovered_one (hb.coveredBy hc hn) ((hb.meets ..).trans hm)]

theorem exec_rail (hd : s.dueOn 0x09 idx c g d) {ls : List RailLoad} {l : RailLoad}
    (hl : ls.find? (fun x => x.ch == n) = some l) :
    exec (.rail idx ls) s = .next ((s.cellStarted g c).railSlot n l.millivolts l.tone) := by
  have hb := s.cellStarted_before g c
  have hmeets : (s.cellStarted g c).railMeets n = true := by
    unfold State.railMeets; rw [hb.meets, hm]; rfl
  change execRail idx ls s = _
  unfold execRail
  rw [State.runCell_dueOn hd, hb.coveredBy hc hn, State.each_cons, State.each_nil, if_pos hmeets, hl]

theorem exec_hartWin (hd : s.dueOn 0x0A idx c g d) : exec (.hartWin idx) s =
    .next ((s.cellStarted g c).modHart n fun h => h.windowCell (bit c.arg 0)) := by
  have hb := s.cellStarted_before g c
  change execHartWin idx s = _
  unfold execHartWin
  rw [State.runCell_dueOn hd, State.eachCovered_one (hb.coveredBy hc hn) ((hb.meets ..).trans hm)]
  rfl

end

end

end Sys2Proof.Machine

open Sys2Proof Sys2Proof.Machine

/-- Settles O18: each cell does on its one channel what the operation of its row does, on a state that the start of
the cell leaves as it was for that operation. -/
theorem analogueCells : Obligations.AnalogueCells := by
  unfold Obligations.AnalogueCells
  refine ⟨fun s idx c g d n k hd hc hn hm hf hk hw => ?fixed,
    fun s idx c g d n p hd hc hn hm ho hf hp hsoon hw => ?pending,
    fun s idx c g d n ls l hd hc hn hm hl hlim => ?rail, fun s idx c g d n hd hc hn hm => ?window⟩ <;>
    have hb := s.cellStarted_before g c
  case fixed =>
    subst hk
    obtain ⟨hchan, htouch⟩ := (s.cellStarted g c).setCode_spec n (BitVec.ofNat 16 (fld c.arg 15 0))
    have hexec := exec_aoSet_fixed hc hn hm hd hf
    rw [State.applyCode_now ((hb.codeWaits ..).trans hw)] at hexec
    refine ⟨_, hexec, ?_, ?_, htouch⟩
    · rw [hchan]; rfl
    · rw [hchan, hb.chan]
  case pending =>
    have hexec := exec_aoSet_pending hc hn hd hf
    rw [State.aoApplyAt_takes ((hb.meets ..).trans hm) (by rwa [hb.chan]) ((hb.tooSoon ..).trans hsoon)] at hexec
    exact ⟨_, hexec, State.takePend_code (by rwa [setup_modeOf hb.setup]) ((hb.codeWaits ..).trans hw)⟩
  case rail =>
    obtain ⟨v, ⟨hlo, hhi, hv⟩, hchan, hother, -⟩ := (s.cellStarted g c).railSlot_spec n l.millivolts l.tone
    rw [hb.chan, hb.railLimit, hb.railReach, Nat.min_eq_left hlim] at hlo hhi
    rw [hb.railLimit] at hv
    rw [hb.railLimit, setup_cfgOf hb.setup] at hchan
    refine ⟨_, exec_rail hc hn hm hd hl, ?_, ?_, ?_, ?_, fun m hne => (hother m hne).trans (hb.chan m)⟩ <;>
      rw [hchan]
    exacts [hlo, hhi, hv]
  case window =>
    refine ⟨_, exec_hartWin hc hn hm hd, fun ho => ?_, fun hcl hp => ?_, fun hcl hp => ?_,
      State.touches_of_modCh ..⟩ <;> rw [State.chan_modHart_same, hb.chan]
    · rw [ho]; rfl
    · simp [ChHart.windowCell, hcl, hp]
    · simp [ChHart.windowCell, hcl, hp]
end

section
/-! ## HART transactions (06 R206 to R211, 11 R342) -/

namespace Sys2Proof.Machine

section
variable {s : State} {n : Ch} {f : HartFrame} {c : Cmd} {k : Word} {ws : List Word} {a : BitVec 24}

/-! ### Changing and telling -/

/-- A change of the HART part of a channel on a die in touch, told by EV87 (11 R361). -/
theorem State.tellHart_spec (hi : s.inTouch (grpOf n) = true) (h : ChHart → ChHart) (e : Nat) :
    (((s.modHart n h).raiseHart n e).chan n).hart = h (s.chan n).hart ∧
    s.touches ((s.modHart n h).raiseHart n e) [n] ∧ ((s.modHart n h).raiseHart n e).pendingWith 87 e := by
  unfold State.inTouch at hi
  simp only [Bool.and_eq_true, Bool.not_eq_true'] at hi
  obtain ⟨⟨⟨hu, -⟩, hl⟩, -⟩ := hi
  unfold State.raiseHart
  rw [State.fieldRaise_eq (s := s.modHart n h) hu hl]
  have hlogs := raise_logs (s.modHart n h) 87 n.val e ((s.modHart n h).chHartW n) 0 0
  refine ⟨?_, State.touches_logs (State.touches_of_modCh ..) hlogs, raise_pending _ _ _ _ _ _ _ hu (by decide)⟩
  rw [hlogs.chan, State.chan_modHart_same]

theorem State.modHart_modHart (s : State) (n : Ch) (f g : ChHart → ChHart) :
    (s.modHart n f).modHart n g = s.modHart n fun h => g (f h) := State.modCh_modCh ..

/-! ### The two commands -/

/-- No check of the channel refuses a command where its die is in touch and no mode change runs (02 R41). -/
theorem State.channelBusy_nil (hi : s.inTouch (grpOf n) = true) (hb : (s.chan n).cfgBusy = false) :
    s.channelBusy n = [] := by
  unfold State.inTouch at hi
  simp only [Bool.and_eq_true, Bool.not_eq_true'] at hi
  obtain ⟨⟨⟨-, hd⟩, hl⟩, hf⟩ := hi
  unfold State.channelBusy State.failedCh
  simp [hd, hl, hf, hb, failIf]

theorem hartSendBody_queues (hn : n = chNo (arg a 4 0)) (hlo : 1 ≤ k.toNat) (hhi : k.toNat ≤ 255)
    (he : bit (s.cfgOf n).hart 31 = true) (hg : (s.chan n).guard.held = false) (hbl : (s.chan n).ao.blocked = false)
    (hbusy : s.channelBusy n = []) (ht : (s.chan n).hart.txBusy = false) :
    hartSendBody .host a (k :: ws) s = (s.modHart n fun h => { h with
      txBusy := true, phase := .queued, tx := (wordsBytes ws).take k.toNat }, .ok) := by
  subst hn
  have hcount : outside (wAt (k :: ws) 0).toNat 1 255 = false :=
    decide_eq_false (by change ¬(k.toNat < 1 ∨ 255 < k.toNat); omega)
  unfold hartSendBody checkedCh
  simp only [hcount, he, hg, hbl, hbusy, ht, failIf]
  rfl

theorem hartRecvBody_returns (hn : n = chNo (arg a 4 0)) (hg : (s.chan n).guard.held = false)
    (hbusy : s.channelBusy n = []) (hf : (s.chan n).hart.rx = some f) :
    hartRecvBody .host a ws s = (s.modHart n fun h => { h with rx := none },
      .now .ok 0 (pk [(f.pre.toNat, 8), (f.bytes.length, 0)] :: markWords f.marks ++ packBytes f.bytes)) := by
  subst hn
  unfold hartRecvBody checkedCh
  simp only [hg, hbusy, hf, failIf]
  rfl

/-- Taking a message leaves whether a channel is busy (10 R317, R324). -/
theorem State.received_channelBusy (s : State) (g : Frame) (n : Ch) :
    (s.received g).channelBusy n = s.channelBusy n := by
  unfold State.channelBusy State.failedCh State.dieUp
  simp only [State.received_group, State.received_chan]

theorem State.received_cfgOf (s : State) (g : Frame) (n : Ch) : (s.received g).cfgOf n = s.cfgOf n :=
  setup_cfgOf (funext fun m => by unfold State.setup; rw [State.received_chan]) n

/-! ### The line -/

theorem exec_hartTransmitStart (hl : s.hartLive n = true) (hp : (s.chan n).hart.phase = .queued)
    (hw : s.windowOpen n = true) (hc : (s.chan n).hart.carrier = false) :
    exec (.hartTransmitStart n) s = .next (s.modHart n fun h => { h with
      phase := .sending, tx := List.replicate (s.cfgOf n).preamble 0xFF#8 ++ h.tx }) := by
  change execHartTransmitStart n s = _
  unfold execHartTransmitStart
  simp [hl, hp, hw, hc]

theorem exec_hartTransmitEnd (hp : (s.chan n).hart.phase = .sending) :
    exec (.hartTransmitEnd n) s = .next (s.modHart n fun h => { h with
      phase := .waiting, tx := [], winOpen := h.winOpen && !h.closing, closing := false }) := by
  change execHartTransmitEnd n s = _
  unfold execHartTransmitEnd
  simp [hp]

/-- HART works on a channel only with HARTEN, on a die in service, and outside the guard's hold (06 R202, R206). -/
theorem State.hartLive_spec (hl : s.hartLive n = true) : s.hartOn n = true ∧ bit (s.cfgOf n).hart 31 = true ∧
    s.dieUp (grpOf n) = true ∧ (s.chan n).guard.held = false := by
  unfold State.hartLive at hl
  simp only [Bool.and_eq_true, Bool.not_eq_true'] at hl
  obtain ⟨hon, hg⟩ := hl
  have hon' := hon
  unfold State.hartOn at hon'
  simp only [Bool.and_eq_true] at hon'
  obtain ⟨⟨-, he⟩, hd⟩ := hon'
  exact ⟨hon, he, hd, hg⟩

theorem exec_hartCarrierChange (hl : s.hartLive n = true) (hp : (s.chan n).hart.phase ≠ .sending) (on : Bool) :
    exec (.hartCarrierChange n on) s = .next (s.modHart n fun h => { h with carrier := on }) := by
  obtain ⟨-, he, hd, hg⟩ := State.hartLive_spec hl
  change execHartCarrierChange n on s = _
  unfold execHartCarrierChange
  simp [he, hd, hg, hp]

theorem exec_hartReplyTimeout (hl : s.hartLive n = true) (hp : (s.chan n).hart.phase = .waiting)
    (hc : (s.chan n).hart.carrier = false) : exec (.hartReplyTimeout n) s =
      .next ((s.modHart n fun h => { h with phase := .idle, txBusy := false, last := 3 }).raiseHart n 3) := by
  obtain ⟨hon, -⟩ := State.hartLive_spec hl
  change execHartReplyTimeout n s = _
  unfold execHartReplyTimeout
  simp [hon, hp, hc]

/-! ### A frame received -/

/-- A frame counts its characters with errors (06 R205). -/
def ChHart.hears (h : ChHart) (f : HartFrame) : ChHart := { h with errCount := satAdd h.errCount (frameErrors f) }

/-- A frame is held for the host (06 R211). -/
def ChHart.holds (h : ChHart) (f : HartFrame) : ChHart :=
  { h.hears f with rxCount := h.rxCount + 1, rx := some f }

/-- The result of a transaction that a frame ends: OK or PARITY (06 R209). -/
def replyResult (f : HartFrame) : BitVec 3 := if frameErrors f = 0 then 1 else 2

/-- A reply ends the transaction (06 R209). -/
def ChHart.replied (h : ChHart) (f : HartFrame) : ChHart :=
  { h.holds f with phase := .idle, txBusy := false, last := replyResult f }

/-- What a frame with a preamble of 2 or more does, by the phase of the transaction and BURSTRX (06 R209, R211). -/
theorem exec_hartFrameReceived (hl : s.hartLive n = true) (hb : f.bytes.length ≤ 255) (hm : f.marks.length ≤ 255)
    (hpre : 2 ≤ f.pre.toNat) : exec (.hartFrameReceived n f) s = .next (
      if (s.chan n).hart.phase = .sending then s
      else if (s.chan n).hart.phase = .waiting then
        (s.modHart n fun h => h.replied f).raiseHart n (replyResult f).toNat
      else if bit (s.cfgOf n).hart 29 then (s.modHart n fun h => h.holds f).raiseHart n 6
      else s.modHart n fun h => h.hears f) := by
  have hwhole : ({ f with bytes := f.bytes.take 255, marks := f.marks.take 255 } : HartFrame) = f := by
    rw [List.take_of_length_le hb, List.take_of_length_le hm]
  change execHartFrameReceived n f s = _
  unfold execHartFrameReceived
  dsimp only
  rw [hwhole, hl, decide_eq_false (Nat.not_lt.mpr hpre)]
  cases hp : (s.chan n).hart.phase
  case sending => rfl
  case waiting => simp only [State.modHart_modHart]; rfl
  case idle | queued =>
    cases hburst : bit (s.cfgOf n).hart 29
    · rfl
    · simp only [State.modHart_modHart]; rfl

/-- What a frame brings of the transaction and of the buffer, and that it reaches its channel alone (06 R209, R211). -/
theorem hartFrameReceived_delivers (hl : s.hartLive n = true) (hi : s.inTouch (grpOf n) = true)
    (hb : f.bytes.length ≤ 255) (hm : f.marks.length ≤ 255) (hpre : 2 ≤ f.pre.toNat) :
    ∃ t, exec (.hartFrameReceived n f) s = .next t ∧ s.touches t [n] ∧
      ((s.chan n).hart.phase = .waiting →
        (t.chan n).hart = (s.chan n).hart.replied f ∧ t.pendingWith 87 (replyResult f).toNat) ∧
      ((s.chan n).hart.phase = .idle → bit (s.cfgOf n).hart 29 = true →
        (t.chan n).hart = (s.chan n).hart.holds f ∧ t.pendingWith 87 6) := by
  refine ⟨_, exec_hartFrameReceived hl hb hm hpre, ?_⟩
  obtain ⟨hreplied, hreply, htold⟩ := State.tellHart_spec hi (fun h => h.replied f) (replyResult f).toNat
  obtain ⟨hheld, hkept, hev⟩ := State.tellHart_spec hi (fun h => h.holds f) 6
  have hheard : s.touches (s.modHart n fun h => h.hears f) [n] := State.touches_of_modCh ..
  cases hp : (s.chan n).hart.phase
  case sending => exact ⟨State.touches_refl .., nofun, nofun⟩
  case waiting => exact ⟨hreply, fun _ => ⟨hreplied, htold⟩, nofun⟩
  case idle | queued =>
    cases hburst : bit (s.cfgOf n).hart 29
    · exact ⟨hheard, nofun, nofun⟩
    · exact ⟨hkept, nofun, fun _ _ => ⟨hheld, hev⟩⟩

theorem replyResult_toNat (f : HartFrame) : (replyResult f).toNat = if frameErrors f = 0 then 1 else 2 := by
  unfold replyResult; split <;> rfl

end

end Sys2Proof.Machine

open Sys2Proof Sys2Proof.Machine

/-- Settles O27: the two commands through the bodies that no check refuses, the rows of the line through what each
writes on its channel and tells. -/
theorem hartRows : Obligations.HartRows := by
  unfold Obligations.HartRows
  refine ⟨fun s c n k ws ha hn hw hlo hhi he hg hbl hb ht hi => ?send, fun s c n f ha hn hg hb hi hf => ?recv,
    fun s n hl hp hw hc => exec_hartTransmitStart hl hp hw hc, fun s n hp => exec_hartTransmitEnd hp,
    fun s n on hl hp => exec_hartCarrierChange hl hp on, fun s n f hl hi hb hm hpre => ?frame,
    fun s n hl hi hp hc => ?timeout⟩
  case send =>
    have hchan := s.received_chan c.frame n
    refine ⟨_, _, rfl, hostCmd_answers (by decide) (by decide) (by decide) (by decide) ha ?_, rfl⟩
    rw [hw]
    exact hartSendBody_queues hn hlo hhi (by rwa [State.received_cfgOf]) (by rwa [hchan]) (by rwa [hchan])
      ((State.received_channelBusy ..).trans (State.channelBusy_nil hi hb)) (by rwa [hchan])
  case recv =>
    have hchan := s.received_chan c.frame n
    exact ⟨_, _, rfl, hostCmd_answers (by decide) (by decide) (by decide) (by decide) ha
      (hartRecvBody_returns hn (by rwa [hchan])
        ((State.received_channelBusy ..).trans (State.channelBusy_nil hi hb)) (by rwa [hchan])), rfl⟩
  case frame =>
    obtain ⟨t, hexec, htouch, hwait, hidle⟩ := hartFrameReceived_delivers hl hi hb hm hpre
    refine ⟨t, hexec, htouch, fun hp => ?_, fun hp hburst => ?_⟩
    · obtain ⟨hhart, hev⟩ := hwait hp
      rw [replyResult_toNat] at hev
      rw [hhart]
      exact ⟨rfl, rfl, rfl, rfl, hev⟩
    · obtain ⟨hhart, hev⟩ := hidle hp hburst
      rw [hhart]
      exact ⟨rfl, hev⟩
  case timeout =>
    obtain ⟨hhart, htouch, hev⟩ :=
      State.tellHart_spec hi (fun h => { h with phase := .idle, txBusy := false, last := 3 }) 3
    refine ⟨_, exec_hartReplyTimeout hl hp hc, htouch, ?_, ?_, ?_, hev⟩ <;> rw [hhart]
end

section
/-! ## Cells that switch an output: NOP, APPLY, OUT_SET, OUT_PULSE, DIAG and INJ_RES (03 R98, R110, 07 R223 to
R234) -/

namespace Sys2Proof.Machine

section
variable {s t u : State} {n : Ch} {c : Cell} {g : Grp} {idx : Nat} {d : DueCell} {p : PendCmd}

/-! ### What switching reaches -/

theorem State.modOutP_touchesGrp (s : State) (n : Ch) (f : ChOut → ChOut) :
    s.touchesGrp (s.modOutP n f) [n, mateOf n] [grpOf n] := State.touchesGrp_of_touches (s.modOutP_touches n f) _

theorem State.modCh_touchesGrp (s : State) (n : Ch) (f : Channel → Channel) :
    s.touchesGrp (s.modCh n f) [n, mateOf n] [grpOf n] :=
  State.touchesGrp_of_touches (State.touches_of_modCh s n f).widen _

theorem State.commandOff_touchesGrp (s : State) (n : Ch) :
    s.touchesGrp (s.commandOff n) [n, mateOf n] [grpOf n] := by
  unfold State.commandOff State.clearRetry State.switchOff
  split
  · exact State.touchesGrp_of_touches (s.touches_refl _) _
  · exact ((s.modOutP_touchesGrp ..).trans (State.modOutP_touchesGrp ..)).trans (State.modOutP_touchesGrp ..)

/-- A command reaches the channel, its mate and the switch-on of the group (03 R94, R98). -/
theorem State.command_touchesGrp (s : State) (n : Ch) (on : Bool) (k : BitVec 14) :
    s.touchesGrp (s.command n on k) [n, mateOf n] [grpOf n] := by
  unfold State.command State.commandOn
  split
  · dsimp only
    split
    · exact State.touchesGrp_of_touches (s.touches_refl _) _
    · split
      · exact (s.modOutP_touchesGrp ..).trans (State.switchOn_touchesGrp ..)
      · exact (s.modOutP_touchesGrp ..).trans (State.modOutP_touchesGrp ..)
    · exact s.modOutP_touchesGrp ..
  · exact s.commandOff_touchesGrp n

theorem State.hostCommand_touchesGrp (s : State) (n : Ch) (on : Bool) (k : BitVec 14) :
    s.touchesGrp (s.hostCommand n on k) [n, mateOf n] [grpOf n] := by
  unfold State.hostCommand State.countOverride State.clearOverridden
  have h := (s.command_touchesGrp n on k).trans (State.modOutP_touchesGrp _ n fun o => { o with hostOn := on && o.cmdOn })
  dsimp only
  split
  · exact h.trans (State.modCh_touchesGrp ..)
  · exact h.trans (State.modCh_touchesGrp ..)

theorem State.applyCode_touchesGrp (s : State) (n : Ch) (k : BitVec 16) :
    s.touchesGrp (s.applyCode n k) [n, mateOf n] [grpOf n] := by
  unfold State.applyCode
  split
  · exact s.modCh_touchesGrp ..
  · exact (s.setCode_spec n k).2.mono (by simp)

/-- A pending command that takes effect reaches what a command of its channel reaches (07 R231). -/
theorem State.takePend_touchesGrp (s : State) (n : Ch) (p : PendCmd) :
    s.touchesGrp (s.takePend n p) [n, mateOf n] [grpOf n] := by
  unfold State.takePend State.clearOverridden
  have h := s.modCh_touchesGrp n fun c => { c with pend := none }
  dsimp only
  split
  · split
    · exact h.trans (State.applyCode_touchesGrp ..)
    · exact (h.trans (State.modCh_touchesGrp ..)).trans (State.applyCode_touchesGrp ..)
  · split
    · exact h
    · split
      · exact h.trans (State.command_touchesGrp ..)
      · exact h.trans (State.hostCommand_touchesGrp ..)

/-! ### The command in force -/

/-- A channel stands under a command of a state and a duty; an off command has switched it off (03 R98). -/
def State.commanded (t : State) (n : Ch) (on : Bool) (k : BitVec 14) : Prop :=
  (t.chan n).out.cmdOn = on ∧ (t.chan n).out.cmdDuty = (if on then k else 0) ∧
  (on = false → (t.chan n).out.ps = .off)

theorem State.commanded_congr {on : Bool} {k : BitVec 14} (h : t.commanded n on k)
    (hc : (u.chan n).out.cmdOn = (t.chan n).out.cmdOn) (hd : (u.chan n).out.cmdDuty = (t.chan n).out.cmdDuty)
    (hp : (u.chan n).out.ps = (t.chan n).out.ps) : u.commanded n on k := by
  unfold State.commanded; rwa [hc, hd, hp]

/-- Switching on keeps all but the output of a channel, its command and its pulse (03 R98). -/
theorem State.switchOn_keeps (s : State) (n : Ch) :
    ((s.switchOn n).chan n).pend = (s.chan n).pend ∧
    ((s.switchOn n).chan n).out.cmdOn = (s.chan n).out.cmdOn ∧
    ((s.switchOn n).chan n).out.cmdDuty = (s.chan n).out.cmdDuty ∧
    ((s.switchOn n).chan n).out.pulse = (s.chan n).out.pulse := by
  unfold State.switchOn State.noteOn
  rw [State.chan_modSup, State.modOutP_chan_same]
  dsimp only
  split <;> simp

/-- An off command that no lockout refuses switches off and ends a pulse (03 R98). -/
theorem State.commandOff_chan (hl : (s.chan n).out.ps ≠ .lockedOff) :
    (s.commandOff n).commanded n false 0 ∧ ((s.commandOff n).chan n).pend = (s.chan n).pend ∧
    ((s.commandOff n).chan n).out.pulse = none := by
  have hoff : s.commandOff n = ((s.modOutP n fun o => { o with
      cmdOn := false, hostOn := false, cmdDuty := 0, shedDie := false, shedEnv := false }).clearRetry n).switchOff
        n .off := by
    unfold State.commandOff
    split
    · exact absurd ‹_› hl
    · rfl
  unfold State.commanded
  rw [hoff, State.switchOff_chan]
  simp [State.clearRetry, PState.returns]

/-- An on command that no lockout refuses is in force, in every protection state (03 R98). -/
theorem State.commandOn_chan (hl : (s.chan n).out.ps ≠ .lockedOff) (k : BitVec 14) :
    (s.commandOn n k).commanded n true k ∧ ((s.commandOn n k).chan n).pend = (s.chan n).pend := by
  unfold State.commanded State.commandOn
  dsimp only
  split
  · exact absurd ‹_› hl
  · split
    · obtain ⟨hpend, hcmd, hduty, -⟩ :=
        State.switchOn_keeps (s.modOutP n fun o => { o with cmdOn := true, cmdDuty := k }) n
      rw [hpend, hcmd, hduty, State.modOutP_chan_same]
      exact ⟨⟨rfl, rfl, nofun⟩, rfl⟩
    · rw [State.modOutP_chan_same, State.modOutP_chan_same]
      exact ⟨⟨rfl, rfl, nofun⟩, rfl⟩
  · rw [State.modOutP_chan_same]
    exact ⟨⟨rfl, rfl, nofun⟩, rfl⟩

theorem State.command_chan (hl : (s.chan n).out.ps ≠ .lockedOff) (on : Bool) (k : BitVec 14) :
    (s.command n on k).commanded n on k ∧ ((s.command n on k).chan n).pend = (s.chan n).pend := by
  cases on
  case true => exact State.commandOn_chan hl k
  case false =>
    obtain ⟨hcmd, hpend, -⟩ := State.commandOff_chan hl
    exact ⟨hcmd, hpend⟩

theorem State.hostCommand_chan (hl : (s.chan n).out.ps ≠ .lockedOff) (on : Bool) (k : BitVec 14) :
    (s.hostCommand n on k).commanded n on k ∧ ((s.hostCommand n on k).chan n).pend = (s.chan n).pend := by
  obtain ⟨hcmd, hpend⟩ := State.command_chan hl on k
  unfold State.hostCommand State.countOverride State.clearOverridden
  dsimp only
  split
  all_goals
    rw [State.chan_modCh_same, State.modOutP_chan_same]
    refine ⟨State.commanded_congr hcmd ?_ ?_ ?_, hpend⟩ <;> rw [State.chan_modCh_same, State.modOutP_chan_same]

theorem ChMode.not_isAo_of_isSwitch {m : ChMode} (h : m.isSwitch = true) : m.isAo = false := by
  revert h; cases m <;> decide

/-- A pending switching command that takes effect is in force and pends no longer (07 R231). -/
theorem State.takePend_switch (hm : (s.modeOf n).isSwitch = true) (hl : (s.chan n).out.ps ≠ .lockedOff) :
    (s.takePend n p).commanded n p.on p.duty ∧ ((s.takePend n p).chan n).pend = none := by
  have hl' : ((s.modCh n fun c => { c with pend := none }).chan n).out.ps ≠ .lockedOff := by
    rwa [State.chan_modCh_same]
  have hpend : ((s.modCh n fun c => { c with pend := none }).chan n).pend = none := by rw [State.chan_modCh_same]
  unfold State.takePend
  dsimp only
  rw [if_neg (by rw [ChMode.not_isAo_of_isSwitch hm]; decide), if_neg (by rw [hm]; decide)]
  split
  · obtain ⟨hcmd, hkeep⟩ := State.command_chan hl' p.on p.duty
    exact ⟨hcmd, hkeep.trans hpend⟩
  · obtain ⟨hcmd, hkeep⟩ := State.hostCommand_chan hl' p.on p.duty
    exact ⟨hcmd, hkeep.trans hpend⟩

/-- APPLY takes the pending command of a channel that it meets and that no policy waits to switch (07 R231). -/
theorem State.applyAt_takes (hm : s.meets false n = .run) (hp : (s.chan n).pend = some p)
    (ht : s.tooSoon n p = false) (hpol : (s.chan n).out.polOn = false) : s.applyAt n = s.takePend n p := by
  obtain ⟨hheld, hfail⟩ := State.free_of_meets hm
  have hpolicy : s.policyApply n = s := by
    unfold State.policyApply
    simp [hpol]
  unfold State.applyAt
  simp [hpolicy, hm, hp, ht, hheld, hfail]

/-! ### Pulses -/

/-- Whether a channel is ready depends on the supplies, the cooling, the pairs and the dies (03 R98). -/
theorem State.beforeCell.readyOn (h : s.beforeCell t) (n : Ch) : t.readyOn n = s.readyOn n := by
  unfold State.readyOn State.vfReady State.cooled
  rw [h.sup, h.dieUp, h.chan, h.chan, setup_pairOf h.setup]

theorem State.pulseAt_touchesGrp (s : State) (on : Bool) (n : Ch) :
    s.touchesGrp (s.pulseAt on n) [n, mateOf n] [grpOf n] := by
  have hrefl : s.touchesGrp s [n, mateOf n] [grpOf n] := State.touchesGrp_of_touches (s.touches_refl _) _
  unfold State.pulseAt State.switchOff
  dsimp only
  split
  · split
    · exact (s.modOutP_touchesGrp ..).trans (State.switchOn_touchesGrp ..)
    · exact hrefl
  · split
    · exact (s.modOutP_touchesGrp ..).trans (State.modOutP_touchesGrp ..)
    · exact hrefl

/-- An on-pulse switches a ready off channel on (07 R223). -/
theorem State.pulseAt_on (hp : (s.chan n).out.ps = .off) (hr : s.readyOn n = true) :
    s.pulseAt true n = (s.modOutP n fun o => { o with pulse := some true }).switchOn n := by
  unfold State.pulseAt
  simp [hp, hr]

/-- An off-pulse switches an on channel off (07 R223). -/
theorem State.pulseAt_off (hp : (s.chan n).out.ps.isOn = true) :
    s.pulseAt false n = (s.switchOff n .off).modOutP n fun o => { o with pulse := some false } := by
  unfold State.pulseAt
  simp [hp]

/-- A pulse leaves the command of its channel (07 R223). -/
theorem State.pulseAt_cmdOn (s : State) (on : Bool) (n : Ch) :
    ((s.pulseAt on n).chan n).out.cmdOn = (s.chan n).out.cmdOn := by
  unfold State.pulseAt
  dsimp only
  split
  · split
    · obtain ⟨-, hcmd, -⟩ := State.switchOn_keeps (s.modOutP n fun o => { o with pulse := some true }) n
      rw [hcmd, State.modOutP_chan_same]
    · rfl
  · split
    · rw [State.modOutP_chan_same, State.switchOff_chan]
    · rfl

theorem State.pulseAt_on_spec (hp : (s.chan n).out.ps = .off) (hr : s.readyOn n = true) :
    ((s.pulseAt true n).chan n).out.ps.isOn = true ∧ ((s.pulseAt true n).chan n).out.pulse = some true := by
  rw [State.pulseAt_on hp hr]
  obtain ⟨-, -, -, hpulse⟩ := State.switchOn_keeps (s.modOutP n fun o => { o with pulse := some true }) n
  exact ⟨State.switchOn_isOn .., by rw [hpulse, State.modOutP_chan_same]⟩

theorem State.pulseAt_off_spec (hp : (s.chan n).out.ps.isOn = true) :
    ((s.pulseAt false n).chan n).out.ps = .off ∧ ((s.pulseAt false n).chan n).out.pulse = some false := by
  rw [State.pulseAt_off hp, State.modOutP_chan_same, State.switchOff_chan]
  exact ⟨rfl, rfl⟩

/-! ### The end of a pulse -/

/-- The end of a pulse on a channel changes no output but its pulse (07 R223). -/
def State.unpulsed (s : State) (n : Ch) : State := s.modOutP n fun o => { o with pulse := none }

theorem State.unpulsed_chan (s : State) (n : Ch) :
    (s.unpulsed n).chan n = { s.chan n with out := { (s.chan n).out with pulse := none } } :=
  State.modOutP_chan_same ..

/-- Ending a pulse makes no channel ready and takes no readiness (03 R98). -/
theorem State.unpulsed_readyOn (s : State) (n : Ch) : (s.unpulsed n).readyOn n = s.readyOn n := by
  have hcool (m : Ch) : ((s.unpulsed n).chan m).out.cool = (s.chan m).out.cool := by
    unfold State.unpulsed State.modOutP
    dsimp only
    split
    · by_cases hm : m = mateOf n
      · subst hm
        rw [State.chan_modOut_same, State.chan_modOut_ne _ _ (mateOf_ne n)]
      · rw [State.chan_modOut_ne _ _ hm]
        by_cases hn : m = n
        · subst hn; rw [State.chan_modOut_same]
        · rw [State.chan_modOut_ne _ _ hn]
    · by_cases hn : m = n
      · subst hn; rw [State.chan_modOut_same]
      · rw [State.chan_modOut_ne _ _ hn]
  have htouch : s.touches (s.unpulsed n) [n, mateOf n] := State.modOutP_touches ..
  have hset : (s.unpulsed n).setup = s.setup := (State.only_modOutP ..).2.1
  unfold State.readyOn State.vfReady State.cooled
  rw [hcool, hcool, setup_pairOf hset, htouch.group, htouch.dieUp]

/-- What the end of a pulse leads a channel to that no guard holds: the state of its command (07 R223). -/
def State.pulseEnded (s : State) (n : Ch) : State :=
  if !(s.chan n).out.cmdOn then (s.unpulsed n).commandOff n
  else match (s.chan n).out.ps with
    | .off => if s.readyOn n then (s.unpulsed n).switchOn n else (s.unpulsed n).modOutP n fun o => { o with ps := .pend }
    | .on | .limit => (s.unpulsed n).refreshDuty n
    | _ => s.unpulsed n

theorem exec_outPulseEnd (hp : (s.chan n).out.pulse.isSome = true) (hm : (s.modeOf n).isSwitch = true)
    (hg : (s.chan n).guard.held = false) (hd : s.dieUp (grpOf n) = true) :
    exec (.outPulseEnd n) s = .next (s.pulseEnded n) := by
  obtain ⟨b, hb⟩ := Option.isSome_iff_exists.mp hp
  change execOutPulseEnd n s = _
  unfold execOutPulseEnd State.pulseEnded
  rw [← State.unpulsed_readyOn]
  simp only [hb, hm, hg, hd, Option.isNone_some, Bool.false_eq_true, Bool.not_true, Bool.or_self, if_false]
  split
  · rfl
  · cases (s.chan n).out.ps <;> rfl

theorem State.refreshDuty_keeps (s : State) (n : Ch) :
    ((s.refreshDuty n).chan n).out.pulse = (s.chan n).out.pulse ∧
    s.touchesGrp (s.refreshDuty n) [n, mateOf n] [grpOf n] := by
  unfold State.refreshDuty
  dsimp only
  split
  · exact ⟨by rw [State.modOutP_chan_same], s.modOutP_touchesGrp ..⟩
  · exact ⟨by rw [State.modOutP_chan_same], s.modOutP_touchesGrp ..⟩
  · exact ⟨rfl, State.touchesGrp_of_touches (s.touches_refl _) _⟩

/-- The end of a pulse ends it, and reaches what a command of its channel reaches (07 R223). -/
theorem State.pulseEnded_spec (s : State) (n : Ch) :
    ((s.pulseEnded n).chan n).out.pulse = none ∧ s.touchesGrp (s.pulseEnded n) [n, mateOf n] [grpOf n] := by
  have hun : s.touchesGrp (s.unpulsed n) [n, mateOf n] [grpOf n] := s.modOutP_touchesGrp ..
  have hnone : ((s.unpulsed n).chan n).out.pulse = none := by rw [State.unpulsed_chan]
  unfold State.pulseEnded
  split
  · refine ⟨?_, hun.trans (State.commandOff_touchesGrp ..)⟩
    by_cases hl : ((s.unpulsed n).chan n).out.ps = .lockedOff
    · unfold State.commandOff
      rw [hl]
      exact hnone
    · obtain ⟨-, -, hpulse⟩ := State.commandOff_chan hl
      exact hpulse
  · obtain ⟨hrefresh, htouch⟩ := (s.unpulsed n).refreshDuty_keeps n
    split
    · split
      · obtain ⟨-, -, -, hpulse⟩ := (s.unpulsed n).switchOn_keeps n
        exact ⟨hpulse.trans hnone, hun.trans (State.switchOn_touchesGrp ..)⟩
      · exact ⟨by rw [State.modOutP_chan_same]; exact hnone, hun.trans (State.modOutP_touchesGrp ..)⟩
    · exact ⟨hrefresh.trans hnone, hun.trans htouch⟩
    · exact ⟨hrefresh.trans hnone, hun.trans htouch⟩
    · exact ⟨hnone, hun⟩

/-! ### The rows -/

theorem exec_nop (hd : s.dueOn 0x00 idx c g d) : exec (.nop idx) s = .next (s.cellStarted g c) :=
  congrArg Host.Outcome.next (State.runCell_dueOn hd fun t _ _ => t)

theorem exec_injRes (hd : s.dueOn 0x0E idx c g d) : exec (.injRes idx) s = .next (s.cellStarted g c) :=
  congrArg Host.Outcome.next (State.runCell_dueOn hd fun t _ _ => t)

section
variable (hc : c.mask = bitW n.val) (hn : s.isOdd n = false)
include hc hn

theorem exec_apply (hd : s.dueOn 0x04 idx c g d) : exec (.apply idx) s = .next ((s.cellStarted g c).applyAt n) := by
  have hb := s.cellStarted_before g c
  change execApply idx s = _
  unfold execApply
  rw [State.runCell_dueOn hd, hb.coveredBy hc hn]
  rfl

variable (hm : s.meets false n = .run)
include hm

theorem exec_outSet (hd : s.dueOn 0x05 idx c g d) : exec (.outSet idx) s =
    .next (((s.cellStarted g c).command n (bit c.arg 31) (BitVec.ofNat 14 (fld c.arg 13 0))).modOutP n fun o =>
      { o with hostOn := false }) := by
  have hb := s.cellStarted_before g c
  change execOutSet idx s = _
  unfold execOutSet
  rw [State.runCell_dueOn hd, State.eachCovered_one (hb.coveredBy hc hn) ((hb.meets ..).trans hm)]

theorem exec_outPulse (hd : s.dueOn 0x06 idx c g d) :
    exec (.outPulse idx) s = .next ((s.cellStarted g c).pulseAt (bit c.arg 31) n) := by
  have hb := s.cellStarted_before g c
  change execOutPulse idx s = _
  unfold execOutPulse
  rw [State.runCell_dueOn hd, State.eachCovered_one (hb.coveredBy hc hn) ((hb.meets ..).trans hm)]

theorem exec_diag (hd : s.dueOn 0x07 idx c g d) (hps : (s.chan n).out.ps = .on)
    (hi : (s.cfgOf n).inductive = false) :
    exec (.diag idx) s = .next ((s.cellStarted g c).modOutP n fun o => { o with diag := true }) := by
  have hb := s.cellStarted_before g c
  change execDiag idx s = _
  unfold execDiag
  rw [State.runCell_dueOn hd, hb.coveredBy hc hn, State.each_cons, State.each_nil, hb.meets, hm]
  simp [hb.chan, hps, setup_cfgOf hb.setup, hi]

end

end

end Sys2Proof.Machine

open Sys2Proof Sys2Proof.Machine

/-- Settles O16: each cell does on its one channel what the operation of its row does, on a state that the start of
the cell leaves as it was for that operation; the end of a pulse by the state of the command. -/
theorem outputCells : Obligations.OutputCells := by
  unfold Obligations.OutputCells
  refine ⟨fun s idx c g d hd => exec_nop hd, fun s idx c g d hd => exec_injRes hd,
    fun s idx c g d n p hd hc hn hm hsw hp hsoon hpol => ?apply, fun s idx c g d n hd hc hn hm => ?set,
    fun s idx c g d n hd hc hn hm => ?pulse, fun s idx c g d n hd hc hn hm hps hi => ?diag,
    fun s n hp hm hg hd => ?pulseEnd⟩
  case apply =>
    have hb := s.cellStarted_before g c
    have hrun := (hb.meets false n).trans hm
    have hexec := exec_apply hc hn hd
    rw [State.applyAt_takes hrun (by rwa [hb.chan]) ((hb.tooSoon ..).trans hsoon) (by rwa [hb.chan])] at hexec
    obtain ⟨⟨hon, hduty, hoff⟩, hpend⟩ := State.takePend_switch (s := s.cellStarted g c) (p := p)
      (by rwa [setup_modeOf hb.setup]) (State.unlocked_of_meets hrun)
    exact ⟨_, hexec, hpend, hon, hduty, hoff, State.takePend_touchesGrp ..⟩
  case set =>
    have hb := s.cellStarted_before g c
    obtain ⟨⟨hon, hduty, -⟩, hpend⟩ := State.command_chan
      (State.unlocked_of_meets ((hb.meets false n).trans hm)) (bit c.arg 31) (BitVec.ofNat 14 (fld c.arg 13 0))
    rw [hb.chan] at hpend
    refine ⟨_, exec_outSet hc hn hm hd, ?_, ?_, ?_,
      (State.command_touchesGrp ..).trans (State.modOutP_touchesGrp ..)⟩ <;> rw [State.modOutP_chan_same]
    exacts [hon, hduty, hpend]
  case pulse =>
    have hb := s.cellStarted_before g c
    refine ⟨_, exec_outPulse hc hn hm hd, ?_, fun ho hps hr => ?_, fun ho hps => ?_, State.pulseAt_touchesGrp ..⟩
    · rw [State.pulseAt_cmdOn, hb.chan]
    · rw [ho]
      exact State.pulseAt_on_spec (by rwa [hb.chan]) (by rwa [hb.readyOn])
    · rw [ho]
      exact State.pulseAt_off_spec (by rwa [hb.chan])
  case diag =>
    exact ⟨_, exec_diag hc hn hm hd hps hi, by rw [State.modOutP_chan_same], State.modOutP_touches ..⟩
  case pulseEnd =>
    obtain ⟨hpulse, htouch⟩ := s.pulseEnded_spec n
    refine ⟨_, exec_outPulseEnd hp hm hg hd, hpulse, fun hoff hl => ?_, fun hon hps hr => ?_, fun hon hps hr => ?_,
      htouch⟩
    · have hl' : ((s.unpulsed n).chan n).out.ps ≠ .lockedOff := by rwa [State.unpulsed_chan]
      obtain ⟨⟨-, -, hps⟩, -⟩ := State.commandOff_chan hl'
      unfold State.pulseEnded
      rw [hoff]
      exact hps rfl
    · unfold State.pulseEnded
      simp only [hon, hps, hr]
      exact State.switchOn_isOn ..
    · unfold State.pulseEnded
      simp [hon, hps, hr]
end

section
/-! ## Loading a comb (07 R235 to R238, 11 R342) -/

namespace Sys2Proof.Machine

section
variable {s t u : State} {c : Cmd} {w : Word} {ws : List Word}

/-! ### What the host port leaves -/

/-- What receiving, judging and answering a command leave of a state: all but the port, the swarm, the watchdogs and
the modes (10 R317 to R324, 11 R335 to R347). -/
def State.offPort (s : State) : State :=
  { s with port := State.reset.port, sw := State.reset.sw, wd := State.reset.wd, pw := State.reset.pw }

theorem offPort_comb (h : t.offPort = s.offPort) : t.comb = s.comb := show t.offPort.comb = s.offPort.comb by rw [h]

theorem offPort_ch (h : t.offPort = s.offPort) : t.ch = s.ch := show t.offPort.ch = s.offPort.ch by rw [h]

theorem offPort_grp (h : t.offPort = s.offPort) : t.grp = s.grp := show t.offPort.grp = s.offPort.grp by rw [h]

theorem offPort_ev (h : t.offPort = s.offPort) : t.ev = s.ev := show t.offPort.ev = s.offPort.ev by rw [h]

theorem offPort_ite {p : Prop} [Decidable p] (ht : t.offPort = s.offPort) (hu : u.offPort = s.offPort) :
    (if p then t else u).offPort = s.offPort := by
  split
  · exact ht
  · exact hu

theorem State.sendMsg_offPort (s : State) (c : SwClass) (k : Nat) (b : Bool) (d : Addr) (x : BitVec 8)
    (ws : List Word) : (s.sendMsg c k b d x ws).offPort = s.offPort :=
  (congrArg State.offPort (s.sendMsg_unsent c k b d x ws) :)

theorem State.sendRsp_offPort (s : State) (o : Outst) (ws : List Word) (b : Bool) :
    (s.sendRsp o ws b).offPort = s.offPort := by
  unfold State.sendRsp
  dsimp only
  split
  · rfl
  · exact offPort_ite rfl (State.sendMsg_offPort ..)

theorem State.respond_offPort (s : State) (o : Outst) (st : Status) (d : Nat) (ws : List Word) :
    (s.respond o st d ws).offPort = s.offPort := by
  have hcount : (s.countStatus st).offPort = s.offPort := by cases st <;> rfl
  unfold State.respond
  dsimp only
  rw [State.sendRsp_offPort]
  split <;> exact hcount

/-- The answer of work that is complete goes to the port or to the swarm (11 R335). -/
theorem State.complete_offPort (s : State) (k : Nat) (st : Status) (d : Nat) (ws : List Word) :
    (s.complete k st d ws).offPort = s.offPort := by
  unfold State.complete
  split
  · exact State.respond_offPort ..
  · rfl

theorem State.accept_offPort (s : State) : s.accept.offPort = s.offPort := by
  unfold State.accept State.wake
  exact offPort_ite (s := s) rfl rfl

theorem State.supersede_offPort (s : State) (f : Frame) : (s.supersede f).offPort = s.offPort := by
  unfold State.supersede
  exact offPort_ite rfl rfl

/-- Taking the last frame of a message (10 R317, R324). -/
theorem State.received_offPort (s : State) (f : Frame) : (s.received f).offPort = s.offPort :=
  (State.supersede_offPort s.accept f).trans s.accept_offPort

theorem State.lostFrame_offPort (s : State) (h : Word) : (s.lostFrame h).offPort = s.offPort := by
  unfold State.lostFrame
  exact offPort_ite rfl (offPort_ite rfl (offPort_ite rfl rfl))

/-- What the receive logic makes of a frame (10 R323). -/
theorem State.frameIn_offPort (s : State) (h : Word) : (s.frameIn h).1.offPort = s.offPort := by
  have hbusy : (s.rejectBusy h true).offPort = s.offPort := State.lostFrame_offPort ..
  have hhdr : (s.rejectHdr h).offPort = s.offPort := State.lostFrame_offPort ..
  have htrail : s.rejectTrail.offPort = s.offPort := offPort_ite rfl rfl
  unfold State.frameIn
  split
  · split
    · exact hbusy
    · split
      · exact s.accept_offPort
      · exact hhdr
  · exact htrail
  · rfl

/-- A reading of the state on which receiving, judging and answering a command have no influence. -/
def keptByPort {α : Type} (f : State → α) : Prop := ∀ t u : State, t.offPort = u.offPort → f t = f u

/-! A command whose body keeps such a reading keeps it, accepted or refused (11 R334 to R347). -/

section
variable {α : Type} {f : State → α} {body : Body} (hf : keptByPort f) (x : CmdSpec)
include hf

theorem State.judgeCmd_keeps (snd : Sender) (mb : BitVec 2) (a : BitVec 24) (ws : List Word)
    (hb : f (body snd a ws s).1 = f s) : f (s.judgeCmd snd x body mb a ws).1 = f s := by
  have hcount : f (s.countRefusal snd x) = f s := hf _ _ (offPort_ite rfl rfl)
  unfold State.judgeCmd
  split
  · exact hb
  · dsimp only
    split
    · split
      · rfl
      · dsimp only
        split
        · exact hcount
        · rfl
    · dsimp only
      split
      · exact hcount
      · rfl

theorem State.runCmd_keeps (snd : Sender) (g : Frame) (crc : Word) (b : Bool) (a : BitVec 24) (ws : List Word)
    (hb : f (body snd a ws s).1 = f s) : f (s.runCmd snd x body g crc b a ws) = f s := by
  have hjudge := State.judgeCmd_keeps hf x snd g.mb a ws hb
  unfold State.runCmd
  dsimp only
  split
  all_goals
    rename_i e
    rw [e] at hjudge
    refine Eq.trans (hf _ _ ?_) hjudge
  · exact State.respond_offPort ..
  · rfl

theorem State.takeLast_keeps (m : Cmd) (hb : ∀ v : State, f (body .host m.args m.words v).1 = f v) :
    f (s.takeLast x body m) = f s := by
  have htake (v : State) (crc : Word) : f (v.takeCmd x body m crc) = f v := by
    unfold State.takeCmd
    split
    · exact hf _ _ rfl
    · split
      · exact hf _ _ rfl
      · split
        · exact hf _ _ (State.sendRsp_offPort ..)
        · exact State.runCmd_keeps hf x _ _ _ _ _ _ (hb v)
  have hover (v : State) (h : v.offPort = (s.supersede m.frame).offPort) : f v = f s :=
    hf _ _ (h.trans (s.supersede_offPort m.frame))
  unfold State.takeLast
  dsimp only
  split
  · exact hover _ rfl
  · split
    · exact hover _ rfl
    · split
      · exact (htake ..).trans (hover _ rfl)
      · exact hover _ rfl

theorem State.hostCmd_keeps (m : Cmd) (hb : ∀ v : State, f (body .host m.args m.words v).1 = f v) :
    f (s.hostCmd x body m) = f s := by
  have hin : f (s.frameIn ((s.lastFrame x.op m).headD 0)).1 = f s := hf _ _ (s.frameIn_offPort _)
  unfold State.hostCmd
  dsimp only
  split
  · rfl
  · split
    · exact hin
    · split
      · refine Eq.trans (hf _ _ ?_) hin
        rfl
      · exact (State.takeLast_keeps hf x m hb).trans hin

end

/-! ### The active comb and what counts on it -/

/-- The active bank and its comb, the groups with their positions, and the counters of the comb (07 R238). -/
def State.inForce (s : State) : (Bool × Option Comb × List Byte × List Byte) × Vector Group 4 ×
    BitVec 16 × BitVec 16 × BitVec 8 × BitVec 8 × BitVec 16 :=
  ((s.comb.actBank, s.comb.active, s.comb.bank0, s.comb.bank1), s.grp,
    s.comb.late, s.comb.skipped, s.comb.stalls, s.comb.reversals, s.comb.applyConf)

theorem inForce_keptByPort : keptByPort State.inForce := fun t u h => by
  unfold State.inForce
  rw [offPort_comb h, offPort_grp h]

/-- What `inForce` says, clause by clause. -/
theorem State.inForce_spec (h : t.inForce = s.inForce) : t.comb.actBank = s.comb.actBank ∧
    t.comb.active = s.comb.active ∧ t.comb.bank0 = s.comb.bank0 ∧ t.comb.bank1 = s.comb.bank1 ∧
    (∀ g, (t.group g).pos = (s.group g).pos) ∧ t.comb.late = s.comb.late ∧ t.comb.skipped = s.comb.skipped ∧
    t.comb.stalls = s.comb.stalls ∧ t.comb.reversals = s.comb.reversals ∧ t.comb.applyConf = s.comb.applyConf := by
  simp only [State.inForce, Prod.mk.injEq] at h
  obtain ⟨⟨hbank, hact, h0, h1⟩, hgrp, hlate, hskip, hstall, hrev, hconf⟩ := h
  exact ⟨hbank, hact, h0, h1, fun g => by unfold State.group; rw [hgrp], hlate, hskip, hstall, hrev, hconf⟩

/-- A commit marks the image as under verification, or is refused (07 R235, R236). -/
theorem combCommitBody_inForce (snd : Sender) (a : BitVec 24) (ws : List Word) (s : State) :
    (combCommitBody snd a ws s).1.inForce = s.inForce := by
  unfold combCommitBody checked
  dsimp only
  split <;> rfl

theorem exec_combCommit (s : State) (c : Cmd) :
    exec (.combCommit c) s = .next (s.hostCmd combCommitSpec combCommitBody c) := rfl

theorem combCommit_inForce (s : State) (c : Cmd) :
    (s.hostCmd combCommitSpec combCommitBody c).inForce = s.inForce :=
  State.hostCmd_keeps inForce_keptByPort _ c fun v => combCommitBody_inForce _ _ _ v

/-! ### The end of a verification -/

/-- Raising an event changes neither the comb, the channels, the groups nor whether the host die is up (11 R359). -/
theorem State.raise_keeps (s : State) (k : Fin 128) (a b : Nat) (p q r : Word) :
    (s.raise k a b p q r).comb = s.comb ∧ (s.raise k a b p q r).ch = s.ch ∧ (s.raise k a b p q r).grp = s.grp ∧
    (s.raise k a b p q r).hostUp = s.hostUp := by
  have h := raise_logs s k a b p q r
  obtain ⟨hch, hgrp, hrest⟩ := logsOver_iff.mp h
  exact ⟨rest_comb hrest, hch, hgrp, still_hostUp h.still⟩

/-- An image of which a check failed is told by EV92 and, for its signature, by EV116; the verdict of its owner
counts (07 R235, R237, 14 R432). -/
theorem State.noteRejected_spec (s : State) (bs : List Byte) (r : BitVec 4) (i : BitVec 13) :
    (s.noteRejected bs r i).comb = s.comb ∧ (s.noteRejected bs r i).ch = s.ch ∧
    (s.noteRejected bs r i).grp = s.grp ∧
    (s.hostUp = true → (s.noteRejected bs r i).pendingWith 92 r.toNat) := by
  have hauth (k d o : Nat) : (s.authFailure k d o).comb = s.comb ∧ (s.authFailure k d o).ch = s.ch ∧
      (s.authFailure k d o).grp = s.grp ∧ (s.authFailure k d o).hostUp = s.hostUp := State.raise_keeps ..
  set v := if r = 3 then if (decodeHdr bs).signed then s.authFailure (decodeHdr bs).keyid.toNat 3 0x12 else s
    else if 3 < r.toNat && (decodeHdr bs).signed then s.authSuccess else s with hv
  have hbefore : v.comb = s.comb ∧ v.ch = s.ch ∧ v.grp = s.grp ∧ v.hostUp = s.hostUp := by
    rw [hv]
    split
    · split
      · exact hauth ..
      · exact ⟨rfl, rfl, rfl, rfl⟩
    · split <;> exact ⟨rfl, rfl, rfl, rfl⟩
  obtain ⟨hcomb, hch, hgrp, hup⟩ := hbefore
  have hraise : s.noteRejected bs r i = v.raise 92 i.toNat r.toNat v.combLoadW 0 0 := rfl
  obtain ⟨kcomb, kch, kgrp, -⟩ := v.raise_keeps 92 i.toNat r.toNat v.combLoadW 0 0
  rw [hraise]
  exact ⟨kcomb.trans hcomb, kch.trans hch, kgrp.trans hgrp,
    fun h => raise_pending v 92 _ _ _ _ _ (hup.trans h) (by decide)⟩

/-- The state with an image rejected, and its COMB_COMMIT answered (07 R235). -/
def State.imageRejected (s : State) (st : Status) (r : BitVec 4) (i : BitVec 13) : State :=
  (State.noteRejected { s with comb := { s.comb with lstate := .rejected, reason := r, index := i, verdict := none } }
    s.comb.loading r i).complete commitKey st 0 []

/-- A rejected image: its LSTATE, REASON and INDEX are told, and nothing in force changes (07 R235, R238). -/
theorem State.imageRejected_spec (s : State) (st : Status) (r : BitVec 4) (i : BitVec 13) :
    (s.imageRejected st r i).comb = { s.comb with lstate := .rejected, reason := r, index := i, verdict := none } ∧
    (s.imageRejected st r i).ch = s.ch ∧ (s.imageRejected st r i).grp = s.grp ∧
    (s.hostUp = true → (s.imageRejected st r i).pendingWith 92 r.toNat) := by
  obtain ⟨hcomb, hch, hgrp, hpend⟩ := State.noteRejected_spec
    { s with comb := { s.comb with lstate := .rejected, reason := r, index := i, verdict := none } } s.comb.loading r i
  have hoff : (s.imageRejected st r i).offPort = _ := State.complete_offPort ..
  exact ⟨(offPort_comb hoff).trans hcomb, (offPort_ch hoff).trans hch, (offPort_grp hoff).trans hgrp,
    fun h => State.pendingWith_congr (congrArg (fun e : Events => e.src[_]) (offPort_ev hoff)) (hpend h)⟩

theorem State.imageRejected_inForce (s : State) (st : Status) (r : BitVec 4) (i : BitVec 13) :
    (s.imageRejected st r i).inForce = s.inForce := by
  obtain ⟨hcomb, -, hgrp, -⟩ := s.imageRejected_spec st r i
  unfold State.inForce
  rw [hcomb, hgrp]

/-- The state with an image verified: the comb that it spells is the next one (07 R235, R239). -/
def State.imageVerified (s : State) : State :=
  let t : State := { s with comb := { s.comb.persistImage with
    lstate := .valid, reason := 0, index := 0, next := some (decodeComb s.comb.loading) } }
  (if (decodeHdr s.comb.loading).signed then t.authSuccess else t).complete commitKey .ok 0 []

theorem State.imageVerified_spec (s : State) : s.imageVerified.comb.lstate = .valid ∧
    s.imageVerified.comb.next = some (decodeComb s.comb.loading) ∧
    s.imageVerified.comb.active = s.comb.active ∧ s.imageVerified.ch = s.ch := by
  have hactive : s.comb.persistImage.active = s.comb.active := by
    unfold CombState.persistImage
    split
    · rfl
    · split <;> rfl
  have hoff : s.imageVerified.offPort = _ := State.complete_offPort ..
  rw [offPort_comb hoff, offPort_ch hoff]
  split <;> exact ⟨rfl, rfl, hactive, rfl⟩

section
variable {st : Status} {r : BitVec 4} {i : BitVec 13}

theorem exec_combVerifyComplete_idle (h : s.comb.lstate ≠ .verifying ∨ s.hostUp = false) :
    exec .combVerifyComplete s = .next s := by
  change execCombVerifyComplete s = _
  unfold execCombVerifyComplete
  dsimp only
  exact if_pos (by simpa using h)

variable (hl : s.comb.lstate = .verifying) (hu : s.hostUp = true)
include hl hu

theorem exec_combVerifyComplete_rejects (hv : s.comb.verdict = some (st, r, i)) :
    exec .combVerifyComplete s = .next (s.imageRejected st r i) := by
  change execCombVerifyComplete s = _
  unfold execCombVerifyComplete
  simp only [hl, hu, hv, bne_self_eq_false, Bool.not_true, Bool.or_self, Bool.false_eq_true, if_false]
  rfl

theorem exec_combVerifyComplete_accepts (hv : s.comb.verdict = none) :
    exec .combVerifyComplete s = .next s.imageVerified := by
  change execCombVerifyComplete s = _
  unfold execCombVerifyComplete
  simp only [hl, hu, hv, bne_self_eq_false, Bool.not_true, Bool.or_self, Bool.false_eq_true, if_false]
  rfl

end

/-! ### The commands -/

/-- A message of whole words carries the bytes that its count tells (11 R338). -/
theorem wordsBytes_length (ws : List Word) : (wordsBytes ws).length = 4 * ws.length := by
  unfold wordsBytes
  induction ws with
  | nil => rfl
  | cons w ws ih =>
    have hw : (wordBytes w).length = 4 := rfl
    rw [List.flatMap_cons, List.length_append, ih, hw, List.length_cons]
    omega

/-- No status is the worst of several only where there is none (11 R341). -/
theorem worst_eq_none {l : List Status} (h : worst l = none) : l = [] := by
  have hsome (l : List Status) (b : Status) : (l.foldl (fun best x => match best with
      | none => some x
      | some b => if x.rank < b.rank then some x else some b) (some b)).isSome = true := by
    induction l generalizing b with
    | nil => rfl
    | cons x l ih =>
      rw [List.foldl_cons]
      dsimp only
      split
      · exact ih x
      · exact ih b
  cases l with
  | nil => rfl
  | cons x l =>
    have hworst := hsome l x
    change (worst (x :: l)).isSome = true at hworst
    rw [h] at hworst
    cases hworst

/-- A message that the port accepts has the length of its command (11 R342). -/
theorem State.lenOk_of_accepts {x : CmdSpec} (h : s.accepts x c = true) : x.lenOk c.args c.words = true := by
  obtain ⟨-, hnone⟩ := hostCmd_runs (body := fun _ _ _ v => (v, .ok)) h
  have hall := worst_eq_none hnone
  cases hlen : x.lenOk c.args c.words
  · unfold State.preChecks at hall
    simp [hlen, failIf] at hall
  · rfl

/-- The bytes of a data command whose length fits its count (11 R338, R342). -/
theorem dataBytes_of_lenOk {off n : Word} {a : BitVec 24} (h : dataLen a (off :: n :: ws) = true) :
    dataBytes (off :: n :: ws) = (wordsBytes ws).take n.toNat ∧
    (dataBytes (off :: n :: ws)).length = n.toNat := by
  have hbytes : dataBytes (off :: n :: ws) = (wordsBytes ws).take n.toNat := rfl
  have hlen : ws.length = wordsFor n.toNat := by
    unfold dataLen at h
    simp only [Bool.and_eq_true, beq_iff_eq, List.length_cons] at h
    have h2 : ws.length + 1 + 1 = 2 + wordsFor n.toNat := h.2
    omega
  refine ⟨hbytes, ?_⟩
  rw [hbytes, List.length_take, wordsBytes_length, hlen]
  unfold wordsFor
  omega

theorem CombState.loading_setBank (x : CombState) (bs : List Byte) : (x.setBank (!x.actBank) bs).loading = bs := by
  unfold CombState.loading CombState.setBank CombState.bankOf
  cases x.actBank <;> rfl

theorem CombState.setBank_active (x : CombState) (b : Bool) (bs : List Byte) :
    (x.setBank b bs).active = x.active := by
  unfold CombState.setBank; split <;> rfl

theorem combLoadBeginBody_begins {a : BitVec 24} (hlo : 272 ≤ w.toNat) (hhi : w.toNat ≤ 65888)
    (hl : s.comb.lstate ≠ .verifying) (ha : s.comb.armed = none) : combLoadBeginBody .host a [w] s =
      ({ s with comb := { s.comb.setBank (!s.comb.actBank) [] with
        lstate := .receiving, reason := 0, index := 0, rxLen := w.toNat, next := none, persist := false } }, .ok) := by
  have hbusy : (s.comb.lstate == .verifying || s.comb.armed.isSome) = false := by simp [hl, ha]
  unfold combLoadBeginBody checked
  simp only [wAt, List.getElem?_cons_zero, Option.getD_some, Nat.not_lt.mpr hlo, Nat.not_lt.mpr hhi, or_self,
    decide_false, hbusy, failIf]
  rfl

theorem combLoadDataBody_appends {a : BitVec 24} {off n : Word} (hl : s.comb.lstate = .receiving)
    (hoff : off.toNat = s.comb.loading.length) (hlo : 1 ≤ n.toNat) (hhi : n.toNat ≤ 4088)
    (hend : off.toNat + n.toNat ≤ s.comb.rxLen) : combLoadDataBody .host a (off :: n :: ws) s =
      ({ s with comb := s.comb.setBank (!s.comb.actBank) (s.comb.loading ++ dataBytes (off :: n :: ws)) },
        .now .ok 0 [BitVec.ofNat 32 (s.comb.loading ++ dataBytes (off :: n :: ws)).length]) := by
  have hcount : outside n.toNat 1 4088 = false := decide_eq_false (by omega)
  unfold combLoadDataBody checked
  simp only [wAt, List.getElem?_cons_zero, List.getElem?_cons_succ, Option.getD_some, hl, hcount, hoff, ne_eq, not_true,
    Nat.not_lt.mpr (hoff ▸ hend), or_self, decide_false, failIf]
  rfl

theorem combCommitBody_verifies {a : BitVec 24} (ws : List Word) (hl : s.comb.lstate = .receiving)
    (hlen : s.comb.rxLen ≤ s.comb.loading.length) : combCommitBody .host a ws s =
      ({ s with comb := { s.comb with
        lstate := .verifying, persist := arg a 0 0 == 1, verdict := s.verifyComb s.comb.loading } },
        .later commitKey) := by
  have hwhole : decide (s.comb.loading.length < s.comb.rxLen) = false := decide_eq_false (by omega)
  unfold combCommitBody checked
  simp only [hl, hwhole, failIf]
  rfl

end

end Sys2Proof.Machine

open Sys2Proof Sys2Proof.Machine

/-- Settles O58: the work of a verification and every way of a COMB_COMMIT through the port keep what is in force. -/
theorem rejectedImage : Obligations.RejectedImage := by
  unfold Obligations.RejectedImage
  refine ⟨fun s st r i hv => ?_, fun s c => ⟨_, exec_combCommit s c, State.inForce_spec (combCommit_inForce s c)⟩⟩
  by_cases hl : s.comb.lstate = .verifying
  · cases hu : s.hostUp
    · exact ⟨_, exec_combVerifyComplete_idle (.inr hu), State.inForce_spec rfl⟩
    · exact ⟨_, exec_combVerifyComplete_rejects hl hu hv, State.inForce_spec (s.imageRejected_inForce st r i)⟩
  · exact ⟨_, exec_combVerifyComplete_idle (.inl hl), State.inForce_spec rfl⟩

/-- Settles O14: the three commands through the bodies that no check refuses, the end of a verification through what a
rejected and a verified image change. -/
theorem combLoading : Obligations.CombLoading := by
  unfold Obligations.CombLoading
  have hcomb (s : State) (c : Cmd) : (s.received c.frame).comb = s.comb := offPort_comb (s.received_offPort c.frame)
  have hch (s : State) (c : Cmd) : (s.received c.frame).ch = s.ch := offPort_ch (s.received_offPort c.frame)
  refine ⟨fun s c w ha hw hlo hhi hl harm => ?load, fun s c off n ws ha hw hl hoff hlo hhi hend => ?data,
    fun s c ha hl hlen => ?commit, fun s hl hu hv => ⟨_, exec_combVerifyComplete_accepts hl hu hv, s.imageVerified_spec⟩,
    fun s st r i hl hu hv => ?reject⟩
  case load =>
    have hbody := combLoadBeginBody_begins (s := s.received c.frame) (a := c.args) hlo hhi (by rwa [hcomb])
      (by rwa [hcomb])
    rw [← hw] at hbody
    exact ⟨_, _, rfl, hostCmd_answers (by decide) (by decide) (by decide) (by decide) ha hbody, rfl,
      CombState.loading_setBank .., rfl, (CombState.setBank_active ..).trans (by rw [hcomb]), hch s c⟩
  case data =>
    obtain ⟨hbytes, hcount⟩ := dataBytes_of_lenOk (a := c.args) (hw ▸ State.lenOk_of_accepts ha)
    have hbody := combLoadDataBody_appends (s := s.received c.frame) (a := c.args) (ws := ws) (by rwa [hcomb])
      (by rwa [hcomb]) hlo hhi (by rwa [hcomb])
    rw [List.length_append, hcount, hbytes, hcomb, ← hoff, ← hw] at hbody
    exact ⟨_, _, rfl, hostCmd_answers (by decide) (by decide) (by decide) (by decide) ha hbody,
      CombState.loading_setBank .., CombState.setBank_active .., hch s c⟩
  case commit =>
    have hbody := combCommitBody_verifies (s := s.received c.frame) (a := c.args) c.words (by rwa [hcomb])
      (by rwa [hcomb])
    rw [hcomb] at hbody
    exact ⟨_, _, rfl, hostCmd_awaits ha hbody, rfl, rfl, rfl, rfl, hch s c⟩
  case reject =>
    obtain ⟨hcomb, hch, -, hpend⟩ := s.imageRejected_spec st r i
    refine ⟨_, exec_combVerifyComplete_rejects hl hu hv, ?_, ?_, ?_, hpend hu, ?_, hch⟩ <;> rw [hcomb]
end

section
/-! ## What an exchange and a stall leave (05 R170, 07 R240 to R248) -/

namespace Sys2Proof.Machine

section
variable {s t u : State} {n : Ch} {g : Grp} {k : Fin 128}

/-! ### Entries of the partitions -/

theorem State.putEntry_bare (s : State) (strm : Bool) (e : QEntry) : (s.putEntry strm e).bare = s.bare := by
  have hover (v : State) : (v.raiseOverflow strm).bare = v.bare := by
    unfold State.raiseOverflow
    exact State.bare_ite (raise_logs v ..).bare rfl
  have hafter (v : State) : (v.afterPut strm).bare = v.bare := by
    have hsettle : (if strm then v.settlePause else v).bare = v.bare := State.bare_ite rfl rfl
    unfold State.afterPut
    exact State.bare_ite (Eq.trans (raise_logs _ ..).bare hsettle) hsettle
  unfold State.putEntry
  dsimp only
  generalize (if strm && !s.res.bp then s.res.bpRun else 0) = run
  split
  · rw [hafter]
    split <;> rfl
  · split
    · rw [hafter, hover]
      split <;> rfl
    · exact hover _

/-- A marker changes the partitions, and raises what their fill raises (05 R168). -/
theorem State.putMarker_bare (s : State) (tag d : Nat) : (s.putMarker tag d).bare = s.bare := by
  have hif (v : State) (p : Prop) [Decidable p] (strm : Bool) (e : QEntry) :
      (if p then v.putEntry strm e else v).bare = v.bare := State.bare_ite (v.putEntry_bare strm e) rfl
  unfold State.putMarker State.putMarkerAt
  exact (hif ..).trans (hif ..)

theorem State.wrapMarker_bare (s : State) : s.wrapMarker.bare = s.bare := State.bare_ite (State.putMarker_bare ..) rfl

/-! ### All but the channels, the groups and the results -/

/-- What neither the channels, the groups, the results, the cause of a hold nor raising an event change: the time,
the comb, the modes, the port, the swarm and the security. -/
def State.aside (s : State) : State := { s.bare with ch := State.reset.ch, safe := State.reset.safe }

theorem aside_comb (h : t.aside = s.aside) : t.comb = s.comb := show t.aside.comb = s.aside.comb by rw [h]

theorem aside_of_bare (h : t.bare = s.bare) : t.aside = s.aside :=
  congrArg (fun x : State => { x with ch := State.reset.ch, safe := State.reset.safe }) h

theorem State.logsOver.aside (h : s.logsOver t) : t.aside = s.aside := aside_of_bare h.bare

theorem State.touchesGrp.aside {l : List Ch} {gs : List Grp} (h : s.touchesGrp t l gs) : t.aside = s.aside := by
  obtain ⟨-, -, hrest⟩ := touchesGrp_iff.mp h
  exact congrArg (fun x : State => { x with res := State.reset.res, safe := State.reset.safe }) hrest

theorem State.aside_ite {p : Prop} [Decidable p] (ht : t.aside = s.aside) (hu : u.aside = s.aside) :
    (if p then t else u).aside = s.aside := by
  split
  · exact ht
  · exact hu

/-- A result of a channel that the host die takes (05 R170). -/
theorem State.takeResult_aside (s : State) (n : Ch) (d : DieEntry) : (s.takeResult n d).aside = s.aside := by
  have hroute (v : State) (e : QEntry) : (v.routeEntry n e).aside = v.aside := by
    unfold State.routeEntry
    dsimp only
    split
    · exact aside_of_bare (State.putEntry_bare ..)
    · exact aside_of_bare (State.putEntry_bare ..)
    · rfl
  have hcap (v : State) (w x : Word) : (v.capResult n w x).aside = v.aside := by
    unfold State.capResult
    dsimp only
    rw [aside_of_bare (State.capFinish_bare _)]
    refine (aside_of_bare (State.bare_ite (State.capTrigger_bare ..) rfl)).trans ?_
    split <;> rfl
  have hovr (v : State) : (v.noteOvr n).aside = v.aside := State.aside_ite rfl (raise_logs _ ..).aside
  have hlate (v : State) (o : Option Nat) : State.aside (match o with
      | some k => if v.res.routeOf n = 1 ∨ v.res.routeOf n = 2 then v.putLate (v.res.routeOf n == 2) k else v
      | none => v) = v.aside := by
    cases o with
    | none => rfl
    | some k => exact State.aside_ite (aside_of_bare (State.putEntry_bare ..)) rfl
  unfold State.takeResult
  dsimp only
  rw [hroute]
  refine (hlate _ _).trans ((hcap ..).trans ?_)
  exact State.aside_ite (hovr _) rfl

theorem State.keepResult_aside (s : State) (n : Ch) (d : DieEntry) : (s.keepResult n d).aside = s.aside :=
  State.aside_ite rfl rfl

/-! ### The comb but for its motion -/

/-- The comb but for the cells that gather results, the motion of its time base and the generation of its position. -/
def CombState.plan (c : CombState) : CombState :=
  { c with
    jobs := [], nextJob := 0, lateSeen := [], moves := [], overspd := false, started := false, cond := .normal
    subTicks := 0, stallAt := 0, revd := false, tb3Lag := 0, tb3Base := 0, cgen := 0 }

/-- What the start and the stop of a comb leave, with what the channels, the groups and the results do. -/
def State.planned (s : State) : State := { s.aside with comb := s.comb.plan }

theorem planned_of_aside (h : t.aside = s.aside) : t.planned = s.planned :=
  congrArg (fun x : State => { x with comb := x.comb.plan }) h

theorem planned_plan (h : t.planned = s.planned) : t.comb.plan = s.comb.plan :=
  congrArg (fun x : State => x.comb) h

/-- A field that `plan` leaves. -/
theorem planned_get {α : Type} (f : CombState → α) (hf : ∀ x : CombState, f x.plan = f x)
    (h : t.planned = s.planned) : f t.comb = f s.comb := by
  rw [← hf, ← hf s.comb, planned_plan h]

theorem planned_still (h : t.planned = s.planned) : t.still = s.still :=
  show t.planned.still = s.planned.still by rw [h]

/-- The results of a cell that has gathered enter (05 R170). -/
theorem State.putCell_planned (s : State) (late : Option Nat) (rs : List (Ch × DieEntry)) :
    (s.putCell late rs).planned = s.planned := by
  unfold State.putCell State.enterCell
  dsimp only
  split
  · exact State.each_keeps (op := fun t (r : Ch × DieEntry) => t.keepResult r.1 r.2) State.planned
      (fun t r => planned_of_aside (t.keepResult_aside r.1 r.2)) ..
  · split
    · exact State.each_keeps (op := fun t (r : Ch × DieEntry) => t.takeResult r.1 r.2) State.planned
        (fun t r => planned_of_aside (t.takeResult_aside r.1 r.2)) ..
    · rfl

theorem State.finishJobs_planned (s : State) : s.finishJobs.planned = s.planned := by
  unfold State.finishJobs
  exact State.each_keeps State.planned (fun t (j : CellJob) => t.putCell_planned ..) _ _

theorem State.stopComb_planned (s : State) : s.stopComb.planned = s.planned := by
  unfold State.stopComb State.dropShares
  rw [State.finishJobs_planned]
  refine State.each_keeps (op := fun t g => t.modPos g fun p => { p with due := [] }) State.planned (fun _ _ => ?_) ..
  rfl

theorem State.startComb_planned (s : State) : s.startComb.planned = s.planned := by
  have hclose (v : State) (c : Comb) : (v.closeWindows c).planned = v.planned := by
    refine State.each_keeps State.planned (fun t n => ?_) ..
    split <;> rfl
  unfold State.startComb
  split
  · rfl
  · rename_i c _
    have hpos : (s.stopComb.each allGrp fun t g => t.modPos g (c.startAt g s.time (s.startPos c))).planned =
        s.planned := by
      rw [← s.stopComb_planned]
      exact State.each_keeps (op := fun t g => t.modPos g (c.startAt g s.time (s.startPos c))) State.planned
        (fun _ _ => rfl) ..
    rw [hclose, ← hpos]
    generalize s.stopComb.each allGrp (fun t g => t.modPos g (c.startAt g s.time (s.startPos c))) = v
    rfl

theorem State.countGen_planned (s old : State) : (s.countGen old).planned = s.planned := by
  unfold State.countGen; split <;> rfl

/-! ### Takeovers by the guards -/

theorem State.entryOff_aside (s : State) (n : Ch) : (s.entryOff n).aside = s.aside := by
  have hoff := (s.commandOff_touchesGrp n).aside
  have hloop : (s.loopOff n).aside = s.aside := (s.setLoop_touchesGrp n false).aside
  unfold State.entryOff
  dsimp only
  split
  exacts [hoff, hoff, rfl, rfl, rfl, hloop, rfl]

theorem State.takeover_aside (s : State) (g : Grp) (cause : Nat) (sel : Ch → Bool) :
    (s.takeover g cause sel).aside = s.aside := by
  have htaken : (s.takenOver g cause sel).aside = s.aside := by
    have hchans : (s.each (s.taken g sel) State.takeChannel).aside = s.aside :=
      State.each_keeps (op := State.takeChannel) State.aside (fun _ _ => rfl) ..
    exact State.aside_ite hchans hchans
  rw [State.takeover_eq]
  exact State.aside_ite ((State.each_keeps State.aside State.entryOff_aside ..).trans htaken) htaken

end

end Sys2Proof.Machine
end

section
/-! ## The comb from period to period (07 R217, R240 to R248, 11 R342) -/

namespace Sys2Proof.Machine

section
variable {s t u : State} {n : Ch} {g : Grp} {c : Comb} {b : Bool}

/-! ### COMB_EXCHANGE (07 R240, R241) -/

/-- s with the armed exchange made, before the comb that it leads to starts and its channels change over. -/
def State.swapped (s : State) (toNext : Bool) : State :=
  let s0 := s.stopComb
  let c := s0.comb
  let new := if toNext then c.next else none
  let c1 : CombState := { c with
    active := new
    actBank := if toNext then !c.actBank else c.actBank
    next := if toNext then none else c.next
    lstate := if toNext then .empty else c.lstate
    reason := if toNext then 0 else c.reason
    index := if toNext then 0 else c.index
    armed := none, wrapDue := false
    late := 0, skipped := 0, stalls := 0, reversals := 0, applyConf := 0
    moves := []
    overspd := false
    cond := .normal
    fbper := if sameBase c.active new then c.fbper else 0xFFFFFFFF#32 }
  { s0 with comb := { c1.remark with started := false } }

/-- The comb after an exchange: its counters start at 0 (07 R241). -/
theorem State.swapped_spec (s : State) (toNext : Bool) : (s.swapped toNext).still = s.still ∧
    (s.swapped toNext).comb.armed = none ∧
    (s.swapped toNext).comb.active = (if toNext then s.comb.next else none) ∧
    (s.swapped toNext).comb.actBank = (if toNext then !s.comb.actBank else s.comb.actBank) ∧
    (s.swapped toNext).comb.late = 0 ∧ (s.swapped toNext).comb.skipped = 0 ∧ (s.swapped toNext).comb.stalls = 0 ∧
    (s.swapped toNext).comb.reversals = 0 ∧ (s.swapped toNext).comb.applyConf = 0 := by
  have hplan := s.stopComb_planned
  have hstill : (s.swapped toNext).still = s.stopComb.still := rfl
  refine ⟨hstill.trans (planned_still hplan), rfl, ?_, ?_, rfl, rfl, rfl, rfl, rfl⟩
  · rw [← planned_get CombState.next (fun _ => rfl) hplan]; rfl
  · rw [← planned_get CombState.actBank (fun _ => rfl) hplan]; rfl

/-- What follows an exchange, the start of the new comb and the change of its channels, ends in EV88 (07 R241). -/
theorem State.exchange_eq (ha : s.comb.armed = some b) : ∃ v : State, v.planned = (s.swapped b).planned ∧
    ∃ bank, s.exchange = v.raise 88 bank (if b then 1 else 2) v.combIdW v.combStatW 0 := by
  have hstart (v : State) (p : Prop) [Decidable p] : ((if p then v.startComb else v).countGen s).planned =
      v.planned := by
    rw [State.countGen_planned]
    split
    · exact v.startComb_planned
    · rfl
  have hchan (v : State) (n : Ch) :
      (if v.schedNow n then v.takeUnderComb n else v.applyPendFree n).aside = v.aside := by
    split
    · rfl
    · unfold State.applyPendFree
      split
      · rfl
      · exact (v.takePend_touchesGrp ..).aside
  have hchans (v : State) : (v.each allCh fun t n => if t.schedNow n then t.takeUnderComb n
      else t.applyPendFree n).planned = v.planned :=
    State.each_keeps State.planned (fun t n => planned_of_aside (hchan t n)) ..
  have hturns (v : State) : (v.each allGrp State.queueTurns).planned = v.planned :=
    State.each_keeps (op := State.queueTurns) State.planned (fun _ _ => rfl) ..
  unfold State.exchange
  rw [ha]
  refine ⟨_, ?_, _, rfl⟩
  rw [planned_of_aside (aside_of_bare (State.putMarker_bare ..)), hturns, hchans, hstart]
  rfl

/-- An armed exchange that takes effect (07 R240, R241). -/
theorem State.exchange_spec (ha : s.comb.armed = some b) (hu : s.hostUp = true) :
    s.exchange.comb.armed = none ∧ s.exchange.comb.active = (if b then s.comb.next else none) ∧
    s.exchange.comb.actBank = (if b then !s.comb.actBank else s.comb.actBank) ∧
    s.exchange.comb.late = 0 ∧ s.exchange.comb.skipped = 0 ∧ s.exchange.comb.stalls = 0 ∧
    s.exchange.comb.reversals = 0 ∧ s.exchange.comb.applyConf = 0 ∧
    s.exchange.pendingWith 88 (if b then 1 else 2) := by
  obtain ⟨v, hv, bank, he⟩ := State.exchange_eq ha
  obtain ⟨hstill, harmed, hactive, hbank, hlate, hskip, hstall, hrev, hconf⟩ := s.swapped_spec b
  obtain ⟨hcomb, -⟩ := v.raise_keeps 88 bank (if b then 1 else 2) v.combIdW v.combStatW 0
  have hup : v.hostUp = true := (still_hostUp ((planned_still hv).trans hstill)).trans hu
  have hget {α : Type} (f : CombState → α) (hf : ∀ x : CombState, f x.plan = f x) :
      f s.exchange.comb = f (s.swapped b).comb := by rw [he, hcomb]; exact planned_get f hf hv
  refine ⟨(hget _ fun _ => rfl).trans harmed, (hget _ fun _ => rfl).trans hactive,
    (hget _ fun _ => rfl).trans hbank, (hget _ fun _ => rfl).trans hlate, (hget _ fun _ => rfl).trans hskip,
    (hget _ fun _ => rfl).trans hstall, (hget _ fun _ => rfl).trans hrev, (hget _ fun _ => rfl).trans hconf, ?_⟩
  rw [he]
  exact raise_pending v 88 _ _ _ _ _ hup (by decide)

theorem State.combLive_of_idle (ha : s.comb.active = none) : s.combLive = false := by
  unfold State.combLive; rw [ha]; rfl

/-- An exchange takes effect with no comb running, with one stalled, and at the wrap after the ARM (07 R240). -/
theorem exec_combExchange (s : State) : exec .combExchange s = .next
    (if s.combLive = false ∨ s.comb.cond = .stalled ∨ s.exchangeDue = true then s.exchange else s) := by
  change execCombExchange s = _
  unfold execCombExchange
  split
  case h_1 ha => rw [if_pos (.inl (State.combLive_of_idle ha))]
  case h_2 c ha =>
    have hdue : (!s.combLive || s.comb.cond == .stalled || s.exchangeDue) = true ↔
        s.combLive = false ∨ s.comb.cond = .stalled ∨ s.exchangeDue = true := by
      simp [or_assoc]
    split
    case isTrue h => rw [if_pos (hdue.mp h)]
    case isFalse h => rw [if_neg fun h' => h (hdue.mpr h')]

/-! ### COMB_PERIOD_WRAP (07 R217, R242) -/

/-- Steps that each change their own group leave the others. -/
theorem State.each_group_ne {op : State → Grp → State} {gs : List Grp}
    (hne : ∀ t g h, h ≠ g → (op t g).group h = t.group h) (hnd : gs.Nodup) (hg : g ∉ gs) (s : State) :
    (s.each gs op).group g = s.group g :=
  (State.each_groups (P := fun _ _ => True) (fun t h => ⟨hne t h, trivial⟩) hnd s).1 g hg

/-- Steps that each change their own group: a group is as its own step leaves it, which finds the rest as `inv`
says. -/
theorem State.each_group_visit {α : Type} {op : State → Grp → State} {inv : State → α} {gs : List Grp}
    (hinv : ∀ t g, inv (op t g) = inv t) (hne : ∀ t g h, h ≠ g → (op t g).group h = t.group h) (hnd : gs.Nodup)
    (hg : g ∈ gs) (s : State) :
    ∃ v : State, inv v = inv s ∧ v.group g = s.group g ∧ (s.each gs op).group g = (op v g).group g := by
  induction gs generalizing s with
  | nil => cases hg
  | cons a gs ih =>
    obtain ⟨hag, hnd'⟩ := List.nodup_cons.mp hnd
    rw [State.each_cons]
    rcases List.mem_cons.mp hg with rfl | hg'
    · exact ⟨s, rfl, rfl, State.each_group_ne hne hnd' hag _⟩
    · obtain ⟨v, hv, hgrp, hend⟩ := ih hnd' hg' (op s a)
      exact ⟨v, hv.trans (hinv s a), hgrp.trans (hne s a g fun e => hag (e ▸ hg')), hend⟩

theorem allGrp_nodup : allGrp.Nodup := by decide

theorem mem_allGrp (g : Grp) : g ∈ allGrp := by revert g; decide

/-- The end of a period is not below a horizon in it (07 R217). -/
theorem le_wrapLimit (h : Nat) {per : Nat} (hp : 0 < per) : h ≤ wrapLimit h per := by
  have hdiv := Nat.div_add_mod h per
  have hmod := Nat.mod_lt h hp
  have hmul : (h / per + 1) * per = per * (h / per) + per := by ring
  unfold wrapLimit
  omega

theorem Comb.per_pos (c : Comb) : 0 < c.per := by unfold Comb.per; omega

theorem Comb.reach_h (c : Comb) (g : Grp) (now h : Nat) (passed : Bool) (p : DiePos) :
    (c.reach g now h passed p).h = max p.h h := by
  unfold Comb.reach
  split
  · exact (max_eq_right (Nat.le_of_lt ‹_›)).symm
  · exact (max_eq_left (Nat.not_lt.mp ‹_›)).symm

/-- A horizon that follows its time base does not go back (07 R217). -/
theorem State.reachH_h (s : State) (c : Comb) (g : Grp) (x : Int) (passed : Bool) :
    (s.group g).pos.h ≤ ((s.reachH c g x passed).group g).pos.h := by
  unfold State.reachH
  rw [State.group_modPos_same]
  dsimp only
  split
  · rw [Comb.reach_h]; exact Nat.le_max_left ..
  · exact Nat.le_max_left ..

/-- The first step of a wrap: the horizon stands at the start of the next period (07 R217). -/
def State.wrapped (s : State) (c : Comb) (g : Grp) : State :=
  let h := wrapLimit (s.group g).pos.h c.per + 1
  s.modPos g fun p => if s.hasShare g then c.reach g s.time h false p else { p with h := h, due := [] }

theorem State.wrapped_h (s : State) (c : Comb) (g : Grp) :
    ((s.wrapped c g).group g).pos.h = wrapLimit (s.group g).pos.h c.per + 1 := by
  have hle := le_wrapLimit (s.group g).pos.h c.per_pos
  unfold State.wrapped
  rw [State.group_modPos_same]
  dsimp only
  split
  · rw [Comb.reach_h]; omega
  · rfl

theorem State.wrapDie_eq (hw : s.wraps c g = true) : s.wrapDie c g =
    if s.comb.armed.isSome then s.wrapped c g
    else (s.wrapped c g).reachH c g (s.driveOf c (s.group g).pos) false := if_pos hw

theorem State.wrapDie_h (hw : s.wraps c g = true) :
    wrapLimit (s.group g).pos.h c.per + 1 ≤ ((s.wrapDie c g).group g).pos.h ∧
    (s.comb.armed.isSome = true → ((s.wrapDie c g).group g).pos.h = wrapLimit (s.group g).pos.h c.per + 1) := by
  have hstart := s.wrapped_h c g
  rw [State.wrapDie_eq hw]
  split
  · exact ⟨hstart.ge, fun _ => hstart⟩
  · exact ⟨hstart.ge.trans (State.reachH_h ..), fun ha => absurd ha ‹_›⟩

/-- A wrap changes the position of its die alone (07 R217). -/
theorem State.wrapDie_keeps (s : State) (c : Comb) (g : Grp) : (s.wrapDie c g).bare = s.bare ∧
    ∀ h, h ≠ g → (s.wrapDie c g).group h = s.group h := by
  by_cases hw : s.wraps c g = true
  · rw [State.wrapDie_eq hw]
    unfold State.reachH State.wrapped
    split
    · exact ⟨rfl, fun h hh => State.group_modPos_ne _ _ hh⟩
    · exact ⟨rfl, fun h hh => (State.group_modPos_ne _ _ hh).trans (State.group_modPos_ne _ _ hh)⟩
  · have hs : s.wrapDie c g = s := if_neg hw
    rw [hs]
    exact ⟨rfl, fun _ _ => rfl⟩

theorem State.wraps_congr (hc : t.comb = s.comb) (hg : t.group g = s.group g) (c : Comb) :
    t.wraps c g = s.wraps c g := by
  unfold State.wraps State.driveOf
  rw [hc, hg]

/-- The horizons of all dies pass into the next period (07 R217). -/
def State.wrapAll (s : State) (c : Comb) : State := s.each allGrp fun t g => t.wrapDie c g

theorem State.wrapAll_bare (s : State) (c : Comb) : (s.wrapAll c).bare = s.bare :=
  State.each_keeps (op := fun t g => t.wrapDie c g) State.bare (fun t g => (t.wrapDie_keeps c g).1) ..

theorem State.wrapAll_h (hw : s.wraps c g = true) :
    wrapLimit (s.group g).pos.h c.per + 1 ≤ ((s.wrapAll c).group g).pos.h ∧
    (s.comb.armed.isSome = true → ((s.wrapAll c).group g).pos.h = wrapLimit (s.group g).pos.h c.per + 1) := by
  obtain ⟨v, hv, hgrp, hend⟩ := State.each_group_visit (op := fun t g => t.wrapDie c g) (inv := State.bare)
    (fun t g => (t.wrapDie_keeps c g).1) (fun t g => (t.wrapDie_keeps c g).2) allGrp_nodup (mem_allGrp g) s
  have hcomb := bare_comb hv
  have hdie := State.wrapDie_h ((State.wraps_congr hcomb hgrp c).trans hw)
  rw [← hend, hgrp, hcomb] at hdie
  exact hdie

/-- The period completed, with its measured duration (07 R242). -/
def State.periodDone (s : State) (c : Comb) (micros : Word) : State :=
  { s.wrapAll c with comb.fbper := micros, comb.wrapDue := s.comb.armed.isSome }

theorem exec_combPeriodWrap {micros : Word} (ha : s.comb.active = some c) (hr : s.cellsRun = true)
    (hw : s.wraps c s.posGrp = true) : exec (.combPeriodWrap micros) s =
      .next ((s.periodDone c micros).countGen s).wrapMarker := by
  change execCombPeriodWrap micros s = _
  unfold execCombPeriodWrap
  simp only [ha, hr, hw, if_true]
  rfl

theorem State.periodDone_spec (s : State) (c : Comb) (micros : Word) :
    ((s.periodDone c micros).countGen s).wrapMarker.comb.fbper = micros ∧
    ((s.periodDone c micros).countGen s).wrapMarker.comb.wrapDue = s.comb.armed.isSome ∧
    ((s.periodDone c micros).countGen s).wrapMarker.comb.active = s.comb.active ∧
    ((s.periodDone c micros).countGen s).wrapMarker.ch = s.ch ∧
    ∀ g, ((s.periodDone c micros).countGen s).wrapMarker.group g = (s.wrapAll c).group g := by
  have hview : ((s.periodDone c micros).countGen s).wrapMarker.view 0 = (s.periodDone c micros).view 0 :=
    (State.wrapMarker_view ⟨by decide, by decide⟩ _).trans (State.countGen_view ..)
  have hcount := (s.periodDone c micros).countGen_planned s
  have hactive := congrArg CombState.active (bare_comb (s.wrapAll_bare c))
  have hch := congrArg State.ch (s.wrapAll_bare c)
  rw [bare_comb (State.wrapMarker_bare _)]
  unfold State.periodDone at hview hcount ⊢
  generalize s.wrapAll c = v at hview hcount hactive hch ⊢
  refine ⟨planned_get CombState.fbper (fun _ => rfl) hcount, planned_get CombState.wrapDue (fun _ => rfl) hcount,
    (planned_get CombState.active (fun _ => rfl) hcount).trans hactive,
    (view_ch hview).trans hch, fun g => by unfold State.group; rw [view_grp hview]⟩

/-! ### TB_STALL (07 R248) -/

/-- A stall that is declared, counted and told, before the comb acts on it. -/
def State.stallTold (s : State) (c : Comb) : State :=
  let e := (s.group (if c.hdr.tb = 3 then s.posGrp else grpOf c.source)).pos.e
  let s1 : State := { s with
    comb.stalls := satInc s.comb.stalls
    comb.stallAt := e, comb.emul := e, comb.subTicks := 0, comb.revd := false }
  (s1.tbEvent 1).raise 90 0 1 s1.combEvcntW s1.comb.fbper 0

theorem State.stallTold_spec (s : State) (c : Comb) (hu : s.hostUp = true) :
    (s.stallTold c).comb.stalls = satInc s.comb.stalls ∧ (s.stallTold c).pendingWith 90 1 := by
  unfold State.stallTold
  dsimp only
  set v : State := { s with
    comb.stalls := satInc s.comb.stalls
    comb.stallAt := (s.group (if c.hdr.tb = 3 then s.posGrp else grpOf c.source)).pos.e
    comb.emul := (s.group (if c.hdr.tb = 3 then s.posGrp else grpOf c.source)).pos.e
    comb.subTicks := 0, comb.revd := false } with hv
  have hmark : (v.tbEvent 1).bare = v.bare := State.putMarker_bare ..
  have hup : (v.tbEvent 1).hostUp = true :=
    (still_hostUp (view_still (v.tbEvent_view (k := 0) ⟨by decide, by decide⟩ 1))).trans hu
  obtain ⟨hcomb, -⟩ := (v.tbEvent 1).raise_keeps 90 0 1 v.combEvcntW v.comb.fbper 0
  exact ⟨by rw [hcomb, bare_comb hmark], raise_pending _ 90 _ _ _ _ _ hup (by decide)⟩

/-- What the comb does in its stall, by STALLACT (07 R248). -/
theorem State.stall_eq (ha : s.comb.active = some c) (htb : c.hdr.tb ≠ 0) (hl : s.combLive = true)
    (hc : s.comb.cond = .normal ∨ s.comb.cond = .reversed) : s.stall =
      if c.hdr.stallact = 2 then State.stallSafe { s.stallTold c with comb.cond := .stalled }
      else if (s.stallTold c).stallHolds c then { s.stallTold c with comb.cond := .stalled }
      else State.tbEvent { s.stallTold c with comb.cond := .fallback } 4 := by
  have hgo : (c.hdr.tb = 0 || !s.combLive || s.comb.cond == .stalled || s.comb.cond == .fallback) = false := by
    rcases hc with hc | hc <;> simp [show ¬c.hdr.tb = 0#2 from htb, hl, hc]
  unfold State.stall
  rw [ha]
  dsimp only
  rw [if_neg (by rw [hgo]; decide)]
  rfl

/-- The guards that take over for a stall change neither the events nor the comb, but for the hold (07 R248). -/
theorem State.stallSafe_spec (s : State) : s.stallSafe.comb = { s.comb with safeHeld := true } ∧
    s.stallSafe.ev = s.ev := by
  have hgroup (t : State) (g : Grp) : (t.stallGroup g).comb = t.comb ∧ (t.stallGroup g).ev = t.ev := by
    have hcomb := aside_comb (t.takeover_aside g 0xA fun n => t.scheduled n)
    have hev := t.takeover_ev g 0xA fun n => t.scheduled n
    unfold State.stallGroup
    dsimp only
    split <;> exact ⟨hcomb, hev⟩
  have hcomb : (s.each allGrp State.stallGroup).comb = s.comb :=
    State.each_keeps (op := State.stallGroup) State.comb (fun t g => (hgroup t g).1) ..
  have hev : (s.each allGrp State.stallGroup).ev = s.ev :=
    State.each_keeps (op := State.stallGroup) State.ev (fun t g => (hgroup t g).2) ..
  rw [State.stallSafe_eq]
  generalize s.each allGrp State.stallGroup = v at hcomb hev ⊢
  exact ⟨by rw [← hcomb], hev⟩

/-- A stall counts, raises EV90 and leads to what STALLACT says (07 R248). -/
theorem State.stall_spec (ha : s.comb.active = some c) (htb : c.hdr.tb ≠ 0) (hl : s.combLive = true)
    (hc : s.comb.cond = .normal ∨ s.comb.cond = .reversed) (hu : s.hostUp = true) :
    s.stall.comb.stalls = satInc s.comb.stalls ∧ s.stall.pendingWith 90 1 ∧
    (c.hdr.stallact = 0 → s.stall.comb.cond = .stalled) ∧
    (c.hdr.stallact = 1 → c.hdr.tb = 3 → s.stall.comb.cond = .fallback) ∧
    (c.hdr.stallact = 2 → s.stall.comb.cond = .stalled ∧ s.stall.comb.safeHeld = true) := by
  obtain ⟨hcount, hpend⟩ := s.stallTold_spec c hu
  rw [State.stall_eq ha htb hl hc]
  generalize s.stallTold c = v at hcount hpend ⊢
  split
  case isTrue hact =>
    obtain ⟨hcomb, hev⟩ := State.stallSafe_spec { v with comb.cond := .stalled }
    rw [hcomb, hact]
    exact ⟨hcount, State.pendingWith_congr (by rw [hev]) hpend, nofun, nofun, fun _ => ⟨rfl, rfl⟩⟩
  case isFalse hact =>
    split
    case isTrue hhold =>
      refine ⟨hcount, hpend, fun _ => rfl, fun h1 h3 => ?_, fun h2 => absurd h2 hact⟩
      simp [State.stallHolds, h1, h3] at hhold
    case isFalse hgo =>
      have hcomb := bare_comb (State.putMarker_bare { v with comb.cond := .fallback } 52 4)
      have hview := State.tbEvent_view (k := 90) ⟨by decide, by decide⟩ { v with comb.cond := .fallback } 4
      refine ⟨(congrArg CombState.stalls hcomb).trans hcount, State.pendingWith_congr (view_src hview) hpend,
        fun h0 => ?_, fun _ _ => congrArg CombState.cond hcomb, fun h2 => absurd h2 hact⟩
      simp [State.stallHolds, h0] at hgo

/-- A time base that is lost stalls the comb (07 R248). -/
theorem exec_tbStall (ha : s.comb.active = some c) (htb : c.hdr.tb ≠ 0)
    (h1 : c.hdr.tb = 1 → ∀ m l, s.comb.moves = m :: l → m.1 + c.hdr.stallT * milli ≤ s.time)
    (h2 : c.hdr.tb = 2 → (s.chan c.source).mains.lock = false)
    (h3 : c.hdr.tb = 3 → s.sw.synced = false ∧ s.sw.lostAt + c.hdr.stallT * milli ≤ s.time) :
    exec .tbStall s = .next s.stall := by
  change execTbStall s = _
  unfold execTbStall
  rw [ha]
  refine congrArg Host.Outcome.next (if_pos ?_)
  split
  case isTrue he =>
    split
    case h_1 m l hm => exact decide_eq_true (h1 he m l hm)
    case h_2 => rfl
  case isFalse hne1 =>
    split
    case isTrue he => rw [h2 he]; rfl
    case isFalse hne2 =>
      have hcases : ∀ x : BitVec 2, x ≠ 0 → x ≠ 1 → x ≠ 2 → x = 3 := by decide
      obtain ⟨hlost, hlong⟩ := h3 (hcases _ htb hne1 hne2)
      rw [hlost, decide_eq_true hlong]
      rfl

/-! ### COMB_SWAP (07 R240, 11 R342) -/

section
variable {a : BitVec 24} (ws : List Word)

theorem combSwapBody_arms {x : Comb} (h : arg a 1 0 = 0) (hl : s.comb.lstate = .valid) (hn : s.comb.next = some x)
    (hf : s.sourceFits x = true) (ho : s.orderModeFail x = none) : combSwapBody .host a ws s =
      ({ s with comb.armed := some true, comb.wrapDue := false },
        .now .ok 0 [({ s with comb.armed := some true, comb.wrapDue := false } : State).combStatW]) := by
  unfold combSwapBody checked
  simp only [h, hl, hn, hf, ho, failIf]
  rfl

theorem combSwapBody_cancels (h : arg a 1 0 = 1) : combSwapBody .host a ws s =
    ({ s with comb.armed := none, comb.wrapDue := false },
      .now .ok 0 [({ s with comb.armed := none, comb.wrapDue := false } : State).combStatW]) := by
  unfold combSwapBody
  rw [h]
  rfl

theorem combSwapBody_stops (h : arg a 1 0 = 2) : combSwapBody .host a ws s =
    ({ s with comb.armed := some false, comb.wrapDue := false },
      .now .ok 0 [({ s with comb.armed := some false, comb.wrapDue := false } : State).combStatW]) := by
  unfold combSwapBody
  rw [h]
  rfl

end

/-- An accepted COMB_SWAP answers what its body gives (11 R342). -/
theorem hostCmd_combSwap_answers {m : Cmd} {ws : List Word} (ha : s.accepts combSwapSpec m = true)
    (hb : combSwapBody .host m.args m.words (s.received m.frame) = (u, .now .ok 0 ws)) :
    State.answers s u (s.hostCmd combSwapSpec combSwapBody m) m 0x13 .ok 0 ws :=
  hostCmd_answers (by decide) (by decide) (by decide) (by decide) ha hb

/-- The selector of a COMB_SWAP row is its own (log entry 25). -/
theorem arg_swapOp (a : BitVec 24) (v : Nat) : arg (withArg a 1 0 v) 1 0 = v % 4 :=
  arg_withArg a 1 0 v (by decide) (by decide)

section
variable {m : Cmd} (h : arg m.args 1 0 ≤ 2)
include h

theorem exec_combSwapArm (s : State) : exec (.combSwapArm m) s =
    .next (s.hostCmd combSwapSpec combSwapBody { m with args := withArg m.args 1 0 0 }) := by
  rw [← rowArg_of_le h]; rfl

theorem exec_combSwapCancel (s : State) : exec (.combSwapCancel m) s =
    .next (s.hostCmd combSwapSpec combSwapBody { m with args := withArg m.args 1 0 1 }) := by
  rw [← rowArg_of_le h]; rfl

theorem exec_combSwapStop (s : State) : exec (.combSwapStop m) s =
    .next (s.hostCmd combSwapSpec combSwapBody { m with args := withArg m.args 1 0 2 }) := by
  rw [← rowArg_of_le h]; rfl

end

end

end Sys2Proof.Machine

open Sys2Proof Sys2Proof.Machine

/-- Settles O15: an exchange, a wrap and a stall through what each step of theirs leaves of the comb, the three forms
of COMB_SWAP through their body. -/
theorem combChanges : Obligations.CombChanges := by
  unfold Obligations.CombChanges
  refine ⟨fun s b ha hu hdue => ?exchange, fun s hl hc hd => ?waits, fun s micros c ha hr hw => ?wrap,
    fun s c ha htb hl hc hu h1 h2 h3 => ⟨_, exec_tbStall ha htb h1 h2 h3, State.stall_spec ha htb hl hc hu⟩,
    fun s m x ha hop hl hn hf ho => ?arm, fun s m ha hop => ?cancel, fun s m ha hop => ?stop⟩
  case exchange =>
    have hexec := exec_combExchange s
    rw [if_pos hdue] at hexec
    exact ⟨_, hexec, State.exchange_spec ha hu⟩
  case waits =>
    rw [exec_combExchange, if_neg (by simp [hl, hc, hd])]
  case wrap =>
    obtain ⟨hper, hdue, hact, hch, hgrp⟩ := s.periodDone_spec c micros
    obtain ⟨hle, heq⟩ := State.wrapAll_h hw
    refine ⟨_, exec_combPeriodWrap ha hr hw, hper, ?_, ?_, hdue, hact, hch⟩ <;> rw [hgrp]
    exacts [hle, heq]
  case arm =>
    have hcomb : (s.received m.frame).comb = s.comb := offPort_comb (s.received_offPort m.frame)
    exact ⟨_, _, exec_combSwapArm hop s, hostCmd_combSwap_answers ha
      (combSwapBody_arms _ (arg_swapOp ..) (by rwa [hcomb]) (by rwa [hcomb]) hf ho), rfl⟩
  case cancel =>
    exact ⟨_, _, exec_combSwapCancel hop s, hostCmd_combSwap_answers ha
      (combSwapBody_cancels _ (arg_swapOp ..)), rfl⟩
  case stop =>
    exact ⟨_, _, exec_combSwapStop hop s, hostCmd_combSwap_answers ha
      (combSwapBody_stops _ (arg_swapOp ..)), rfl⟩
end

section
/-! ## What takeovers, mode changes and the stop of a comb leave (07 R244, 08 R257 to R266, 13 R405) -/

namespace Sys2Proof.Machine

section
variable {s t u : State} {n m : Ch} {g k : Grp} {l : List Ch}

/-! ### Lists of steps -/

/-- What one step of a list brings about under an invariant of the steps, and every step keeps. -/
theorem State.each_reaches {α : Type} {op : State → α → State} {I P : State → Prop} {a : α} {as : List α}
    (hI : ∀ t b, I t → I (op t b)) (hP : ∀ t b, P t → P (op t b)) (ha : ∀ t, I t → P (op t a)) (hm : a ∈ as)
    (hs : I s) : P (s.each as op) := by
  induction as generalizing s with
  | nil => cases hm
  | cons b as ih =>
    rcases List.mem_cons.mp hm with rfl | hm
    · exact State.each_inv hP as (ha s hs)
    · exact ih hm (hI s b hs)

section
variable {α β : Type} {op : State → β → State} {view : State → α} {b : β} {bs : List β}
  (hne : ∀ t c, c ≠ b → view (op t c) = view t)
include hne

/-- A reading that only a step that is not among these changes. -/
theorem State.each_view_ne (hb : b ∉ bs) (s : State) : view (s.each bs op) = view s := by
  induction bs generalizing s with
  | nil => rfl
  | cons c bs ih =>
    have hc : c ≠ b := fun e => hb (e ▸ List.mem_cons_self)
    rw [State.each_cons, ih (fun h => hb (List.mem_cons_of_mem _ h)), hne s c hc]

/-- A reading that only one step of a list changes: it is as that step leaves it, which finds it as it was at the
start. -/
theorem State.each_view_visit (hnd : bs.Nodup) (hb : b ∈ bs) (s : State) :
    ∃ v : State, view v = view s ∧ view (s.each bs op) = view (op v b) := by
  induction bs generalizing s with
  | nil => cases hb
  | cons c bs ih =>
    obtain ⟨hc, hnd'⟩ := List.nodup_cons.mp hnd
    rcases List.mem_cons.mp hb with rfl | hb
    · exact ⟨s, rfl, State.each_view_ne hne hc _⟩
    · obtain ⟨v, hv, hend⟩ := ih hnd' hb (op s c)
      exact ⟨v, hv.trans (hne s c fun e => hc (e ▸ hb)), hend⟩

end

/-! ### Takeovers (08 R257 to R261) -/

/-- What a takeover leaves: all but the channels, the groups and the cause of the hold (08 R257, R266). -/
def State.hostSide (s : State) : State :=
  { s with ch := State.reset.ch, grp := State.reset.grp, safe := { s.safe with cause := 0 } }

/-- A reading that neither the channels, the groups nor the cause of a hold enter. -/
theorem hostSide_get {α : Type} (f : State → α) (hf : ∀ x, f x.hostSide = f x) (h : t.hostSide = s.hostSide) :
    f t = f s := by rw [← hf, h, hf]

theorem hostSide_ev (h : t.hostSide = s.hostSide) : t.ev = s.ev := hostSide_get State.ev (fun _ => rfl) h

theorem hostSide_pw (h : t.hostSide = s.hostSide) : t.pw = s.pw := hostSide_get State.pw (fun _ => rfl) h

theorem hostSide_wd (h : t.hostSide = s.hostSide) : t.wd = s.wd := hostSide_get State.wd (fun _ => rfl) h

theorem State.hostSide_ite {p : Prop} [Decidable p] (ht : t.hostSide = s.hostSide) (hu : u.hostSide = s.hostSide) :
    (if p then t else u).hostSide = s.hostSide := by
  split
  · exact ht
  · exact hu

theorem State.modOutP_hostSide (s : State) (n : Ch) (f : ChOut → ChOut) :
    (s.modOutP n f).hostSide = s.hostSide := State.hostSide_ite (s := s) rfl rfl

theorem State.commandOff_hostSide (s : State) (n : Ch) : (s.commandOff n).hostSide = s.hostSide := by
  unfold State.commandOff State.clearRetry State.switchOff
  split
  · rfl
  · simp only [State.modOutP_hostSide]

theorem State.entryOff_hostSide (s : State) (n : Ch) : (s.entryOff n).hostSide = s.hostSide := by
  have hoff := s.commandOff_hostSide n
  unfold State.entryOff
  dsimp only
  split
  exacts [hoff, hoff, rfl, rfl, rfl, rfl, rfl]

theorem State.allOff_hostSide (s : State) (g : Grp) : (s.allOff g).hostSide = s.hostSide :=
  State.each_keeps State.hostSide State.entryOff_hostSide _ _

theorem State.takeover_hostSide (s : State) (g : Grp) (cause : Nat) (sel : Ch → Bool) :
    (s.takeover g cause sel).hostSide = s.hostSide := by
  have hchans : (s.each (s.taken g sel) State.takeChannel).hostSide = s.hostSide :=
    State.each_keeps (op := State.takeChannel) State.hostSide (fun _ _ => rfl) ..
  have htaken : (s.takenOver g cause sel).hostSide = s.hostSide := State.hostSide_ite hchans hchans
  rw [State.takeover_eq]
  exact State.hostSide_ite ((State.allOff_hostSide ..).trans htaken) htaken

/-- One of the groups that are taken over together (08 R257, R273). -/
def State.takeGroup (s : State) (cause : Nat) (t : State) (g : Grp) : State :=
  (t.takeover g cause fun _ => true).modGrp g (State.fokDrop s)

/-- A reading that the cause of a hold does not enter finds the groups as each one's takeover leaves them. -/
theorem State.takeGroups_get {α : Type} (f : State → α)
    (hf : ∀ (x : State) (c : BitVec 4), f { x with safe.cause := c } = f x)
    (s : State) (gs : List Grp) (cause : Nat) :
    f (s.takeGroups gs cause) = f (s.each gs (s.takeGroup cause)) := by
  unfold State.takeGroups
  dsimp only
  split
  · exact hf _ _
  · rfl

theorem State.takeAll_get {α : Type} (f : State → α)
    (hf : ∀ (x : State) (c : BitVec 4), f { x with safe.cause := c } = f x)
    (s : State) (cause : Nat) : f (s.takeAll cause) = f (s.each allGrp (s.takeGroup cause)) :=
  (hf _ _).trans (s.takeGroups_get f hf allGrp cause)

theorem State.takeGroup_hostSide (u : State) (cause : Nat) (s : State) (g : Grp) :
    (u.takeGroup cause s g).hostSide = s.hostSide := s.takeover_hostSide g cause fun _ => true

theorem State.takeGroups_hostSide (s : State) (gs : List Grp) (cause : Nat) :
    (s.takeGroups gs cause).hostSide = s.hostSide :=
  (s.takeGroups_get State.hostSide (fun _ _ => rfl) gs cause).trans
    (State.each_keeps State.hostSide (s.takeGroup_hostSide cause) _ _)

theorem State.takeAll_hostSide (s : State) (cause : Nat) : (s.takeAll cause).hostSide = s.hostSide :=
  (s.takeAll_get State.hostSide (fun _ _ => rfl) cause).trans
    (State.each_keeps State.hostSide (s.takeGroup_hostSide cause) _ _)

/-! ### Channels that a takeover takes -/

/-- Whether a takeover finds a channel to take, or held already, with the link of its group as in s. -/
def State.takesOrHolds (s : State) (n : Ch) : Prop := s.takes n = true ∨ (s.chan n).guard.held = true

/-- Taking over a group ends no hold (08 R257). -/
theorem State.takeover_keeps_held (h : (s.chan n).guard.held = true) (g : Grp) (cause : Nat) (sel : Ch → Bool) :
    ((s.takeover g cause sel).chan n).guard.held = true := by
  obtain ⟨-, hc, -⟩ := s.takenOver_spec g cause sel
  rw [holds_held (s.takeover_holds ..), hc]
  exact State.each_inv (P := fun t => (t.chan n).guard.held = true) (fun _ _ => State.takeChannel_keeps_held) _ h

theorem State.takeGroup_held (h : s.takesOrHolds n) (hg : grpOf n = g) (u : State) (cause : Nat) :
    ((u.takeGroup cause s g).chan n).guard.held = true := by
  rcases h with ht | hh
  · exact State.takeover_held (sel := fun _ => true) hg rfl ht cause
  · exact State.takeover_keeps_held hh ..

theorem State.takeGroup_takesOrHolds (h : s.takesOrHolds n) (g : Grp) (u : State) (cause : Nat) :
    (u.takeGroup cause s g).takesOrHolds n := by
  by_cases hg : grpOf n = g
  · exact Or.inr (State.takeGroup_held h hg u cause)
  · have hchan : (u.takeGroup cause s g).chan n = s.chan n :=
      (s.takeover_only g cause fun _ => true).2.2 n (by rw [mem_chOf]; exact hg)
    have hgroup : (u.takeGroup cause s g).group (grpOf n) = s.group (grpOf n) :=
      (State.group_modGrp_ne _ _ hg).trans (State.takeover_group_ne hg s cause fun _ => true)
    rcases h with ht | hh
    · exact Or.inl ((State.takes_congr hchan (by rw [hgroup])).trans ht)
    · exact Or.inr (by rw [hchan]; exact hh)

/-- Each channel that can be taken is held when its group is taken over (08 R257). -/
theorem State.takeGroups_held {gs : List Grp} (h : s.takesOrHolds n) (hg : grpOf n ∈ gs) (cause : Nat) :
    ((s.takeGroups gs cause).chan n).guard.held = true := by
  rw [s.takeGroups_get (fun x => (x.chan n).guard.held) (fun _ _ => rfl)]
  exact State.each_reaches (I := (·.takesOrHolds n)) (P := fun t => (t.chan n).guard.held = true)
    (fun t k ht => State.takeGroup_takesOrHolds ht k s cause) (fun t k ht => State.takeover_keeps_held ht ..)
    (fun t ht => State.takeGroup_held ht rfl s cause) hg h

theorem State.takeAll_held (h : s.takesOrHolds n) (cause : Nat) :
    ((s.takeAll cause).chan n).guard.held = true := State.takeGroups_held h (mem_allGrp _) cause

/-! ### Mode changes (13 R402 to R405) -/

theorem still_mode (h : t.still = s.still) : t.pw.mode = s.pw.mode := still_pw (·.mode) h

/-- What a mode change leaves: all but the power part, SAFE_STAT.SAFE, the parts of F_OKn and what raising events
changes. -/
def State.modeless (s : State) : State :=
  { s with
    grp := State.reset.grp, ev := State.reset.ev, rcd := State.reset.rcd, pw := State.reset.pw
    safe := { s.safe with safe := false } }

theorem State.fokRefresh_modeless (s : State) : s.fokRefresh.modeless = s.modeless :=
  State.each_keeps (op := fun (t : State) g => t.modGrp g _) State.modeless (fun _ _ => rfl) _ _

theorem State.logsOver.modeless (h : s.logsOver t) : t.modeless = s.modeless := by
  unfold State.logsOver at h; rw [h]; rfl

/-- Whether the guard of a group holds, and whether its table was found bad. -/
def State.guardFlags (s : State) (g : Grp) : Bool × Bool := ((s.group g).guard.held, (s.group g).guard.tbad)

theorem State.modGrp_guardFlags (s : State) (k : Grp) {f : Group → Group}
    (hf : ((f (s.group k)).guard.held, (f (s.group k)).guard.tbad) = s.guardFlags k) :
    (s.modGrp k f).guardFlags = s.guardFlags := by
  funext g
  by_cases hg : g = k
  · subst hg
    rw [← hf]
    unfold State.guardFlags
    rw [State.group_modGrp_same]
  · unfold State.guardFlags
    rw [State.group_modGrp_ne _ _ hg]

theorem State.fokRefresh_guardFlags (s : State) : s.fokRefresh.guardFlags = s.guardFlags :=
  State.each_keeps State.guardFlags (fun t g => t.modGrp_guardFlags g rfl) _ _

theorem State.fokRefresh_still (s : State) : s.fokRefresh.still = s.still ∧ s.fokRefresh.pw = s.pw :=
  ⟨State.each_keeps (op := fun (t : State) g => t.modGrp g _) State.still (fun _ _ => rfl) _ _,
    State.each_keeps (op := fun (t : State) g => t.modGrp g _) State.pw (fun _ _ => rfl) _ _⟩

/-- A mode change is told by EV120 of the state that it leads to (13 R405). -/
theorem State.enterMode_told {m : Mode} (h : s.pw.mode ≠ m) (cause : Nat) : ∃ (v : State) (a : Nat) (p q : Word),
    s.enterMode m cause = v.raise 120 a m.code p q 0 ∧ v.modeless = s.modeless ∧ v.guardFlags = s.guardFlags ∧
    v.ev = s.ev ∧ v.pw.mode = m ∧ v.pw.prev = (if s.pw.mode = .doze then .run else s.pw.mode) ∧
    v.pw.cause = BitVec.ofNat 8 cause ∧ v.pw.resetSrc = s.pw.resetSrc := by
  set v := State.settleDstate { s with
    pw.mode := m, pw.prev := if s.pw.mode = .doze then .run else s.pw.mode, pw.changes := s.pw.changes + 1,
    pw.cause := BitVec.ofNat 8 cause, pw.waking := false, safe.safe := m == .safe } with hv
  have hpw : v.fokRefresh.pw = v.pw := v.fokRefresh_still.2
  have hev : v.fokRefresh.ev = v.ev :=
    State.each_keeps (op := fun (t : State) g => t.modGrp g _) State.ev (fun _ _ => rfl) _ _
  refine ⟨v.fokRefresh, (if s.pw.mode = .doze then Mode.run else s.pw.mode).code, v.modeStatW,
    v.fokRefresh.safeStatW, ?_, v.fokRefresh_modeless.trans rfl, v.fokRefresh_guardFlags.trans rfl,
    hev.trans rfl, ?_, ?_, ?_, ?_⟩
  · unfold State.enterMode
    rw [if_neg h]
  all_goals rw [hpw, hv]; rfl

theorem State.enterMode_modeless (s : State) (m : Mode) (cause : Nat) :
    (s.enterMode m cause).modeless = s.modeless := by
  by_cases h : s.pw.mode = m
  · unfold State.enterMode; rw [if_pos h]
  · obtain ⟨v, a, p, q, he, hv, -⟩ := State.enterMode_told h cause
    rw [he, (raise_logs ..).modeless, hv]

theorem State.enterMode_guardFlags (s : State) (m : Mode) (cause : Nat) :
    (s.enterMode m cause).guardFlags = s.guardFlags := by
  by_cases h : s.pw.mode = m
  · unfold State.enterMode; rw [if_pos h]
  · obtain ⟨v, a, p, q, he, -, hv, -⟩ := State.enterMode_told h cause
    rw [he, ← hv]
    unfold State.guardFlags
    funext g
    rw [(raise_logs ..).group]

/-- A mode change leaves every event source but its own (11 R361). -/
theorem State.enterMode_src {j : Fin 128} (hj : j ≠ 120) (s : State) (m : Mode) (cause : Nat) :
    (s.enterMode m cause).ev.src[j.val] = s.ev.src[j.val] := by
  by_cases h : s.pw.mode = m
  · unfold State.enterMode; rw [if_pos h]
  · obtain ⟨v, a, p, q, he, -, -, hv, -⟩ := State.enterMode_told h cause
    rw [he, State.raise_src_ne hj, hv]

theorem State.enterMode_mode (s : State) (m : Mode) (cause : Nat) : (s.enterMode m cause).pw.mode = m := by
  by_cases h : s.pw.mode = m
  · unfold State.enterMode; rw [if_pos h, h]
  · obtain ⟨v, a, p, q, he, -, -, -, hv, -⟩ := State.enterMode_told h cause
    rw [he, ← hv]
    exact still_pw (·.mode) (raise_logs ..).still

/-- A mode change keeps the mode that it leaves, and its cause (13 R405). -/
theorem State.enterMode_prev {m : Mode} (h : s.pw.mode ≠ m) (cause : Nat) :
    (s.enterMode m cause).pw.prev = (if s.pw.mode = .doze then .run else s.pw.mode) ∧
    (s.enterMode m cause).pw.cause = BitVec.ofNat 8 cause := by
  obtain ⟨v, a, p, q, he, -, -, -, -, hprev, hcause, -⟩ := State.enterMode_told h cause
  have hstill : (s.enterMode m cause).still = v.still := by rw [he, (raise_logs ..).still]
  exact ⟨(still_pw (·.prev) hstill).trans hprev, (still_pw (·.cause) hstill).trans hcause⟩

/-- A change to a mode in which the host die runs raises EV120 with that mode (13 R405). -/
theorem State.enterMode_pending {m : Mode} (h : s.pw.mode ≠ m) (hu : s.hostUp = true)
    (hm : (m != .reset && m != .keep) = true) (cause : Nat) : (s.enterMode m cause).pendingWith 120 m.code := by
  obtain ⟨v, a, p, q, he, -, -, -, hmode, -, -, hsrc⟩ := State.enterMode_told h cause
  have hup : v.hostUp = true := by
    unfold State.hostUp at hu ⊢
    rw [Bool.and_assoc, Bool.and_eq_true] at hu
    rw [Bool.and_assoc, hsrc, hmode, hu.1, hm]
    rfl
  rw [he]
  exact raise_pending v 120 a m.code p q 0 hup (by decide)

theorem State.enterMode_ch (s : State) (m : Mode) (cause : Nat) : (s.enterMode m cause).ch = s.ch :=
  (congrArg State.ch (s.enterMode_modeless m cause) :)

theorem State.enterMode_chan (s : State) (m : Mode) (cause : Nat) (n : Ch) :
    (s.enterMode m cause).chan n = s.chan n := by unfold State.chan; rw [State.enterMode_ch]

theorem State.enterMode_wd (s : State) (m : Mode) (cause : Nat) : (s.enterMode m cause).wd = s.wd :=
  (congrArg State.wd (s.enterMode_modeless m cause) :)

theorem State.enterMode_comb (s : State) (m : Mode) (cause : Nat) : (s.enterMode m cause).comb = s.comb :=
  (congrArg State.comb (s.enterMode_modeless m cause) :)

/-! ### The trigger on the normal path (08 R261) -/

theorem State.safeTrigger_takes (h : s.pw.mode = .run ∨ s.pw.mode = .doze) (cause : Nat) :
    s.safeTrigger cause = (s.takeAll cause).enterMode .safe 3 := by
  unfold State.safeTrigger
  rcases h with h | h <;> rw [h]

/-- A trigger from RUN or DOZE leads to SAFE, with every channel that a takeover takes held (08 R261). -/
theorem State.safeTrigger_safe (h : s.pw.mode = .run ∨ s.pw.mode = .doze) (cause : Nat) :
    (s.safeTrigger cause).pw.mode = .safe ∧
    ∀ n, s.takes n = true → ((s.safeTrigger cause).chan n).guard.held = true := by
  rw [State.safeTrigger_takes h]
  refine ⟨State.enterMode_mode .., fun n hn => ?_⟩
  rw [State.enterMode_chan]
  exact State.takeAll_held (Or.inl hn) cause

/-- A trigger leaves the watchdogs, every event source but that of the mode change, and what it waits for. -/
theorem State.safeTrigger_keeps (s : State) (cause : Nat) :
    (s.safeTrigger cause).wd = s.wd ∧
    (∀ j : Fin 128, j ≠ 120 → (s.safeTrigger cause).ev.src[j.val] = s.ev.src[j.val]) ∧
    (s.safeTrigger cause).safe.waggleOwed = s.safe.waggleOwed ∧
    (s.safeTrigger cause).safe.intFault = s.safe.intFault := by
  have hall := s.takeAll_hostSide cause
  have hmode := (s.takeAll cause).enterMode_modeless .safe 3
  have htaken : ((s.takeAll cause).enterMode .safe 3).wd = s.wd ∧
      (∀ j : Fin 128, j ≠ 120 → ((s.takeAll cause).enterMode .safe 3).ev.src[j.val] = s.ev.src[j.val]) ∧
      ((s.takeAll cause).enterMode .safe 3).safe.waggleOwed = s.safe.waggleOwed ∧
      ((s.takeAll cause).enterMode .safe 3).safe.intFault = s.safe.intFault := by
    refine ⟨?_, fun j hj => ?_, ?_, ?_⟩
    · rw [State.enterMode_wd, hostSide_wd hall]
    · rw [State.enterMode_src hj, hostSide_ev hall]
    · exact (congrArg (·.safe.waggleOwed) hmode).trans
        (hostSide_get (·.safe.waggleOwed) (fun _ => rfl) hall)
    · exact (congrArg (·.safe.intFault) hmode).trans (hostSide_get (·.safe.intFault) (fun _ => rfl) hall)
  unfold State.safeTrigger
  split
  · exact htaken
  · exact htaken
  · exact ⟨rfl, fun _ _ => rfl, rfl, rfl⟩

/-! ### A bad table stays found bad (08 R260) -/

theorem State.takenOver_tbad (s : State) (g k : Grp) (cause : Nat) (sel : Ch → Bool) :
    ((s.takenOver g cause sel).group k).guard.tbad = (s.group k).guard.tbad := by
  have hgrp : (s.each (s.taken g sel) State.takeChannel).grp = s.grp :=
    State.each_keeps (op := State.takeChannel) State.grp (fun _ _ => rfl) _ _
  have hgroup : ((s.each (s.taken g sel) State.takeChannel).group k).guard.tbad = (s.group k).guard.tbad := by
    unfold State.group; rw [hgrp]
  unfold State.takenOver
  dsimp only
  by_cases hk : k = g
  · subst hk
    split <;> rw [State.group_modGrp_same] <;> exact hgroup
  · split <;> rw [State.group_modGrp_ne _ _ hk] <;> exact hgroup

theorem State.takeGroup_tbad (u : State) (cause : Nat) (s : State) (g k : Grp) :
    ((u.takeGroup cause s g).group k).guard.tbad = (s.group k).guard.tbad := by
  have hgroup : (s.takeover g cause fun _ => true).group k = (s.takenOver g cause fun _ => true).group k := by
    unfold State.group; rw [holds_grp (s.takeover_holds ..)]
  unfold State.takeGroup
  rw [← s.takenOver_tbad g k cause fun _ => true, ← hgroup]
  by_cases hk : k = g
  · subst hk; rw [State.group_modGrp_same]; rfl
  · rw [State.group_modGrp_ne _ _ hk]

theorem State.takeGroups_tbad (s : State) (gs : List Grp) (cause : Nat) (k : Grp) :
    ((s.takeGroups gs cause).group k).guard.tbad = (s.group k).guard.tbad :=
  (s.takeGroups_get (fun x => (x.group k).guard.tbad) (fun _ _ => rfl) gs cause).trans
    (State.each_keeps (fun x : State => (x.group k).guard.tbad) (fun t g => s.takeGroup_tbad cause t g k) _ _)

theorem State.safeTrigger_tbad (s : State) (cause : Nat) (k : Grp) :
    ((s.safeTrigger cause).group k).guard.tbad = (s.group k).guard.tbad := by
  have htaken : (((s.takeAll cause).enterMode .safe 3).group k).guard.tbad = (s.group k).guard.tbad :=
    (congrArg Prod.snd (congrFun ((s.takeAll cause).enterMode_guardFlags .safe 3) k)).trans
      (s.takeGroups_tbad allGrp cause k)
  unfold State.safeTrigger
  split
  exacts [htaken, htaken, rfl]

/-! ### Stopping a comb (07 R244) -/

/-- Every channel but for its conversions and its window word. -/
def State.unread (s : State) (n : Ch) : Channel := { s.noAi n with window := none }

theorem unread_of_noAi (h : t.noAi = s.noAi) : t.unread = s.unread :=
  funext fun n => congrArg (fun c : Channel => { c with window := none }) (congrFun h n)

theorem unread_out (h : t.unread = s.unread) (n : Ch) : (t.chan n).out = (s.chan n).out :=
  (congrArg Channel.out (congrFun h n) :)

theorem unread_guard (h : t.unread = s.unread) (n : Ch) : (t.chan n).guard = (s.chan n).guard :=
  (congrArg Channel.guard (congrFun h n) :)

theorem State.setWindow_unread (s : State) (n : Ch) (w : Word) : (s.setWindow n w).unread = s.unread := by
  funext k
  unfold State.unread State.noAi State.setWindow
  by_cases hk : k = n
  · subst hk; rw [State.chan_modCh_same]
  · rw [State.chan_modCh_ne _ _ hk]

theorem State.putCell_unread (s : State) (late : Option Nat) (rs : List (Ch × DieEntry)) :
    (s.putCell late rs).unread = s.unread := by
  have hkeep (t : State) (r : Ch × DieEntry) : (t.keepResult r.1 r.2).unread = t.unread := by
    unfold State.keepResult
    split <;> rfl
  have htake (t : State) (r : Ch × DieEntry) : (t.takeResult r.1 r.2).unread = t.unread :=
    (unread_of_noAi (noPrev_noAi (t.takeResult_noPrev r.1 r.2))).trans (t.setWindow_unread r.1 r.2.window)
  unfold State.putCell State.enterCell
  dsimp only
  split
  · exact State.each_keeps State.unread hkeep ..
  · split
    · exact State.each_keeps State.unread htake ..
    · rfl

theorem State.stopComb_unread (s : State) : s.stopComb.unread = s.unread := by
  have hdue : (s.each allGrp fun t g => t.modPos g fun p => { p with due := [] }).unread = s.unread :=
    State.each_keeps (op := fun (t : State) g => t.modPos g _) State.unread (fun _ _ => rfl) ..
  unfold State.stopComb State.dropShares State.finishJobs
  exact (State.each_keeps State.unread (fun t (j : CellJob) => t.putCell_unread ..) _ _).trans hdue

theorem State.putCell_started (s : State) (late : Option Nat) (rs : List (Ch × DieEntry)) :
    (s.putCell late rs).comb.started = s.comb.started := by
  unfold State.putCell State.enterCell
  dsimp only
  split
  · exact State.each_keeps (op := fun t (r : Ch × DieEntry) => t.keepResult r.1 r.2) (·.comb.started)
      (fun t r => congrArg CombState.started (aside_comb (t.keepResult_aside r.1 r.2))) ..
  · split
    · exact State.each_keeps (op := fun t (r : Ch × DieEntry) => t.takeResult r.1 r.2) (·.comb.started)
        (fun t r => congrArg CombState.started (aside_comb (t.takeResult_aside r.1 r.2))) ..
    · rfl

/-- A stopped comb does not run (07 R244). -/
theorem State.stopComb_started (s : State) : s.stopComb.comb.started = false := by
  unfold State.stopComb State.dropShares State.finishJobs
  exact State.each_keeps (·.comb.started) (fun t (j : CellJob) => t.putCell_started ..) _ _

/-- Stopping a comb leaves the time, the modes and the watchdogs. -/
theorem State.stopComb_aside (s : State) : s.stopComb.still = s.still ∧ s.stopComb.wd = s.wd :=
  ⟨planned_still s.stopComb_planned, (congrArg State.wd s.stopComb_planned :)⟩

end
end Sys2Proof.Machine
end

section
/-! ## Off commands to every output (03 R94, R98, 08 R254, 13 R402) -/

namespace Sys2Proof.Machine

section
variable {s t u : State} {n m : Ch} {l : List Ch}

/-- In a PARALLEL pair the output of the mate follows that of the channel (03 R94). -/
theorem State.modOutP_chan_mate (h : s.pairOf n = .parallel) (f : ChOut → ChOut) :
    ((s.modOutP n f).chan (mateOf n)).out.ps = (f (s.chan n).out).ps ∧
    ((s.modOutP n f).chan (mateOf n)).out.cmdOn = (f (s.chan n).out).cmdOn := by
  unfold State.modOutP
  rw [if_pos h, State.chan_modOut_same, State.chan_modOut_same]
  exact ⟨rfl, rfl⟩

/-- The command of a channel and of its mate is off, and the retries start again (03 R98, R103). -/
def State.uncommanded (s : State) (n : Ch) : State :=
  (s.modOutP n fun o => { o with
    cmdOn := false, hostOn := false, cmdDuty := 0, shedDie := false, shedEnv := false }).clearRetry n

theorem State.commandOff_unlocked (hl : (s.chan n).out.ps ≠ .lockedOff) :
    s.commandOff n = (s.uncommanded n).switchOff n .off := by
  unfold State.commandOff
  split
  · exact absurd ‹_› hl
  · rfl

theorem State.switchOff_chan_mate (h : s.pairOf n = .parallel) (p : PState) :
    ((s.switchOff n p).chan (mateOf n)).out.ps = p ∧
    ((s.switchOff n p).chan (mateOf n)).out.cmdOn = (s.chan n).out.cmdOn := State.modOutP_chan_mate h _

theorem State.uncommanded_only (s : State) (n : Ch) : s.only (s.uncommanded n) (s.outCh n) := by
  have h := State.only_modOutP s n fun o => { o with
    cmdOn := false, hostOn := false, cmdDuty := 0, shedDie := false, shedEnv := false }
  exact h.trans (h.outCh n ▸ State.only_modOutP ..)

theorem State.uncommanded_cmdOn (s : State) (n : Ch) : ((s.uncommanded n).chan n).out.cmdOn = false := by
  simp [State.uncommanded, State.clearRetry]

/-- An off command that no lockout refuses takes the mate in a PARALLEL pair with it (03 R94). -/
theorem State.commandOff_mate (hl : (s.chan n).out.ps ≠ .lockedOff) (hp : s.pairOf n = .parallel) :
    ((s.commandOff n).chan (mateOf n)).out.ps = .off ∧ ((s.commandOff n).chan (mateOf n)).out.cmdOn = false := by
  obtain ⟨hps, hcmd⟩ := State.switchOff_chan_mate (s := s.uncommanded n)
    (by rw [setup_pairOf (s.uncommanded_only n).2.1, hp]) .off
  rw [State.commandOff_unlocked hl]
  exact ⟨hps, hcmd.trans (s.uncommanded_cmdOn n)⟩

/-! ### Outputs that stay as they are or go off -/

/-- The output of m is as in s, or off with its command. -/
def State.sameOrOff (s t : State) (m : Ch) : Prop :=
  (t.chan m).out = (s.chan m).out ∨ ((t.chan m).out.ps = .off ∧ (t.chan m).out.cmdOn = false)

theorem State.sameOrOff.unlocked (h : s.sameOrOff t m) (hp : (s.chan m).out.ps ≠ .lockedOff) :
    (t.chan m).out.ps ≠ .lockedOff := by
  rcases h with h | ⟨h, -⟩
  · rwa [h]
  · rw [h]; decide

theorem State.sameOrOff.cmdOff (h : s.sameOrOff t m) (hc : (s.chan m).out.cmdOn = false) :
    (t.chan m).out.cmdOn = false := by
  rcases h with h | ⟨-, h⟩
  · rwa [h]
  · exact h

/-- A change of one channel that leaves its output leaves every output. -/
theorem State.modCh_out (s : State) (n m : Ch) {f : Channel → Channel}
    (hf : (f (s.chan n)).out = (s.chan n).out) : ((s.modCh n f).chan m).out = (s.chan m).out := by
  by_cases hm : m = n
  · subst hm; rw [State.chan_modCh_same, hf]
  · rw [State.chan_modCh_ne _ _ hm]

theorem State.sameOrOff.of_out (h : s.sameOrOff t m) (hu : (u.chan m).out = (t.chan m).out) : s.sameOrOff u m := by
  unfold State.sameOrOff at *; rwa [hu]

theorem State.sameOrOff.after (h : t.sameOrOff u m) (ht : (t.chan m).out = (s.chan m).out) : s.sameOrOff u m := by
  unfold State.sameOrOff at *; rwa [← ht]

/-- An off command changes the output of its channel and of its mate alone, to off (03 R94, R98). -/
theorem State.commandOff_sameOrOff (s : State) (n m : Ch) : s.sameOrOff (s.commandOff n) m := by
  by_cases hl : (s.chan n).out.ps = .lockedOff
  · have hkept : s.commandOff n = s := by unfold State.commandOff; rw [hl]
    rw [hkept]; exact Or.inl rfl
  by_cases hm : m ∈ s.outCh n
  case neg => exact Or.inl (by rw [(s.commandOff_spec n).1.2.2 m hm])
  have hself : s.sameOrOff (s.commandOff n) n := by
    obtain ⟨⟨hc, -, hp⟩, -⟩ := State.commandOff_chan hl
    exact Or.inr ⟨hp rfl, hc⟩
  unfold State.outCh at hm
  split at hm
  · rcases List.mem_pair.mp hm with rfl | rfl
    · exact hself
    · exact Or.inr (State.commandOff_mate hl ‹_›)
  · rw [List.mem_singleton.mp hm]; exact hself

/-- Off steps that leave an invariant turn off the command of a channel that is among theirs and not locked off. -/
theorem State.each_cmdOff {op : State → Ch → State} {I : State → Prop} (hop : ∀ (t : State) b, t.sameOrOff (op t b) m)
    (hI : ∀ t b, I t → I (op t b))
    (ha : ∀ t, I t → (t.chan m).out.ps ≠ .lockedOff → ((op t m).chan m).out.cmdOn = false) (hm : m ∈ l)
    (hs : I s) (hl : (s.chan m).out.ps ≠ .lockedOff) : ((s.each l op).chan m).out.cmdOn = false :=
  State.each_reaches (I := fun t => I t ∧ (t.chan m).out.ps ≠ .lockedOff)
    (P := fun t => (t.chan m).out.cmdOn = false) (fun t b h => ⟨hI t b h.1, (hop t b).unlocked h.2⟩)
    (fun t b h => (hop t b).cmdOff h) (fun t h => ha t h.1 h.2) hm ⟨hs, hl⟩

/-! ### The off action of an entry (08 R254) -/

/-- A loop supply that goes off changes nothing beside it. -/
theorem State.loopOff_modCh (s : State) (n : Ch) : s.loopOff n = s.modCh n fun c => { c with
    loop := { c.loop with on := false, limit := false, iloop := 0, want := false, ovlOff := false } } := by
  have hset : s.setLoop n false = s.modCh n fun c => { c with
      loop := { c.loop with on := false, limit := c.loop.limit && false, iloop := if false then c.loop.iloop else 0 } } :=
    rfl
  unfold State.loopOff
  rw [hset, State.modCh_modCh]
  simp

theorem State.markApplied_out (s : State) (n m : Ch) : ((s.markApplied n).chan m).out = (s.chan m).out :=
  s.modCh_out n m rfl

theorem State.entryOff_sameOrOff (s : State) (n m : Ch) : s.sameOrOff (s.entryOff n) m := by
  have hoff := s.commandOff_sameOrOff n m
  have hao : s.sameOrOff (s.modAo n fun a => { a with code := 0, heldCode := none, down := false, off := true }) m :=
    Or.inl (s.modCh_out n m rfl)
  have hloop : s.sameOrOff (s.loopOff n) m := s.loopOff_modCh n ▸ Or.inl (s.modCh_out n m rfl)
  unfold State.entryOff
  refine State.sameOrOff.of_out ?_ (State.markApplied_out ..)
  split
  exacts [hoff, hoff, hao, hao, hao, hloop, Or.inl rfl]

theorem State.entryOff_front (s : State) (n : Ch) : (s.entryOff n).front = s.front := by
  have hoff := s.commandOff_front n
  have hmark (t : State) : (t.markApplied n).front = t.front := State.modCh_front _ _ ⟨rfl, rfl⟩
  have hao : (s.modAo n fun a => { a with code := 0, heldCode := none, down := false, off := true }).front = s.front :=
    State.modCh_front _ _ ⟨rfl, rfl⟩
  have hloop : (s.loopOff n).front = s.front := s.loopOff_modCh n ▸ State.modCh_front _ _ ⟨rfl, rfl⟩
  unfold State.entryOff
  rw [hmark]
  split
  exacts [hoff, hoff, hao, hao, hao, hloop, rfl]

/-- A guard holds a switching channel of which no mode change is in progress. -/
def State.heldSwitch (s : State) (n : Ch) : Prop :=
  (s.chan n).guard.held = true ∧ (s.chan n).cfgBusy = false ∧ (s.modeOf n).isSwitch = true

theorem ChMode.switch_cases {m : ChMode} (h : m.isSwitch = true) : m = .doHs ∨ m = .doPp := by
  cases m <;> simp [ChMode.isSwitch] at h ⊢

theorem State.guardMode_of_settled (hb : (s.chan n).cfgBusy = false) : s.guardMode n = s.modeOf n := by
  unfold State.guardMode; rw [hb]; rfl

/-- The off action on a switching channel is an off command (08 R254). -/
theorem State.entryOff_switch (hb : (s.chan n).cfgBusy = false) (hm : (s.modeOf n).isSwitch = true) :
    s.entryOff n = (s.commandOff n).markApplied n := by
  unfold State.entryOff
  rw [State.guardMode_of_settled hb]
  rcases ChMode.switch_cases hm with h | h <;> rw [h]

theorem front_cfgBusy (h : t.front = s.front) (n : Ch) : (t.chan n).cfgBusy = (s.chan n).cfgBusy :=
  congrArg (·.1.2.2) (congrFun h n)

theorem front_modeOf (h : t.front = s.front) (n : Ch) : t.modeOf n = s.modeOf n :=
  congrArg (·.1.2.1) (congrFun h n)

theorem heldSwitch_congr (hh : (t.chan n).guard.held = (s.chan n).guard.held) (hf : t.front = s.front)
    (h : s.heldSwitch n) : t.heldSwitch n := by
  obtain ⟨hheld, hbusy, hmode⟩ := h
  exact ⟨hh.trans hheld, (front_cfgBusy hf n).trans hbusy, by rw [front_modeOf hf, hmode]⟩

theorem State.entryOff_heldSwitch (k : Ch) (h : s.heldSwitch n) : (s.entryOff k).heldSwitch n :=
  heldSwitch_congr (holds_held (s.entryOff_spec k).2 n) (s.entryOff_front k) h

theorem State.entryOff_cmdOff (h : s.heldSwitch n) (hl : (s.chan n).out.ps ≠ .lockedOff) :
    ((s.entryOff n).chan n).out.cmdOn = false := by
  obtain ⟨-, hbusy, hmode⟩ := h
  obtain ⟨⟨hc, -⟩, -⟩ := State.commandOff_chan hl
  rw [State.entryOff_switch hbusy hmode, State.markApplied_out, hc]

/-- The guard turns off every switching channel of its group that it holds and no lockout stops (08 R260). -/
theorem State.allOff_cmdOff (h : s.heldSwitch n) (hl : (s.chan n).out.ps ≠ .lockedOff) :
    ((s.allOff (grpOf n)).chan n).out.cmdOn = false :=
  State.each_cmdOff (I := (·.heldSwitch n)) (fun t b => t.entryOff_sameOrOff b n)
    (fun _ b ht => State.entryOff_heldSwitch b ht) (fun _ => State.entryOff_cmdOff)
    (List.mem_filter.mpr ⟨mem_chOf.mpr rfl, h.1⟩) h hl

/-! ### The outputs of every channel (13 R402) -/

/-- The outputs of one channel on entry to STANDBY: a channel that the guard holds stays held (13 R402). -/
def State.standbyOff (s : State) (n : Ch) : State :=
  if (s.chan n).guard.held then s.modCh n fun c => { c with pend := none } else s.outputsOff n

theorem State.allOutputsOff_eq (s : State) : s.allOutputsOff = s.each allCh State.standbyOff := rfl

/-- Entry to STANDBY ends no hold and leaves what stands of the channels (13 R402). -/
theorem State.standbyOff_keeps (s : State) (n : Ch) :
    (s.standbyOff n).still = s.still ∧ (s.standbyOff n).holds = s.holds ∧ (s.standbyOff n).front = s.front := by
  set u := s.modCh n fun c => { c with pend := none }
  have hholds : u.holds = s.holds := State.modCh_holds _ _ _ rfl
  have hfront : u.front = s.front := State.modCh_front _ _ ⟨rfl, rfl⟩
  obtain ⟨⟨hstill, -⟩, hcmd⟩ := u.commandOff_spec n
  unfold State.standbyOff State.outputsOff
  dsimp only
  split
  · exact ⟨rfl, hholds, hfront⟩
  split
  · exact ⟨hstill, hcmd.trans hholds, (u.commandOff_front n).trans hfront⟩
  split
  · exact ⟨rfl, (State.modCh_holds _ _ _ rfl).trans hholds, (State.modCh_front _ _ ⟨rfl, rfl⟩).trans hfront⟩
  · exact ⟨rfl, hholds, hfront⟩

theorem State.standbyOff_sameOrOff (s : State) (n m : Ch) : s.sameOrOff (s.standbyOff n) m := by
  set u := s.modCh n fun c => { c with pend := none }
  have hout : (u.chan m).out = (s.chan m).out := s.modCh_out n m rfl
  unfold State.standbyOff State.outputsOff
  dsimp only
  split
  · exact Or.inl hout
  split
  · exact (u.commandOff_sameOrOff n m).after hout
  split
  · exact Or.inl ((u.modCh_out n m rfl).trans hout)
  · exact Or.inl hout

/-- A switching channel that no guard holds goes off with its command (13 R402). -/
theorem State.standbyOff_cmdOff (hh : (s.chan n).guard.held = false) (hm : (s.modeOf n).isSwitch = true)
    (hl : (s.chan n).out.ps ≠ .lockedOff) : ((s.standbyOff n).chan n).out.cmdOn = false := by
  obtain ⟨⟨hc, -⟩, -⟩ := State.commandOff_chan (s := s.modCh n fun c => { c with pend := none }) (n := n)
    (by rwa [s.modCh_out n n rfl])
  unfold State.standbyOff State.outputsOff
  rw [if_neg (by simp [hh])]
  dsimp only
  rw [if_pos hm]
  exact hc

theorem mem_allCh (n : Ch) : n ∈ allCh := by revert n; decide

theorem State.allOutputsOff_still (s : State) : s.allOutputsOff.still = s.still :=
  State.each_keeps (op := State.standbyOff) State.still (fun t n => (t.standbyOff_keeps n).1) allCh s

theorem State.allOutputsOff_cmdOff (hh : (s.chan n).guard.held = false) (hm : (s.modeOf n).isSwitch = true)
    (hl : (s.chan n).out.ps ≠ .lockedOff) : (s.allOutputsOff.chan n).out.cmdOn = false := by
  rw [State.allOutputsOff_eq]
  refine State.each_cmdOff
    (I := fun t => (t.chan n).guard.held = false ∧ (t.modeOf n).isSwitch = true)
    (fun t b => t.standbyOff_sameOrOff b n) (fun t b ht => ?_)
    (fun t ht hp => State.standbyOff_cmdOff ht.1 ht.2 hp) (mem_allCh n) ⟨hh, hm⟩ hl
  obtain ⟨-, hholds, hfront⟩ := t.standbyOff_keeps b
  rw [holds_held hholds, front_modeOf hfront]
  exact ht

end

end Sys2Proof.Machine
end

section
/-! ## DOZE, SERVICE, the host die's temperature and a debugger's halt (08 R283, 13 R402 to R425) -/

namespace Sys2Proof.Machine

section
variable {s t : State} {n : Ch}

/-! ### DOZE (13 R405, R415, R416) -/

theorem exec_dozeEntry_enters (hm : s.pw.mode = .run) (hd : s.pw.dstate ≠ .d0) (hu : s.hostUp = true)
    (ha : s.keepsAwake = false) (hh : s.wd.hsLast + milli ≤ s.time) (hs : s.port.sentAt + milli ≤ s.time) :
    exec .dozeEntry s = .next { s with pw := { s.pw with mode := .doze, waking := false } } := by
  show execDozeEntry s = _
  unfold execDozeEntry
  rw [if_pos (by simp [hm, hd, hu, ha, hh, hs])]

theorem exec_dozeEntry_stays (h : s.pw.mode ≠ .run ∨ s.pw.dstate = .d0 ∨ s.keepsAwake = true ∨
    s.time < s.wd.hsLast + milli ∨ s.time < s.port.sentAt + milli) : exec .dozeEntry s = .next s := by
  show execDozeEntry s = _
  unfold execDozeEntry
  rw [if_neg]
  simp only [Bool.and_eq_true, beq_iff_eq, bne_iff_ne, Bool.not_eq_true', decide_eq_true_eq]
  rintro ⟨⟨⟨⟨⟨hm, hd⟩, -⟩, ha⟩, hh⟩, hs⟩
  rcases h with h | h | h | h | h
  · exact h hm
  · exact hd h
  · rw [ha] at h; cases h
  · omega
  · omega

theorem exec_policyWakeTimer (s : State) : exec .policyWakeTimer s =
    .next { s with pw := { s.pw with waking := s.pw.waking || s.pw.mode == .doze } } := rfl

theorem exec_wakeComplete (s : State) : exec .wakeComplete s = .next s.wake := rfl

theorem State.wake_doze (h : s.pw.mode = .doze) :
    s.wake = { s with pw := { s.pw with mode := .run, waking := false } } := by
  unfold State.wake; rw [if_pos h]

theorem State.wake_awake (h : s.pw.mode ≠ .doze) : s.wake = s := by unfold State.wake; rw [if_neg h]

/-! ### SERVICE (13 R402, R404) -/

theorem exec_serviceSilence (hm : s.pw.mode = .service) (hu : s.hostUp = true)
    (hh : s.port.heardAt + 10000 * milli ≤ s.time) :
    exec .serviceSilence s = .next (s.allOutputsOff.stopComb.enterMode .standby 5) := by
  show execServiceSilence s = _
  unfold execServiceSilence
  rw [if_pos (by simp [hm, hu, hh])]

/-- Silence of the host in SERVICE leads to STANDBY, with the comb stopped and the outputs off (13 R402, R404). -/
theorem serviceSilence_ends (hm : s.pw.mode = .service) (hu : s.hostUp = true)
    (hh : s.port.heardAt + 10000 * milli ≤ s.time) :
    ∃ t, exec .serviceSilence s = .next t ∧ t.pw.mode = .standby ∧ t.pw.prev = .service ∧
      t.pw.cause = 5 ∧ t.comb.started = false ∧ t.pendingWith 120 2 ∧
      ∀ n, (s.chan n).guard.held = false → (s.chan n).actMode.isSwitch = true →
        (s.chan n).out.ps ≠ .lockedOff → (t.chan n).out.cmdOn = false := by
  obtain ⟨hstop, -⟩ := s.allOutputsOff.stopComb_aside
  have hstill := hstop.trans s.allOutputsOff_still
  have hmode : s.allOutputsOff.stopComb.pw.mode = .service := (still_mode hstill).trans hm
  have hne : s.allOutputsOff.stopComb.pw.mode ≠ .standby := by rw [hmode]; decide
  obtain ⟨hprev, hcause⟩ := State.enterMode_prev hne 5
  refine ⟨_, exec_serviceSilence hm hu hh, State.enterMode_mode .., ?_, hcause, ?_,
    State.enterMode_pending hne ((still_hostUp hstill).trans hu) rfl 5, fun n hheld hsw hl => ?_⟩
  · rw [hprev, hmode]; rfl
  · rw [State.enterMode_comb]; exact s.allOutputsOff.stopComb_started
  · rw [State.enterMode_chan, unread_out s.allOutputsOff.stopComb_unread]
    exact State.allOutputsOff_cmdOff hheld hsw hl

/-! ### The temperature of the host die (13 R425) and a debugger's halt (08 R283) -/

theorem exec_hostDieOvertemp (hu : s.hostUp = true) (hot : Bool) (temp : BitVec 8) :
    ∃ t, exec (.hostDieOvertemp hot temp) s = .next t ∧ t.pw.htemp = temp ∧
      t.pendingWith 125 (if hot then 1 else 2) ∧
      State.logsOver { s with pw := { s.pw with htemp := temp } } t := by
  set u : State := { s with pw := { s.pw with htemp := temp } }
  have hlogs := raise_logs u 125 0 (if hot then 1 else 2) u.pwrStatW 0 0
  refine ⟨_, ?_, still_pw (·.htemp) hlogs.still, raise_pending u 125 0 _ u.pwrStatW 0 0 hu (by decide), hlogs⟩
  show execHostDieOvertemp hot temp s = _
  unfold execHostDieOvertemp
  rw [hu]; rfl

theorem exec_debuggerHalt (hu : s.hostUp = true) : exec .debuggerHalt s =
    if s.sec.dbgOpen && !s.pw.halted then
      .next { s with pw := { s.pw with halted := true, haltedAt := s.time } } else .next s := by
  show execDebuggerHalt s = _
  unfold execDebuggerHalt
  rw [hu, Bool.and_true]

/-- A resume with empty receive buffers runs the core again and moves the periods of the tasks (08 R283). -/
theorem exec_debuggerResume_empty (hh : s.pw.halted = true) (hb : s.port.bufs = []) :
    exec .debuggerResume s = .next { s with
      pw := { s.pw with halted := false }
      wd := { s.wd with taskStart := s.wd.taskStart.map fun x => x + (s.time - s.pw.haltedAt) } } := by
  show execDebuggerResume s = _
  unfold execDebuggerResume
  rw [if_pos hh]
  dsimp only
  rw [hb, State.each_nil, ← hb]

theorem exec_debuggerResume_running (hh : s.pw.halted = false) : exec .debuggerResume s = .next s := by
  show execDebuggerResume s = _
  unfold execDebuggerResume
  rw [hh]; rfl

end

end Sys2Proof.Machine

open Sys2Proof Sys2Proof.Machine

/-- Settles O57: each row by what its command does in its occasion and out of it, SERVICE_SILENCE through the outputs
that an entry to STANDBY turns off. -/
theorem powerRows : Obligations.PowerRows := by
  unfold Obligations.PowerRows
  refine ⟨fun s hm hd hu ha hh hs => exec_dozeEntry_enters hm hd hu ha hh hs, fun s h => exec_dozeEntry_stays h,
    fun s hm => ⟨?_, ?_⟩, fun s hm => ⟨?_, ?_⟩, fun s hm hu hh => serviceSilence_ends hm hu hh,
    fun s hot temp hu => exec_hostDieOvertemp hu hot temp, fun s hu => ⟨fun hd hh => ?_, fun h => ?_⟩,
    fun s => ⟨fun hh hb => exec_debuggerResume_empty hh hb, fun hh => exec_debuggerResume_running hh⟩⟩
  · rw [exec_policyWakeTimer, hm]; simp
  · rw [exec_wakeComplete, State.wake_doze hm]
  · rw [exec_wakeComplete, State.wake_awake hm]
  · rw [exec_policyWakeTimer, beq_eq_false_iff_ne.mpr hm, Bool.or_false]
  · rw [exec_debuggerHalt hu, hd, hh]; rfl
  · rw [exec_debuggerHalt hu]
    rcases h with h | h <;> simp [h]
end

section
/-! ## Triggers of the safe state (08 R261, R265, R269, R274, R279) -/

namespace Sys2Proof.Machine

section
variable {s t u : State} {n m : Ch} {g k : Grp}

/-! ### Channels that a takeover has taken -/

/-- Taking a channel leaves its output, or cancels what waits in it (08 R257). -/
theorem State.takeChannel_unlocked (s : State) (k : Ch) (h : (s.chan n).out.ps ≠ .lockedOff) :
    ((s.takeChannel k).chan n).out.ps ≠ .lockedOff := by
  by_cases hk : n = k
  · subst hk
    unfold State.takeChannel
    rw [State.chan_modCh_same]
    dsimp only
    split
    case _ => exact PState.noConfusion
    case _ => exact PState.noConfusion
    case _ => exact PState.noConfusion
    case _ => exact h
  · rwa [(s.takeChannel_only k).2.2 n (by simpa using hk)]

theorem State.takeover_unlocked (h : (s.chan n).out.ps ≠ .lockedOff) (g : Grp) (cause : Nat) (sel : Ch → Bool) :
    ((s.takeover g cause sel).chan n).out.ps ≠ .lockedOff := by
  have htaken : ((s.takenOver g cause sel).chan n).out.ps ≠ .lockedOff := by
    obtain ⟨-, hc, -⟩ := s.takenOver_spec g cause sel
    rw [hc]
    exact State.each_inv (P := fun t => (t.chan n).out.ps ≠ .lockedOff) (fun t k => t.takeChannel_unlocked k) _ h
  rw [State.takeover_eq]
  split
  · exact State.each_inv (P := fun t => (t.chan n).out.ps ≠ .lockedOff)
      (fun t k ht => (t.entryOff_sameOrOff k n).unlocked ht) _ htaken
  · exact htaken

theorem State.takeover_front (s : State) (g : Grp) (cause : Nat) (sel : Ch → Bool) :
    (s.takeover g cause sel).front = s.front := by
  have htaken : (s.takenOver g cause sel).front = s.front := by
    obtain ⟨-, hc, -⟩ := s.takenOver_spec g cause sel
    refine Eq.trans (funext fun m => ?_) (State.each_keeps (op := State.takeChannel) State.front
      (fun t n => State.modCh_front _ _ ⟨rfl, rfl⟩) (s.taken g sel) s)
    unfold State.front
    rw [hc]
  rw [State.takeover_eq]
  exact front_ite ((State.each_keeps State.front State.entryOff_front _ _).trans htaken) htaken

theorem State.takeGroup_front (u : State) (cause : Nat) (s : State) (g : Grp) :
    (u.takeGroup cause s g).front = s.front := s.takeover_front g cause fun _ => true

theorem State.takeAll_front (s : State) (cause : Nat) : (s.takeAll cause).front = s.front :=
  (s.takeAll_get State.front (fun _ _ => rfl) cause).trans
    (State.each_keeps State.front (s.takeGroup_front cause) allGrp s)

theorem State.takeAll_unlocked (h : (s.chan n).out.ps ≠ .lockedOff) (cause : Nat) :
    ((s.takeAll cause).chan n).out.ps ≠ .lockedOff := by
  rw [s.takeAll_get (fun x => (x.chan n).out.ps) (fun _ _ => rfl)]
  exact State.each_inv (op := s.takeGroup cause) (P := fun t => (t.chan n).out.ps ≠ .lockedOff)
    (fun t k ht => State.takeover_unlocked ht k cause fun _ => true) allGrp h

theorem State.unlocked_of_takes (h : s.takes n = true) : (s.chan n).out.ps ≠ .lockedOff := by
  unfold State.takes at h
  rw [Bool.and_eq_true, bne_iff_ne] at h
  exact h.2

/-- A switching channel that is taken is held, and no lockout stops it (08 R257). -/
theorem State.takeAll_heldSwitch (ht : s.takes n = true) (hb : (s.chan n).cfgBusy = false)
    (hm : (s.modeOf n).isSwitch = true) (cause : Nat) : (s.takeAll cause).heldSwitch n :=
  ⟨State.takeAll_held (Or.inl ht) cause, (front_cfgBusy (s.takeAll_front cause) n).trans hb,
    by rw [front_modeOf (s.takeAll_front cause), hm]⟩

/-! ### HOST_SILENCE_EXPIRY (08 R261, R269, R274) -/

/-- KV1608 compatibility on one held channel (08 R269). -/
def State.kvOff (s : State) (n : Ch) : State := (s.entryOff n).modAo n fun a => { a with off := false }

theorem State.kvOff_holds (s : State) (n : Ch) : (s.kvOff n).holds = s.holds :=
  (State.modCh_holds (s.entryOff n) n _ rfl).trans (s.entryOff_spec n).2

theorem State.kvOff_sameOrOff (s : State) (k n : Ch) : s.sameOrOff (s.kvOff k) n :=
  (s.entryOff_sameOrOff k n).of_out ((s.entryOff k).modCh_out k n rfl)

theorem State.kvOff_heldSwitch (k : Ch) (h : s.heldSwitch n) : (s.kvOff k).heldSwitch n :=
  heldSwitch_congr (holds_held (s.kvOff_holds k) n)
    ((State.modCh_front (s.entryOff k) k ⟨rfl, rfl⟩).trans (s.entryOff_front k)) h

theorem State.kvOff_cmdOff (h : s.heldSwitch n) (hl : (s.chan n).out.ps ≠ .lockedOff) :
    ((s.kvOff n).chan n).out.cmdOn = false :=
  (congrArg ChOut.cmdOn ((s.entryOff n).modCh_out n n rfl)).trans (State.entryOff_cmdOff h hl)

theorem State.kv1608Off_eq (s : State) :
    s.kv1608Off = s.each (allCh.filter fun n => (s.chan n).guard.held) State.kvOff := rfl

theorem State.kv1608Off_cmdOff (h : s.heldSwitch n) (hl : (s.chan n).out.ps ≠ .lockedOff) :
    (s.kv1608Off.chan n).out.cmdOn = false := by
  rw [State.kv1608Off_eq]
  exact State.each_cmdOff (I := (·.heldSwitch n)) (fun t b => t.kvOff_sameOrOff b n)
    (fun _ b ht => State.kvOff_heldSwitch b ht) (fun _ => State.kvOff_cmdOff)
    (List.mem_filter.mpr ⟨mem_allCh n, h.1⟩) h hl

theorem State.kv1608Off_holds (s : State) : s.kv1608Off.holds = s.holds :=
  State.each_keeps State.holds State.kvOff_holds _ _

theorem State.kv1608Off_hostSide (s : State) : s.kv1608Off.hostSide = s.hostSide :=
  State.each_keeps (op := State.kvOff) State.hostSide (fun t n => t.entryOff_hostSide n) _ _

/-- The trigger under KV1608 compatibility (08 R269). -/
def State.kvTrigger (s : State) (cause : Nat) : State := (s.takeAll cause).kv1608Off.enterMode .safe 3

/-- It leads to SAFE as the trigger on the normal path does, with every switching output that it takes off. -/
theorem State.kvTrigger_spec (s : State) (cause : Nat) : (s.kvTrigger cause).wd = s.wd ∧
    (∀ j : Fin 128, j ≠ 120 → (s.kvTrigger cause).ev.src[j.val] = s.ev.src[j.val]) ∧
    (s.kvTrigger cause).pw.mode = .safe ∧
    (∀ n, s.takes n = true → ((s.kvTrigger cause).chan n).guard.held = true) ∧
    ∀ n, s.takes n = true → (s.chan n).cfgBusy = false → (s.modeOf n).isSwitch = true →
      ((s.kvTrigger cause).chan n).out.cmdOn = false := by
  have hside := (s.takeAll cause).kv1608Off_hostSide.trans (s.takeAll_hostSide cause)
  unfold State.kvTrigger
  refine ⟨?_, fun j hj => ?_, State.enterMode_mode .., fun n ht => ?_, fun n ht hb hm => ?_⟩
  · rw [State.enterMode_wd, hostSide_wd hside]
  · rw [State.enterMode_src hj, hostSide_ev hside]
  · rw [State.enterMode_chan, holds_held (State.kv1608Off_holds _)]
    exact State.takeAll_held (Or.inl ht) cause
  · rw [State.enterMode_chan]
    exact State.kv1608Off_cmdOff (State.takeAll_heldSwitch ht hb hm cause)
      (State.takeAll_unlocked (State.unlocked_of_takes ht) cause)

/-- A host silence that is counted and told, before anything acts on it (08 R274). -/
def State.silenceTold (s : State) : State :=
  let s1 : State := { s with wd.hsExpiries := satInc s.wd.hsExpiries }
  s1.raise 76 0 1 s1.wdHsW s1.safeStatW 0

theorem State.silenceTold_spec (s : State) : s.silenceTold.ch = s.ch ∧ s.silenceTold.grp = s.grp ∧
    s.silenceTold.wd = { s.wd with hsExpiries := satInc s.wd.hsExpiries } ∧
    s.silenceTold.pw.mode = s.pw.mode ∧ (s.hostUp = true → s.silenceTold.pendingWith 76 1) := by
  set s1 : State := { s with wd.hsExpiries := satInc s.wd.hsExpiries } with hs1
  have hlogs : s1.logsOver s.silenceTold := raise_logs ..
  refine ⟨hlogs.ch, hlogs.grp, ?_, still_mode hlogs.still, fun hu => ?_⟩
  · exact (congrArg State.wd hlogs.modeless :)
  · exact raise_pending s1 76 0 1 s1.wdHsW s1.safeStatW 0 hu (by decide)

theorem takes_of_same (hc : t.ch = s.ch) (hg : t.grp = s.grp) (n : Ch) : t.takes n = s.takes n :=
  State.takes_congr (by unfold State.chan; rw [hc]) (by unfold State.group; rw [hg])

theorem exec_hostSilenceExpiry (hm : s.pw.mode = .run ∨ s.pw.mode = .doze) (hu : s.hostUp = true)
    (hw : s.pw.window = none) (hh : s.wd.hsLast + s.wd.hsPeriod.toNat * 100 * micro ≤ s.time) :
    exec .hostSilenceExpiry s =
      .next (if s.feat 0 then s.silenceTold.kvTrigger 1 else s.silenceTold.safeTrigger 1) := by
  show execHostSilenceExpiry s = _
  unfold execHostSilenceExpiry
  rw [if_pos (by rcases hm with hm | hm <;> simp [hm, hu, hw, hh])]
  exact (apply_ite Host.Outcome.next _ _ _).symm

/-- PERIOD after the last sign of the host all channels are taken, off at once with feature 0 (08 R261, R269, R274). -/
theorem hostSilenceExpiry_takes (hm : s.pw.mode = .run ∨ s.pw.mode = .doze) (hu : s.hostUp = true)
    (hw : s.pw.window = none) (hh : s.wd.hsLast + s.wd.hsPeriod.toNat * 100 * micro ≤ s.time) :
    ∃ t, exec .hostSilenceExpiry s = .next t ∧ t.wd.hsExpiries = satInc s.wd.hsExpiries ∧
      t.pendingWith 76 1 ∧ t.pw.mode = .safe ∧ (∀ n, s.takes n = true → (t.chan n).guard.held = true) ∧
      (s.feat 0 = true → ∀ n, s.takes n = true → (s.chan n).cfgBusy = false →
        (s.modeOf n).isSwitch = true → (t.chan n).out.cmdOn = false) := by
  obtain ⟨hch, hgrp, hwd, hmode, hpend⟩ := s.silenceTold_spec
  have htakes := takes_of_same hch hgrp
  have hchan (n : Ch) : s.silenceTold.chan n = s.chan n := by unfold State.chan; rw [hch]
  refine ⟨_, exec_hostSilenceExpiry hm hu hw hh, ?_⟩
  by_cases hf : s.feat 0 = true
  · obtain ⟨kwd, ksrc, kmode, kheld, koff⟩ := s.silenceTold.kvTrigger_spec 1
    rw [if_pos hf]
    refine ⟨by rw [kwd, hwd], State.pendingWith_congr (ksrc 76 (by decide)) (hpend hu), kmode,
      fun n hn => kheld n ((htakes n).trans hn), fun _ n hn hb hsw => koff n ((htakes n).trans hn) ?_ ?_⟩
    · rw [hchan, hb]
    · unfold State.modeOf at hsw ⊢; rw [hchan, hsw]
  · obtain ⟨kwd, ksrc, -⟩ := s.silenceTold.safeTrigger_keeps 1
    obtain ⟨kmode, kheld⟩ := State.safeTrigger_safe (s := s.silenceTold) (by rwa [hmode]) 1
    rw [if_neg hf]
    exact ⟨by rw [kwd, hwd], State.pendingWith_congr (ksrc 76 (by decide)) (hpend hu), kmode,
      fun n hn => kheld n ((htakes n).trans hn), fun h => absurd h hf⟩

/-! ### CORE_WATCHDOG_EXPIRY (08 R279) -/

/-- The evidence of a core-watchdog expiry is latched (08 R279). -/
def State.evidence (s : State) (pc : Word) (cause : BitVec 8) : State := { s with
  wd.coreExpiries := satInc s.wd.coreExpiries
  wd.evid0 := pc, wd.evid1 := s.wd.svcOpsec, wd.evid2 := s.wd.svcStamp
  wd.evidCause := cause, wd.evalid := true, wd.nmi := some s.time }

/-- The groups that a HOLD order reaches (08 R279). -/
def State.inReach (s : State) : List Grp := allGrp.filter fun g => s.dieUp g && !(s.group g).link.silent

/-- A channel that has been taken since s freezes at its present state (08 R279). -/
def State.freezeSince (s t : State) (n : Ch) : State :=
  if (t.chan n).guard.held && !(s.chan n).guard.held then t.modGuard n fun x => { x with frozen := true } else t

/-- The HOLD order: what the evidence leaves, taken over, frozen, and with the limit of its groups set. -/
def State.holdOrder (s : State) (pc : Word) (cause : BitVec 8) : State :=
  (((s.evidence pc cause).takeGroups s.inReach 8).each allCh s.freezeSince).each s.inReach fun t g =>
    t.modGrp g fun x => { x with guard := { x.guard with limitMicros := 150000 } }

theorem exec_coreWatchdogExpiry (hu : s.hostUp = true) (hh : s.pw.halted = false) (pc : Word) (cause : BitVec 8) :
    exec (.coreWatchdogExpiry pc cause) s = .next (s.holdOrder pc cause).stopComb := by
  show execCoreWatchdogExpiry pc cause s = _
  unfold execCoreWatchdogExpiry
  rw [if_neg (by simp [hu, hh])]
  rfl

theorem State.freezeSince_hostSide (s t : State) (n : Ch) : (s.freezeSince t n).hostSide = t.hostSide :=
  State.hostSide_ite (s := t) rfl rfl

theorem State.holdOrder_hostSide (s : State) (pc : Word) (cause : BitVec 8) :
    (s.holdOrder pc cause).hostSide = (s.evidence pc cause).hostSide :=
  (State.each_keeps (op := fun (t : State) g => t.modGrp g _) State.hostSide (fun _ _ => rfl) _ _).trans
    ((State.each_keeps State.hostSide s.freezeSince_hostSide _ _).trans (State.takeGroups_hostSide ..))

/-- Freezing keeps a hold, and freezes a channel that was not held before. -/
theorem State.freezeSince_held (h : (t.chan n).guard.held = true) (s : State) (k : Ch) :
    ((s.freezeSince t k).chan n).guard.held = true := by
  unfold State.freezeSince
  split
  · by_cases hk : n = k
    · subst hk; rw [State.chan_modGuard_same]; exact h
    · rw [State.chan_modGuard_ne _ _ hk]; exact h
  · exact h

theorem State.freezeSince_keeps (h : (t.chan n).guard.held = true ∧ (t.chan n).guard.frozen = true) (s : State)
    (k : Ch) : ((s.freezeSince t k).chan n).guard.held = true ∧ ((s.freezeSince t k).chan n).guard.frozen = true := by
  refine ⟨State.freezeSince_held h.1 s k, ?_⟩
  unfold State.freezeSince
  split
  · by_cases hk : n = k
    · subst hk; rw [State.chan_modGuard_same]
    · rw [State.chan_modGuard_ne _ _ hk]; exact h.2
  · exact h.2

theorem State.freezeSince_frozen (h : (t.chan n).guard.held = true) (hs : (s.chan n).guard.held = false) :
    ((s.freezeSince t n).chan n).guard.frozen = true := by
  unfold State.freezeSince
  rw [if_pos (by simp [h, hs]), State.chan_modGuard_same]

theorem State.unheld_of_takes (h : s.takes n = true) : (s.chan n).guard.held = false := by
  unfold State.takes at h
  simp only [Bool.and_eq_true, Bool.not_eq_true'] at h
  exact h.1.1.2

theorem State.holdOrder_frozen (ht : s.takes n = true) (hd : s.dieUp (grpOf n) = true)
    (hl : (s.group (grpOf n)).link.silent = false) (pc : Word) (cause : BitVec 8) :
    ((s.holdOrder pc cause).chan n).guard.held = true ∧ ((s.holdOrder pc cause).chan n).guard.frozen = true := by
  have hreach : grpOf n ∈ s.inReach := List.mem_filter.mpr ⟨mem_allGrp _, by simp [hd, hl]⟩
  have htaken : (((s.evidence pc cause).takeGroups s.inReach 8).chan n).guard.held = true :=
    State.takeGroups_held (s := s.evidence pc cause) (Or.inl ht) hreach 8
  have hfrozen : _ ∧ _ := State.each_reaches (op := s.freezeSince) (I := fun t => (t.chan n).guard.held = true)
    (P := fun t => (t.chan n).guard.held = true ∧ (t.chan n).guard.frozen = true)
    (fun t k h => State.freezeSince_held h s k) (fun t k h => State.freezeSince_keeps h s k)
    (fun t h => ⟨State.freezeSince_held h s n, State.freezeSince_frozen h (State.unheld_of_takes ht)⟩)
    (mem_allCh n) htaken
  have hchan := State.each_keeps (op := fun (t : State) g => t.modGrp g fun x => { x with
    guard := { x.guard with limitMicros := 150000 } }) (fun t : State => t.chan n) (fun _ _ => rfl) s.inReach
    (((s.evidence pc cause).takeGroups s.inReach 8).each allCh s.freezeSince)
  unfold State.holdOrder
  rw [hchan]
  exact hfrozen

/-! ### DIE_OVERTEMP (08 R265) -/

theorem exec_dieOvertemp (hd : s.dieUp g = true) (hu : s.hostUp = true) : exec (.dieOvertemp g) s =
    .next ((s.raiseThermal g 4).policyFault 30 (68 + g.val) g.val 4
      (((s.raiseThermal g 4).group g).sup.tdie.signExtend 32) ((s.raiseThermal g 4).shedMask g) 0) := by
  show execDieOvertemp g s = _
  unfold execDieOvertemp
  rw [if_pos (by simp [hd, hu])]

/-- A policy fault leaves every event source but that of a mode change. -/
theorem State.policyFault_src {j : Fin 128} (hj : j ≠ 120) (s : State) (sel src a b : Nat) (p q r : Word) :
    (s.policyFault sel src a b p q r).ev.src[j.val] = s.ev.src[j.val] := by
  obtain ⟨-, hsrc, -⟩ := s.safeTrigger_keeps 6
  unfold State.policyFault
  split
  · rfl
  · split
    · exact congrArg (fun e : Events => e.src[j.val]) (State.recordOnly_ev ..)
    · exact hsrc j hj

/-- A policy fault that is selected and acts is a trigger (08 R265). -/
theorem State.policyFault_acts {sel : Nat} (hsel : bit s.safe.cfg sel = true) (hact : bit s.safe.cfg 28 = false)
    (src a b : Nat) (p q r : Word) : s.policyFault sel src a b p q r = s.safeTrigger 6 := by
  unfold State.policyFault
  rw [hsel, hact]
  rfl

theorem dieOvertemp_acts (hd : s.dieUp g = true) (hu : s.hostUp = true) :
    ∃ t, exec (.dieOvertemp g) s = .next t ∧ t.pendingWith (srcNo (68 + g.val)) 4 ∧
      (bit s.safe.cfg 30 = true → bit s.safe.cfg 28 = false → s.pw.mode = .run →
        t.pw.mode = .safe ∧ ∀ n, s.takes n = true → (t.chan n).guard.held = true) := by
  have hlogs := s.raiseThermal_logs g 4
  have hcfg : (s.raiseThermal g 4).safe.cfg = s.safe.cfg := congrArg (·.safe.cfg) hlogs.modeless
  have hsrc : ∀ k : Grp, srcNo (68 + k.val) ≠ 120 := by decide
  refine ⟨_, exec_dieOvertemp hd hu,
    State.pendingWith_congr (State.policyFault_src (hsrc g) ..) (State.raiseThermal_pending hu g 4), fun h30 h28 hm => ?_⟩
  rw [State.policyFault_acts (by rw [hcfg, h30]) (by rw [hcfg, h28])]
  obtain ⟨hmode, hheld⟩ := State.safeTrigger_safe (s := s.raiseThermal g 4)
    (Or.inl ((still_mode hlogs.still).trans hm)) 6
  exact ⟨hmode, fun n hn => hheld n ((takes_of_same hlogs.ch hlogs.grp n).trans hn)⟩

end

end Sys2Proof.Machine

open Sys2Proof Sys2Proof.Machine

/-- Settles O26: the triggers by what a takeover of all groups holds and by what a mode change leaves; the core
watchdog by the steps of its HOLD order. -/
theorem safeTriggers : Obligations.SafeTriggers := by
  unfold Obligations.SafeTriggers
  refine ⟨fun s hm hu hw hh => hostSilenceExpiry_takes hm hu hw hh, fun s pc cause hu hh => ?_,
    fun s g hd hu => dieOvertemp_acts hd hu⟩
  have hside := s.holdOrder_hostSide pc cause
  obtain ⟨hstill, hstopWd⟩ := (s.holdOrder pc cause).stopComb_aside
  have hwd : (s.holdOrder pc cause).stopComb.wd = (s.evidence pc cause).wd := hstopWd.trans (hostSide_wd hside)
  refine ⟨_, exec_coreWatchdogExpiry hu hh pc cause, congrArg Watchdogs.coreExpiries hwd,
    congrArg Watchdogs.evid0 hwd, congrArg Watchdogs.evidCause hwd, congrArg Watchdogs.evid1 hwd,
    congrArg Watchdogs.evid2 hwd, congrArg Watchdogs.evalid hwd, congrArg Watchdogs.nmi hwd,
    State.stopComb_started _, ?_, fun n ht hd hl => ?_⟩
  · rw [still_mode hstill, hostSide_pw hside]; rfl
  · rw [unread_guard (State.stopComb_unread _)]
    exact State.holdOrder_frozen ht hd hl pc cause
end

section
/-! ## The guards' entries, the checks of their copies and the ends of their waits (08 R254 to R260, R273, R279,
R282) -/

namespace Sys2Proof.Machine

section
variable {s t u : State} {n m : Ch} {g k : Grp}

/-! ### SAFE_ENTRY_APPLY (08 R254, R258 to R260) -/

/-- What a due entry of a held channel does (08 R258): a switch-on waits for the group's 5 ms and its turn. -/
def State.entryTurn (s : State) (n : Ch) : State :=
  if s.entryStarts n && (!s.clearOn (grpOf n) || s.otherFirst n) then s else (s.applyEntry n).queueTurns (grpOf n)

theorem exec_safeEntryApply_due (hh : (s.chan n).guard.held = true) (ha : (s.chan n).guard.applied = false)
    (hf : (s.chan n).guard.frozen = false) (hb : (s.chan n).cfgBusy = false) (hd : s.dieUp (grpOf n) = true)
    (ht : (s.chan n).guard.t + fld (s.entryOf n).1 9 0 * 10 * milli ≤ s.time)
    (hg : (s.group (grpOf n)).guard.tbad = false) : exec (.safeEntryApply n true) s = .next (s.entryTurn n) := by
  have hdue : s.entryDue n = true := by unfold State.entryDue; simp [hh, ha, hf, hb, ht]
  show execSafeEntryApply n true s = _
  unfold execSafeEntryApply
  dsimp only
  rw [if_neg (by simp [hd, hh]), if_neg (by simp [hg]), if_neg (by simp [hdue])]
  exact (apply_ite Host.Outcome.next _ _ _).symm

/-- An entry of OFF or HOLD starts no load on a switching channel (08 R258). -/
theorem State.entryTurn_quiet (hb : (s.chan n).cfgBusy = false) (hm : (s.modeOf n).isSwitch = true)
    (ha : fld (s.entryOf n).1 31 30 = 0 ∨ fld (s.entryOf n).1 31 30 = 2) :
    s.entryTurn n = (s.applyEntry n).queueTurns (grpOf n) := by
  have hstart : s.entryStarts n = false := by
    unfold State.entryStarts
    rw [State.guardMode_of_settled hb]
    dsimp only
    rcases ChMode.switch_cases hm with h | h <;> rw [h] <;> rcases ha with ha | ha <;> rw [ha] <;> rfl
  unfold State.entryTurn
  rw [hstart]
  rfl

theorem State.applyEntry_off (ha : fld (s.entryOf n).1 31 30 = 0) : s.applyEntry n = s.entryOff n := by
  unfold State.applyEntry
  dsimp only
  rw [ha]
  rfl

theorem State.applyEntry_hold (ha : fld (s.entryOf n).1 31 30 = 2) : s.applyEntry n = s.markApplied n := by
  unfold State.applyEntry
  dsimp only
  rw [ha]
  rfl

theorem State.queueTurns_touchesGrp (s : State) (g : Grp) (l : List Ch) : s.touchesGrp (s.queueTurns g) l [g] :=
  State.touchesGrp_modGrp ..

theorem State.queueTurns_chan (s : State) (g : Grp) (n : Ch) : (s.queueTurns g).chan n = s.chan n := rfl

/-- An OFF entry turns its switching channel off (08 R254). -/
theorem State.entryTurn_off (hb : (s.chan n).cfgBusy = false) (hm : (s.modeOf n).isSwitch = true)
    (hl : (s.chan n).out.ps ≠ .lockedOff) (ha : fld (s.entryOf n).1 31 30 = 0) :
    ((s.entryTurn n).chan n).out.ps = .off ∧ ((s.entryTurn n).chan n).out.cmdOn = false ∧
    ((s.entryTurn n).chan n).guard.applied = true ∧ s.touchesGrp (s.entryTurn n) [n, mateOf n] [grpOf n] := by
  obtain ⟨⟨hc, -, hp⟩, -⟩ := State.commandOff_chan hl
  have htouch := ((s.commandOff_touchesGrp n).trans ((s.commandOff n).modCh_touchesGrp n _)).trans
    (((s.commandOff n).markApplied n).queueTurns_touchesGrp (grpOf n) _)
  rw [State.entryTurn_quiet hb hm (Or.inl ha), State.applyEntry_off ha, State.entryOff_switch hb hm]
  rw [State.queueTurns_chan]
  refine ⟨?_, ?_, ?_, htouch⟩
  · rw [State.markApplied_out, hp rfl]
  · rw [State.markApplied_out, hc]
  · unfold State.markApplied; rw [State.chan_modGuard_same]

/-- A HOLD entry leaves the output of its channel (08 R254). -/
theorem State.entryTurn_hold (hb : (s.chan n).cfgBusy = false) (hm : (s.modeOf n).isSwitch = true)
    (ha : fld (s.entryOf n).1 31 30 = 2) :
    (s.entryTurn n).chan n = { s.chan n with guard := { (s.chan n).guard with applied := true, frozen := false } } ∧
    s.touchesGrp (s.entryTurn n) [n] [grpOf n] := by
  rw [State.entryTurn_quiet hb hm (Or.inr ha), State.applyEntry_hold ha, State.queueTurns_chan]
  exact ⟨State.chan_modGuard_same .., (State.touchesGrp_of_touches (State.touches_of_modCh s n _) _).trans
    ((s.markApplied n).queueTurns_touchesGrp (grpOf n) _)⟩

theorem exec_safeEntryApply_bad (hh : (s.chan n).guard.held = true) (hd : s.dieUp (grpOf n) = true) :
    exec (.safeEntryApply n false) s = .next (s.badCopy (grpOf n)) := by
  show execSafeEntryApply n false s = _
  unfold execSafeEntryApply
  dsimp only
  rw [if_neg (by simp [hd, hh]), if_pos (by simp)]

/-- A copy that fails its check marks the guard and turns off what the group holds (08 R260, R273). -/
theorem State.badCopy_spec (s : State) (g : Grp) :
    ((s.badCopy g).group g).guard = { (s.group g).guard with tbad := true, fok := false } ∧
    ∀ m, grpOf m = g → s.heldSwitch m → (s.chan m).out.ps ≠ .lockedOff →
      ((s.badCopy g).chan m).out.cmdOn = false := by
  unfold State.badCopy
  set u := s.modGrp g fun x => { x with guard := { x.guard with tbad := true, fok := false } }
  refine ⟨?_, fun m hm hs hl => ?_⟩
  · unfold State.group
    rw [holds_grp (u.allOff_spec g).2]
    exact congrArg Group.guard (State.group_modGrp_same ..)
  · subst hm
    exact State.allOff_cmdOff (s := u) hs hl

/-! ### The checks of the copies (08 R260, R282) -/

theorem exec_guardGenMismatch (h : s.guardReached g = true) (v : Bool) :
    exec (.guardGenMismatch g v) s = .next (s.rewriteGuard g v) := if_pos h

theorem exec_guardCrcCheck (h : s.guardReached g = true) (v : Bool) :
    exec (.guardCrcCheck g v) s = .next (s.rewriteGuard g v) := if_pos h

/-- The master table written to the guard of a group (08 R256). -/
theorem State.writeGuard_spec (s : State) (g : Grp) :
    ((s.writeGuard g).group g).guard = { (s.group g).guard with copy := s.masterTable g, gen := s.safe.gen } ∧
    s.touchesGrp (s.writeGuard g) [] [g] :=
  ⟨congrArg Group.guard (State.group_modGrp_same ..), State.touchesGrp_modGrp ..⟩

/-- A policy fault frees no guard of a bad table, and leaves an internal fault told (08 R260, R272). -/
theorem State.policyFault_keeps (s : State) (sel src a b : Nat) (p q r : Word) :
    (s.policyFault sel src a b p q r).safe.intFault = s.safe.intFault ∧
    ∀ g, ((s.policyFault sel src a b p q r).group g).guard.tbad = (s.group g).guard.tbad := by
  obtain ⟨-, -, -, hfault⟩ := s.safeTrigger_keeps 6
  unfold State.policyFault
  split
  · exact ⟨rfl, fun _ => rfl⟩
  split
  · have hlogs := recordOnly_logs s src (BitVec.ofNat 16 a) (BitVec.ofNat 16 (reportOnly + b)) p q r
    exact ⟨congrArg (·.safe.intFault) hlogs.modeless, fun g => by rw [hlogs.group]⟩
  · exact ⟨hfault, fun g => s.safeTrigger_tbad 6 g⟩

/-- An internal fault is told by EV127 and stays until the reset (08 R272). -/
theorem State.internalFault_spec (hu : s.hostUp = true) (code : Nat) (p q r : Word) :
    (s.internalFault code p q r).ev.src[127].pending = true ∧ (s.internalFault code p q r).safe.intFault = true ∧
    ∀ g, ((s.internalFault code p q r).group g).guard.tbad = (s.group g).guard.tbad := by
  set u : State := { s.raise 127 0 code p q r with safe.intFault := true } with hudef
  have hfault : s.internalFault code p q r = u.policyFault 29 127 0 code p q r := by
    unfold State.internalFault; rw [if_pos hu]
  obtain ⟨hpend, -⟩ := raise_pending s 127 0 code p q r hu (by decide)
  obtain ⟨hint, htbad⟩ := u.policyFault_keeps 29 127 0 code p q r
  rw [hfault]
  refine ⟨?_, hint, fun g => ?_⟩
  · exact (congrArg EvState.pending (State.policyFault_src (j := 127) (by decide) u ..)).trans hpend
  · rw [htbad]
    show ((s.raise 127 0 code p q r).group g).guard.tbad = _
    rw [(raise_logs ..).group]

/-- A copy that the host die cannot verify (08 R260). -/
theorem State.rewriteGuard_bad (hu : s.hostUp = true) (g : Grp) :
    ((s.rewriteGuard g false).group g).guard.tbad = true ∧
    (s.rewriteGuard g false).ev.src[127].pending = true ∧ (s.rewriteGuard g false).safe.intFault = true := by
  set u := (s.modGrp g fun x => { x with guard := { x.guard with tbad := true } }).fokRefresh with hudef
  have htbad : (u.group g).guard.tbad = true :=
    (congrArg Prod.snd (congrFun (State.fokRefresh_guardFlags _) g)).trans
      (congrArg (·.guard.tbad) (State.group_modGrp_same ..))
  have hup : u.hostUp = true := (still_hostUp (State.fokRefresh_still _).1).trans hu
  obtain ⟨hpend, hint, hkept⟩ := State.internalFault_spec (s := u.tookFree.tookFree.tookFree.tookFree) hup
    (u.freeWord.toNat % 0x7FFF + 1) u.tookFree.freeWord u.tookFree.tookFree.freeWord
    u.tookFree.tookFree.tookFree.freeWord
  exact ⟨(hkept g).trans htbad, hpend, hint⟩

theorem State.hostUp_of_guardReached (h : s.guardReached g = true) : s.hostUp = true := by
  unfold State.guardReached at h
  simp only [Bool.and_eq_true] at h
  exact h.1.2

/-! ### GUARD_HOLD_EXPIRY (08 R279) -/

/-- A channel whose freeze ends takes the instant as its new T (08 R279). -/
def Channel.thawed (now : Nat) (c : Channel) : Channel :=
  if c.guard.frozen then { c with guard := { c.guard with frozen := false, t := now } } else c

theorem State.unfreeze_spec (s : State) (g : Grp) : s.touches (s.unfreeze g) (chOf g) ∧
    ∀ n ∈ chOf g, (s.unfreeze g).chan n = (s.chan n).thawed s.time := by
  refine State.each_local (fun t ht n _ => ?_) (chOf_nodup g)
  unfold Channel.thawed
  dsimp only
  split
  · exact ⟨State.touches_of_modCh .., by rw [← still_time ht.still]; exact State.chan_modGuard_same ..⟩
  · exact ⟨t.touches_refl _, rfl⟩

/-- A guard under a HOLD order that ends (08 R279). -/
def State.holdEnds (s : State) (g : Grp) : State :=
  if (s.group g).guard.limitMicros = 150000 && !(s.group g).link.failed then s.unfreeze g else s

theorem exec_guardHoldExpiry {d : Nat} (hn : s.wd.nmi = some d) (hd : d + 150 * milli ≤ s.time) :
    exec .guardHoldExpiry s = .next (s.each allGrp State.holdEnds) := by
  show execGuardHoldExpiry s = _
  unfold execGuardHoldExpiry
  rw [if_pos (by simp [State.sinceNmi, hn, hd])]
  rfl

/-- What the end of one group's HOLD order reads and writes of channel n. -/
def State.holdView (n : Ch) (s : State) : Nat × Vector Group 4 × Channel := (s.time, s.grp, s.chan n)

theorem State.holdEnds_ne (hk : k ≠ grpOf n) (s : State) : (s.holdEnds k).holdView n = s.holdView n := by
  obtain ⟨htouch, -⟩ := s.unfreeze_spec k
  have hnot : n ∉ chOf k := fun h => hk (mem_chOf.mp h).symm
  unfold State.holdEnds
  split
  · unfold State.holdView
    rw [still_time htouch.still, (touches_iff.mp htouch).2.1, htouch.1 n hnot]
  · rfl

/-- Each channel whose guard was under a HOLD order and works thaws, and no other changes (08 R279). -/
theorem State.holdEnds_all (s : State) (n : Ch) : (s.each allGrp State.holdEnds).chan n =
    if (s.group (grpOf n)).guard.limitMicros = 150000 ∧ (s.group (grpOf n)).link.failed = false then
      (s.chan n).thawed s.time else s.chan n := by
  obtain ⟨v, hv, hend⟩ := State.each_view_visit (view := State.holdView n)
    (fun t k hk => State.holdEnds_ne hk t) allGrp_nodup (mem_allGrp (grpOf n)) s
  obtain ⟨htime, hgrp, hchan⟩ : v.time = s.time ∧ v.grp = s.grp ∧ v.chan n = s.chan n := by
    simpa [State.holdView] using hv
  have hgroup : v.group (grpOf n) = s.group (grpOf n) := by unfold State.group; rw [hgrp]
  have hlast : (s.each allGrp State.holdEnds).chan n = (v.holdEnds (grpOf n)).chan n :=
    congrArg (fun x => x.2.2) hend
  rw [hlast]
  unfold State.holdEnds
  rw [hgroup]
  simp only [Bool.and_eq_true, decide_eq_true_eq, Bool.not_eq_true']
  split
  · rw [(v.unfreeze_spec (grpOf n)).2 n (mem_chOf.mpr rfl), htime, hchan]
  · exact hchan

/-! ### FOK_DELAY_EXPIRED (08 R273) -/

theorem exec_fokDelayExpired (hg : grpOf n = g) (hh : (s.chan n).guard.held = true)
    (ht : (s.chan n).guard.t + fld s.safe.cfg 9 0 * 10 * milli ≤ s.time) : exec (.fokDelayExpired g) s =
    .next (s.modGrp g fun x => { x with guard := { x.guard with fok := false } }) := by
  have hover : s.fokOver g = true :=
    List.any_eq_true.mpr ⟨n, mem_chOf.mpr hg, by simp [State.fokDly, hh, ht]⟩
  exact if_pos hover

end

end Sys2Proof.Machine

open Sys2Proof Sys2Proof.Machine

/-- Settles O25: the entries through the turn that each takes, the checks through what a rewrite leaves, the end of a
HOLD order group by group. -/
theorem guardEntries : Obligations.GuardEntries := by
  unfold Obligations.GuardEntries
  refine ⟨fun s n hh ha hf hb hd ht hm hl hg => ⟨_, exec_safeEntryApply_due hh ha hf hb hd ht hg,
      State.entryTurn_off hb hm hl, State.entryTurn_hold hb hm⟩,
    fun s n hh hd => ?bad, fun s g hr => ?checks, fun s d hn hd => ?expiry,
    fun s g n hh hg hheld ht => ⟨_, exec_fokDelayExpired hg hheld ht,
      congrArg Group.guard (State.group_modGrp_same ..), State.touchesGrp_modGrp ..⟩⟩
  case bad =>
    obtain ⟨hguard, hoff⟩ := s.badCopy_spec (grpOf n)
    exact ⟨_, exec_safeEntryApply_bad hh hd, by rw [hguard], by rw [hguard],
      fun m hm hheld hbusy hmode hl => hoff m hm ⟨hheld, hbusy, hmode⟩ hl⟩
  case checks =>
    have hgood := s.writeGuard_spec g
    have hbad := State.rewriteGuard_bad (State.hostUp_of_guardReached hr) g
    exact ⟨⟨_, exec_guardGenMismatch hr true, hgood⟩, ⟨_, exec_guardCrcCheck hr true, hgood⟩,
      ⟨_, exec_guardGenMismatch hr false, hbad⟩, ⟨_, exec_guardCrcCheck hr false, hbad⟩⟩
  case expiry =>
    refine ⟨_, exec_guardHoldExpiry hn hd, fun n => ⟨fun hlim hfail => ?_, fun h => ?_⟩⟩
    · rw [State.holdEnds_all, if_pos ⟨hlim, hfail⟩]; rfl
    · rw [State.holdEnds_all, if_neg (by rcases h with h | h <;> simp [h])]
end

section
/-! ## The waggle and the task monitor (08 R274 to R284) -/

namespace Sys2Proof.Machine

section
variable {s t u : State} {n : Ch} {f : Frame} {w : Word} {ws : List Word} {a : BitVec 24} {k : Fin 16}

/-! ### What the receipt of a message leaves of the watchdogs (10 R324, 08 R284) -/

/-- The time stands, and of the watchdogs the host silence alone is served. -/
theorem State.received_wd (s : State) (f : Frame) :
    (s.received f).time = s.time ∧ (s.received f).wd = s.wd.serveHs s.time := by
  unfold State.received State.supersede State.accept State.wake State.servePort
  dsimp only
  split <;> split <;> exact ⟨rfl, rfl⟩

theorem State.received_sec (s : State) (f : Frame) : (s.received f).sec = s.sec :=
  show (s.received f).offPort.sec = s.offPort.sec by rw [State.received_offPort]

theorem State.received_inWindow (s : State) (f : Frame) : (s.received f).inWindow = s.inWindow := by
  obtain ⟨ht, hw⟩ := s.received_wd f
  unfold State.inWindow
  rw [ht, hw]
  rfl

theorem State.received_waggleToken (s : State) (f : Frame) : (s.received f).waggleToken = s.waggleToken := by
  unfold State.waggleToken
  rw [(s.received_wd f).2]
  rfl

/-! ### WAGGLE and its time-out (08 R276, R277) -/

/-- The count, the kind and the period of a waggle failure (08 R277). -/
def State.waggleCounted (s : State) (why : Nat) : State := { s with
  wd.wgFails := satInc s.wd.wgFails, wd.wgLastFail := BitVec.ofNat 3 why, wd.wgStart := s.time }

/-- A waggle failure outside SAFE that is told and posts a challenge, before its trigger (08 R277). -/
def State.waggleTold (s : State) (why : Nat) : State :=
  let s1 := s.waggleCounted why
  let s2 := (s1.raise 77 0 why s1.wdWgStatW s1.wd.wgCount 0).postChallenge
  { s2 with safe.waggleOwed := s2.safe.waggleOwed || (s.pw.mode == .run || s.pw.mode == .doze) }

theorem State.waggleFail_told (h : s.pw.mode ≠ .safe) (why : Nat) :
    s.waggleFail why = (s.waggleTold why).safeTrigger 2 := if_neg h

theorem State.waggleTold_logs (s : State) (why : Nat) : (s.waggleCounted why).logsOver
    ((s.waggleCounted why).raise 77 0 why (s.waggleCounted why).wdWgStatW (s.waggleCounted why).wd.wgCount 0) :=
  raise_logs ..

/-- A failure changes the counters of the waggle and its challenge, whatever its trigger does (08 R277). -/
theorem State.waggleFail_wd (s : State) (why : Nat) :
    (s.waggleFail why).wd.wgFails = satInc s.wd.wgFails ∧ (s.waggleFail why).wd.wgLastFail = BitVec.ofNat 3 why ∧
    (s.waggleFail why).wd.wgStart = s.time ∧ (s.waggleFail why).wd.wgCount = s.wd.wgCount := by
  by_cases h : s.pw.mode = .safe
  · have hrec : s.waggleFail why = (s.waggleCounted why).recordOnly 77 0 (BitVec.ofNat 16 why)
      (s.waggleCounted why).wdWgStatW (s.waggleCounted why).wd.wgCount 0 := if_pos h
    have hwd : (s.waggleFail why).wd = (s.waggleCounted why).wd := by
      rw [hrec]; exact (congrArg State.wd (recordOnly_logs ..).modeless :)
    rw [hwd]
    exact ⟨rfl, rfl, rfl, rfl⟩
  · have htold : (s.waggleTold why).wd = { (s.waggleCounted why).wd with wgChal := (s.waggleTold why).wd.wgChal } :=
      congrArg (fun x : Watchdogs => { x with wgChal := (s.waggleTold why).wd.wgChal })
        (congrArg State.wd (s.waggleTold_logs why).modeless :)
    obtain ⟨hwd, -⟩ := (s.waggleTold why).safeTrigger_keeps 2
    rw [State.waggleFail_told h, hwd, htold]
    exact ⟨rfl, rfl, rfl, rfl⟩

/-- From RUN or DOZE a failure leads to SAFE, which a service must follow before a release (08 R267, R277). -/
theorem State.waggleFail_safe (hm : s.pw.mode = .run ∨ s.pw.mode = .doze) (hu : s.hostUp = true) (why : Nat) :
    (s.waggleFail why).pw.mode = .safe ∧ (s.waggleFail why).pendingWith 77 why ∧
    (s.waggleFail why).safe.waggleOwed = true := by
  have hlogs := s.waggleTold_logs why
  have hmode : (s.waggleTold why).pw.mode = s.pw.mode := still_mode hlogs.still
  have hpend : (s.waggleTold why).pendingWith 77 why :=
    raise_pending (s.waggleCounted why) 77 0 why _ _ 0 hu (by decide)
  obtain ⟨-, hsrc, howed, -⟩ := (s.waggleTold why).safeTrigger_keeps 2
  obtain ⟨hsafe, -⟩ := State.safeTrigger_safe (s := s.waggleTold why) (by rwa [hmode]) 2
  rw [State.waggleFail_told (by rcases hm with h | h <;> rw [h] <;> decide)]
  refine ⟨hsafe, State.pendingWith_congr (hsrc 77 (by decide)) hpend, howed.trans ?_⟩
  unfold State.waggleTold
  rcases hm with h | h <;> rw [h] <;> exact Bool.or_true _

theorem exec_waggleTimeout (he : s.wd.wgEn = true) (hu : s.hostUp = true)
    (ht : s.wd.wgStart + s.wd.wgPeriod.toNat * milli ≤ s.time) :
    exec .waggleTimeout s = .next (s.waggleFail 1) := if_pos (by simp [he, hu, ht])

section
variable (he : s.wd.wgEn = true) (hq : s.wd.wgPeriod.toNat * milli ≤ 4 * (s.time - s.wd.wgStart))
include he hq

/-- After a quarter of the period the token decides (08 R276). -/
theorem waggleBody_token : waggleBody .host a [w] s =
    if w = s.waggleToken then (s.acceptWaggle, .now .ok 0 [s.acceptWaggle.wd.wgChal, s.acceptWaggle.wd.wgCount])
    else (s.waggleFail 3, .now .denied 0 []) := by
  unfold waggleBody
  rw [if_neg (by simp [he]), if_neg (by omega)]
  rfl

end

/-- An accepted WAGGLE with its token or with another (08 R276, R277). -/
theorem waggle_answers {c : Cmd} (ha : s.accepts waggleSpec c = true) (hw : c.words = [w]) (he : s.wd.wgEn = true)
    (hq : s.wd.wgPeriod.toNat * milli ≤ 4 * (s.time - s.wd.wgStart)) :
    ∃ u t, exec (.waggle c) s = .next t ∧
      (w = s.waggleToken → State.answers s u t c 0x20 .ok 0 [u.wd.wgChal, u.wd.wgCount] ∧
        u.wd.wgCount = s.wd.wgCount + 1 ∧ u.wd.wgStart = s.time ∧ u.safe.waggleOwed = false ∧
        u.wd.wgPeriod = s.wd.wgSet.getD s.wd.wgPeriod ∧ u.wd.wgSet = none ∧ u.ch = s.ch) ∧
      (w ≠ s.waggleToken → State.answers s u t c 0x20 .denied 0 [] ∧
        u.wd.wgFails = satInc s.wd.wgFails ∧ u.wd.wgLastFail = 3 ∧ u.wd.wgCount = s.wd.wgCount) := by
  set r := s.received c.frame with hr
  obtain ⟨htime, hwd⟩ := s.received_wd c.frame
  rw [← hr] at htime hwd
  have hbody := waggleBody_token (s := r) (a := c.args) (w := w) (by rw [hwd]; exact he)
    (by rw [hwd, htime]; exact hq)
  rw [s.received_waggleToken] at hbody
  by_cases htok : w = s.waggleToken
  · rw [if_pos htok] at hbody
    refine ⟨r.acceptWaggle, _, rfl, fun _ => ⟨hostCmd_answers (by decide) (by decide) (by decide) (by decide) ha
      (by rw [hw]; exact hbody), ?_, ?_, rfl, ?_, rfl, (s.received_chGrp c.frame).1⟩, fun h => absurd htok h⟩
    · exact congrArg (·.wgCount + 1) hwd
    · exact htime
    · exact (congrArg (fun x : Watchdogs => x.wgSet.getD x.wgPeriod) hwd :)
  · rw [if_neg htok] at hbody
    obtain ⟨hfails, hlast, -, hcount⟩ := r.waggleFail_wd 3
    refine ⟨r.waggleFail 3, _, rfl, fun h => absurd h htok, fun _ => ⟨hostCmd_answers (by decide) (by decide)
      (by decide) (by decide) ha (by rw [hw]; exact hbody), ?_, hlast, ?_⟩⟩
    · rw [hfails, hwd]; rfl
    · rw [hcount, hwd]; rfl

/-! ### Writes of the watchdog objects (08 R275, R280, R284) -/

/-- An object of the safe state and the watchdogs is written by its rules alone (11 R351). -/
theorem State.setObject_safe {i : Nat} {v : Word} (hlo : 0xB00 ≤ i) (hhi : i < 0xC00) (hr : s.readSafe i = some v) :
    s.setObject .host i w = s.writeSafe .host i w := by
  have hread : s.readObj i = some v := by
    unfold State.readObj
    iterate 8 rw [if_neg (by omega)]
    rw [if_pos hhi, hr]
  unfold State.setObject State.writeObj
  rw [if_neg (by omega), hread, Option.isNone_some, if_neg (by decide), if_neg (by omega), if_neg (by omega),
    if_pos ⟨hlo, hhi⟩]

/-- A write that nothing refuses answers OK with what the object then reads (11 R342). -/
theorem hostWrite_written {i : Nat} (ha : s.acceptsWrite f i w = true) (hi : i < 0x10000)
    (hs : (s.received f).setObject .host i w = .ok u) : State.written s u (s.hostWrite f i w) f i w := by
  have hidx : objIndex (writeMsg f i w).args = i := by
    show ((BitVec.ofNat 24 i).setWidth 32).toNat >>> 0 % 65536 = i
    rw [Nat.shiftRight_zero, BitVec.toNat_setWidth, BitVec.toNat_ofNat]
    omega
  have hw := setObj_written (c := writeMsg f i w) (u := u) ha rfl (by rw [hidx]; exact hs)
  rw [hidx] at hw
  exact hw

/-- A write of an object of the safe state and the watchdogs that its rules let through (11 R342). -/
theorem hostWrite_safe {i : Nat} {v : Word} (ha : s.acceptsWrite f i w = true) (hlo : 0xB00 ≤ i) (hhi : i < 0xC00)
    (hr : (s.received f).readSafe i = some v) (hs : (s.received f).writeSafe .host i w = .ok u) :
    State.written s u (s.hostWrite f i w) f i w :=
  hostWrite_written ha (by omega) ((State.setObject_safe hlo hhi hr).trans hs)

/-- A write that no check fails goes through. -/
theorem judge_ok {l : List Status} (h : l = []) (s : State) : judge l s = .ok s := by rw [h]; rfl

theorem failIf_of_not {c : Bool} (h : c = false) (x : Status) : failIf c x = [] := by rw [h]; rfl

theorem outside_of_within {x lo hi : Nat} (h : lo ≤ x) (h' : x ≤ hi) : outside x lo hi = false :=
  decide_eq_false (by omega)

/-- The word that arms the waggle carries its period in the bits below (08 R275). -/
theorem putBit_arm (p : BitVec 14) :
    bit (putBit (p.setWidth 32) 31 true) 31 = true ∧ fld (putBit (p.setWidth 32) 31 true) 13 0 = p.toNat := by
  refine ⟨bit_or_bitW _ (by decide), ?_⟩
  show ((p.setWidth 32) ||| bitW 31).toNat >>> 0 % 2 ^ 14 = p.toNat
  rw [Nat.shiftRight_zero, BitVec.toNat_or, Nat.or_mod_two_pow, BitVec.toNat_setWidth]
  have hp := p.isLt
  rw [show (bitW 31).toNat % 2 ^ 14 = 0 from by decide, Nat.or_zero, Nat.mod_eq_of_lt (show p.toNat < 2 ^ 32 by omega),
    Nat.mod_eq_of_lt hp]

/-- WD_HS takes its period at the next service (08 R284). -/
theorem State.writeSafe_hs (h1 : 1 ≤ fld w 19 0) (h2 : fld w 19 0 ≤ 600000)
    (hw : s.wd.wgEn = true → s.inWindow = true) :
    s.writeSafe .host 0xB02 w = .ok { s with wd.hsSet := some (BitVec.ofNat 20 (fld w 19 0)) } := by
  refine judge_ok ?_ _
  rw [failIf_of_not (outside_of_within h1 h2), failIf_of_not]
  · rfl
  · cases he : s.wd.wgEn
    · rfl
    · simp [hw he]

/-- WD_WG takes its period at the next service of an armed waggle (08 R284), and unarmed at once or arming it (08
R276, log entry 69). -/
theorem State.writeSafe_wg (h1 : 1 ≤ fld w 13 0) (h2 : fld w 13 0 ≤ 10000) :
    s.writeSafe .host 0xB03 w =
      if s.wd.wgEn then
        judge (failIf (!bit w 31 || !s.inWindow) .denied)
          { s with wd.wgSet := some (BitVec.ofNat 14 (fld w 13 0)) }
      else if bit w 31 then .ok (s.armWaggle (BitVec.ofNat 14 (fld w 13 0)))
      else .ok { s with wd.wgPeriod := BitVec.ofNat 14 (fld w 13 0) } := by
  show (if s.wd.wgEn then judge (failIf _ _ ++ _) _ else if bit w 31 then judge _ _ else judge _ _) = _
  rw [failIf_of_not (outside_of_within h1 h2)]
  rfl

theorem State.writeSafe_tasks (hf : s.feat 7 = true) :
    s.writeSafe .host 0xB10 w = .ok { s with
      wd.taskStrict := bit w 31, wd.taskEn := w.setWidth 16
      wd.checkins := s.newTasks (w.setWidth 16) 0 s.wd.checkins
      wd.taskStart := s.newTasks (w.setWidth 16) s.time s.wd.taskStart } :=
  judge_ok (failIf_of_not (by rw [hf]; rfl) _) _

/-! ### The tasks (08 R280, R281) -/

/-- A check-in counts in the present period of its task (08 R280). -/
def State.checkedIn (s : State) (k : Fin 16) : State :=
  { s with wd.checkins := s.wd.checkins.set k.val (s.wd.checkins[k.val] + 1) }

/-- The task that a check-in names. -/
def taskOf (a : BitVec 24) : Fin 16 := ⟨arg a 3 0 % 16, Nat.mod_lt _ (by decide)⟩

theorem taskCheckinBody_eq (snd : Sender) (a : BitVec 24) (ws : List Word) (s : State) : taskCheckinBody snd a ws s =
    checked (failIf (!s.wd.taskEn.getLsbD (taskOf a).val) .range) s (s.checkedIn (taskOf a), .ok) := rfl

theorem taskCheckinBody_enabled {snd : Sender} (hk : arg a 3 0 = k.val) (he : s.wd.taskEn.getLsbD k.val = true) :
    taskCheckinBody snd a ws s = (s.checkedIn k, .ok) := by
  have hfin : taskOf a = k := Fin.ext (by show arg a 3 0 % 16 = k.val; rw [hk]; exact Nat.mod_eq_of_lt k.isLt)
  rw [taskCheckinBody_eq, hfin, failIf_of_not (by rw [he]; rfl)]
  rfl

/-- The bit of a task in the marks of WD_TASKSTAT. -/
def taskBit (k : Fin 16) : BitVec 16 := BitVec.ofNat 16 (1 <<< k.val)

theorem getLsbD_taskBit (k : Fin 16) : (taskBit k).getLsbD k.val = true := by revert k; decide

theorem getLsbD_or_taskBit (x : BitVec 16) (k : Fin 16) : (x ||| taskBit k).getLsbD k.val = true := by
  rw [BitVec.getLsbD_or, getLsbD_taskBit, Bool.or_true]

/-- The next period of a task begins, its check-ins at 0 (08 R280). -/
def State.nextTask (s : State) (k : Fin 16) : State := { s with
  wd.checkins := s.wd.checkins.set k.val 0, wd.taskStart := s.wd.taskStart.set k.val (s.taskEnd k) }

/-- A task that missed its check-in is marked (08 R281). -/
def State.taskMissed (s : State) (k : Fin 16) : State :=
  { s.nextTask k with wd.taskMiss := (s.nextTask k).wd.taskMiss ||| taskBit k }

/-- A task that checked in too often is marked (08 R281). -/
def State.taskExceeded (s : State) (k : Fin 16) : State :=
  { s.nextTask k with wd.taskExtra := (s.nextTask k).wd.taskExtra ||| taskBit k }

/-- The event of a task's period (08 R281). -/
def State.raiseTask (s : State) (k : Fin 16) (code : Nat) : State := s.raise 78 k.val code s.taskStatW 0 0

theorem State.raiseTask_spec (s : State) (k : Fin 16) (code : Nat) (hu : s.hostUp = true) :
    (s.raiseTask k code).wd = s.wd ∧ (s.raiseTask k code).ch = s.ch ∧ (s.raiseTask k code).pendingWith 78 code :=
  have hlogs := raise_logs s 78 k.val code s.taskStatW 0 0
  ⟨(congrArg State.wd hlogs.modeless :), hlogs.ch, raise_pending s 78 k.val code _ 0 0 hu (by decide)⟩

/-- What the end of the period of an enabled task does goes by its check-ins (08 R281). -/
theorem exec_taskPeriodEnd (hf : s.feat 7 = true) (he : s.wd.taskEn.getLsbD k.val = true) (hh : s.pw.halted = false)
    (hu : s.hostUp = true) (ht : s.taskEnd k ≤ s.time) :
    exec (.taskPeriodEnd k) s =
      if s.wd.checkins[k.val] = 0 then .next ((s.taskMissed k).raiseTask k 1)
      else if s.wd.checkins[k.val] = 1 then .next (s.nextTask k)
      else .next (if s.wd.taskStrict then (s.taskExceeded k).raiseTask k 2 else s.taskExceeded k) :=
  if_neg (by simp [hf, he, hh, hu, ht])

/-- At the end of a period the next begins, and its check-ins decide what is marked and told (08 R280, R281). -/
theorem exec_taskPeriodEnd_spec (hf : s.feat 7 = true) (he : s.wd.taskEn.getLsbD k.val = true)
    (hh : s.pw.halted = false) (hu : s.hostUp = true) (ht : s.taskEnd k ≤ s.time) :
    ∃ t, exec (.taskPeriodEnd k) s = .next t ∧ t.wd.taskStart = s.wd.taskStart.set k.val (s.taskEnd k) ∧
      t.wd.checkins = s.wd.checkins.set k.val 0 ∧
      (s.wd.checkins[k.val] = 0 → t.wd.taskMiss.getLsbD k.val = true ∧ t.pendingWith 78 1) ∧
      (s.wd.checkins[k.val] = 1 → t = s.nextTask k) ∧
      (2 ≤ s.wd.checkins[k.val] → t.wd.taskExtra.getLsbD k.val = true ∧
        t.wd.taskMiss = s.wd.taskMiss ∧ (s.wd.taskStrict = true → t.pendingWith 78 2)) ∧
      t.ch = s.ch := by
  rw [exec_taskPeriodEnd hf he hh hu ht]
  split
  next h0 =>
    obtain ⟨hwd, hch, hpend⟩ := (s.taskMissed k).raiseTask_spec k 1 hu
    refine ⟨_, rfl, (congrArg Watchdogs.taskStart hwd :), (congrArg Watchdogs.checkins hwd :), fun _ => ⟨?_, hpend⟩,
      fun h => absurd h (by omega), fun h => absurd h (by omega), hch⟩
    rw [hwd]
    exact getLsbD_or_taskBit _ k
  next h0 =>
    split
    next h1 => exact ⟨_, rfl, rfl, rfl, fun h => absurd h h0, fun _ => rfl, fun h => absurd h (by omega), rfl⟩
    next h1 =>
      split
      next hstrict =>
        obtain ⟨hwd, hch, hpend⟩ := (s.taskExceeded k).raiseTask_spec k 2 hu
        refine ⟨_, rfl, (congrArg Watchdogs.taskStart hwd :), (congrArg Watchdogs.checkins hwd :),
          fun h => absurd h h0, fun h => absurd h h1,
          fun _ => ⟨?_, (congrArg Watchdogs.taskMiss hwd :), fun _ => hpend⟩, hch⟩
        rw [hwd]
        exact getLsbD_or_taskBit _ k
      next hstrict => exact ⟨_, rfl, rfl, rfl, fun h => absurd h h0, fun h => absurd h h1,
        fun _ => ⟨getLsbD_or_taskBit _ k, rfl, fun h => absurd h hstrict⟩, rfl⟩

end
end Sys2Proof.Machine

open Sys2Proof Sys2Proof.Machine

/-- Settles O23: the waggle by what its failure and its service do, the writes by the rules of their object, the
tasks by the check-ins of the period. -/
theorem waggleAndTasks : Obligations.WaggleAndTasks := by
  unfold Obligations.WaggleAndTasks
  refine ⟨fun s c w ha hw he hq => waggle_answers ha hw he hq, fun s he hu ht => ?_, fun s f p ha he h1 h2 => ?_,
    fun s f w ha h1 h2 hwin => ?_, fun s f w ha h1 h2 hwin hb => ?_, fun s c k ha hk he => ?_,
    fun s f w ha hf => ?_, fun s k hf he hh hu ht => ?_⟩
  · obtain ⟨hfails, hlast, hstart, -⟩ := s.waggleFail_wd 1
    exact ⟨_, exec_waggleTimeout he hu ht, hfails, hlast, hstart, fun hm => State.waggleFail_safe hm hu 1⟩
  · obtain ⟨harm, hperiod⟩ := putBit_arm p
    obtain ⟨htime, hwd⟩ := s.received_wd f
    have hs : (s.received f).writeSafe .host 0xB03 (putBit (p.setWidth 32) 31 true) =
        .ok ((s.received f).armWaggle p) := by
      rw [State.writeSafe_wg (by omega) (by omega), hwd, if_neg (by simp [Watchdogs.serveHs, he]), if_pos harm, hperiod,
        BitVec.ofNat_toNat, BitVec.setWidth_eq]
    exact ⟨_, _, rfl, hostWrite_safe ha (by decide) (by decide) rfl hs, rfl, rfl, htime, (s.received_chGrp f).1⟩
  · have hs := State.writeSafe_hs (s := s.received f) h1 h2
      (by rw [(s.received_wd f).2, s.received_inWindow]; exact hwin)
    exact ⟨_, _, rfl, hostWrite_safe ha (by decide) (by decide) rfl hs, rfl⟩
  · have hs := State.writeSafe_wg (s := s.received f) h1 h2
    have hen : (s.received f).wd.wgEn = s.wd.wgEn := (congrArg Watchdogs.wgEn (s.received_wd f).2 :)
    rw [hen, s.received_inWindow] at hs
    cases he : s.wd.wgEn
    · rw [if_neg (by simp [he]), if_neg (by simp [hb, he])] at hs
      exact ⟨_, _, rfl, hostWrite_safe ha (by decide) (by decide) rfl hs, fun h => (by cases h), fun _ => rfl⟩
    · rw [if_pos he, failIf_of_not (by simp [hb, he, hwin he])] at hs
      exact ⟨_, _, rfl, hostWrite_safe ha (by decide) (by decide) rfl hs, fun _ => rfl, fun h => (by cases h)⟩
  · have hwd := (s.received_wd c.frame).2
    have hbody := taskCheckinBody_enabled (snd := .host) (s := s.received c.frame) (ws := c.words) hk
      (by rw [hwd]; exact he)
    refine ⟨_, _, rfl, hostCmd_answers (by decide) (by decide) (by decide) (by decide) ha hbody, ?_,
      (s.received_chGrp c.frame).1⟩
    unfold State.checkedIn
    rw [hwd]
    rfl
  · have hs := State.writeSafe_tasks (s := s.received f) (w := w) (by unfold State.feat; rw [s.received_sec]; exact hf)
    exact ⟨_, _, rfl, hostWrite_safe ha (by decide) (by decide) rfl hs, rfl, rfl, (s.received_chGrp f).1⟩
  · exact exec_taskPeriodEnd_spec hf he hh hu ht
end

section
/-! ## What the guards hold (08 R257, R267) -/

namespace Sys2Proof.Machine

section
variable {s t u : State} {n m : Ch} {g k : Grp} {gs : List Grp}

/-- The mode, the channels that the guards hold, and the groups of which the guard holds a channel. -/
def State.grip (s : State) : Mode × (Ch → Bool) × (Grp → Bool) :=
  (s.pw.mode, fun n => (s.chan n).guard.held, fun g => (s.group g).guard.held)

theorem grip_mode (h : t.grip = s.grip) : t.pw.mode = s.pw.mode := congrArg Prod.fst h

theorem grip_chan (h : t.grip = s.grip) (n : Ch) : (t.chan n).guard.held = (s.chan n).guard.held :=
  congrFun (congrArg (·.2.1) h) n

theorem grip_group (h : t.grip = s.grip) (g : Grp) : (t.group g).guard.held = (s.group g).guard.held :=
  congrFun (congrArg (·.2.2) h) g

theorem grip_of_same (hm : t.pw.mode = s.pw.mode) (hc : t.ch = s.ch) (hg : t.grp = s.grp) : t.grip = s.grip := by
  unfold State.grip State.chan State.group
  rw [hm, hc, hg]

theorem State.logsOver.grip (h : s.logsOver t) : t.grip = s.grip := grip_of_same (still_mode h.still) h.ch h.grp

theorem grip_of_view {j : Fin 128} (h : t.view j = s.view j) : t.grip = s.grip :=
  grip_of_same (still_mode (congrArg (·.2.2.1) h)) (congrArg Prod.fst h) (congrArg (·.2.1) h)

theorem State.grip_ite {p : Prop} [Decidable p] (ht : t.grip = s.grip) (hu : u.grip = s.grip) :
    (if p then t else u).grip = s.grip := by
  split
  · exact ht
  · exact hu

theorem State.modCh_grip (s : State) (n : Ch) {f : Channel → Channel}
    (hf : (f (s.chan n)).guard.held = (s.chan n).guard.held) : (s.modCh n f).grip = s.grip := by
  refine Prod.ext rfl (Prod.ext (funext fun m => ?_) rfl)
  show ((s.modCh n f).chan m).guard.held = (s.chan m).guard.held
  by_cases hm : m = n
  · subst hm; rw [State.chan_modCh_same, hf]
  · rw [State.chan_modCh_ne _ _ hm]

theorem State.modGrp_grip (s : State) (g : Grp) {f : Group → Group}
    (hf : (f (s.group g)).guard.held = (s.group g).guard.held) : (s.modGrp g f).grip = s.grip := by
  refine Prod.ext rfl (Prod.ext rfl (funext fun k => ?_))
  show ((s.modGrp g f).group k).guard.held = (s.group k).guard.held
  by_cases hk : k = g
  · subst hk; rw [State.group_modGrp_same, hf]
  · rw [State.group_modGrp_ne _ _ hk]

/-! ### Outputs and events -/

theorem State.modOutP_grip (s : State) (n : Ch) (f : ChOut → ChOut) : (s.modOutP n f).grip = s.grip := by
  have hout : (s.modOut n f).grip = s.grip := s.modCh_grip n rfl
  exact State.grip_ite ((State.modCh_grip _ _ rfl).trans hout) hout

theorem State.noteOn_grip (s : State) (g : Grp) : (s.noteOn g).grip = s.grip := s.modGrp_grip g rfl

theorem State.switchOn_grip (s : State) (n : Ch) : (s.switchOn n).grip = s.grip :=
  (State.noteOn_grip ..).trans (s.modOutP_grip ..)

theorem State.policyOn_grip (s : State) (n : Ch) : (s.policyOn n).grip = s.grip :=
  State.grip_ite (s.modOutP_grip ..) (s.switchOn_grip n)

theorem State.switchOff_grip (s : State) (n : Ch) (p : PState) : (s.switchOff n p).grip = s.grip := s.modOutP_grip ..

theorem State.commandOff_grip (s : State) (n : Ch) : (s.commandOff n).grip = s.grip := by
  unfold State.commandOff
  split
  · rfl
  · exact (State.switchOff_grip ..).trans ((State.modOutP_grip ..).trans (s.modOutP_grip ..))

theorem State.commandOn_grip (s : State) (n : Ch) (d : BitVec 14) : (s.commandOn n d).grip = s.grip := by
  have hkeep := s.modOutP_grip n fun o => { o with cmdOn := true, cmdDuty := d }
  unfold State.commandOn
  dsimp only
  split
  · rfl
  · exact State.grip_ite ((State.switchOn_grip ..).trans hkeep) ((State.modOutP_grip ..).trans hkeep)
  · exact hkeep

theorem State.setCode_grip (s : State) (n : Ch) (c : BitVec 16) : (s.setCode n c).grip = s.grip := by
  have hset : (s.modAo n fun a => { a with code := c, heldCode := none, down := false, off := false }).grip = s.grip :=
    s.modCh_grip n rfl
  exact State.grip_ite ((State.noteOn_grip ..).trans hset) hset

theorem State.applyCode_grip (s : State) (n : Ch) (c : BitVec 16) : (s.applyCode n c).grip = s.grip :=
  State.grip_ite (s.modCh_grip n rfl) (s.setCode_grip n c)

theorem State.setLoop_grip (s : State) (n : Ch) (on : Bool) : (s.setLoop n on).grip = s.grip := by
  have hset : (s.modCh n fun c => { c with loop := { c.loop with
      on := on, limit := c.loop.limit && on, iloop := if on then c.loop.iloop else 0 } }).grip = s.grip :=
    s.modCh_grip n rfl
  exact State.grip_ite ((State.noteOn_grip ..).trans hset) hset

theorem State.tripFault_grip (s : State) (n : Ch) (b : Nat) : (s.tripFault n b).grip = s.grip := by
  have hraise (v : State) (g : Grp) (j : Fin 128) (a b : Nat) (p q r : Word) :
      (v.fieldRaise g j a b p q r).grip = v.grip :=
    State.grip_ite (v.modGrp_grip g rfl) (raise_logs ..).grip
  exact (hraise ..).trans (s.modCh_grip _ rfl)

theorem State.retryNow_grip (s : State) (n : Ch) : (s.retryNow n).grip = s.grip := by
  have hlock : (s.lockOff n).grip = s.grip :=
    (State.tripFault_grip ..).trans ((State.modOutP_grip ..).trans (s.switchOff_grip ..))
  exact State.grip_ite (State.grip_ite hlock (s.modOutP_grip ..)) ((State.policyOn_grip ..).trans (s.modOutP_grip ..))

/-! ### The stagger sequence and the parts of F_OKn -/

theorem State.staggerStep_grip (s : State) (g : Grp) : (s.staggerStep g).grip = s.grip := by
  have hend {v : State} (h : v.grip = s.grip) : (if (v.nextTurn g).isNone then
      v.modSup g fun u => { u with recovering := false } else v).grip = s.grip :=
    State.grip_ite ((v.modGrp_grip g rfl).trans h) h
  have hswitch (n : Ch) : (if (s.chan n).out.ps == PState.tripWait && !(s.chan n).out.polOn then s.retryNow n
      else s.switchOn n).grip = s.grip := State.grip_ite (s.retryNow_grip n) (s.switchOn_grip n)
  unfold State.staggerStep
  split
  · exact s.modGrp_grip g rfl
  next n _ =>
    refine hend ?_
    split
    · exact hswitch n
    · exact hswitch n
    · exact (State.modCh_grip _ _ rfl).trans (s.setLoop_grip n true)
    · exact s.setCode_grip ..

theorem State.fokRefresh_grip (s : State) : s.fokRefresh.grip = s.grip :=
  State.each_keeps State.grip (fun t g => t.modGrp_grip g rfl) _ _

/-! ### Releases (08 R267, R268) -/

/-- A channel that is released is not held, and no other hold changes (08 R268). -/
theorem State.releaseChannel_grip (s : State) (restore : Bool) (n : Ch) :
    (s.releaseChannel restore n).grip = (s.modGuard n fun _ => ChGuard.reset).grip := by
  unfold State.releaseChannel
  dsimp only
  set v := s.modGuard n fun _ => ChGuard.reset
  refine State.grip_ite ?switch (State.grip_ite ?ao (State.grip_ite ?loop rfl))
  case switch =>
    exact State.grip_ite (v.modCh_grip n rfl) (State.grip_ite (v.modCh_grip n rfl) (State.grip_ite (v.commandOff_grip n)
      (State.grip_ite (v.modOutP_grip ..) (v.commandOn_grip ..))))
  case ao =>
    exact State.grip_ite rfl (State.grip_ite (v.modCh_grip n rfl) (State.grip_ite (v.modCh_grip n rfl)
      (v.applyCode_grip ..)))
  case loop => exact State.grip_ite rfl (State.grip_ite (v.modCh_grip n rfl) (v.setLoop_grip ..))

theorem State.releaseChannel_spec (s : State) (restore : Bool) (n : Ch) :
    (s.releaseChannel restore n).pw.mode = s.pw.mode ∧
    ((s.releaseChannel restore n).chan n).guard.held = false ∧
    (∀ m, (s.chan m).guard.held = false → ((s.releaseChannel restore n).chan m).guard.held = false) ∧
    ∀ g, ((s.releaseChannel restore n).group g).guard.held = (s.group g).guard.held := by
  have hgrip := s.releaseChannel_grip restore n
  have hfree : ((s.modGuard n fun _ => ChGuard.reset).chan n).guard.held = false := by
    unfold State.modGuard
    rw [State.chan_modCh_same]
    rfl
  refine ⟨(grip_mode hgrip).trans rfl, (grip_chan hgrip n).trans hfree, fun m hm => (grip_chan hgrip m).trans ?_,
    fun g => (grip_group hgrip g).trans rfl⟩
  by_cases h : m = n
  · rw [h]; exact hfree
  · unfold State.modGuard
    rw [State.chan_modCh_ne _ _ h]
    exact hm

/-- The released channels of a group, its guard then holding none. -/
def State.letGo (s : State) (restore : Bool) (g : Grp) : State :=
  (s.each ((chOf g).filter fun n => (s.chan n).guard.held) fun t n => t.releaseChannel restore n).modGrp g fun x =>
    { x with guard := { x.guard with held := false, stallHold := false } }

theorem State.releaseGroup_grip (s : State) (restore : Bool) (g : Grp) :
    (s.releaseGroup restore g).grip = (s.letGo restore g).grip := by
  have hqueue : ((s.letGo restore g).queueTurns g).grip = (s.letGo restore g).grip := State.modGrp_grip _ g rfl
  have hstep := State.grip_ite (p := ((s.letGo restore g).queueTurns g).clearOn g = true)
    ((State.staggerStep_grip _ g).trans hqueue) hqueue
  exact (State.fokRefresh_grip _).trans (State.grip_ite hstep hstep)

/-- A released group holds nothing, and a release takes no channel and no group (08 R267). -/
theorem State.releaseGroup_spec (s : State) (restore : Bool) (g : Grp) :
    (s.releaseGroup restore g).pw.mode = s.pw.mode ∧
    (∀ n, grpOf n = g → ((s.releaseGroup restore g).chan n).guard.held = false) ∧
    (∀ n, (s.chan n).guard.held = false → ((s.releaseGroup restore g).chan n).guard.held = false) ∧
    ((s.releaseGroup restore g).group g).guard.held = false ∧
    ∀ k, k ≠ g → ((s.releaseGroup restore g).group k).guard.held = (s.group k).guard.held := by
  set op : State → Ch → State := fun t n => t.releaseChannel restore n with hop
  set chs := (chOf g).filter fun n => (s.chan n).guard.held with hchs
  have hgrip := s.releaseGroup_grip restore g
  have hstays (n : Ch) (h : (s.chan n).guard.held = false) : ((s.each chs op).chan n).guard.held = false :=
    State.each_inv (P := fun t => (t.chan n).guard.held = false)
      (fun t m ht => (t.releaseChannel_spec restore m).2.2.1 n ht) chs h
  have hgroup (k : Grp) : ((s.each chs op).group k).guard.held = (s.group k).guard.held :=
    State.each_keeps (fun t : State => (t.group k).guard.held)
      (fun t m => (t.releaseChannel_spec restore m).2.2.2 k) ..
  have hmode : (s.each chs op).pw.mode = s.pw.mode :=
    State.each_keeps (fun t : State => t.pw.mode) (fun t m => (t.releaseChannel_spec restore m).1) ..
  refine ⟨(grip_mode hgrip).trans hmode, fun n hn => (grip_chan hgrip n).trans ?_,
    fun n hn => (grip_chan hgrip n).trans (hstays n hn), (grip_group hgrip g).trans ?_,
    fun k hk => (grip_group hgrip k).trans ?_⟩
  · show ((s.each chs op).chan n).guard.held = false
    cases hh : (s.chan n).guard.held
    · exact hstays n hh
    · exact State.each_establishes (P := fun t => (t.chan n).guard.held = false)
        (fun t m ht => (t.releaseChannel_spec restore m).2.2.1 n ht) (fun t => (t.releaseChannel_spec restore n).2.1)
        (by rw [hchs, List.mem_filter]; exact ⟨mem_chOf.mpr hn, hh⟩)
  · unfold State.letGo
    rw [State.group_modGrp_same]
  · unfold State.letGo
    rw [State.group_modGrp_ne _ _ hk]
    exact hgroup k

/-! ### Entry to RUN (07 R239, R244, 13 R402) -/

theorem State.putEntry_grip (s : State) (strm : Bool) (e : QEntry) : (s.putEntry strm e).grip = s.grip :=
  grip_of_view (s.putEntry_view (k := 0) ⟨by decide, by decide⟩ strm e)

theorem State.routeEntry_grip (s : State) (n : Ch) (e : QEntry) : (s.routeEntry n e).grip = s.grip := by
  unfold State.routeEntry
  dsimp only
  split
  · exact s.putEntry_grip ..
  · exact s.putEntry_grip ..
  · rfl

theorem State.capFinish_grip (s : State) : s.capFinish.grip = s.grip := State.grip_ite (raise_logs ..).grip rfl

theorem State.capResult_grip (s : State) (n : Ch) (w x : Word) : (s.capResult n w x).grip = s.grip := by
  have htrigger (v : State) : (v.capTrigger x).grip = v.grip := State.grip_ite (State.capFinish_grip _) rfl
  have hprev (v : State) (p : Option (BitVec 24)) : (v.modAi n fun a => { a with prev := p }).grip = v.grip :=
    v.modCh_grip n rfl
  unfold State.capResult
  dsimp only
  refine (State.capFinish_grip _).trans (State.grip_ite ((htrigger _).trans ?_) ?_)
  all_goals exact (hprev ..).trans (State.grip_ite rfl rfl)

theorem State.takeResult_grip (s : State) (n : Ch) (d : DieEntry) : (s.takeResult n d).grip = s.grip := by
  have hovr (v : State) : (v.noteOvr n).grip = v.grip := State.grip_ite rfl (raise_logs ..).grip
  have hlate (v : State) (o : Option Nat) : State.grip (match o with
      | some k => if v.res.routeOf n = 1 ∨ v.res.routeOf n = 2 then v.putLate (v.res.routeOf n == 2) k else v
      | none => v) = v.grip := by
    cases o with
    | none => rfl
    | some k => exact State.grip_ite (v.putEntry_grip ..) rfl
  have hwindow : (s.setWindow n d.window).grip = s.grip := s.modCh_grip n rfl
  exact (State.routeEntry_grip ..).trans ((hlate ..).trans ((State.capResult_grip ..).trans
    (State.grip_ite ((hovr _).trans hwindow) hwindow)))

theorem State.putCell_grip (s : State) (late : Option Nat) (rs : List (Ch × DieEntry)) :
    (s.putCell late rs).grip = s.grip := by
  have hkeep (t : State) (r : Ch × DieEntry) : (t.keepResult r.1 r.2).grip = t.grip :=
    State.grip_ite (t.modGrp_grip _ rfl) rfl
  unfold State.putCell State.enterCell
  dsimp only
  split
  · exact State.each_keeps State.grip hkeep ..
  · exact State.grip_ite (State.each_keeps (op := fun t (r : Ch × DieEntry) => t.takeResult r.1 r.2) State.grip
      (fun t r => t.takeResult_grip r.1 r.2) ..) rfl

theorem State.stopComb_grip (s : State) : s.stopComb.grip = s.grip := by
  have hdue : (s.each allGrp fun t g => t.modPos g fun p => { p with due := [] }).grip = s.grip :=
    State.each_keeps State.grip (fun t g => t.modGrp_grip g rfl) ..
  unfold State.stopComb State.dropShares State.finishJobs
  exact (State.each_keeps State.grip (fun t (j : CellJob) => t.putCell_grip ..) _ _).trans hdue

theorem State.startComb_grip (s : State) : s.startComb.grip = s.grip := by
  have hclose (v : State) (c : Comb) : (v.closeWindows c).grip = v.grip :=
    State.each_keeps State.grip (fun t n => State.grip_ite (t.modCh_grip n rfl) rfl) ..
  unfold State.startComb
  split
  · rfl
  next c _ =>
    have hpos : (s.stopComb.each allGrp fun t g => t.modPos g (c.startAt g s.time (s.startPos c))).grip = s.grip :=
      (State.each_keeps State.grip (fun t g => t.modGrp_grip g rfl) ..).trans s.stopComb_grip
    exact (hclose _ c).trans hpos

theorem State.enterStored_grip (s : State) : s.enterStored.grip = s.grip := by
  have hauth (v : State) (k d o : Nat) : (v.authFailure k d o).grip = v.grip := (raise_logs ..).grip
  have hreject (bs : List Byte) (r : BitVec 4) (i : BitVec 13) : (s.noteRejected bs r i).grip = s.grip :=
    (raise_logs ..).grip.trans
      (State.grip_ite (State.grip_ite (hauth s ..) rfl) (State.grip_ite (u := s) (t := s.authSuccess) rfl rfl))
  unfold State.enterStored
  split
  · rfl
  split
  · rfl
  split
  · rfl
  split
  · exact hreject ..
  · rfl

theorem State.enterMode_grip (s : State) (m : Mode) (cause : Nat) : (s.enterMode m cause).grip = (m, s.grip.2) :=
  Prod.ext (s.enterMode_mode m cause) (Prod.ext
    (funext fun n => congrArg (·.guard.held) (s.enterMode_chan m cause n))
    (funext fun g => congrArg Prod.fst (congrFun (s.enterMode_guardFlags m cause) g)))

/-- An entry to RUN takes and releases no channel (13 R402). -/
theorem State.enterRun_grip (s : State) (cause : Nat) : (s.enterRun cause).grip = (.run, s.grip.2) := by
  have htake (v : State) (n : Ch) : (if v.schedNow n then v.takeUnderComb n else v).grip = v.grip := by
    split
    · exact v.modCh_grip n rfl
    · rfl
  have hcount (v old : State) : (v.countGen old).grip = v.grip := State.grip_ite rfl rfl
  set v : State := { s.enterStored with
    comb.firstRun := false, wd.hsLast := s.enterStored.time, pw.stored := some s.enterStored.config }
  have hv : v.grip = s.grip := s.enterStored_grip
  have hstart : ((if v.comb.started then v else v.startComb).countGen s).grip = s.grip :=
    (hcount ..).trans (State.grip_ite hv (v.startComb_grip.trans hv))
  unfold State.enterRun
  rw [State.each_keeps State.grip htake, State.enterMode_grip, hstart]

/-! ### SAFE_RELEASE (08 R267) -/

/-- Releasing some groups ends the holds of each of them, takes nothing, and stays in the mode (08 R267). -/
theorem State.releaseGroups_spec (s : State) (restore : Bool) (gs : List Grp) :
    (s.each gs fun t g => t.releaseGroup restore g).pw.mode = s.pw.mode ∧
    (∀ g, g ∈ gs ∨ (s.group g).guard.held = false →
      ((s.each gs fun t g => t.releaseGroup restore g).group g).guard.held = false) ∧
    ∀ n, grpOf n ∈ gs → ((s.each gs fun t g => t.releaseGroup restore g).chan n).guard.held = false := by
  have hstays (g : Grp) (t : State) (k : Grp) (h : (t.group g).guard.held = false) :
      ((t.releaseGroup restore k).group g).guard.held = false := by
    obtain ⟨-, -, -, hfree, hother⟩ := t.releaseGroup_spec restore k
    by_cases hg : g = k
    · rw [hg]; exact hfree
    · rw [hother g hg]; exact h
  refine ⟨State.each_keeps (fun t : State => t.pw.mode) (fun t g => (t.releaseGroup_spec restore g).1) .., fun g h => ?_,
    fun n hn => ?_⟩
  · rcases h with hg | hh
    · exact State.each_establishes (P := fun t => (t.group g).guard.held = false) (hstays g)
        (fun t => (t.releaseGroup_spec restore g).2.2.2.1) hg
    · exact State.each_inv (P := fun t => (t.group g).guard.held = false) (hstays g) gs hh
  · exact State.each_establishes (P := fun t => (t.chan n).guard.held = false)
      (fun t k => (t.releaseGroup_spec restore k).2.2.1 n) (fun t => (t.releaseGroup_spec restore (grpOf n)).2.1 n rfl) hn

/-- s after the release of some groups, before the module leaves SAFE. -/
def State.releasedOf (s : State) (a : BitVec 24) : State :=
  s.each ((groupsOf (arg a 3 0)).filter fun g => (s.group g).guard.held) fun t g => t.releaseGroup (arg a 8 8 == 1) g

/-- s after a SAFE_RELEASE: with no group held a module in SAFE goes back to RUN (08 R267, 13 R402). -/
def State.afterRelease (s : State) (a : BitVec 24) : State :=
  if (s.releasedOf a).pw.mode = .safe ∧ !(s.releasedOf a).anyHeld then
    State.enterRun { s.releasedOf a with safe.cause := 0 } 4
  else s.releasedOf a

theorem safeReleaseBody_allowed {snd : Sender} {a : BitVec 24} {ws : List Word}
    (h : (groupsOf (arg a 3 0)).any s.releaseDenied = false) :
    safeReleaseBody snd a ws s = (s.afterRelease a, .now .ok 0 [(s.afterRelease a).safeStatW]) := by
  unfold safeReleaseBody
  dsimp only
  rw [h, if_neg (by decide)]
  rfl

theorem State.anyHeld_of_free (h : ∀ g, (s.group g).guard.held = false) : s.anyHeld = false := by
  unfold State.anyHeld
  simp [h]

/-- A release of every held group leads a module in SAFE to RUN (08 R267, 13 R402). -/
theorem State.afterRelease_spec {a : BitVec 24} (hm : s.pw.mode = .safe)
    (hh : ∀ g, (s.group g).guard.held = true → g ∈ groupsOf (arg a 3 0)) :
    (s.afterRelease a).pw.mode = .run ∧ (∀ g, ((s.afterRelease a).group g).guard.held = false) ∧
    ∀ n, (s.group (grpOf n)).guard.held = true → ((s.afterRelease a).chan n).guard.held = false := by
  obtain ⟨hmode, hgroups, hchans⟩ := s.releaseGroups_spec (arg a 8 8 == 1)
    ((groupsOf (arg a 3 0)).filter fun g => (s.group g).guard.held)
  have hmem {g : Grp} (h : (s.group g).guard.held = true) :
      g ∈ (groupsOf (arg a 3 0)).filter fun g => (s.group g).guard.held := List.mem_filter.mpr ⟨hh g h, h⟩
  have hfree (g : Grp) : ((s.releasedOf a).group g).guard.held = false := by
    unfold State.releasedOf
    refine hgroups g ?_
    cases hg : (s.group g).guard.held
    · exact Or.inr rfl
    · exact Or.inl (hmem hg)
  have hgrip := State.enterRun_grip { s.releasedOf a with safe.cause := 0 } 4
  have hrun : s.afterRelease a = State.enterRun { s.releasedOf a with safe.cause := 0 } 4 :=
    if_pos ⟨hmode.trans hm, by rw [State.anyHeld_of_free hfree]; rfl⟩
  rw [hrun]
  generalize State.enterRun _ 4 = u at hgrip
  exact ⟨congrArg Prod.fst hgrip, fun g => (congrFun (congrArg (·.2.2) hgrip) g).trans (hfree g),
    fun n hn => (congrFun (congrArg (·.2.1) hgrip) n).trans (hchans n (hmem hn))⟩

theorem State.received_safe (s : State) (f : Frame) : (s.received f).safe = s.safe :=
  show (s.received f).offPort.safe = s.offPort.safe by rw [State.received_offPort]

theorem State.received_releaseDenied (s : State) (f : Frame) (g : Grp) :
    (s.received f).releaseDenied g = s.releaseDenied g := by
  unfold State.releaseDenied
  rw [s.received_group, offPort_comb (s.received_offPort f), s.received_safe]

end
end Sys2Proof.Machine
end

section
/-! ## SAFE_APPLY, SAFE_RELEASE and CH_SAFE (08 R256 to R268) -/

namespace Sys2Proof.Machine

section
variable {s t u : State} {n m : Ch} {g k : Grp} {gs : List Grp} {c : Cmd} {f : Frame} {w : Word}

/-! ### What a takeover stores (08 R257) -/

/-- A channel that the guard holds, its entry not yet applied, with the command of c stored (08 R257). -/
def Channel.storedOf (c d : Channel) : Prop :=
  d.guard.held = true ∧ d.guard.applied = false ∧ d.guard.cmdOn = c.out.cmdOn ∧ d.guard.cmdDuty = c.out.cmdDuty

theorem State.takeChannel_stores (s : State) (n : Ch) : (s.chan n).storedOf ((s.takeChannel n).chan n) := by
  unfold Channel.storedOf State.takeChannel
  rw [State.chan_modCh_same]
  exact ⟨rfl, rfl, rfl, rfl⟩

/-- With its copy good a guard that takes over a group changes the channels that it takes alone. -/
theorem State.takeGroup_chan (hb : (t.group g).guard.tbad = false) (s : State) (cause : Nat) (n : Ch) :
    (s.takeGroup cause t g).chan n = (t.each (t.taken g fun _ => true) State.takeChannel).chan n := by
  obtain ⟨-, hc, -⟩ := t.takenOver_spec g cause fun _ => true
  rw [← hc]
  show (t.takeover g cause fun _ => true).chan n = _
  rw [State.takeover_eq, hb]
  rfl

theorem mem_taken {sel : Ch → Bool} : n ∈ s.taken g sel ↔ grpOf n = g ∧ sel n = true ∧ s.takes n = true := by
  unfold State.taken
  rw [List.mem_filter, mem_chOf, Bool.and_eq_true]

theorem taken_nodup (s : State) (g : Grp) (sel : Ch → Bool) : (s.taken g sel).Nodup := (chOf_nodup g).filter _

theorem takeChannel_chan_ne (t : State) (m : Ch) (h : m ≠ n) : (t.takeChannel m).chan n = t.chan n :=
  (t.takeChannel_only m).2.2 n (by simpa using h.symm)

theorem State.takeGroup_stores (hb : (t.group (grpOf n)).guard.tbad = false) (ht : t.takes n = true) (s : State)
    (cause : Nat) : (t.chan n).storedOf ((s.takeGroup cause t (grpOf n)).chan n) := by
  rw [State.takeGroup_chan hb]
  obtain ⟨v, hv, hend⟩ := State.each_view_visit (view := (·.chan n)) (op := State.takeChannel) takeChannel_chan_ne
    (taken_nodup t (grpOf n) fun _ => true) (mem_taken.mpr ⟨rfl, rfl, ht⟩) t
  rw [hend, ← hv]
  exact v.takeChannel_stores n

theorem State.takeGroup_passes (hb : (t.group g).guard.tbad = false) (ht : grpOf n = g → t.takes n = false)
    (s : State) (cause : Nat) : (s.takeGroup cause t g).chan n = t.chan n := by
  rw [State.takeGroup_chan hb]
  refine State.each_view_ne (view := (·.chan n)) (op := State.takeChannel) takeChannel_chan_ne (fun hn => ?_) t
  obtain ⟨hg, -, htakes⟩ := mem_taken.mp hn
  rw [ht hg] at htakes
  cases htakes

/-- What decides whether a takeover takes n, and how (08 R257, R260). -/
def State.atStake (n : Ch) (s : State) : Channel × GrpLink × Bool :=
  (s.chan n, (s.group (grpOf n)).link, (s.group (grpOf n)).guard.tbad)

theorem State.takeGroup_atStake_ne (s t : State) (cause : Nat) (h : k ≠ grpOf n) :
    (s.takeGroup cause t k).atStake n = t.atStake n := by
  have hchan : (s.takeGroup cause t k).chan n = t.chan n :=
    (t.takeover_only k cause fun _ => true).2.2 n (by rw [mem_chOf]; exact h.symm)
  have hgroup : (s.takeGroup cause t k).group (grpOf n) = t.group (grpOf n) :=
    (State.group_modGrp_ne _ _ h.symm).trans (State.takeover_group_ne h.symm t cause fun _ => true)
  unfold State.atStake
  rw [hchan, hgroup]

/-- Taking over some groups with good copies holds the takable channels of those groups with their commands stored,
and leaves every other channel (08 R257, R261). -/
theorem State.takeGroups_chan (hnd : gs.Nodup) (hb : (s.group (grpOf n)).guard.tbad = false) (cause : Nat) :
    (s.takes n = true → grpOf n ∈ gs → (s.chan n).storedOf ((s.takeGroups gs cause).chan n)) ∧
    (s.takes n = false ∨ grpOf n ∉ gs → (s.takeGroups gs cause).chan n = s.chan n) := by
  rw [s.takeGroups_get (·.chan n) (fun _ _ => rfl)]
  have hne (t : State) (k : Grp) (h : k ≠ grpOf n) := s.takeGroup_atStake_ne (n := n) t cause h
  by_cases hg : grpOf n ∈ gs
  · obtain ⟨v, hv, hend⟩ := State.each_view_visit hne hnd hg s
    have hchan : v.chan n = s.chan n := (congrArg Prod.fst hv :)
    have htakes : v.takes n = s.takes n := State.takes_congr hchan (congrArg (·.2.1.failed) hv :)
    have hbad : (v.group (grpOf n)).guard.tbad = false := (congrArg (·.2.2) hv).trans hb
    have hreach : (s.each gs (s.takeGroup cause)).chan n = (s.takeGroup cause v (grpOf n)).chan n :=
      (congrArg Prod.fst hend :)
    rw [hreach, ← hchan, ← htakes]
    exact ⟨fun ht _ => State.takeGroup_stores hbad ht s cause,
      fun h => State.takeGroup_passes hbad (fun _ => h.resolve_right (not_not_intro hg)) s cause⟩
  · exact ⟨fun _ h => absurd h hg, fun _ => (congrArg Prod.fst (State.each_view_ne hne hg s) :)⟩

/-! ### The commands (08 R261, R267) -/

/-- A module that dozes wakes to RUN as a message reaches it (13 R404). -/
theorem State.received_mode (s : State) (f : Frame) :
    (s.received f).pw.mode = if s.pw.mode = .doze then .run else s.pw.mode := by
  have haccept : s.accept.pw.mode = if s.pw.mode = .doze then .run else s.pw.mode := by
    unfold State.accept State.wake
    dsimp only
    split
    next h => exact (if_pos h).symm
    next h => exact (if_neg h).symm
  rw [← haccept]
  unfold State.received State.supersede
  dsimp only
  split <;> rfl

theorem State.received_takes (s : State) (f : Frame) (n : Ch) : (s.received f).takes n = s.takes n :=
  takes_of_same (s.received_chGrp f).1 (s.received_chGrp f).2 n

/-- SAFE_APPLY of every group is a trigger of the module (08 R261). -/
theorem safeApplyBody_all {snd : Sender} {a : BitVec 24} {ws : List Word} (ha : arg a 3 0 = 15) (hm : s.pw.mode ≠ .safe) :
    safeApplyBody snd a ws s = (s.safeTrigger 3, .now .ok 0 [(s.safeTrigger 3).safeStatW]) := by
  unfold safeApplyBody
  dsimp only
  rw [ha, if_neg (by decide), if_pos ⟨by decide, hm⟩]

/-- Some groups taken alone, and the parts of F_OKn that follow (08 R261, R273). -/
def State.applyTo (s : State) (gs : List Grp) : State := ((s.recordTrigger gs).takeGroups gs 3).fokRefresh

/-- A mask of some of the groups names one, and not all. -/
theorem groupsOf_proper {x : Nat} (hx : x < 16) (h0 : x ≠ 0) (h15 : x ≠ 15) :
    (groupsOf x).isEmpty = false ∧ (groupsOf x).length ≠ 4 := by
  have hall : ∀ y : Fin 16, y.val ≠ 0 → y.val ≠ 15 →
      (groupsOf y.val).isEmpty = false ∧ (groupsOf y.val).length ≠ 4 := by decide
  exact hall ⟨x, hx⟩ h0 h15

theorem safeApplyBody_some {snd : Sender} {a : BitVec 24} {ws : List Word} (h0 : arg a 3 0 ≠ 0) (h15 : arg a 3 0 ≠ 15) :
    safeApplyBody snd a ws s = (s.applyTo (groupsOf (arg a 3 0)),
      .now .ok 0 [(s.applyTo (groupsOf (arg a 3 0))).safeStatW]) := by
  obtain ⟨hne, hlen⟩ := groupsOf_proper (x := arg a 3 0) (Nat.mod_lt _ (by decide)) h0 h15
  unfold safeApplyBody
  dsimp only
  rw [hne, if_neg (by decide), if_neg fun h => hlen h.1]
  rfl

theorem State.recordTrigger_logs (s : State) (gs : List Grp) : s.logsOver (s.recordTrigger gs) := by
  unfold State.recordTrigger
  split
  · exact recordOnly_logs ..
  · exact logsOver_refl s

/-- Some groups taken alone keep the mode, and each other channel (08 R261). -/
theorem State.applyTo_spec (s : State) (hnd : gs.Nodup) (hb : ∀ g, (s.group g).guard.tbad = false) :
    (s.applyTo gs).pw.mode = s.pw.mode ∧
    (∀ n, s.takes n = true → grpOf n ∈ gs → ((s.applyTo gs).chan n).guard.held = true) ∧
    ∀ n, s.takes n = false ∨ grpOf n ∉ gs → (s.applyTo gs).chan n = s.chan n := by
  set r := s.recordTrigger gs
  have hlogs : s.logsOver r := s.recordTrigger_logs gs
  have hchan (n : Ch) : (s.applyTo gs).chan n = (r.takeGroups gs 3).chan n := by
    have hch : (s.applyTo gs).ch = (r.takeGroups gs 3).ch := (congrArg State.ch (State.fokRefresh_modeless _) :)
    unfold State.chan
    rw [hch]
  have htakes (n : Ch) : r.takes n = s.takes n := takes_of_same hlogs.ch hlogs.grp n
  have htaken (n : Ch) := State.takeGroups_chan (s := r) (n := n) hnd (by rw [hlogs.group]; exact hb _) 3
  refine ⟨?_, fun n ht hg => ?_, fun n h => ?_⟩
  · show ((r.takeGroups gs 3).fokRefresh).pw.mode = s.pw.mode
    rw [(State.fokRefresh_still _).2, hostSide_pw (State.takeGroups_hostSide ..)]
    exact still_mode hlogs.still
  · rw [hchan]
    exact ((htaken n).1 (by rw [htakes]; exact ht) hg).1
  · rw [hchan, (htaken n).2 (by rw [htakes]; exact h), hlogs.chan]

/-! ### CH_SAFE (08 R256) -/

/-- Storing each of some values at an index leaves at i the value that every store there has, if one is made. -/
theorem foldl_set_get {α β : Type} {N i : Nat} {idx : α → Fin N} {val : α → β} {x : β} (hi : i < N) {l : List α} {v : Vector β N}
    (hval : ∀ a ∈ l, (idx a).val = i → val a = x) (h : v[i] = x ∨ ∃ a ∈ l, (idx a).val = i) :
    (l.foldl (fun (v : Vector β N) a => v.set (idx a).val (val a)) v)[i] = x := by
  induction l generalizing v with
  | nil => exact h.resolve_right (by rintro ⟨a, ha, -⟩; cases ha)
  | cons b l ih =>
    refine ih (fun a ha => hval a (List.mem_cons_of_mem _ ha)) ?_
    by_cases hb : (idx b).val = i
    · exact Or.inl (by simp [hb, hval b List.mem_cons_self hb])
    · rcases h with h | ⟨a, ha, hai⟩
      · exact Or.inl (by rw [Vector.getElem_set_ne _ _ hb]; exact h)
      · rcases List.mem_cons.mp ha with rfl | ha
        · exact absurd hai hb
        · exact Or.inr ⟨a, ha, hai⟩

/-- The master table holds the entry of each channel of the group (08 R256). -/
theorem State.masterTable_get (s : State) (n : Ch) :
    (s.masterTable (grpOf n))[n.val % 8]'(Nat.mod_lt _ (by decide)) = ((s.cfgOf n).safe, (s.cfgOf n).safeVal) := by
  refine foldl_set_get (idx := fun m : Ch => (⟨m.val % 8, Nat.mod_lt _ (by decide)⟩ : Fin 8)) _ (fun m hm hmn => ?_)
    (Or.inr ⟨n, mem_chOf.mpr rfl, rfl⟩)
  have hgrp : grpOf m = grpOf n := mem_chOf.mp hm
  have hsame : m = n := by
    have hall : ∀ m n : Ch, grpOf m = grpOf n → m.val % 8 = n.val % 8 → m = n := by decide
    exact hall m n hgrp hmn
  rw [hsame]

/-- s with CH_SAFE of n written and the generation counted (08 R256). -/
def State.withEntry (s : State) (n : Ch) (w : Word) : State :=
  { s.modCh n fun c => { c with cfg := c.cfg.withWord 0x1E w } with safe.gen := s.safe.gen + 1 }

theorem State.putWords_safe (s : State) (n : Ch) (w : Word) :
    s.putWords n [(0x1E, w)] = (s.withEntry n w).writeGuard (grpOf n) := rfl

theorem State.withEntry_chan (s : State) (n : Ch) (w : Word) : (s.withEntry n w).chan n =
    { s.chan n with cfg := { (s.chan n).cfg with safe := mix (s.chan n).cfg.safe w (chMask 0x1E) } } :=
  State.chan_modCh_same s n fun c => { c with cfg := c.cfg.withWord 0x1E w }

theorem State.withEntry_chan_ne (h : m ≠ n) (s : State) (w : Word) : (s.withEntry n w).chan m = s.chan m :=
  State.chan_modCh_ne s (fun c => { c with cfg := c.cfg.withWord 0x1E w }) h

theorem State.withEntry_isOdd (s : State) (n : Ch) (w : Word) (m : Ch) : (s.withEntry n w).isOdd m = s.isOdd m := by
  have hpair : (s.withEntry n w).pairOf m = s.pairOf m := by
    unfold State.pairOf
    by_cases h : evenOf m = n
    · rw [h, State.withEntry_chan]
    · rw [State.withEntry_chan_ne h]
  unfold State.isOdd
  rw [hpair]

/-- A written entry counts a generation, and the guard stores the master with it (08 R256). -/
theorem State.putWords_safe_spec (hodd : s.isOdd n = false) (hu : u = s.putWords n [(0x1E, w)]) :
    (u.chan n).cfg.safe = mix (s.chan n).cfg.safe w (chMask 0x1E) ∧ u.safe.gen = s.safe.gen + 1 ∧
    (u.group (grpOf n)).guard.gen = u.safe.gen ∧
    (u.group (grpOf n)).guard.copy[n.val % 8]'(Nat.mod_lt _ (by decide)) =
      ((u.chan n).cfg.safe, (u.chan n).cfg.safeVal) ∧
    ∀ m, m ≠ n → u.chan m = s.chan m := by
  set v := s.withEntry n w with hv
  have hwrite : u = v.writeGuard (grpOf n) := hu.trans (s.putWords_safe n w)
  have hchan (m : Ch) : u.chan m = v.chan m := by rw [hwrite]; rfl
  have hgen : u.safe.gen = v.safe.gen := by rw [hwrite]; rfl
  obtain ⟨hguard, -⟩ := v.writeGuard_spec (grpOf n)
  rw [← hwrite] at hguard
  have htable := v.masterTable_get n
  unfold State.cfgOf at htable
  rw [State.leadOf_of_lead ((s.withEntry_isOdd n w n).trans hodd)] at htable
  refine ⟨?_, hgen, ?_, ?_, fun m hm => ?_⟩
  · rw [hchan, hv, State.withEntry_chan]
  · rw [hguard, hgen]
  · rw [hchan, ← htable]
    simp only [hguard]
  · rw [hchan, hv, State.withEntry_chan_ne hm]

/-- A write of CH_SAFE that no check fails stores its word (02 R38, 08 R256). -/
theorem State.writeSafeWord_ok (hodd : s.isOdd n = false) (hw : s.wordChecks n (s.withWordOf n 0x1E w) 0x1E w = [])
    (hl : s.leaveChecks n (s.withWordOf n 0x1E w) = []) (hb : s.channelBusy n = []) :
    s.writeCh n 0x1E w = .ok (s.putWords n [(0x1E, w)]) := by
  unfold State.writeCh
  dsimp only
  rw [hodd, if_neg (by decide), if_neg (by decide), if_neg (by decide), if_neg (by decide), hw, hl, hb]
  rfl

end
end Sys2Proof.Machine

open Sys2Proof Sys2Proof.Machine

/-- Settles O24: what a takeover stores, what a release leaves held on the way to RUN, and the master table of the
guard. -/
theorem safeCommands : Obligations.SafeCommands := by
  unfold Obligations.SafeCommands
  refine ⟨fun s c ha hm h15 hb => ?_, fun s c ha h0 h15 hb => ?_, fun s c ha hm hd hh => ?_,
    fun s f n w ha hodd hw hl hf hcfg hd hs => ?_⟩
  · set r := s.received c.frame with hr
    have hmode : r.pw.mode = .run := by
      rw [hr, s.received_mode]
      rcases hm with h | h <;> rw [h] <;> rfl
    obtain ⟨hsafe, -⟩ := r.safeTrigger_safe (Or.inl hmode) 3
    have hchan (n : Ch) : (r.safeTrigger 3).chan n = (r.takeGroups allGrp 3).chan n := by
      rw [State.safeTrigger_takes (Or.inl hmode), State.enterMode_chan]
      rfl
    have htaken (n : Ch) := State.takeGroups_chan (s := r) (n := n) allGrp_nodup
      (by rw [hr, s.received_group]; exact hb _) 3
    rw [hr] at htaken
    simp only [s.received_takes, s.received_chan] at htaken
    refine ⟨r.safeTrigger 3, _, rfl, hostCmd_answers (by decide) (by decide) (by decide) (by decide) ha
      (safeApplyBody_all h15 (by rw [← hr, hmode]; decide)), hsafe, fun n ht => ?_, fun n ht => ?_⟩
    · rw [hchan]
      exact (htaken n).1 ht (mem_allGrp _)
    · rw [hchan]
      exact (htaken n).2 (Or.inl ht)
  · obtain ⟨hmode, hheld, hkeep⟩ := State.applyTo_spec (s.received c.frame) (groupsOf_nodup (arg c.args 3 0))
      fun g => by rw [s.received_group]; exact hb g
    simp only [s.received_takes, s.received_chan] at hheld hkeep
    exact ⟨_, _, rfl, hostCmd_answers (by decide) (by decide) (by decide) (by decide) ha
      (safeApplyBody_some h0 h15), hmode, hheld, hkeep⟩
  · have hmode : (s.received c.frame).pw.mode = .safe := by rw [s.received_mode, hm]; rfl
    obtain ⟨hrun, hgroups, hchans⟩ := State.afterRelease_spec (a := c.args) hmode
      fun g hg => hh g (by rwa [s.received_group] at hg)
    have hallowed : (groupsOf (arg c.args 3 0)).any (s.received c.frame).releaseDenied = false :=
      List.any_eq_false.mpr fun g hg => by rw [s.received_releaseDenied, hd g hg]; decide
    refine ⟨_, _, rfl, hostCmd_answers (by decide) (by decide) (by decide) (by decide) ha
      (safeReleaseBody_allowed hallowed), hrun, hgroups, fun n hn => hchans n ?_⟩
    rwa [s.received_group]
  · set r := s.received f with hr
    have hoddr : r.isOdd n = false := by rw [hr, s.received_isOdd]; exact hodd
    have hword : s.withWordOf n 0x1E w = r.withWordOf n 0x1E w := by
      unfold State.withWordOf
      rw [hr, s.received_chan]
    have hbusy : r.channelBusy n = [] := by
      rw [hr, s.received_channelBusy]
      unfold State.channelBusy
      simp [hf, hcfg, hd, hs, failIf]
    have hwrite : r.setObject .host (chIndex n 0x1E) w = .ok (r.putWords n [(0x1E, w)]) := by
      rw [State.setObject_chIndex _ _ n (by decide)]
      exact State.writeSafeWord_ok hoddr (hword ▸ hw) (hword ▸ hl) hbusy
    obtain ⟨hsafe, hgen, hguard, hcopy, hrest⟩ := State.putWords_safe_spec (w := w) hoddr rfl
    rw [hr, s.received_chan] at hsafe
    refine ⟨r.putWords n [(0x1E, w)], _, rfl, hostWrite_written ha ?_ hwrite, hsafe, hgen.trans ?_, hguard, hcopy,
      fun m hm => (hrest m hm).trans (by rw [hr, s.received_chan])⟩
    · exact (chIndex_fields n (by decide)).2.1.trans (by decide)
    · rw [hr, s.received_safe]
end

section
/-! ## What enters the recorder's intake, and the write engine (09 R286 to R297, R302) -/

namespace Sys2Proof.Machine

section
variable {r u v : Recorder} {s t : State} {e : Intake} {k : Nat}

theorem State.logsOver.comb (h : s.logsOver t) : t.comb = s.comb := by unfold State.logsOver at h; rw [h]

theorem State.logsOver.res (h : s.logsOver t) : t.res = s.res := by unfold State.logsOver at h; rw [h]

theorem State.logsOver.sw (h : s.logsOver t) : t.sw = s.sw := by unfold State.logsOver at h; rw [h]

/-! ### Entries that come in (09 R295, R296) -/

/-- All of a recorder but what an entry that comes in changes, and what has been told of its fill. -/
def Recorder.filed (r : Recorder) : Recorder :=
  { r with
    intake := [], merges := [], lost := 0, merged := 0, dropped := 0, dropFirst := 0, dropLast := 0
    near := false, lastEv108 := none }

/-- u is r with entries come in: they stand behind those held, or are counted (09 R295, R296). -/
structure Recorder.gains (r u : Recorder) : Prop where
  filed : u.filed = r.filed
  intake : r.intake <+: u.intake

theorem Recorder.gains_refl (r : Recorder) : r.gains r := ⟨rfl, List.prefix_rfl⟩

theorem Recorder.gains.trans (h : r.gains u) (h' : u.gains v) : r.gains v :=
  ⟨h'.filed.trans h.filed, h.intake.trans h'.intake⟩

/-- What no entry that comes in changes. -/
theorem Recorder.gains.get {α : Type} (h : r.gains u) (f : Recorder → α) : f u.filed = f r.filed := by rw [h.filed]

theorem Recorder.put_gains (r : Recorder) (e : Intake) : r.gains (r.put e) := by
  unfold Recorder.put
  split
  · exact r.gains_refl
  · split
    · exact ⟨rfl, List.prefix_append ..⟩
    · exact ⟨rfl, List.prefix_rfl⟩

theorem State.closeMerge_gains (s : State) (m : MergeWin) : s.rcd.gains (s.closeMerge m).rcd := by
  unfold State.closeMerge
  dsimp only
  split
  · exact ⟨rfl, List.prefix_rfl⟩
  · have herased : s.rcd.gains { s.rcd with merges := s.rcd.merges.erase m } := ⟨rfl, List.prefix_rfl⟩
    exact herased.trans (Recorder.put_gains ..)

theorem State.mergedUntil_gains (s : State) (e : Intake) : s.rcd.gains (s.mergedUntil e) := by
  unfold State.mergedUntil
  split
  · split
    · exact s.closeMerge_gains _
    · exact s.rcd.gains_refl
  · exact s.rcd.gains_refl

theorem Recorder.arrive_gains (r : Recorder) (now : Nat) (e : Intake) : r.gains (r.arrive now e) := by
  unfold Recorder.arrive
  split
  · exact r.gains_refl
  split
  · exact r.put_gains e
  split
  · exact ⟨rfl, List.prefix_rfl⟩
  dsimp only
  split
  · exact (r.put_gains e).trans ⟨rfl, List.prefix_rfl⟩
  · exact r.put_gains e

/-- Raising an event may bring its entry in, and changes nothing else of the recorder (09 R290). -/
theorem State.raise_gains (s : State) (j : Fin 128) (a b : Nat) (p q w : Word) :
    s.rcd.gains (s.raise j a b p q w).rcd := by
  unfold State.raise State.raiseAt
  split
  · exact s.rcd.gains_refl
  · unfold State.recordOnly
    dsimp only
    split
    · exact (s.mergedUntil_gains _).trans (Recorder.arrive_gains ..)
    · exact s.rcd.gains_refl

/-- t is s with entries come in to the recorder, and what raising events changes besides. -/
structure State.records (s t : State) : Prop where
  logs : s.logsOver t
  gains : s.rcd.gains t.rcd

theorem State.records_refl (s : State) : s.records s := ⟨logsOver_refl s, s.rcd.gains_refl⟩

theorem State.records.trans {w : State} (h : s.records t) (h' : t.records w) : s.records w :=
  ⟨logsOver_trans h.logs h'.logs, h.gains.trans h'.gains⟩

theorem State.records_of_gains (h : s.rcd.gains r) : s.records { s with rcd := r } := ⟨rfl, h⟩

theorem State.raiseRec_records (s : State) (j : Fin 128) : s.records (s.raiseRec j) :=
  ⟨raise_logs .., s.raise_gains ..⟩

/-- A place that frees lets a LOST record in (09 R296). -/
theorem State.noteLost_records (s : State) : s.records s.noteLost := by
  unfold State.noteLost
  dsimp only
  split
  case isTrue => exact s.records_refl
  case isFalse =>
    set w := s.intakeOf 0xF1 0 0 (BitVec.ofNat 32 s.rcd.dropped) s.rcd.dropFirst s.rcd.dropLast
    set v : State := { s with rcd := { s.rcd with
      intake := s.rcd.intake ++ [w], dropped := 0, dropFirst := 0, dropLast := 0 } }
    have hin : s.records v := State.records_of_gains ⟨rfl, List.prefix_append ..⟩
    split
    · exact (hin.trans (v.raiseRec_records 108)).trans (State.records_of_gains ⟨rfl, List.prefix_rfl⟩)
    · exact hin

/-- s with EV105 raised where the log has become full (09 R297). -/
def State.noteFull (s : State) (old : Recorder) : State := if s.rcd.full && !old.full then s.raiseRec 105 else s

theorem State.noteFull_records (s : State) (old : Recorder) : s.records (s.noteFull old) := by
  unfold State.noteFull
  split
  · exact s.raiseRec_records 105
  · exact s.records_refl

/-- The fill that is told after that is EV104 alone (09 R297). -/
theorem State.noteFill_records (s : State) (old : Recorder) :
    (s.noteFull old).records (s.noteFill old) ∧
    (s.noteFill old).ev.src[(105 : Fin 128).val] = (s.noteFull old).ev.src[(105 : Fin 128).val] := by
  have hfill : s.noteFill old = if !(s.noteFull old).rcd.near &&
      decide ((s.noteFull old).rcd.usable * 9 ≤ (s.noteFull old).rcd.written * 10) then
        State.raiseRec { s.noteFull old with rcd := { (s.noteFull old).rcd with near := true } } 104
      else s.noteFull old := rfl
  rw [hfill]
  generalize s.noteFull old = v
  split
  · have hnear : v.records { v with rcd := { v.rcd with near := true } } :=
      State.records_of_gains ⟨rfl, List.prefix_rfl⟩
    exact ⟨hnear.trans (State.raiseRec_records _ 104), State.raise_src_ne (k := 105) (j := 104) (by decide) ..⟩
  · exact ⟨v.records_refl, rfl⟩

/-! ### Slots (09 R291, R302) -/

/-- Which slot comes next depends on no entry of the intake (09 R291). -/
theorem Recorder.goodSlot_filed (r : Recorder) (fuel k : Nat) : r.filed.goodSlot fuel k = r.goodSlot fuel k := by
  induction fuel generalizing k with
  | zero => rfl
  | succ fuel ih =>
    have htaken : r.filed.taken k = r.taken k := rfl
    unfold Recorder.goodSlot
    rw [ih, ih, htaken]
    rfl

theorem State.trySlot_filed (h : t.rcd.filed = s.rcd.filed) : t.trySlot = s.trySlot := by
  have hhealth : t.recHealth = s.recHealth :=
    (congrArg (fun x : Recorder => ({ s with rcd := x } : State).recHealth) h :)
  have hfull : t.rcd.full = s.rcd.full := (congrArg Recorder.full h :)
  have hslot : t.rcd.slot = s.rcd.slot := (congrArg Recorder.slot h :)
  unfold State.trySlot
  rw [hhealth, hfull, hslot, ← Recorder.goodSlot_filed t.rcd, h, Recorder.goodSlot_filed]

theorem Recorder.hinted_eq (r : Recorder) :
    ∃ n x y, r.hinted = { r with sinceHint := n, ctl0 := x, ctl1 := y } := by
  unfold Recorder.hinted Recorder.writeControl
  dsimp only
  split
  · exact ⟨_, _, _, rfl⟩
  · split <;> exact ⟨_, _, _, rfl⟩

/-- A record that is stored changes its slot, the head and what follows of it (09 R291, R293, R303). -/
theorem Recorder.store_eq (r : Recorder) (k : Nat) (e : Intake) :
    ∃ l n x y, r.store k e = { r with
      slots := putSlot k (recordWords r.next e) r.slots, next := r.next + 1, slot := k + 1, written := r.written + 1
      shadow := l, sinceHint := n, ctl0 := x, ctl1 := y } := by
  obtain ⟨n, x, y, h⟩ := Recorder.hinted_eq { r.shadowed (recordWords r.next e) with
    slots := putSlot k (recordWords r.next e) r.slots, next := r.next + 1, slot := k + 1, written := r.written + 1 }
  exact ⟨_, n, x, y, h⟩

theorem Recorder.noteFault_eq (r : Recorder) (code : Byte) (b : Nat) (o p : Word) :
    ∃ l, r.noteFault code b o p = { r with faults := l } := by
  unfold Recorder.noteFault
  dsimp only
  split <;> exact ⟨_, rfl⟩

/-- A block marked bad is among the bad blocks (09 R302). -/
theorem Recorder.markBad_eq (r : Recorder) (b : Nat) :
    ∃ l n, r.markBad b = { r with bad := l, written := n } ∧ b ∈ l := by
  unfold Recorder.markBad
  split
  case isTrue h => exact ⟨r.bad, r.written, rfl, by simpa using h⟩
  case isFalse => exact ⟨_, _, rfl, by simp⟩

/-- A memory fault marks the block of its slot bad, notes the fault and raises EV106 (09 R302). -/
theorem State.memoryFault_eq (s : State) (code : Byte) (b : Nat) :
    ∃ l n f c, b ∈ l ∧ s.memoryFault code (some b) =
      State.raiseRec { s with rcd := { s.rcd with bad := l, written := n, faults := f, copies := c } } 106 := by
  obtain ⟨l, n, hmark, hb⟩ := s.rcd.markBad_eq b
  obtain ⟨f, hnote⟩ := (s.rcd.markBad b).noteFault_eq code b s.pw.opsec s.pw.pcycle
  obtain ⟨f', hnote'⟩ := ((s.rcd.markBad b).noteFault code b s.pw.opsec s.pw.pcycle).noteFault_eq 0x04 b s.pw.opsec
    s.pw.pcycle
  unfold State.memoryFault
  dsimp only [Option.getD_some]
  split
  · rw [hnote', hnote, hmark]
    exact ⟨l, n, f', _, hb, rfl⟩
  · rw [hnote, hmark]
    exact ⟨l, n, f, _, hb, rfl⟩

theorem State.raiseRec_pending (hu : s.hostUp = true) {j : Fin 128} (hj : neverRaised j.val = false) :
    (s.raiseRec j).pendingWith j 1 := raise_pending _ _ _ _ _ _ _ hu hj

/-- A memory fault leaves the log and the entries held (09 R302). -/
theorem State.memoryFault_spec (s : State) (code : Byte) (b : Nat) (ht : t = s.memoryFault code (some b)) :
    s.logsOver t ∧ t.rcd.slots = s.rcd.slots ∧ t.rcd.next = s.rcd.next ∧ s.rcd.intake <+: t.rcd.intake ∧
    b ∈ t.rcd.bad ∧ (s.hostUp = true → t.pendingWith 106 1) := by
  obtain ⟨l, n, f, c, hb, hfault⟩ := s.memoryFault_eq code b
  set v : State := { s with rcd := { s.rcd with bad := l, written := n, faults := f, copies := c } } with hv
  have hvlogs : s.logsOver v := rfl
  obtain ⟨hlogs, hgains⟩ := v.raiseRec_records 106
  rw [ht, hfault]
  refine ⟨logsOver_trans hvlogs hlogs, hgains.get Recorder.slots, hgains.get Recorder.next, hgains.intake, ?_,
    fun hu => State.raiseRec_pending (s := v) hu (by decide)⟩
  have hbad : (v.raiseRec 106).rcd.bad = l := hgains.get Recorder.bad
  rw [hbad]
  exact hb

/-! ### RECORD_WRITE (09 R291, R297, R302) -/

/-- s with the entry at the head of the intake disposed of (09 R291). -/
def State.headStored (s : State) (e : Intake) (es : List Intake) : State :=
  State.storeEntry { s with rcd := { s.rcd with intake := es } } e

theorem exec_recordWrite_stores {es : List Intake} {a b : Bool} (hi : s.rcd.intake = e :: es)
    (h : (a || b) = true ∨ s.trySlot = none) :
    exec (.recordWrite a b) s = .next ((s.headStored e es).noteLost.noteFill s.rcd) := by
  have hwrite : s.writeHead (a || b) = (s.headStored e es).noteLost.noteFill s.rcd := by
    unfold State.writeHead
    rw [hi]
    dsimp only
    split
    case h_1 k hok hslot =>
      rcases h with h | h
      · rw [h] at hok; cases hok
      · rw [h] at hslot; cases hslot
    case h_2 => rfl
  exact congrArg Host.Outcome.next hwrite

theorem exec_recordWrite_fails {es : List Intake} (hi : s.rcd.intake = e :: es) (ht : s.trySlot = some k) :
    exec (.recordWrite false false) s = .next (s.memoryFault 0x01 (some (k / 64))) := by
  have hwrite : s.writeHead false = s.memoryFault 0x01 (some (k / 64)) := by
    unfold State.writeHead
    rw [hi, ht]
  exact congrArg Host.Outcome.next hwrite

theorem State.storeEntry_slot (hh : s.recHealth ≠ 2) (ht : s.trySlot = some k) :
    s.storeEntry e = { s with rcd := s.rcd.store k e } := by
  unfold State.storeEntry
  rw [if_neg hh, ht]

theorem State.storeEntry_refused (hh : s.recHealth ≠ 2) (ht : s.trySlot = none) :
    s.storeEntry e = { s with rcd := { s.rcd with refused := satInc s.rcd.refused, full := true } } := by
  unfold State.storeEntry
  rw [if_neg hh, ht]

theorem State.headStored_slot {es : List Intake} (hh : s.recHealth ≠ 2) (ht : s.trySlot = some k) :
    s.headStored e es = { s with rcd := ({ s.rcd with intake := es } : Recorder).store k e } := by
  have htry := State.trySlot_filed (s := s) (t := { s with rcd := { s.rcd with intake := es } }) rfl
  exact State.storeEntry_slot (s := { s with rcd := { s.rcd with intake := es } }) hh (htry.trans ht)

theorem State.headStored_refused {es : List Intake} (hh : s.recHealth ≠ 2) (ht : s.trySlot = none) :
    s.headStored e es =
      { s with rcd := { s.rcd with intake := es, refused := satInc s.rcd.refused, full := true } } := by
  have htry := State.trySlot_filed (s := s) (t := { s with rcd := { s.rcd with intake := es } }) rfl
  exact State.storeEntry_refused (s := { s with rcd := { s.rcd with intake := es } }) hh (htry.trans ht)

/-- What is told after an entry is disposed of lets entries in alone. -/
theorem State.told_records (v : State) (old : Recorder) : v.records (v.noteLost.noteFill old) :=
  (v.noteLost_records.trans (State.noteFull_records ..)).trans (State.noteFill_records ..).1

/-- The first entry that is refused raises EV105 (09 R297). -/
theorem State.told_full {v : State} {old : Recorder} (hu : v.hostUp = true) (hf : v.rcd.full = true)
    (ho : old.full = false) : (v.noteLost.noteFill old).pendingWith 105 1 := by
  obtain ⟨hlogs, hgains⟩ := v.noteLost_records
  have hfull : v.noteLost.rcd.full = true := (hgains.get Recorder.full).trans hf
  have htold : v.noteLost.noteFull old = v.noteLost.raiseRec 105 := if_pos (by rw [hfull, ho]; rfl)
  refine State.pendingWith_congr (State.noteFill_records _ old).2 ?_
  rw [htold]
  exact State.raiseRec_pending ((still_hostUp hlogs.still).trans hu) (by decide)

/-! ### MERGE_WINDOW_CLOSE (09 R295) -/

theorem exec_mergeWindowClose {m : MergeWin} (hd : m.opened + 1000 * milli ≤ s.time)
    (hf : (s.rcd.merges.find? fun x => x.source == m.source && x.code == m.code && x.subject == m.subject) = some m) :
    exec (.mergeWindowClose m.source m.code m.subject) s = .next (s.closeMerge m) := by
  show execMergeWindowClose m.source m.code m.subject s = _
  unfold execMergeWindowClose
  rw [hf]
  exact if_pos hd

/-- A window that closes is gone; one that counted puts its REPEAT record in the intake (09 R295). -/
theorem State.closeMerge_spec (s : State) (m : MergeWin) :
    (s.closeMerge m).rcd.merges = s.rcd.merges.erase m ∧ s.closeMerge m = { s with rcd := (s.closeMerge m).rcd } ∧
    (m.count = 0 → (s.closeMerge m).rcd.intake = s.rcd.intake) ∧
    (m.count ≠ 0 → s.rcd.stopped = false → s.rcd.intake.length < 255 →
      (s.closeMerge m).rcd.intake = s.rcd.intake ++ [repeatEntry s m]) := by
  unfold State.closeMerge
  dsimp only
  split
  case isTrue hc => exact ⟨rfl, rfl, fun _ => rfl, fun h => absurd hc h⟩
  case isFalse hc =>
    refine ⟨?_, rfl, fun h => absurd h hc, fun _ hs hl => ?_⟩
    · unfold Recorder.put
      split
      · rfl
      · split <;> rfl
    · exact congrArg Recorder.intake
        (Recorder.put_of_room (r := { s.rcd with merges := s.rcd.merges.erase m }) hs hl _)

end
end Sys2Proof.Machine

open Sys2Proof Sys2Proof.Machine

/-- Settles O28: what the write engine does with the entry at the head of the intake, and that what is told after it
lets entries in alone. -/
theorem recordEngine : Obligations.RecordEngine := by
  unfold Obligations.RecordEngine
  refine ⟨fun s e es a b k hi hok hh ht => ?_, fun s e es k hi ht hu => ?_, fun s e es a b hi hh ht hu => ?_,
    fun s m hm hd hf => ?_⟩
  · obtain ⟨l, n, x, y, hstore⟩ := Recorder.store_eq { s.rcd with intake := es } k e
    have hexec := exec_recordWrite_stores hi (Or.inl hok)
    rw [State.headStored_slot hh ht, hstore] at hexec
    set v : State := { s with rcd := { s.rcd with
      intake := es, slots := putSlot k (recordWords s.rcd.next e) s.rcd.slots, next := s.rcd.next + 1, slot := k + 1
      written := s.rcd.written + 1, shadow := l, sinceHint := n, ctl0 := x, ctl1 := y } }
    obtain ⟨hlogs, hgains⟩ := v.told_records s.rcd
    exact ⟨_, hexec, hgains.get Recorder.slots, hgains.get Recorder.next, hgains.get Recorder.slot,
      hgains.get Recorder.written, hgains.intake, hlogs.ch, hlogs.grp, hlogs.comb, hlogs.res⟩
  · obtain ⟨hlogs, hslots, hnext, hintake, hbad, hpend⟩ := State.memoryFault_spec s 0x01 (k / 64) rfl
    rw [hi] at hintake
    exact ⟨_, exec_recordWrite_fails hi ht, hslots, hnext, hbad, hintake, hpend hu, hlogs.ch,
      hlogs.comb⟩
  · have hexec := exec_recordWrite_stores (a := a) (b := b) hi (Or.inr ht)
    rw [State.headStored_refused hh ht] at hexec
    set v : State := { s with rcd := { s.rcd with intake := es, refused := satInc s.rcd.refused, full := true } }
    obtain ⟨hlogs, hgains⟩ := v.told_records s.rcd
    exact ⟨_, hexec, hgains.get Recorder.slots, hgains.get Recorder.next, hgains.get Recorder.refused,
      hgains.get Recorder.full, State.told_full (v := v) hu rfl, hlogs.ch, hlogs.comb⟩
  · obtain ⟨hmerges, hrest, hnone, hsome⟩ := s.closeMerge_spec m
    exact ⟨_, exec_mergeWindowClose hd hf, hmerges, (s.closeMerge_gains m).get Recorder.slots, hnone, hsome, hrest⟩
end

section
/-! ## Reading and clearing the log (09 R298 to R302, 11 R342) -/

namespace Sys2Proof.Machine

section
variable {s t u v : State} {e : Intake} {a b w x m : Word} {hi lo : Nat} {args : BitVec 24}

/-! ### What receiving a message leaves -/

theorem State.received_rcd (s : State) (f : Frame) : (s.received f).rcd = s.rcd :=
  show (s.received f).offPort.rcd = s.offPort.rcd by rw [State.received_offPort]

theorem State.received_recHealth (s : State) (f : Frame) : (s.received f).recHealth = s.recHealth := by
  unfold State.recHealth
  rw [s.received_rcd]

theorem State.received_hostUp (s : State) (f : Frame) : (s.received f).hostUp = s.hostUp := by
  have hpw : (s.received f).pw = s.accept.pw := by
    unfold State.received State.supersede
    dsimp only
    split <;> rfl
  have hwake : s.accept.hostUp = s.hostUp := by
    unfold State.accept
    exact (State.hears_wake _).hostUp
  rw [← hwake]
  unfold State.hostUp
  rw [hpw]

theorem State.hostUp_of_accepts {c : CmdSpec} {y : Cmd} (h : s.accepts c y = true) : s.hostUp = true := by
  unfold State.accepts State.wholeIn State.portOpen at h
  simp only [Bool.and_eq_true] at h
  obtain ⟨⟨⟨⟨⟨⟨⟨⟨⟨⟨⟨hup, -⟩, -⟩, -⟩, -⟩, -⟩, -⟩, -⟩, -⟩, -⟩, -⟩, -⟩ := h
  exact hup

/-! ### LOG_READ (09 R298, R301, R302) -/

theorem testBit_fld (w : Word) (hi lo i : Nat) :
    (fld w hi lo).testBit i = (decide (i < hi + 1 - lo) && w.getLsbD (lo + i)) := by
  unfold fld
  rw [Nat.testBit_mod_two_pow, Nat.testBit_shiftRight, BitVec.testBit_toNat]

/-- A field depends on its own bits alone. -/
theorem fld_congr (h : ∀ i ≤ hi, lo ≤ i → w.getLsbD i = x.getLsbD i) : fld w hi lo = fld x hi lo := by
  refine Nat.eq_of_testBit_eq fun i => ?_
  rw [testBit_fld, testBit_fld]
  by_cases hlt : i < hi + 1 - lo
  · rw [h (lo + i) (by omega) (by omega)]
  · simp [hlt]

/-- A field inside the mask of a mixed word is the new one. -/
theorem fld_mix_new (h : ∀ i ≤ hi, lo ≤ i → m.getLsbD i = true) : fld (mix w x m) hi lo = fld x hi lo :=
  fld_congr fun i hle hlo => by simp [mix, h i hle hlo]

/-- A field outside the mask of a mixed word is the old one. -/
theorem fld_mix_old (h : ∀ i ≤ hi, lo ≤ i → m.getLsbD i = false) (h31 : hi < 32) :
    fld (mix w x m) hi lo = fld w hi lo :=
  fld_congr fun i hle hlo => by simp [mix, h i hle hlo]; omega

/-- The second word of LOG_READ with the SEL of a row (log entry 25). -/
def selWord (b : Word) (sel : Nat) : Word := mix b (pk [(sel, 8)]) 0x300#32

theorem withSel_pair (a b : Word) (sel : Nat) : withSel [a, b] sel = [a, selWord b sel] := rfl

theorem selWord_sel (b : Word) {sel : Nat} (h : sel < 4) : fld (selWord b sel) 9 8 = sel := by
  have hsel : ∀ k < 4, fld (pk [(k, 8)]) 9 8 = k := by decide
  exact (fld_mix_new (by decide)).trans (hsel sel h)

theorem selWord_max (b : Word) (sel : Nat) : fld (selWord b sel) 6 0 = fld b 6 0 :=
  fld_mix_old (by decide) (by decide)

/-- A message whose SEL is 0 reads the log (09 R298). -/
theorem logReadBody_log (h1 : 1 ≤ fld b 6 0) (h2 : fld b 6 0 ≤ 120) : logReadBody .host args [a, selWord b 0] s =
    (s.readLog, logAnswer (s.rcd.select s.rcd.log a (fld b 6 0))) := by
  have hmax : outside (fld b 6 0) 1 120 = false := decide_eq_false (by omega)
  unfold logReadBody
  simp only [wAt, List.getElem?_cons_zero, List.getElem?_cons_succ, Option.getD_some, selWord_max, hmax,
    selWord_sel b (sel := 0) (by decide)]
  rfl

/-- A message whose SEL is 1 reads the shadow (09 R298). -/
theorem logReadBody_shadow (h1 : 1 ≤ fld b 6 0) (h2 : fld b 6 0 ≤ 120) : logReadBody .host args [a, selWord b 1] s =
    (s, logAnswer (s.rcd.select s.rcd.shadow a (fld b 6 0))) := by
  have hmax : outside (fld b 6 0) 1 120 = false := decide_eq_false (by omega)
  unfold logReadBody
  simp only [wAt, List.getElem?_cons_zero, List.getElem?_cons_succ, Option.getD_some, selWord_max, hmax,
    selWord_sel b (sel := 1) (by decide)]
  rfl

theorem logReadBody_clears : logReadBody .host args [a, selWord b 2] s =
    (s, logAnswer (s.rcd.clears.map clearWords)) := by
  unfold logReadBody
  simp only [wAt, List.getElem?_cons_zero, List.getElem?_cons_succ, Option.getD_some,
    selWord_sel b (sel := 2) (by decide)]

theorem logReadBody_faults : logReadBody .host args [a, selWord b 3] s =
    ({ s with rcd := s.rcd.readFaults }, logAnswer s.faultEntries) := by
  unfold logReadBody
  simp only [wAt, List.getElem?_cons_zero, List.getElem?_cons_succ, Option.getD_some,
    selWord_sel b (sel := 3) (by decide)]

theorem State.readLog_clean (h : s.rcd.corrupt = []) : s.readLog = s := by
  unfold State.readLog
  rw [h, State.each_nil]

/-- An accepted LOG_READ of some selection is answered with its entries (11 R342). -/
theorem logRow_answers {c : Cmd} {sel : Nat} {l : List (List Word)} (hw : c.words = [a, b])
    (ha : s.accepts logReadSpec { c with words := withSel c.words sel } = true)
    (hb : logReadBody .host c.args [a, selWord b sel] (s.received c.frame) = (u, logAnswer l)) :
    State.answers s u (s.logRow c sel) { c with words := withSel c.words sel } 0x28 .ok 0
      (BitVec.ofNat 32 l.length :: l.flatten) := by
  refine hostCmd_answers (by decide) (by decide) (by decide) (by decide) ha ?_
  rw [hw]
  exact hb

/-! ### What a clear writes (09 R300) -/

/-- What writing records leaves: the channels, the groups, `still`, EV107, and what a clear sets of the recorder. -/
def State.cleared (s : State) : (Vector Channel 32 × Vector Group 4 × (Nat × Power × Security) × EvState) ×
    Word × Word × Byte × Option (List Word × Word) :=
  (s.view 107, s.rcd.base, s.rcd.clearSeq, s.rcd.clearKey, s.rcd.challenge)

/-- A change of the recorder that leaves what a clear sets. -/
theorem State.cleared_rcd {r : Recorder} (hb : r.base = s.rcd.base) (hs : r.clearSeq = s.rcd.clearSeq)
    (hk : r.clearKey = s.rcd.clearKey) (hc : r.challenge = s.rcd.challenge) :
    State.cleared { s with rcd := r } = s.cleared := by
  unfold State.cleared
  rw [hb, hs, hk, hc]
  rfl

theorem State.raiseRec_cleared {j : Fin 128} (hj : (107 : Fin 128) ≠ j) (s : State) :
    (s.raiseRec j).cleared = s.cleared := by
  have hgains := (s.raiseRec_records j).gains
  have hview : (s.raiseRec j).view 107 = s.view 107 := State.raise_view hj ..
  unfold State.cleared
  rw [hview]
  exact congrArg (s.view 107, ·) (hgains.get fun r => (r.base, r.clearSeq, r.clearKey, r.challenge))

theorem State.cleared_ite {p : Prop} [Decidable p] (ht : t.cleared = s.cleared) (hu : u.cleared = s.cleared) :
    (if p then t else u).cleared = s.cleared := by
  split
  · exact ht
  · exact hu

theorem State.memoryFault_cleared (s : State) (code : Byte) (k : Nat) :
    (s.memoryFault code (some k)).cleared = s.cleared := by
  obtain ⟨l, n, f, c, -, hfault⟩ := s.memoryFault_eq code k
  rw [hfault, State.raiseRec_cleared (by decide)]
  exact State.cleared_rcd rfl rfl rfl rfl

theorem State.sendMsg_cleared (s : State) (c : SwClass) (k : Nat) (y : Bool) (d : Addr) (z : BitVec 8)
    (ws : List Word) : (s.sendMsg c k y d z ws).cleared = s.cleared :=
  (congrArg State.cleared (s.sendMsg_unsent c k y d z ws) :)

/-- A record kept in the shadow alone, or sent to the peer (09 R303, R304). -/
theorem State.shadowOnly_cleared (s : State) (e : Intake) : (s.shadowOnly e).cleared = s.cleared := by
  unfold State.shadowOnly
  extract_lets ws r v
  have hkeep : v.cleared = s.cleared := State.cleared_rcd rfl rfl rfl rfl
  rw [← hkeep]
  clear_value v
  have hsent (w : Swarm) (d : Addr) (z : BitVec 8) (l : List Word) :
      (State.sendMsg { v with sw := w } .bulk 10 false d z l).cleared = v.cleared := State.sendMsg_cleared ..
  split
  · split
    · exact State.cleared_ite (hsent ..) (State.cleared_rcd rfl rfl rfl rfl)
    · exact State.cleared_rcd rfl rfl rfl rfl
  · exact State.cleared_ite (State.cleared_rcd rfl rfl rfl rfl) rfl

theorem State.storeEntry_cleared (s : State) (e : Intake) : (s.storeEntry e).cleared = s.cleared := by
  unfold State.storeEntry
  refine State.cleared_ite (s.shadowOnly_cleared e) ?_
  split
  case h_1 k _ =>
    obtain ⟨l, n, y, z, hstore⟩ := s.rcd.store_eq k e
    rw [hstore]
    exact State.cleared_rcd rfl rfl rfl rfl
  case h_2 => exact State.cleared_rcd rfl rfl rfl rfl

theorem State.noteFill_cleared (s : State) (old : Recorder) : (s.noteFill old).cleared = s.cleared := by
  have hfull : (s.noteFull old).cleared = s.cleared := State.cleared_ite (State.raiseRec_cleared (by decide) s) rfl
  rw [← hfull]
  exact State.cleared_ite (State.raiseRec_cleared (j := 104) (by decide) _) rfl

/-- A record written past the intake, whatever slots fail (09 R300). -/
theorem State.writeNow_cleared (os : Tries) (s : State) (e : Intake) :
    (State.writeNow os s e).1.cleared = s.cleared := by
  have hgood (v : State) : ((v.storeEntry e).noteFill v.rcd).cleared = v.cleared :=
    (State.noteFill_cleared ..).trans (v.storeEntry_cleared e)
  induction os generalizing s with
  | nil => exact hgood s
  | cons o os ih =>
    cases o with
    | true => exact hgood s
    | false =>
      unfold State.writeNow
      split
      · exact (ih _).trans (s.memoryFault_cleared ..)
      · exact hgood s

theorem writeAll_cleared (l : List Intake) (y : State × Tries) :
    (l.foldl (fun y e => State.writeNow y.2 y.1 e) y).1.cleared = y.1.cleared := by
  induction l generalizing y with
  | nil => rfl
  | cons e l ih => rw [List.foldl_cons, ih, State.writeNow_cleared]

/-- The commit of a clear sets what the clear is told by, and ends the challenge (09 R300). -/
theorem Recorder.commitClear_spec (r : Recorder) (c : ClearEntry) :
    (r.commitClear c).base = c.newBase ∧ (r.commitClear c).clearSeq = c.seq ∧
    (r.commitClear c).clearKey = c.keyid ∧ (r.commitClear c).challenge = none := by
  unfold Recorder.commitClear Recorder.writeControl
  dsimp only
  split <;> exact ⟨rfl, rfl, rfl, rfl⟩

/-- A clear leaves the channels and `still`, counts, ends the challenge and tells EV107 (09 R300, R301). -/
theorem State.clearLog_spec (s : State) (key : Byte) (nonce : List Word) (os : Tries)
    (ht : t = s.clearLog key nonce os) :
    t.ch = s.ch ∧ t.still = s.still ∧ t.rcd.clearSeq = s.rcd.clearSeq + 1 ∧ t.rcd.clearKey = key ∧
    t.rcd.challenge = none ∧ (s.hostUp = true → t.pendingWith 107 1) := by
  set p := s.repeats.foldl (fun y e => State.writeNow y.2 y.1 e) (({ s with rcd.merges := [] } : State), os) with hp
  have hwritten : p.1.cleared = s.cleared := writeAll_cleared ..
  set c : ClearEntry :=
    { seq := p.1.rcd.clearSeq + 1, opsec := p.1.pw.opsec, pcycle := p.1.pcycle24, keyid := key
      cleared := BitVec.ofNat 32 p.1.rcd.log.length, prevBase := p.1.rcd.base, newBase := p.1.rcd.next
      nonceLo := nonce.headD 0, nonceHi := (nonce.drop 1).headD 0 } with hc
  set v : State := { p.1 with rcd := p.1.rcd.commitClear c } with hv
  have heq : t = (State.writeNow p.2 (v.raiseRec 107) ((v.raiseRec 107).clearedEntry c p.1.rcd.refused)).1 := ht
  have hlast : t.cleared = (v.raiseRec 107).cleared := by rw [heq, State.writeNow_cleared]
  obtain ⟨hlogs, hgains⟩ := v.raiseRec_records 107
  obtain ⟨-, hseq, hkey, hchal⟩ := p.1.rcd.commitClear_spec c
  have hstill : p.1.still = s.still := congrArg (·.1.2.2.1) hwritten
  refine ⟨(congrArg (·.1.1) hlast).trans (hlogs.ch.trans (congrArg (·.1.1) hwritten)),
    (congrArg (·.1.2.2.1) hlast).trans (hlogs.still.trans hstill), ?_, ?_, ?_, fun hu => ?_⟩
  · have hcount : p.1.rcd.clearSeq = s.rcd.clearSeq := congrArg (·.2.2.1) hwritten
    rw [← hcount]
    exact ((congrArg (·.2.2.1) hlast).trans (hgains.get Recorder.clearSeq)).trans hseq
  · exact ((congrArg (·.2.2.2.1) hlast).trans (hgains.get Recorder.clearKey)).trans hkey
  · exact ((congrArg (·.2.2.2.2) hlast).trans (hgains.get Recorder.challenge)).trans hchal
  · have hsrc : t.ev.src[(107 : Fin 128).val] = (v.raiseRec 107).ev.src[(107 : Fin 128).val] :=
      congrArg (·.1.2.2.2) hlast
    have hup : v.hostUp = true := (still_hostUp hstill).trans hu
    have hpend : (v.raiseRec 107).pendingWith 107 1 := State.raiseRec_pending hup (by decide)
    exact State.pendingWith_congr hsrc hpend

/-! ### LOG_CLEAR_CHALLENGE and LOG_CLEAR (09 R299, R300, 14 R432) -/

/-- A signature over the open challenge is that of an owner key with the permission (09 R299, 14 R429). -/
def State.clearSigned (s : State) (key : Nat) (nonce ws : List Word) : Bool :=
  s.ownerSigned key 1 (Config.sha384 (s.clearMessage s.rcd.next nonce (BitVec.ofNat 8 key))) (sigBytes ws)

theorem State.received_clearSigned (s : State) (f : Frame) (key : Nat) (nonce ws : List Word) :
    (s.received f).clearSigned key nonce ws = s.clearSigned key nonce ws := by
  unfold State.clearSigned State.clearMessage State.serialBytes State.ownerSigned State.ownerWith
  rw [s.received_sec, s.received_rcd]

/-- s with its challenge used and its failures in a row forgotten (09 R299, 14 R432). -/
def State.signedIn (s : State) : State := State.authSuccess { s with rcd := { s.rcd with challenge := none } }

/-- s with its challenge used and a failed signature counted (09 R299, 14 R432). -/
def State.signedWrong (s : State) (key : Nat) : State :=
  State.authFailure { s with rcd := { s.rcd with challenge := none } } key 1 0x2A

/-- s with a challenge open on what the random source drew (09 R299). -/
def State.challenged (s : State) : State :=
  { s.drawNonce.1 with rcd := { s.rcd with challenge := some (s.drawNonce.2, s.rcd.next), challengeAt := s.time } }

theorem logClearChallengeBody_eq {ws : List Word} : logClearChallengeBody .host args ws s =
    (s.challenged, .now .ok 0 (s.drawNonce.2 ++ [s.rcd.next])) := rfl

theorem State.challenged_spec (s : State) : s.drawNonce.2.length = 4 ∧ s.challenged.ch = s.ch ∧ s.challenged.rcd =
    { s.rcd with challenge := some (s.drawNonce.2, s.rcd.next), challengeAt := s.time } := ⟨rfl, rfl, rfl⟩

theorem logClearBody_signed {nonce ws : List Word} {tries : Tries} (hl : s.sec.lockout = false)
    (hc : s.rcd.challenge = some (nonce, s.rcd.next)) (hh : s.recHealth ≠ 2)
    (hs : s.clearSigned (arg args 7 0) nonce ws = true) :
    logClearBody tries true .host args ws s =
      (s.signedIn.clearLog (BitVec.ofNat 8 (arg args 7 0)) nonce tries,
        .now .ok 0 [(s.signedIn.clearLog (BitVec.ofNat 8 (arg args 7 0)) nonce tries).rcd.base]) := by
  unfold State.clearSigned at hs
  unfold logClearBody
  dsimp only
  rw [hl, if_neg (by decide), hc]
  dsimp only
  rw [hs, if_neg (by decide), if_neg (by simp), if_neg (by simp [hh])]
  rfl

theorem logClearBody_unsigned {nonce ws : List Word} {tries : Tries} (hl : s.sec.lockout = false)
    (hc : s.rcd.challenge = some (nonce, s.rcd.next)) (hs : s.clearSigned (arg args 7 0) nonce ws = false) :
    logClearBody tries true .host args ws s = (s.signedWrong (arg args 7 0), .now .denied 0 []) := by
  unfold State.clearSigned at hs
  unfold logClearBody
  dsimp only
  rw [hl, if_neg (by decide), hc]
  dsimp only
  rw [hs, if_pos (by decide)]
  rfl

/-- A failed signature is counted and told (14 R432). -/
theorem State.authFailure_spec (s : State) (key code op : Nat) (ht : t = s.authFailure key code op) :
    t.ch = s.ch ∧ t.sec.authFail = satInc s.sec.authFail ∧ s.rcd.gains t.rcd := by
  unfold State.authFailure at ht
  extract_lets n x v at ht
  have hlogs := raise_logs v 116 key code v.secStatW (BitVec.ofNat 32 op) 0
  have hgains := v.raise_gains 116 key code v.secStatW (BitVec.ofNat 32 op) 0
  rw [ht]
  exact ⟨hlogs.ch, congrArg (·.authFail) (still_sec hlogs.still), hgains⟩

theorem State.signedWrong_spec (s : State) (key : Nat) :
    (s.signedWrong key).ch = s.ch ∧ (s.signedWrong key).sec.authFail = satInc s.sec.authFail ∧
    (s.signedWrong key).rcd.slots = s.rcd.slots ∧ (s.signedWrong key).rcd.base = s.rcd.base ∧
    (s.signedWrong key).rcd.clearSeq = s.rcd.clearSeq ∧ (s.signedWrong key).rcd.challenge = none := by
  unfold State.signedWrong
  obtain ⟨hch, hauth, hgains⟩ :=
    State.authFailure_spec { s with rcd := { s.rcd with challenge := none } } key 1 0x2A rfl
  exact ⟨hch, hauth, hgains.get Recorder.slots, hgains.get Recorder.base, hgains.get Recorder.clearSeq,
    hgains.get Recorder.challenge⟩

theorem State.signedIn_spec (s : State) : s.signedIn.ch = s.ch ∧ s.signedIn.rcd.clearSeq = s.rcd.clearSeq ∧
    s.signedIn.sec.consec = 0 ∧ s.signedIn.hostUp = s.hostUp := ⟨rfl, rfl, rfl, rfl⟩

theorem exec_logClearChallengeLapse (h : s.rcd.challengeAt + 60000 * milli ≤ s.time) :
    exec .logClearChallengeLapse s = .next { s with rcd.challenge := none } := by
  show execLogClearChallengeLapse s = _
  unfold execLogClearChallengeLapse
  exact if_pos h

end
end Sys2Proof.Machine

open Sys2Proof Sys2Proof.Machine

/-- Settles O29: each selection by what the body of LOG_READ does with the SEL of its row. -/
theorem logReading : Obligations.LogReading := by
  unfold Obligations.LogReading
  refine ⟨fun s c m a b l hw hm ha h1 h2 hl => ?_, fun s c m a b l hw hm ha h1 h2 hl => ?_,
    fun s c m a b l hw hm ha hl => ?_, fun s c m a b v hw hm ha hv => ?_⟩
  all_goals
    subst hm
    have hrcd := s.received_rcd c.frame
  · rw [← hrcd] at hl
    refine ⟨_, _, rfl, rfl, logRow_answers hw ha (hl ▸ logReadBody_log h1 h2), fun hc => State.readLog_clean ?_⟩
    rw [hrcd, hc]
  · rw [← hrcd] at hl
    exact ⟨_, rfl, logRow_answers hw ha (hl ▸ logReadBody_shadow h1 h2)⟩
  · rw [← hrcd] at hl
    exact ⟨_, rfl, logRow_answers hw ha (hl ▸ logReadBody_clears)⟩
  · have hentries : (s.received c.frame).faultEntries = blockEntries v := by
      unfold State.faultEntries
      rw [hrcd, hv]
    refine ⟨_, _, rfl, ?_, logRow_answers hw ha (hentries ▸ logReadBody_faults)⟩
    rw [hrcd]
    unfold Recorder.readFaults
    rw [hv]

/-- Settles O30: what the challenge and its lapse set, and what a clear by a signature that verifies, and one that
fails, leave. -/
theorem logCommands : Obligations.LogCommands := by
  unfold Obligations.LogCommands
  refine ⟨fun s c ha => ?_, fun s h => exec_logClearChallengeLapse h, fun s c nonce tries ha hl hc hh => ?_⟩
  all_goals
    set r := s.received c.frame with hr
    have hrcd : r.rcd = s.rcd := s.received_rcd c.frame
    have hchan : r.ch = s.ch := (s.received_chGrp c.frame).1
  · obtain ⟨hlen, hch, hopen⟩ := r.challenged_spec
    have hanswer := hostCmd_answers (by decide) (by decide) (by decide) (by decide) ha
      (logClearChallengeBody_eq (args := c.args) (ws := c.words) (s := r))
    have htime : r.time = s.time := (s.received_wd c.frame).1
    rw [hrcd] at hanswer
    rw [hrcd, htime] at hopen
    exact ⟨r.challenged, _, r.drawNonce.2, rfl, hlen, hanswer, hopen, hch.trans hchan⟩
  · have hlr : r.sec.lockout = false := by rw [hr, s.received_sec]; exact hl
    have hcr : r.rcd.challenge = some (nonce, r.rcd.next) := by rw [hrcd]; exact hc
    have hhr : r.recHealth ≠ 2 := by rw [hr, s.received_recHealth]; exact hh
    have hsigned : r.clearSigned (arg c.args 7 0) nonce c.words = s.clearSigned (arg c.args 7 0) nonce c.words :=
      s.received_clearSigned c.frame (arg c.args 7 0) nonce c.words
    cases hsig : s.clearSigned (arg c.args 7 0) nonce c.words
    case false =>
      obtain ⟨hch, hauth, hkept, hbase, hseq, hchal⟩ := r.signedWrong_spec (arg c.args 7 0)
      rw [hrcd] at hkept hbase hseq
      rw [hr, s.received_sec] at hauth
      have hanswer := hostCmd_answers (by decide) (by decide) (by decide) (by decide) ha
        (logClearBody_unsigned (tries := tries) hlr hcr (hsigned.trans hsig))
      exact ⟨r.signedWrong (arg c.args 7 0), _, rfl, hchal, hch.trans hchan,
        fun h => absurd (hsig.symm.trans h) (by decide), fun _ => ⟨hanswer, hkept, hbase, hseq, hauth⟩⟩
    case true =>
      have hup : r.hostUp = true := (s.received_hostUp c.frame).trans (State.hostUp_of_accepts ha)
      obtain ⟨hch, hstill, hseq, hkey, hchal, hpend⟩ := State.clearLog_spec r.signedIn
        (BitVec.ofNat 8 (arg c.args 7 0)) nonce tries rfl
      obtain ⟨hch', hseq', hrow, hup'⟩ := r.signedIn_spec
      rw [hseq', hrcd] at hseq
      have hanswer := hostCmd_answers (by decide) (by decide) (by decide) (by decide) ha
        (logClearBody_signed (tries := tries) hlr hcr hhr (hsigned.trans hsig))
      have hconsec := (congrArg Security.consec (still_sec hstill)).trans hrow
      exact ⟨r.signedIn.clearLog (BitVec.ofNat 8 (arg c.args 7 0)) nonce tries, _, rfl, hchal,
        hch.trans (hch'.trans hchan), fun _ => ⟨hanswer, hseq, hkey, hpend (hup'.trans hup), hconsec⟩,
        fun h => absurd (hsig.symm.trans h) (by decide)⟩
end

section
/-! ## Frames, segments and peer records of the swarm (09 R304, 12 R368 to R373) -/

namespace Sys2Proof.Machine

section
variable {s t u : State} {p q : Port} {f : SwFrame} {c : SwClass} {src : Addr} {tag : BitVec 8} {ws : List Word}
  {w : Option Port × SwFrame}

/-! ### Frames that wait (12 R371) -/

theorem State.modPort_modPort (s : State) (p : Port) (f g : SwPort → SwPort) :
    (s.modPort p f).modPort p g = s.modPort p fun x => g (f x) := by
  simp [State.modPort, State.swPort]

theorem SwPort.creditOf_withCredit (x : SwPort) (c : SwClass) (n : Nat) : (x.withCredit c n).creditOf c = n := by
  simp [SwPort.withCredit, SwPort.creditOf]

/-- s with a frame put behind those that wait for port q (12 R371). -/
def State.putWaiting (s : State) (q : Port) (w : Option Port × SwFrame) : State :=
  s.modPort q fun x => { x with waiting := x.waiting ++ [w] }

theorem State.enqueue_up (h : s.portUp q = true) (w : Option Port × SwFrame) :
    s.enqueue q [w] = s.putWaiting q w := by
  have hstate : (s.swPort q).state = 3 := by simpa [State.portUp] using h
  unfold State.enqueue
  rw [hstate]
  exact if_neg (by decide)

theorem firstOfClass_none {l : List (Option Port × SwFrame)} (h : ∀ x ∈ l, x.2.cls ≠ c) :
    (l.find? fun x => x.2.cls == c) = none := List.find?_eq_none.mpr fun x hx => by simpa using h x hx

/-- Where no frame of a class waits none leaves. -/
theorem State.sendHead_idle (h : ∀ x ∈ (s.swPort q).waiting, x.2.cls ≠ c) : s.sendHead q c = none := by
  unfold State.sendHead
  dsimp only
  rw [firstOfClass_none h]

theorem drainFuel_idle (h : s.sendHead q c = none) (k : Nat) : drainFuel k s q c = s := by
  cases k with
  | zero => rfl
  | succ k =>
    unfold drainFuel
    rw [h]

/-- s with a frame gone from port q on its credit (12 R371). -/
def State.frameSent (s : State) (q : Port) (f : SwFrame) : State :=
  (s.modPort q fun x => x.withCredit f.cls (x.creditOf f.cls - frameBlocks f)).emit q (.frame f)

/-- The only frame of its class that waits leaves, and its blocks are freed, if its credit is held (12 R371). -/
theorem State.sendHead_putWaiting (hw : ∀ x ∈ (s.swPort q).waiting, x.2.cls ≠ w.2.cls) :
    (s.putWaiting q w).sendHead q w.2.cls =
      if s.portUp q && decide (frameBlocks w.2 ≤ (s.swPort q).creditOf w.2.cls) then
        some ((s.frameSent q w.2).freeBlocks w.1 w.2)
      else none := by
  have hport : (s.putWaiting q w).swPort q =
      { s.swPort q with waiting := (s.swPort q).waiting ++ [w] } := s.swPort_modPort_same ..
  have hfirst : (((s.swPort q).waiting ++ [w]).find? fun x => x.2.cls == w.2.cls) = some w := by
    rw [List.find?_append, firstOfClass_none hw]
    simp
  have herase : ((s.swPort q).waiting ++ [w]).erase w = (s.swPort q).waiting := by
    rw [List.erase_append_right _ fun hmem => hw w hmem rfl, List.erase_cons_head, List.append_nil]
  have hsent : (s.putWaiting q w).modPort q (fun x =>
      { x.withCredit w.2.cls (x.creditOf w.2.cls - frameBlocks w.2) with waiting := x.waiting.erase w }) =
      s.modPort q fun x => x.withCredit w.2.cls (x.creditOf w.2.cls - frameBlocks w.2) := by
    unfold State.putWaiting
    rw [State.modPort_modPort]
    unfold State.modPort
    dsimp only
    rw [herase]
    rfl
  have hup : (s.putWaiting q w).portUp q = s.portUp q := by
    unfold State.portUp
    rw [hport]
  unfold State.sendHead
  rw [hport, hup]
  dsimp only
  rw [hfirst]
  dsimp only
  rw [hsent]
  rfl

/-- The waiting frames of a port after a change of it that leaves them. -/
theorem State.waiting_modPort {g : SwPort → SwPort} (hg : ∀ x, (g x).waiting = x.waiting) (s : State) (q k : Port) :
    ((s.modPort q g).swPort k).waiting = (s.swPort k).waiting := by
  by_cases h : k = q
  · rw [h, State.swPort_modPort_same, hg]
  · rw [State.swPort_modPort_ne _ _ h]

theorem State.frameSent_waiting (s : State) (q k : Port) (f : SwFrame) :
    ((s.frameSent q f).swPort k).waiting = (s.swPort k).waiting :=
  State.waiting_modPort (g := fun x => x.withCredit f.cls (x.creditOf f.cls - frameBlocks f)) (fun _ => rfl) s q k

/-- A frame of which no copy waits returns its blocks to its sender (12 R371, R373). -/
theorem State.freeBlocks_last (hw : ∀ k, ∀ x ∈ (s.swPort k).waiting, x.2.cls ≠ f.cls) :
    s.freeBlocks (some p) f = s.emit p (.credit f.cls (frameBlocks f)) := by
  have hnone : (allPorts.any fun k => (s.swPort k).waiting.contains (some p, f)) = false := by
    rw [List.any_eq_false]
    intro k _ hmem
    rw [List.contains_iff_mem] at hmem
    exact hw k _ hmem rfl
  unfold State.freeBlocks
  rw [hnone]
  rfl

/-! ### Frames for another module (12 R370, R373) -/

theorem State.forwardOn_one (h : s.portUp q = true) :
    s.forwardOn p [q] f = (s.putWaiting q (some p, f)).drain q f.cls := by
  unfold State.forwardOn
  rw [State.each_cons, State.each_nil, State.each_cons, State.each_nil, State.enqueue_up h]
  rfl

theorem drain_putWaiting {v : State} (h : (s.putWaiting q w).sendHead q c = some v) :
    (s.putWaiting q w).drain q c = drainFuel (s.swPort q).waiting.length v q c := by
  have hlen : ((s.putWaiting q w).swPort q).waiting.length = (s.swPort q).waiting.length + 1 := by
    unfold State.putWaiting
    rw [State.swPort_modPort_same, List.length_append, List.length_singleton]
  unfold State.drain
  rw [hlen, drainFuel, h]

/-- With credit held a frame goes on at once and its blocks are returned (12 R371, R373). -/
theorem State.forwardOn_sends (hu : s.portUp q = true) (hw : ∀ k, ∀ x ∈ (s.swPort k).waiting, x.2.cls ≠ f.cls)
    (hc : frameBlocks f ≤ (s.swPort q).creditOf f.cls) :
    s.forwardOn p [q] f = (s.frameSent q f).emit p (.credit f.cls (frameBlocks f)) := by
  have hgone : ∀ k, ∀ x ∈ ((s.frameSent q f).swPort k).waiting, x.2.cls ≠ f.cls := fun k => by
    rw [s.frameSent_waiting]
    exact hw k
  have hhead := State.sendHead_putWaiting (w := (some p, f)) (hw q)
  rw [hu, decide_eq_true hc, State.freeBlocks_last hgone, Bool.and_self, if_pos rfl] at hhead
  rw [State.forwardOn_one hu, drain_putWaiting hhead]
  exact drainFuel_idle (s := (s.frameSent q f).emit p (.credit f.cls (frameBlocks f)))
    (State.sendHead_idle (hgone q)) _

/-- Without credit it waits, and its blocks are not returned (12 R371, R373). -/
theorem State.forwardOn_waits (hu : s.portUp q = true) (hw : ∀ x ∈ (s.swPort q).waiting, x.2.cls ≠ f.cls)
    (hc : (s.swPort q).creditOf f.cls < frameBlocks f) : s.forwardOn p [q] f = s.putWaiting q (some p, f) := by
  have hhead := State.sendHead_putWaiting (w := (some p, f)) hw
  rw [hu, decide_eq_false (Nat.not_le.mpr hc), Bool.and_false, if_neg (by decide)] at hhead
  rw [State.forwardOn_one hu]
  exact drainFuel_idle hhead _

theorem exec_swarmFrameForward (hp : s.portOn p = true) (hk : kindFits f.kind.toNat f.cls = true)
    (hb : f.bcast = false) (hd : f.dst ≠ s.ownAddr) (hr : s.forwardPort f.dst = some q) :
    exec (.swarmFrameForward p f) s = .next (s.forwardOn p [q] { f with hops := f.hops + 1 }) := by
  show execSwarmFrameForward p f s = _
  unfold execSwarmFrameForward
  simp only [hp, hk, hb, if_neg hd, hr, Bool.not_true, Bool.false_eq_true, if_false]

section
variable (hp : s.portOn p = true) (hk : kindFits f.kind.toNat f.cls = true) (hb : f.bcast = false)
  (hd : f.dst ≠ s.ownAddr) (hr : s.forwardPort f.dst = some q) (hu : s.portUp q = true)
include hp hk hb hd hr hu

theorem swarmFrameForward_sends (hw : ∀ k, ∀ x ∈ (s.swPort k).waiting, x.2.cls ≠ f.cls)
    (hc : frameBlocks f ≤ (s.swPort q).creditOf f.cls) :
    ∃ t, exec (.swarmFrameForward p f) s = .next t ∧
      t.sw.out = s.sw.out ++ [(q, .frame { f with hops := f.hops + 1 }), (p, .credit f.cls (frameBlocks f))] ∧
      (t.swPort q).creditOf f.cls = (s.swPort q).creditOf f.cls - frameBlocks f ∧ t.ch = s.ch ∧ t.ev = s.ev := by
  set g : SwFrame := { f with hops := f.hops + 1 }
  have hexec := exec_swarmFrameForward hp hk hb hd hr
  rw [State.forwardOn_sends (f := g) hu hw hc] at hexec
  have hport : ((s.frameSent q g).emit p (.credit g.cls (frameBlocks g))).swPort q =
      (s.swPort q).withCredit g.cls ((s.swPort q).creditOf g.cls - frameBlocks g) :=
    s.swPort_modPort_same q fun x => x.withCredit g.cls (x.creditOf g.cls - frameBlocks g)
  refine ⟨_, hexec, List.append_assoc s.sw.out [(q, .frame g)] _, ?_, rfl, rfl⟩
  rw [hport]
  exact SwPort.creditOf_withCredit ..

theorem swarmFrameForward_waits (hw : ∀ x ∈ (s.swPort q).waiting, x.2.cls ≠ f.cls)
    (hc : (s.swPort q).creditOf f.cls < frameBlocks f) :
    ∃ t, exec (.swarmFrameForward p f) s = .next t ∧ t.sw.out = s.sw.out ∧
      (t.swPort q).waiting = (s.swPort q).waiting ++ [(some p, { f with hops := f.hops + 1 })] ∧
      t.ch = s.ch ∧ t.ev = s.ev := by
  set g : SwFrame := { f with hops := f.hops + 1 }
  have hexec := exec_swarmFrameForward hp hk hb hd hr
  rw [State.forwardOn_waits (f := g) hu hw hc] at hexec
  refine ⟨_, hexec, rfl, ?_, rfl, rfl⟩
  unfold State.putWaiting
  rw [State.swPort_modPort_same]

end

/-! ### Frames that are discarded (12 R368) -/

/-- A discard counts on its port; the 16th within 1 ms is told besides (12 R368). -/
theorem State.discardFrame_logs (s : State) (p : Port) :
    ∃ l, (s.modPort p fun x => { x with errs := satInc x.errs, errTimes := l }).logsOver (s.discardFrame p) := by
  unfold State.discardFrame
  extract_lets x times burst v
  refine ⟨if burst then [] else times, ?_⟩
  change State.logsOver v (if burst then v.raisePort p 4 else v)
  split
  · exact raise_logs ..
  · exact logsOver_refl _

/-- What a discard leaves of the swarm (12 R368). -/
theorem State.discardFrame_spec (s : State) (p : Port) :
    ((s.discardFrame p).swPort p).errs = satInc (s.swPort p).errs ∧ (s.discardFrame p).sw.out = s.sw.out ∧
    (s.discardFrame p).sw.segs = s.sw.segs ∧ (s.discardFrame p).ch = s.ch := by
  obtain ⟨l, hlogs⟩ := s.discardFrame_logs p
  have hsw := hlogs.sw
  have herrs := congrArg SwPort.errs (s.swPort_modPort_same p fun x => { x with errs := satInc x.errs, errTimes := l })
  refine ⟨?_, (congrArg Swarm.out hsw :), (congrArg Swarm.segs hsw :), hlogs.ch⟩
  unfold State.swPort at herrs ⊢
  rw [hsw]
  exact herrs

/-- s without the segments of a message, which is lost (12 R369). -/
def State.loseMsg (s : State) (m : SwClass × Addr × BitVec 8) : State :=
  { s with
    sw.segs := s.sw.segs.filter fun x => (x.cls, x.src, x.tag) != m
    sw.lostMsgs := s.sw.lostMsgs.filter (fun x => x != m) ++ [m] }

theorem State.loseMsg_spec (s : State) (m : SwClass × Addr × BitVec 8) (p : Port) :
    (s.loseMsg m).swPort p = s.swPort p ∧ m ∈ (s.loseMsg m).sw.lostMsgs ∧
    (∀ x ∈ (s.loseMsg m).sw.segs, (x.cls, x.src, x.tag) ≠ m) ∧ (s.loseMsg m).ch = s.ch :=
  ⟨rfl, List.mem_append_right _ List.mem_cons_self, fun _ hx => by simpa using (List.mem_filter.mp hx).2, rfl⟩

theorem exec_swarmFrameDiscard_none (hp : s.portOn p = true) :
    exec (.swarmFrameDiscard p none) s = .next (s.discardFrame p) := by
  show execSwarmFrameDiscard p none s = _
  unfold execSwarmFrameDiscard
  rw [hp]
  rfl

theorem exec_swarmFrameDiscard_some (hp : s.portOn p = true) (m : SwClass × Addr × BitVec 8) :
    exec (.swarmFrameDiscard p (some m)) s = .next ((s.discardFrame p).loseMsg m) := by
  show execSwarmFrameDiscard p (some m) s = _
  unfold execSwarmFrameDiscard
  rw [hp]
  rfl

/-! ### Segments (12 R369) -/

/-- s with a segment that is for this module: its blocks are returned (12 R371). -/
def State.segmentIn (s : State) (p : Port) (c : SwClass) (src : Addr) (len : Nat) : State :=
  (s.swarmIn (src == 0) true).emit p (.credit c (blocksOf len))

theorem State.swarmIn_sw (s : State) (root addressed : Bool) :
    ∃ b, (s.swarmIn root addressed).sw = { s.sw with heartbeatDue := b } := by
  have hserved : ∃ b, (if s.isNode && s.hostUp && root then s.serveHs else s).sw =
      { s.sw with heartbeatDue := b } := by
    split
    · exact ⟨_, rfl⟩
    · exact ⟨s.sw.heartbeatDue, rfl⟩
  have hwoken (v : State) : (if addressed && v.hostUp then v.wake else v).sw = v.sw := by
    unfold State.wake
    split
    · split <;> rfl
    · rfl
  obtain ⟨b, hb⟩ := hserved
  exact ⟨b, (hwoken _).trans hb⟩

/-- A segment that comes changes neither what is held nor the channels and the events. -/
theorem State.segmentIn_spec (s : State) (p : Port) (c : SwClass) (src : Addr) (len : Nat) :
    (s.segmentIn p c src len).sw.segs = s.sw.segs ∧ (s.segmentIn p c src len).sw.lostMsgs = s.sw.lostMsgs ∧
    (s.segmentIn p c src len).sw.out = s.sw.out ++ [(p, .credit c (blocksOf len))] ∧
    (s.segmentIn p c src len).ch = s.ch ∧ (s.segmentIn p c src len).ev = s.ev := by
  obtain ⟨b, hsw⟩ := s.swarmIn_sw (src == 0) true
  have hears := s.hears_swarmIn (src == 0) true
  exact ⟨(congrArg Swarm.segs hsw :), (congrArg Swarm.lostMsgs hsw :),
    (congrArg (fun x : Swarm => x.out ++ [(p, SwOut.credit c (blocksOf len))]) hsw :),
    hears.get (·.ch), hears.get (·.ev)⟩

theorem State.dropSwSegs_none {g : SwSeg → Bool} (h : ∀ x ∈ s.sw.segs, g x = false) (p : Port) :
    s.dropSwSegs p g = s := by
  have hnone : s.sw.segs.any g = false := List.any_eq_false.mpr fun x hx => by simp [h x hx]
  unfold State.dropSwSegs
  rw [hnone]
  rfl

/-- Whether a held segment is of a message. -/
def SwSeg.isOf (x : SwSeg) (c : SwClass) (src : Addr) (tag : BitVec 8) : Bool :=
  x.src == src && x.cls == c && x.tag == tag

/-- The segments held of a message with one more joined (12 R369). -/
def Swarm.joined (w : Swarm) (p : Port) (c : SwClass) (src : Addr) (tag : BitVec 8) (ws : List Word) (now : Nat) :
    SwSeg :=
  let old := w.segs.find? fun x => x.isOf c src tag
  { port := p, cls := c, src := src, tag := tag, words := ((old.map (·.words)).getD []) ++ ws
    opened := (old.map (·.opened)).getD now }

/-- s with the segments of a message held, and no other lost message of its sender and class (12 R369). -/
def State.holdMsg (s : State) (m : SwSeg) : State :=
  { s with
    sw.segs := s.sw.segs.filter (fun x => !x.isOf m.cls m.src m.tag) ++ [m]
    sw.lostMsgs := s.sw.lostMsgs.filter fun x => !(x.1 == m.cls && x.2.1 == m.src && x.2.2 != m.tag) }

section
variable (hp : s.portOn p = true) (hone : ∀ x ∈ s.sw.segs, x.src = src → x.cls = c → x.tag = tag)
include hone

/-- No message of the sender and the class but that of the segment is held (12 R369). -/
theorem State.segmentIn_keeps (len : Nat) : (s.segmentIn p c src len).dropSwSegs p
    (fun x => x.src == src && x.cls == c && x.tag != tag) = s.segmentIn p c src len := by
  refine State.dropSwSegs_none (fun x hx => ?_) p
  rw [(s.segmentIn_spec p c src len).1] at hx
  have htag := hone x hx
  by_cases hs : x.src = src
  · by_cases hc : x.cls = c
    · simp [htag hs hc]
    · simp [hc]
  · simp [hs]

include hp

/-- A segment of a lost message is discarded, and what is held stays (12 R369). -/
theorem exec_swarmSegmentReceived_lost (hl : (c, src, tag) ∈ s.sw.lostMsgs) :
    exec (.swarmSegmentReceived p c src tag ws) s = .next (s.segmentIn p c src ws.length) := by
  have hcontains : (s.segmentIn p c src ws.length).sw.lostMsgs.contains (c, src, tag) = true := by
    rw [(s.segmentIn_spec p c src ws.length).2.1, List.contains_iff_mem]
    exact hl
  show execSwarmSegmentReceived p c src tag ws s = _
  unfold execSwarmSegmentReceived
  rw [hp, Bool.not_true, if_neg (by decide)]
  extract_lets s0 s1
  have hkept : s1 = s.segmentIn p c src ws.length := State.segmentIn_keeps hone ws.length
  rw [hkept]
  exact if_pos hcontains

/-- A segment of a message of which none is lost joins those held (12 R369). -/
theorem exec_swarmSegmentReceived_joins (hl : ∀ x ∈ s.sw.lostMsgs, x.2.1 ≠ src)
    (hlen : (s.sw.joined p c src tag ws s.time).words.length ≤ 4096) :
    exec (.swarmSegmentReceived p c src tag ws) s =
      .next ((s.segmentIn p c src ws.length).holdMsg (s.sw.joined p c src tag ws s.time)) := by
  obtain ⟨hsegs, hlost, -⟩ := s.segmentIn_spec p c src ws.length
  have hjoined : (s.segmentIn p c src ws.length).sw.joined p c src tag ws s.time =
      s.sw.joined p c src tag ws s.time := by
    unfold Swarm.joined
    rw [hsegs]
  have hcontains : ¬(s.segmentIn p c src ws.length).sw.lostMsgs.contains (c, src, tag) = true := by
    rw [hlost, List.contains_iff_mem]
    exact fun hmem => hl _ hmem rfl
  show execSwarmSegmentReceived p c src tag ws s = _
  unfold execSwarmSegmentReceived
  rw [hp, Bool.not_true, if_neg (by decide)]
  extract_lets s0 s1 same old m
  have hkept : s1 = s.segmentIn p c src ws.length := State.segmentIn_keeps hone ws.length
  have hm : s1.sw.joined p c src tag ws s.time = s.sw.joined p c src tag ws s.time := by rw [hkept, hjoined]
  have hshort : ¬4096 < m.words.length := by
    change ¬4096 < (s1.sw.joined p c src tag ws s.time).words.length
    rw [hm]
    exact Nat.not_lt.mpr hlen
  refine (if_neg (hkept ▸ hcontains)).trans ((if_neg hshort).trans ?_)
  change Host.Outcome.next (s1.holdMsg (s1.sw.joined p c src tag ws s.time)) = _
  rw [hm, hkept]

theorem swarmSegmentReceived_joins (hl : ∀ x ∈ s.sw.lostMsgs, x.2.1 ≠ src)
    (hlen : (s.sw.joined p c src tag ws s.time).words.length ≤ 4096) :
    ∃ t, exec (.swarmSegmentReceived p c src tag ws) s = .next t ∧ t.ch = s.ch ∧ t.ev = s.ev ∧
      t.sw.segs = s.sw.segs.filter (fun x => !x.isOf c src tag) ++ [s.sw.joined p c src tag ws s.time] ∧
      t.sw.out = s.sw.out ++ [(p, .credit c (blocksOf ws.length))] ∧ t.sw.lostMsgs = s.sw.lostMsgs := by
  obtain ⟨hsegs, hlost, hout, hch, hev⟩ := s.segmentIn_spec p c src ws.length
  refine ⟨_, exec_swarmSegmentReceived_joins hp hone hl hlen, hch, hev, ?_, hout, ?_⟩
  · show (s.segmentIn p c src ws.length).sw.segs.filter (fun x => !x.isOf c src tag) ++ [_] = _
    rw [hsegs]
  · show (s.segmentIn p c src ws.length).sw.lostMsgs.filter
      (fun x => !(x.1 == c && x.2.1 == src && x.2.2 != tag)) = _
    rw [hlost]
    exact List.filter_eq_self.mpr fun x hx => by simp [hl x hx]

end

/-- The first segment of a message. -/
theorem Swarm.joined_first (h : ∀ x ∈ s.sw.segs, x.src ≠ src) (now : Nat) :
    s.sw.segs.filter (fun x => !x.isOf c src tag) = s.sw.segs ∧ s.sw.joined p c src tag ws now =
      { port := p, cls := c, src := src, tag := tag, words := ws, opened := now } := by
  have hother (x : SwSeg) (hx : x ∈ s.sw.segs) : x.isOf c src tag = false := by simp [SwSeg.isOf, h x hx]
  have hnone : (s.sw.segs.find? fun x => x.isOf c src tag) = none :=
    List.find?_eq_none.mpr fun x hx => by simp [hother x hx]
  refine ⟨List.filter_eq_self.mpr fun x hx => by simp [hother x hx], ?_⟩
  unfold Swarm.joined
  rw [hnone]
  rfl

/-- A further segment of the one message held. -/
theorem Swarm.joined_next {h : SwSeg} (hh : s.sw.segs = [h]) (hof : h.isOf c src tag = true) (now : Nat) :
    s.sw.segs.filter (fun x => !x.isOf c src tag) = [] ∧ s.sw.joined p c src tag ws now =
      { port := p, cls := c, src := src, tag := tag, words := h.words ++ ws, opened := h.opened } := by
  have hfind : (s.sw.segs.find? fun x => x.isOf c src tag) = some h := by simp [hh, hof]
  refine ⟨by simp [hh, hof], ?_⟩
  unfold Swarm.joined
  rw [hfind]
  rfl

/-- A message whose time is over is discarded, counted and lost (12 R369). -/
theorem swarmSegmentTimeout_drops {h : SwSeg} (hp : s.portOn p = true) (hh : s.sw.segs = [h]) (hport : h.port = p)
    (hof : h.isOf c src tag = true) (hd : h.opened + 10 * milli ≤ s.time) :
    ∃ t, exec (.swarmSegmentTimeout p c src tag) s = .next t ∧ t.sw.segs = [] ∧
      (t.swPort p).errs = satInc (s.swPort p).errs ∧ (c, src, tag) ∈ t.sw.lostMsgs ∧ t.ch = s.ch ∧
      t.ev = s.ev := by
  set late : SwSeg → Bool := fun x => x.port == p && x.src == src && x.cls == c && x.tag == tag &&
    decide (x.opened + 10 * milli ≤ s.time) with hlate
  have hover : late h = true := by
    unfold SwSeg.isOf at hof
    simp only [Bool.and_eq_true, beq_iff_eq] at hof
    obtain ⟨⟨hsrc, hcls⟩, htag⟩ := hof
    simp [hlate, hport, hsrc, hcls, htag, hd]
  have hany : s.sw.segs.any late = true := by simp [hh, hover]
  have hexec : exec (.swarmSegmentTimeout p c src tag) s =
      .next { s.dropSwSegs p late with sw.lostMsgs := s.sw.lostMsgs ++ [(c, src, tag)] } := by
    show execSwarmSegmentTimeout p c src tag s = _
    unfold execSwarmSegmentTimeout
    extract_lets overdue
    rw [hp, Bool.true_and]
    exact if_pos hany
  have hdrop : s.dropSwSegs p late = { s.modPort p fun x => { x with errs := satInc x.errs } with
      sw.segs := s.sw.segs.filter fun x => !late x } := if_pos hany
  have hgone : s.sw.segs.filter (fun x => !late x) = [] := by simp [hh, hover]
  rw [hdrop, hgone] at hexec
  exact ⟨_, hexec, rfl, congrArg SwPort.errs (s.swPort_modPort_same p fun x => { x with errs := satInc x.errs }),
    List.mem_append_right _ List.mem_cons_self, rfl, rfl⟩

/-! ### Records of a peer (09 R288, R304) -/

theorem State.recordSpecial_enters (hu : s.hostUp = true) (hs : s.rcd.stopped = false) (hl : s.rcd.intake.length < 255)
    (k : Byte) (a b : BitVec 16) (x y z : Word) : s.recordSpecial k a b x y z =
      { s with rcd := { s.rcd with intake := s.rcd.intake ++ [s.intakeOf k a b x y z] } } := by
  unfold State.recordSpecial
  rw [if_pos hu, Recorder.put_of_room hs hl]

/-- The two records of a peer's record (09 R288, R304). -/
def State.peerStored (s : State) (src : Addr) (r : Record) : State :=
  State.recordSpecial (s.recordSpecial 0xF6 r.code (src.setWidth 16) r.index r.opsec
    (pk [(r.pcycle.toNat, 0), (r.source.toNat, 24)])) 0xF7 r.subject (src.setWidth 16) r.p0 r.p1 r.p2

theorem State.peerStored_eq (hu : s.hostUp = true) (hs : s.rcd.stopped = false) (hl : s.rcd.intake.length < 254)
    (r : Record) : s.peerStored src r = { s with rcd := { s.rcd with intake := s.rcd.intake ++
      [s.intakeOf 0xF6 r.code (src.setWidth 16) r.index r.opsec (pk [(r.pcycle.toNat, 0), (r.source.toNat, 24)]),
       s.intakeOf 0xF7 r.subject (src.setWidth 16) r.p0 r.p1 r.p2] } } := by
  set e := s.intakeOf 0xF6 r.code (src.setWidth 16) r.index r.opsec (pk [(r.pcycle.toNat, 0), (r.source.toNat, 24)])
  have hroom : (s.rcd.intake ++ [e]).length < 255 := by
    rw [List.length_append, List.length_singleton]
    omega
  have hsecond := State.recordSpecial_enters (s := { s with rcd := { s.rcd with intake := s.rcd.intake ++ [e] } }) hu hs
    hroom 0xF7 r.subject (src.setWidth 16) r.p0 r.p1 r.p2
  unfold State.peerStored
  rw [State.recordSpecial_enters hu hs (by omega), hsecond]
  dsimp only
  rw [List.append_assoc]
  rfl

section
variable {r : Record} (hc : s.swarmCore = true) (hl : ∀ x ∈ s.sw.lostMsgs, x.2.1 ≠ src)
  (hu : u = s.messageIn (src == 0) [.bulk] src tag 7)
include hc hl hu

theorem exec_foreignReceived : exec (.foreignReceived src tag r) s =
    if !u.feat 9 || u.recHealth == 2 || u.rcd.full then
      .next (u.sendMsg .control 3 false src tag (revackWords 0))
    else .next ((u.peerStored src r).sendMsg .control 3 false src tag (revackWords 1)) := by
  have hcore : u.swarmCore = true := by rw [hu, (s.hears_messageIn ..).swarmCore, hc]
  show execForeignReceived src tag r s = _
  unfold execForeignReceived
  rw [State.swarmOn_of_core hc, State.message_whole hl, ← hu]
  dsimp only
  rw [hcore]
  rfl

end

/-- A peer that records puts the two records in its intake (09 R304). -/
theorem foreignReceived_stores {r : Record} (hc : s.swarmCore = true) (hl : ∀ x ∈ s.sw.lostMsgs, x.2.1 ≠ src)
    (h9 : s.feat 9 = true) (hh : s.recHealth ≠ 2) (hf : s.rcd.full = false) (hs : s.rcd.stopped = false)
    (hn : s.rcd.intake.length < 254) : ∃ t, exec (.foreignReceived src tag r) s = .next t ∧
      t.rcd.intake.map (fun e => (e.source, e.code, e.p0)) =
        s.rcd.intake.map (fun e => (e.source, e.code, e.p0)) ++ [(0xF6, r.code, r.index), (0xF7, r.subject, r.p0)] ∧
      t.ch = s.ch ∧ t.ev = s.ev := by
  obtain ⟨u, hu⟩ : ∃ u, u = s.messageIn (src == 0) [.bulk] src tag 7 := ⟨_, rfl⟩
  have hears : s.hears u := hu ▸ s.hears_messageIn ..
  have hrcd : u.rcd = s.rcd := hears.get (·.rcd)
  have hfeat : u.feat 9 = true := (hears.get (·.feat 9)).trans h9
  have hhealth : u.recHealth ≠ 2 := fun h => hh ((hears.get (·.recHealth)).symm.trans h)
  have hup : u.hostUp = true := hears.hostUp.trans (State.hostUp_of_core hc)
  have hstored := State.peerStored_eq (src := src) hup (by rw [hrcd]; exact hs) (by rw [hrcd]; exact hn) r
  have hexec := exec_foreignReceived (r := r) hc hl hu
  rw [if_neg (by simp [hfeat, hhealth, hrcd, hf]), hstored] at hexec
  have hsent := State.sendMsg_unsent { u with rcd := { u.rcd with intake := u.rcd.intake ++
    [u.intakeOf 0xF6 r.code (src.setWidth 16) r.index r.opsec (pk [(r.pcycle.toNat, 0), (r.source.toNat, 24)]),
     u.intakeOf 0xF7 r.subject (src.setWidth 16) r.p0 r.p1 r.p2] } } .control 3 false src tag (revackWords 1)
  have hintake := congrArg (·.rcd.intake) hsent
  refine ⟨_, hexec, ?_, (congrArg (·.ch) hsent).trans (hears.get (·.ch)),
    (congrArg (·.ev) hsent).trans (hears.get (·.ev))⟩
  refine (congrArg (List.map fun e : Intake => (e.source, e.code, e.p0)) hintake).trans ?_
  show (u.rcd.intake ++ [_, _]).map _ = _
  rw [hrcd, List.map_append]
  rfl

/-- A peer without the feature keeps its recorder (09 R304). -/
theorem foreignReceived_refuses {r : Record} (hc : s.swarmCore = true) (hl : ∀ x ∈ s.sw.lostMsgs, x.2.1 ≠ src)
    (h9 : s.feat 9 = false) : ∃ t, exec (.foreignReceived src tag r) s = .next t ∧ t.rcd = s.rcd ∧ t.ch = s.ch ∧
      t.ev = s.ev := by
  obtain ⟨u, hu⟩ : ∃ u, u = s.messageIn (src == 0) [.bulk] src tag 7 := ⟨_, rfl⟩
  have hears : s.hears u := hu ▸ s.hears_messageIn ..
  have hfeat : u.feat 9 = false := (hears.get (·.feat 9)).trans h9
  have hexec := exec_foreignReceived (r := r) hc hl hu
  rw [if_pos (by simp [hfeat])] at hexec
  have hsent := u.sendMsg_unsent .control 3 false src tag (revackWords 0)
  exact ⟨_, hexec, (congrArg (·.rcd) hsent).trans (hears.get (·.rcd)),
    (congrArg (·.ch) hsent).trans (hears.get (·.ch)), (congrArg (·.ev) hsent).trans (hears.get (·.ev))⟩

end
end Sys2Proof.Machine
end

section
/-! ## Ordered sets and the swarm time (12 R367, R371, R372, R383, R384, R389) -/

namespace Sys2Proof.Machine

section
variable {s t u v : State} {p q : Port} {c : SwClass} {d : Int} {k : Fin 128}

/-! ### Ordered sets (12 R367, R371, R383) -/

theorem exec_linkSetReceived_trains (hp : s.portOn p = true) (hd : (s.swPort p).state = 1) (b : Byte) :
    exec (.linkSetReceived p b) s = .next (s.modPort p fun x => { x with state := 2 }) := by
  show execLinkSetReceived p b s = _
  unfold execLinkSetReceived
  exact if_pos (by rw [hp, hd]; decide)

theorem exec_linkSetSend (hp : s.portOn p = true) : exec (.linkSetSend p) s = .next (s.emit p (.link (BitVec.ofNat 8
    (s.port.strap1.toNat * 64 + (s.swPort p).state.toNat % 4 * 16 + p.val)))) := if_pos hp

theorem exec_pdReqReceived (hp : s.portOn p = true) (seq : Byte) (ta : BitVec 24) :
    exec (.pdReqReceived p seq ta) s = .next (s.emit p (.pdRsp seq ta)) := if_pos hp

/-- With no command that waits for its frame to leave none is answered. -/
theorem State.settleLeft_none (h : s.sw.leaving = []) : s.settleLeft = s := by
  have hsame : ({ s with sw := { s.sw with leaving := [] } } : State) = s := by rw [← h]
  unfold State.settleLeft
  rw [h]
  exact hsame

section
variable (hon : s.swarmOn = true) (hp : s.portUp p = true)
include hon hp

/-- Credit adds up to the blocks of the class (12 R371). -/
theorem exec_creditSetReceived (hw : (s.swPort p).waiting = []) (hl : s.sw.leaving = []) (n : Nat) :
    exec (.creditSetReceived p c n) s = .next (s.modPort p fun x =>
      x.withCredit c (min (fullCredit[swClassCode c]'(classLt c)) (x.creditOf c + n))) := by
  set v := s.modPort p fun x => x.withCredit c (min (fullCredit[swClassCode c]'(classLt c)) (x.creditOf c + n)) with hv
  have hidle : v.drain p c = v := by
    have hwaits : (v.swPort p).waiting = [] := by
      rw [hv, State.swPort_modPort_same]
      exact hw
    unfold State.drain
    rw [hwaits]
    rfl
  have hexec : exec (.creditSetReceived p c n) s = .next ((v.drain p c).settleLeft) := by
    show execCreditSetReceived p c n s = _
    unfold execCreditSetReceived
    rw [hon, hp]
    rfl
  rw [hexec, hidle, State.settleLeft_none (s := v) hl]

theorem exec_pdReqSend : exec (.pdReqSend p) s = .next ((s.modPort p fun x =>
    { x with pdSeq := (s.swPort p).pdSeq + 1 }).emit p (.pdReq ((s.swPort p).pdSeq + 1))) := by
  show execPdReqSend p s = _
  unfold execPdReqSend
  rw [hon, hp]
  rfl

theorem pdReqSend_sends : ∃ t, exec (.pdReqSend p) s = .next t ∧ (t.swPort p).pdSeq = (s.swPort p).pdSeq + 1 ∧
    t.sw.out = s.sw.out ++ [(p, .pdReq ((s.swPort p).pdSeq + 1))] ∧ t.ch = s.ch := by
  refine ⟨_, exec_pdReqSend hon hp, ?_, rfl, rfl⟩
  exact congrArg SwPort.pdSeq (s.swPort_modPort_same p fun x => { x with pdSeq := (s.swPort p).pdSeq + 1 })

theorem exec_pdRspReceived (ta rt : Nat) : exec (.pdRspReceived p (s.swPort p).pdSeq ta rt) s =
    .next (s.modPort p fun x => { x with delay := BitVec.ofNat 16 ((rt - ta) / 2) }) := by
  show execPdRspReceived p (s.swPort p).pdSeq ta rt s = _
  unfold execPdRspReceived
  rw [hon, hp, beq_self_eq_true]
  rfl

theorem exec_syncSend (hd : (s.swPort p).use = 2) :
    exec (.syncSend p) s = .next (s.emit p (.sync (BitVec.ofInt 48 s.timeQuarters))) := by
  show execSyncSend p s = _
  unfold execSyncSend
  rw [hon, hp, hd]
  rfl

/-- A frame that waits for its credit too long is told (12 R372, R389). -/
theorem exec_creditStarvation {w : Option Port × SwFrame} (hw : w ∈ (s.swPort p).waiting) (hc : w.2.cls = c) :
    exec (.creditStarvation p c) s = .next (s.raise 101 p.val (swClassCode c + 1) (s.swPortW p) 0 0) := by
  have hany : ((s.swPort p).waiting.any fun x => x.2.cls == c) = true :=
    List.any_eq_true.mpr ⟨w, hw, by simp [hc]⟩
  show execCreditStarvation p c s = _
  unfold execCreditStarvation
  rw [hon, hp, hany]
  rfl

end

/-! ### A comb that resumes (07 R249) -/

/-- The swarm part and an event source. -/
def State.linkView (k : Fin 128) (s : State) : Swarm × EvState := (s.sw, s.ev.src[k.val])

theorem linkView_of_bare (hb : t.bare = s.bare) (hv : t.view k = s.view k) : t.linkView k = s.linkView k :=
  congrArg₂ Prod.mk (show t.bare.sw = s.bare.sw by rw [hb]) (view_src hv)

/-- A comb that resumes leaves the swarm, and tells no event but those of the results' partitions (07 R249). -/
theorem State.resume_linkView (hk : noQueueSource k) (s : State) : s.resume.linkView k = s.linkView k := by
  have hmove (v old : State) : (v.afterMove old).linkView k = v.linkView k := by
    unfold State.afterMove
    split
    · rfl
    · refine (linkView_of_bare (State.wrapMarker_bare _) (State.wrapMarker_view hk _)).trans ?_
      unfold State.countGen
      split <;> rfl
  have hmark (v : State) (n : Nat) : (v.tbEvent n).linkView k = v.linkView k :=
    linkView_of_bare (State.putMarker_bare ..) (State.tbEvent_view hk v n)
  unfold State.resume
  split
  case h_1 => rfl
  case h_2 cb _ =>
    extract_lets jump y v w
    refine (hmark ..).trans ((hmove ..).trans ?_)
    refine State.each_keeps (State.linkView k) (fun x g => ?_) allGrp v
    split
    · rfl
    split
    · rfl
    split <;> rfl

/-! ### The swarm time of a node (12 R383, R384) -/

/-- s with an offset measured, to be slewed out (12 R383). -/
def State.measured (s : State) (d : Int) (good : Nat) : State :=
  { s with sw := { s.sw with offset := BitVec.ofInt 24 d, slew := 5 * d, lastSync := s.time, goodSyncs := good } }

/-- SYNCED that clears is counted and told (12 R384). -/
theorem State.loseSync_spec (hs : s.sw.synced = true) : s.loseSync.sw =
      { s.sw with synced := false, goodSyncs := 0, losses := satInc s.sw.losses, lostAt := s.time } ∧
    (s.hostUp = true → s.loseSync.pendingWith 100 1) := by
  set v : State := { s with sw := { s.sw with
    synced := false, goodSyncs := 0, losses := satInc s.sw.losses, lostAt := s.time } } with hv
  have heq : s.loseSync = v.raiseSync 1 := if_neg (by rw [hs]; decide)
  rw [heq]
  exact ⟨(raise_logs v 100 0 1 v.swSyncW v.swTrigW 0).sw,
    fun hu => raise_pending v 100 0 1 v.swSyncW v.swTrigW 0 hu (by decide)⟩

/-- s with SYNCED set and told; a comb on TB3 that stalled resumes (12 R384, 07 R249). -/
def State.gainSync (s : State) : State :=
  let v := State.raiseSync { s with sw := { s.sw with synced := true } } 2
  if v.onTb3 && v.combLive && (v.comb.cond == .stalled || v.comb.cond == .fallback) then v.resume else v

theorem State.gainSync_spec (s : State) : s.gainSync.sw = { s.sw with synced := true } ∧
    (s.hostUp = true → s.gainSync.pendingWith 100 2) := by
  set v : State := { s with sw := { s.sw with synced := true } } with hv
  have hview : s.gainSync.linkView 100 = (v.raiseSync 2).linkView 100 := by
    unfold State.gainSync
    dsimp only
    split
    · exact State.resume_linkView ⟨by decide, by decide⟩ _
    · rfl
  have hsw : (v.raiseSync 2).sw = v.sw := (raise_logs v 100 0 2 v.swSyncW v.swTrigW 0).sw
  have hsrc : s.gainSync.ev.src[(100 : Fin 128).val] = (v.raiseSync 2).ev.src[(100 : Fin 128).val] :=
    congrArg Prod.snd hview
  refine ⟨(congrArg Prod.fst hview).trans hsw, fun hu => State.pendingWith_congr hsrc ?_⟩
  exact raise_pending v 100 0 2 v.swSyncW v.swTrigW 0 hu (by decide)

section
variable (hn : s.isNode = true) (hon : s.swarmOn = true) (hup : s.upstream = some p) (hp : s.portUp p = true)
  {sent : BitVec 48} {sub : Nat} (hd : d = s.syncOffset p sent sub)
include hn hon hup hp hd

/-- What a SYNC on the upstream port does by its offset (12 R383, R384). -/
theorem exec_syncReceived : exec (.syncReceived p sent sub) s = .next (
    if 4000 < d.natAbs then (s.measured d 0).loseSync
    else if d.natAbs ≤ 400 then
      if 3 ≤ s.sw.goodSyncs + 1 && !s.sw.synced then (s.measured d (min (s.sw.goodSyncs + 1) 3)).gainSync
      else s.measured d (min (s.sw.goodSyncs + 1) 3)
    else s.measured d 0) := by
  have hgo : ¬(!s.isNode || !s.swarmOn || s.upstream != some p || !s.portUp p) = true := by simp [hn, hon, hup, hp]
  show execSyncReceived p sent sub s = _
  unfold execSyncReceived
  rw [if_neg hgo, ← hd]
  dsimp only
  split
  · rfl
  split
  · split <;> rfl
  · rfl

end

theorem exec_syncLost {silent : Bool} (hn : s.isNode = true) (hon : s.swarmOn = true)
    (ht : silent = true → s.sw.lastSync + 10 * milli ≤ s.time)
    (ho : silent = false → 4000 < s.sw.offset.toInt.natAbs) : exec (.syncLost silent) s =
      .next (State.loseSync { s with sw := { s.sw with goodSyncs := 0 } }) := by
  have hover : (if silent then decide (s.sw.lastSync + 10 * milli ≤ s.time)
      else decide (4000 < s.sw.offset.toInt.natAbs)) = true := by
    cases silent with
    | true => exact (if_pos rfl).trans (decide_eq_true (ht rfl))
    | false => exact (if_neg (by decide)).trans (decide_eq_true (ho rfl))
  show execSyncLost silent s = _
  unfold execSyncLost
  rw [hn, hon, hover]
  rfl

end
end Sys2Proof.Machine

open Sys2Proof Sys2Proof.Machine

/-- Settles O56: frames by the one frame of its class that waits, segments by those held of their message, and the
swarm time by the offset of a SYNC. -/
theorem swarmFrames : Obligations.SwarmFrames := by
  unfold Obligations.SwarmFrames
  refine ⟨?forward, ?port, ?peer, ?up, ?silence, ?starvation⟩
  case forward =>
    intro s p q f hp hk hb hd hr hu hw
    exact ⟨swarmFrameForward_sends hp hk hb hd hr hu hw, swarmFrameForward_waits hp hk hb hd hr hu (hw q)⟩
  case port =>
    intro s p hp
    obtain ⟨herrs, hout, hsegs, hch⟩ := s.discardFrame_spec p
    refine ⟨⟨_, exec_swarmFrameDiscard_none hp, herrs, hout, hsegs, hch⟩, fun c src tag ws => ⟨?_, ?_, ?_, ?_⟩,
      fun hd b => exec_linkSetReceived_trains hp hd b, exec_linkSetSend hp,
      fun seq ta => exec_pdReqReceived hp seq ta⟩
    · obtain ⟨hport, hlost, hgone, hkept⟩ := (s.discardFrame p).loseMsg_spec (c, src, tag) p
      exact ⟨_, exec_swarmFrameDiscard_some hp _, by rw [hport, herrs], hlost, hgone, hkept.trans hch⟩
    · intro hnone hlen
      have hone : ∀ x ∈ s.sw.segs, x.src = src → x.cls = c → x.tag = tag := fun x hx h => absurd h (hnone x hx)
      refine ⟨fun hl => ?_, fun hl => ?_⟩
      · obtain ⟨hkept, hfirst⟩ := Swarm.joined_first (c := c) (tag := tag) (p := p) (ws := ws) hnone s.time
        obtain ⟨t, hexec, hch, hev, hsegs, hout, hlost⟩ := swarmSegmentReceived_joins (ws := ws) hp hone hl
          (by rw [hfirst]; exact hlen)
        rw [hkept, hfirst] at hsegs
        exact ⟨t, hexec, hch, hev, hsegs, hout, hlost⟩
      · obtain ⟨hsegs, hlost, -, hch, hev⟩ := s.segmentIn_spec p c src ws.length
        exact ⟨_, exec_swarmSegmentReceived_lost hp hone hl, hsegs, hlost, hch, hev⟩
    · intro h hh hsrc hcls htag hlen hl
      have hof : h.isOf c src tag = true := by simp [SwSeg.isOf, hsrc, hcls, htag]
      have hone : ∀ x ∈ s.sw.segs, x.src = src → x.cls = c → x.tag = tag := fun x hx _ _ => by
        rw [hh, List.mem_singleton] at hx
        rw [hx, htag]
      obtain ⟨hkept, hnext⟩ := Swarm.joined_next (p := p) (ws := ws) hh hof s.time
      obtain ⟨t, hexec, hch, hev, hsegs, -⟩ := swarmSegmentReceived_joins (ws := ws) hp hone hl
        (by rw [hnext]; exact hlen)
      rw [hkept, hnext] at hsegs
      exact ⟨t, hexec, hch, hev, hsegs⟩
    · intro h hh hport hsrc hcls htag hd
      exact swarmSegmentTimeout_drops hp hh hport (by simp [SwSeg.isOf, hsrc, hcls, htag]) hd
  case peer =>
    intro s src tag r hc hl
    exact ⟨fun h9 hh hf hs hn => foreignReceived_stores hc hl h9 hh hf hs hn,
      fun h9 => foreignReceived_refuses hc hl h9⟩
  case up =>
    intro s p hon hp
    refine ⟨fun c n hw hl => ⟨_, exec_creditSetReceived hon hp hw hl n, ?_, rfl⟩,
      pdReqSend_sends hon hp, fun ta rt => exec_pdRspReceived hon hp ta rt, fun hd => exec_syncSend hon hp hd,
      fun hn hup hu sent sub d hd => ?_⟩
    · rw [State.swPort_modPort_same, SwPort.creditOf_withCredit]
    · have hexec := exec_syncReceived hn hon hup hp hd
      refine ⟨fun hnear hgood hno => ?_, fun hlo hhi => ?_, fun hfar hs => ?_⟩
      · rw [if_neg (by omega), if_pos hnear, hgood, hno] at hexec
        obtain ⟨hsw, hpend⟩ := (s.measured d 3).gainSync_spec
        exact ⟨_, hexec, congrArg Swarm.synced hsw, congrArg Swarm.offset hsw, hpend hu⟩
      · rw [if_neg (by omega), if_neg (by omega)] at hexec
        exact ⟨_, hexec, rfl, rfl, rfl, rfl⟩
      · rw [if_pos hfar] at hexec
        obtain ⟨hsw, hpend⟩ := State.loseSync_spec (s := s.measured d 0) hs
        exact ⟨_, hexec, congrArg Swarm.synced hsw, congrArg Swarm.losses hsw, hpend hu⟩
  case silence =>
    intro s silent hn hon hu hs ht ho
    obtain ⟨hsw, hpend⟩ := State.loseSync_spec (s := { s with sw := { s.sw with goodSyncs := 0 } }) hs
    exact ⟨_, exec_syncLost hn hon ht ho, congrArg Swarm.synced hsw, congrArg Swarm.goodSyncs hsw,
      congrArg Swarm.losses hsw, hpend hu⟩
  case starvation =>
    intro s p c o f hon hu hp hw hc
    exact ⟨_, exec_creditStarvation hon hp hw hc, raise_pending s 101 _ _ _ _ _ hu (by decide), raise_logs ..⟩
end
